-- ==== Sys2Proof/Word.lean ====
section
/-! DEFINITION. The word types of the DX24: 64-bit register words (R14), bytes, 52-bit global
addresses and 64-byte lines, with the plainest arithmetic on them. -/

namespace Sys2Proof

/-- A register slot of R14, and a Mason register of R240. -/
abbrev Word := BitVec 64

/-- One byte. -/
abbrev Byte := BitVec 8

/-- A global address of 52 bits (R98). -/
abbrev GAddr := BitVec 52

/-- The 512 bits of one line of 64 bytes; bits 7:0 are byte 0. -/
abbrev Line := BitVec 512

/-- One flag as a number. -/
def b2n (b : Bool) : Nat := if b then 1 else 0

/-- Bit `i` of a number. -/
def nbit (n i : Nat) : Bool := n.testBit i

/-- The field of `w` bits of `n` that starts at bit `lo`. -/
def nfield (n lo w : Nat) : Nat := (n >>> lo) % 2 ^ w

/-- The quotient rounded up; 0 divided by anything is 0, and division by 0 answers 0. -/
def cdiv (a b : Nat) : Nat := if b = 0 then 0 else (a + b - 1) / b

end Sys2Proof
end

