-- ==== Sys2Proof/Syntax.lean ====
section
/-! DEFINITION. The commands of the DX24: one constructor of `Instr` for each step of the table of
operations and events (opcode_table.json), with the operands that come from outside the block or
name the unit that acts. -/

namespace Sys2Proof

/-- The port opcodes of R53. -/
inductive Op where
  | rdLine | rdPart | wrLine | wrPart | wrZero
  | atAdd | atOr | atAnd | atXor | atSwap | atCas | atMin | atMax | atUmin | atUmax | setad | flush
  deriving DecidableEq, Repr

/-- A word of Plumb or the Datestone whose SECDED found an error, `lost` where it is uncorrectable (R381): word `word` of an
item of a region of R377, or, region 4, the counter `item`. -/
structure PlbUpset where
  region : Nat
  item : Nat
  word : Nat
  lost : Bool
  deriving DecidableEq, Repr

/-- An item of the self-test sweep on source `src` (R353), in the table's order: 0 its error line or pair, 1 the shadow
checker, 2 Ashlar's decoders, generators and position check, 3 SECDED and parity checkers, 4 the write-conservation
counts, 5 a Bond CRC checker, 6 a timer. -/
structure SweepItem where
  item : Nat
  src : Nat
  deriving DecidableEq, Repr

/-- One valid slot of a request transfer (R50, R51). `two` says that both slots of the transfer are
valid; `par` is the parity bit; `same` says that the handshake lies in the HCLKn cycle of the port's
command before it (R70, R76). -/
structure PReq where
  port : Nat
  slot : Nat
  two : Bool
  size : Nat
  addr : Nat
  tag : Nat
  sid : Nat
  qid : Nat
  priv : Nat
  ns : Bool
  attr : Nat
  col : Nat
  par : Bool
  same : Bool
  deriving DecidableEq, Repr

/-- One valid slot of a write-data transfer (R51), `two`, `par` and `same` as in a request slot. `upset`: 0
none, 1 corrected, 2 uncorrectable error in write-data storage (R93). -/
structure WSlot where
  port : Nat
  slot : Nat
  two : Bool
  tag : Nat
  data : BitVec 512
  mask : BitVec 64
  poison : Bool
  par : BitVec 17
  same : Bool
  upset : Nat
  deriving DecidableEq, Repr

/-- A request of another requester that reaches the Keystone in the MCLK cycle of a command's own (R308): its index of
R307, and, for the lock table, owner (a Mason number, or port x 4096 + SID), base address and line count; `chan` names
the channel whose maintenance path it asks for instead. -/
structure KeyAsk where
  idx : Nat
  owner : Nat
  base : Nat
  count : Nat
  chan : Option Nat
  deriving DecidableEq, Repr

/-- A DRAM command at CCLK instant `cyc`: channel, subchannel, logical rank (physical rank for SRE,
SRX, PDE and PDX), bank group, bank, row, and the request served (`rid`, or `none` for Pointing, the
maintenance path and the scrubber). `fine` marks a fine-granularity REFab; `rivals` are the requests for the
maintenance path in the cycle of the command's own. -/
structure Cmd where
  chan : Nat
  cyc : Nat
  sub : Nat
  rank : Nat
  bg : Nat
  ba : Nat
  row : Nat
  col : Nat
  rid : Option Nat
  fine : Bool
  rivals : List KeyAsk := []
  deriving DecidableEq, Repr

/-- A register write of R14: the value on the bus and the halves that the access covers. -/
structure RegW where
  val : BitVec 64
  lo : Bool
  hi : Bool
  deriving DecidableEq, Repr

/-- What the macro samples at the release of cold reset (R47), with the random source's nonce (R322),
the first capacity measurement of R96, VDD_CORE in mV and its sensed value. -/
structure Straps where
  node : Nat
  debugSeal : Bool
  programSeal : Bool
  keyDigest : Nat
  nonce : Nat
  derate : Bool
  vdd : Nat
  vcoreMv : Nat
  deriving DecidableEq, Repr

/-- What a sweep finds of a trained quantity (R201 to R203): its passing region `[lo, hi]`, absent where `hi < lo`. The
quantities are: 0 host driver code, 1 host termination code, 2 CS delay, 3 CA delay, 4 VrefCA, 5 write DQS delay, 6
read DQS gate, 7 read DQ delay, 8 write DQ delay, 9 VrefDQ of a device, 10 host-receiver Vref, 11 to 14 DFE taps
(31 = 0 mV), 15 an oscillator count, 16 the ZQ latch. A rank is the logical rank of the step, in steps 0 and 1 the
physical rank; a lane is a line, a DQ lane, or the strobe of a group. `none` stands for every subchannel, rank or lane
that no earlier entry names. -/
structure Region where
  q : Nat
  sub : Option Nat
  rank : Option Nat
  lane : Option Nat
  lo : Nat
  hi : Nat
  deriving DecidableEq, Repr

/-- What the training hardware of a channel finds at the end of a step or at a seam point: the sweeps, rows 14 and 15
of the timing table, density, width, stack height and mode that the rank reports (R201), the chip selects of each DIMM in
the channel (R23), what the DIMM offers (R163, R165), the thermal sensor, and an error met where the record of the stored
values is read (R221, R236): 1 corrected, 2 uncorrectable. -/
structure StepEnd where
  regions : List Region
  row14 : Nat
  row15 : Nat
  dens : Nat
  width : Nat
  height : Nat
  mrdimm : Bool
  dimms : List (List Nat)
  prac : Bool
  rfm : Bool
  sameBank : Bool
  imt : Nat
  mmt : Nat
  aboRfm : Nat
  temp : Nat
  stored : Nat
  deriving DecidableEq, Repr

/-- A Yotric message of R320, header fields and data flits; `lane` is `bndx_tx_lane` or `bndx_rx_lane` (R317). `upset` is
an error of the storage that receives it (R93): 1 corrected and 2 uncorrectable in its lane, 3 and 4 so in the inbound
write stage. -/
structure Msg where
  opc : Nat
  nh : Nat
  bc : Bool
  poison : Bool
  src : Nat
  dst : Nat
  hops : Nat
  noret : Bool
  tag : Nat
  status : Nat
  size : Nat
  priv : Nat
  ns : Bool
  walk : Bool
  col : Nat
  qid : Nat
  mkind : Nat
  mid : Nat
  addr : Nat
  value : BitVec 64
  lh : Nat
  pseq : Nat
  data : BitVec 512
  crc : Nat
  lane : Nat
  upset : Nat
  deriving DecidableEq, Repr

/-- An access of the debug port to a Mason (R262): registers 0 to 31 are s0 to s31, 32 + n is system register n,
45 the PC, 46 the mode in bit 0 (1 = handler) and NESTED in bit 1, 47 to 52 the window's `MAS_CTRL`, `MAS_CMD`,
`MAS_STATUS`, `MAS_TASK`, `MAS_ERR` and `TPL_CFG` (R413). -/
inductive DbgAccess where
  | readReg (r : Nat)
  | writeReg (r : Nat) (v : BitVec 64)
  | readLine (l : Nat)
  | writeLine (l : Nat) (v : BitVec 512) (poison : Bool)
  | readTpl (e : Nat)
  | writeTpl (e : Nat) (w0 w1 w2 : BitVec 64)
  | readStore (i : Nat)
  | readScratch (a : Nat)
  deriving DecidableEq, Repr

/-- An inbound TLP that R389 may refuse: 0 memory read, 1 memory write, 2 I/O request, 3 message,
4 AtomicOp, 5 message that an endpoint must accept; BAR0 offset, or outside BAR0; length in bytes; a malformed TLP
(R387). -/
structure InTlp where
  kind : Nat
  inBar : Bool
  off : Nat
  len : Nat
  malformed : Bool := false
  deriving DecidableEq, Repr

/-- The commands of the block, one per step of the table. A default operand is what a shorter spelling leaves out. -/
inductive Instr where
  /-- COLD_RESET_ASSERT, R44: blk_cold_rst_n goes low: the macro enters cold reset, drives
  CHcc_RESET_N low and discards all state. -/
  | coldResetAssert
  /-- COLD_RESET_RELEASE, R405: Release of cold reset: straps and fuses are sampled, uptime restarts
  at 0, and the hardware cold-start steps 1 to 4 run. -/
  | coldResetRelease (straps : Straps) (corr : Bool := false) (lost : List Nat := [])
  /-- WARM_RESET_REQUEST, R45: A falling edge of blk_warm_rst_n is latched, the Header ports stop
  accepting requests, and the tracker starts to drain. -/
  | warmResetRequest
  /-- WARM_RESET_DRAIN_DONE, R45: The tracker has drained: requests not issued are answered FENCED,
  and self-refresh entry starts on every trained channel. -/
  | warmResetDrainDone
  /-- WARM_RESET_APPLIED, R45: Every trained channel is in self-refresh; the internal warm reset is
  applied and blk_warm_safe rises. -/
  | warmResetApplied (nonce : Nat) (low : Bool := false) (vdd : Nat := 750) (mv : Nat := 750)
  /-- WARM_RESET_RELEASE, R409: blk_warm_rst_n is high with blk_warm_safe high: channels exit self-
  refresh, Masons and Bond discovery restart, and STEP returns to 0111. -/
  | warmResetRelease
  /-- RCLK_LOSS, R33: RCLK shows no edge for 200 ns: the fatal output is asserted, BLK_UPTIME stops,
  and every channel PLL loses lock. -/
  | rclkLoss
  /-- CLOCK_FAULT, R32: A 1 µs measurement window finds a monitored clock missing or out of range;
  the port is fenced, or MCLK makes the block fatal. -/
  | clockFault (domain : Nat) (stopped : Bool := true)
  /-- PLL_LOSS_OF_LOCK, R34: A channel PLL loses lock: the channel fences at once and unperformed
  requests are answered FENCED. -/
  | pllLossOfLock (chan : Nat)
  /-- ALERT_N_PULSE, R149: A low pulse on CHcc_ALERT_N ends and is classed by its width as a glitch,
  a PRAC back-off or a CA parity error. -/
  | alertNPulse (chan cyc width rank : Nat)
  /-- REPLAY, R150: tPAR_ALERT after the last command, the RCD error is cleared, every rank is
  precharged and the buffered commands are reissued in order. -/
  | replay (chan cyc : Nat)
  /-- RD_LINE, R53: A port request reads a 64-byte line and completes on the read-data channel. -/
  | rdLine (p : PReq)
  /-- RD_PART, R53: A port request reads SIZE naturally aligned bytes, or pops a hod or runs a lock
  mailbox in a CONTROL region. -/
  | rdPart (p : PReq)
  /-- WR_LINE, R53: A port request writes a whole 64-byte line from its write-data slot. -/
  | wrLine (p : PReq)
  /-- WR_PART, R53: A port request writes the masked bytes of a line, or pushes a hod or fills a
  lock mailbox in a CONTROL region. -/
  | wrPart (p : PReq)
  /-- WR_ZERO, R53: A port request writes zeros to a 64-byte line. -/
  | wrZero (p : PReq)
  /-- AT_ADD, R55: A port atomic adds operand A to the old value modulo 2^size. -/
  | atAdd (p : PReq)
  /-- AT_OR, R55: A port atomic ORs operand A into the old value. -/
  | atOr (p : PReq)
  /-- AT_AND, R55: A port atomic ANDs operand A into the old value. -/
  | atAnd (p : PReq)
  /-- AT_XOR, R55: A port atomic XORs operand A into the old value. -/
  | atXor (p : PReq)
  /-- AT_SWAP, R55: A port atomic replaces the old value with operand A. -/
  | atSwap (p : PReq)
  /-- AT_CAS, R55: A port atomic writes B if the old value equals A. -/
  | atCas (p : PReq)
  /-- AT_MIN, R55: A port atomic stores the signed minimum of the old value and A. -/
  | atMin (p : PReq)
  /-- AT_MAX, R55: A port atomic stores the signed maximum of the old value and A. -/
  | atMax (p : PReq)
  /-- AT_UMIN, R55: A port atomic stores the unsigned minimum of the old value and A. -/
  | atUmin (p : PReq)
  /-- AT_UMAX, R55: A port atomic stores the unsigned maximum of the old value and A. -/
  | atUmax (p : PReq)
  /-- SETAD, R53: A walk-class port atomic ORs A into the old value and returns the old value. -/
  | setad (p : PReq)
  /-- FLUSH, R87: A port ordering barrier takes a tracker entry and counts the earlier in-scope
  requests whose status is not yet fixed. -/
  | flush (p : PReq)
  /-- RESERVED_OPCODE, R53: A port request with a reserved opcode is answered DECODE_ERR on the
  response channel. -/
  | reservedOpcode (p : PReq) (code : Nat)
  /-- WRITE_DATA_SLOT, R63: A write-data slot is accepted and checked against the oldest request
  awaiting data, joining it or fencing the port. -/
  | writeDataSlot (w : WSlot)
  /-- WD_TIMEOUT, R63: The data of a data-bearing request has not arrived within WD_LIMIT: the
  request is answered FENCED and the port fences. -/
  | wdTimeout (port : Nat)
  /-- COMPLETION_ACCEPTED, R61: The fabric accepts a completion slot: the request credit returns and
  the tracker entry becomes FREE. -/
  | completionAccepted (port rid upset : Nat) (same : Bool := false)
  /-- CPL_STALL, R71: A completion has waited STALL_LIMIT without acceptance and CPL_STALL is
  reported. -/
  | cplStall (port rid : Nat)
  /-- PORT_OPEN, R64: HDR_CTRL.OPEN written 1 while CLOSED opens the port with credits from
  HDR_CREDIT_CFG. -/
  | portOpen (port : Nat)
  /-- PORT_DRAIN, R64: HDR_CTRL.OPEN written 0 while OPEN moves the port to DRAIN, which closes at
  an outstanding count of 0. -/
  | portDrain (port : Nat)
  /-- PORT_FENCE, R65: HDR_CTRL.FENCE written 1 moves the port to FENCED and answers its unissued
  requests FENCED. -/
  | portFence (port : Nat)
  /-- PORT_UNFENCE, R64: HDR_CTRL.UNFENCE written 1 while FENCED with nothing outstanding moves the
  port to CLOSED. -/
  | portUnfence (port : Nat)
  /-- MORTAR_ADMIT, R84: The request at the head of a port is accepted into the Mortar once an
  entry, chain head, FLUSH count or Bond tag is available. -/
  | mortarAdmit (port upset : Nat) (rivals : List KeyAsk := [])
  /-- SETTER_ENQUEUE, R113: A tracker entry becomes QUEUED for local DRAM: the gauge meter colours
  it and it joins one of the seventeen queues. -/
  | setterEnqueue (rid upset : Nat)
  /-- FLUSH_COMPLETE, R87: A FLUSH count reaches zero: the FLUSH completes OK and the later requests
  in its scope are released. -/
  | flushComplete (rid : Nat)
  /-- HANDSHAKE_STALL, R93: A Mortar handshake has not completed within 10 µs: the transaction is
  lost and a FATAL report is raised. -/
  | handshakeStall (rid : Nat)
  /-- DERATE_SET, R91: The replica path measures Mortar capacity below 3,379.2 GB/s and sets DERATE
  and DERATE_SEEN. -/
  | derateSet (vdd : Nat := 700) (mv : Nat := 700)
  /-- DERATE_CLEAR, R91: Capacity has stayed above 3,450 GB/s for 10 µs and DERATE clears. -/
  | derateClear (mv : Nat := 700)
  /-- PEAK_CLR, R96: MOR_CTRL.PEAK_CLR written 1 clears the peak occupancy of every partition. -/
  | peakClr
  /-- MAP_RGN_CTL_WRITE, R103: A write of a region-table entry is checked: an enabling write passes
  R102 or is refused, and a live-field change is ignored. -/
  | mapRgnCtlWrite (entry : Nat) (w : RegW)
  /-- MAP_GEOM_WRITE, R110: A write of a channel geometry is checked and refused if a region names
  the channel or the geometry is bad. -/
  | mapGeomWrite (chan : Nat) (w : RegW)
  /-- REFILL_TICK, R116: Every 100 ns of uptime, every gauge meter adds CIR and PIR to its buckets,
  capped at CBS and PBS. -/
  | refillTick
  /-- GAU_REFILL, R120: GAU_CMD.REFILL fills both buckets of the selected meter. -/
  | gauRefill (chan : Nat)
  /-- GAU_REFILL_ALL, R120: GAU_CMD.REFILL_ALL fills both buckets of every meter of the channel. -/
  | gauRefillAll (chan : Nat)
  /-- GAU_RATE_WRITE, R121: A write of the selected meter's rates and mode takes effect from the
  next tick, with clamps recorded in GAU_ERR. -/
  | gauRateWrite (chan : Nat) (w : RegW)
  /-- GAU_BURST_WRITE, R121: A write of the selected meter's burst sizes cuts balances and debts to
  the new sizes at once. -/
  | gauBurstWrite (chan : Nat) (w : RegW)
  /-- QUEUE_SAMPLE, R132: At each multiple of 256 ns the Setter samples each queue's depth and
  oldest age for the Datestone. -/
  | queueSample
  /-- PHASE_CHANGE, R141: A subchannel switches between read and write phase when a threshold, age
  or emptiness condition holds. -/
  | phaseChange (chan sub : Nat)
  /-- ACT, R138: The issuer activates a row for a chosen request, updating the predictor and row-
  protection counts. -/
  | act (c : Cmd)
  /-- RD, R138: The issuer issues a read column command with a reserved read-return line, leaving
  the row open. -/
  | rd (c : Cmd)
  /-- RDA, R145: The issuer issues a read with auto-precharge. -/
  | rda (c : Cmd)
  /-- WR, R138: The issuer issues a write column command, after the position check, leaving the row
  open. -/
  | wr (c : Cmd)
  /-- WRA, R145: The issuer issues a write with auto-precharge. -/
  | wra (c : Cmd)
  /-- PRE, R138: The issuer or Pointing precharges one bank. -/
  | pre (c : Cmd)
  /-- PRESB, R160: Pointing precharges the same bank in all bank groups before a same-bank refresh. -/
  | presb (c : Cmd)
  /-- PREAB, R160: Pointing precharges all banks of a logical rank. -/
  | preab (c : Cmd)
  /-- REFAB, R160: Pointing issues an all-bank refresh and decrements the unit's owed count. -/
  | refab (c : Cmd)
  /-- REFSB, R162: Pointing issues a same-bank refresh to the next bank index in turn. -/
  | refsb (c : Cmd)
  /-- RFMAB, R168: Pointing issues an all-bank refresh-management command, for a PRAC back-off. -/
  | rfmab (c : Cmd)
  /-- RFMSB, R166: Pointing issues a same-bank RFM when a bank's RAA or tracker count reaches its
  threshold. -/
  | rfmsb (c : Cmd)
  /-- MRR, R170: A mode-register read is issued on the maintenance path. -/
  | mrr (c : Cmd) (addr data : Nat)
  /-- MRW, R170: A mode-register write is issued on the maintenance path. -/
  | mrw (c : Cmd) (addr data : Nat)
  /-- MPC, R170: A multi-purpose command, such as ZQCal Start or Latch, is issued. -/
  | mpc (c : Cmd) (addr data : Nat)
  /-- SRE, R173: Self-refresh entry is issued to every physical rank of both subchannels and ALERT_n
  sampling stops. -/
  | sre (c : Cmd)
  /-- SRX, R174: Self-refresh exit is issued to every physical rank after CK restarts. -/
  | srx (c : Cmd)
  /-- PDE, R172: A physical rank idle for PD_IDLE with all banks closed enters precharge power-down. -/
  | pde (c : Cmd)
  /-- PDX, R172: A rank in power-down exits when a request for it is queued or a refresh becomes
  urgent. -/
  | pdx (c : Cmd)
  /-- IDLE_CLOSE_EXPIRY, R147: An open bank with no queued request for IDLE_CLOSE × 16 cycles is
  precharged. -/
  | idleCloseExpiry (c : Cmd)
  /-- TABLE_COMPARE, R153: The checker compares CRCs of the two in-force tables, and the bank models
  at all-bank refresh, fencing on a mismatch. -/
  | tableCompare (chan upset : Nat)
  /-- TIM_APPLY, R139: TIM_CTRL.APPLY checks the pending timing copy and, if it passes, requests a
  seam point to apply it. -/
  | timApply (chan : Nat)
  /-- REFRESH_TICK, R160: A refresh unit's interval tick raises its owed count, failing the channel
  if the credit is exceeded. -/
  | refreshTick (chan unit cyc : Nat)
  /-- MR4_POLL, R163: Every MR4_PERIOD Pointing reads MR4 of every rank and moves the channel to or
  from the doubled refresh rate. `hot`: 0 the ordinary range, 1 the doubled rate is needed, 2 beyond its
  range. -/
  | mr4Poll (chan hot : Nat) (rivals : List KeyAsk := [])
  /-- ZQ_PERIOD_EXPIRY, R170: Every ZQ_PERIOD Pointing starts ZQ calibration of each physical rank. -/
  | zqPeriodExpiry (c : Cmd)
  /-- ZQCAL_LATCH_DUE, R170: tZQCAL after ZQCal Start, Pointing issues ZQCal Latch. -/
  | zqcalLatchDue (c : Cmd)
  /-- REFRESH_MODE_WRITE, R164: PNT_CTRL.MODE written: units are refreshed until owed is at most 0
  and the DRAM refresh mode is rewritten. -/
  | refreshModeWrite (chan mode : Nat)
  /-- REFRESH_MODE_SWITCH, R164: With owed settled and the MRW done, the new refresh intervals start
  at rank 0's next tick. -/
  | refreshModeSwitch (chan : Nat)
  /-- TRACKER_HALVING, R167: Every 8,192 × tREFI every row-tracker count is halved. -/
  | trackerHalving (chan : Nat)
  /-- COLD_START_END, R169: The cold-start period ends and full protection thresholds apply. -/
  | coldStartEnd (chan : Nat)
  /-- SR_REQUEST, R173: PNT_CTRL.SR_REQ written 1 starts self-refresh entry of the channel. -/
  | srRequest (chan : Nat)
  /-- SR_IDLE_EXPIRY, R173: The channel has had no queued request for SR_IDLE µs and starts self-
  refresh entry. -/
  | srIdleExpiry (chan : Nat)
  /-- SR_EXIT_REQUEST, R174: SR_REQ written 0, or a request queued after an idle entry, starts self-
  refresh exit. -/
  | srExitRequest (chan : Nat)
  /-- SR_EXIT_DONE, R174: tXS after SRX, owed is set to 1, ticks restart, the MR4 poll (`hot` as for MR4_POLL) runs and the
  channel is handed to Screed. -/
  | srExitDone (chan hot : Nat) (rivals : List KeyAsk := [])
  /-- BURST_DECODE, R183: Ashlar decodes a returned burst and gives one verdict: clean, corrected,
  poisoned, address mismatch or uncorrectable. -/
  | burstDecode (chan : Nat) (errs : List (Nat × Nat)) (upset : Nat)
  /-- SPARING_DONE, R193: The last line of the failing rank is copied; the rank is retired and its
  marks cleared. -/
  | sparingDone (chan : Nat)
  /-- PATROL_LINE_DUE, R189: One pace interval after the last, the next patrol line becomes due for
  the issuer. -/
  | patrolLineDue (chan : Nat)
  /-- PATROL_LATE, R189: A patrol pass runs more than 1 % beyond PERIOD and PATROL_LATE is set. -/
  | patrolLate (chan : Nat)
  /-- COUNTER_LEAK, R191: Every LEAK seconds each non-zero device counter loses 1. -/
  | counterLeak (chan sub : Nat)
  /-- ASH_INIT_START, R190: ASH_INIT.START begins writing clean zero lines over the mapped range of
  the channel. -/
  | ashInitStart (chan : Nat)
  /-- ASH_INIT_DONE, R190: The initialisation cursor reaches the end of its range and DONE is set. -/
  | ashInitDone (chan : Nat)
  /-- ASH_MARK_WRITE, R191: A host write of ASH_MARK marks or unmarks devices rank by rank, refusing
  invalid fields. -/
  | ashMarkWrite (chan sub : Nat) (w : RegW)
  /-- ASH_THRESH_WRITE, R191: A write of MARK re-judges every counter and may mark a device at once. -/
  | ashThreshWrite (chan sub : Nat) (w : RegW)
  /-- TRAIN, R201: SCR_CMD.TRAIN starts a full training of a channel that is UNTRAINED or FAILED, or
  is refused. -/
  | train (chan : Nat) (rivals : List KeyAsk := [])
  /-- RETRAIN, R211: SCR_CMD.RETRAIN asks for a retraining at the next tick. -/
  | retrain (chan : Nat)
  /-- STORE, R213: SCR_CMD.STORE hands the present trained values to Plinth. -/
  | store (chan : Nat)
  /-- TRAIN_GO, R406: BLK_BOOT.TRAIN_GO starts fast resume or full training on every geometry-valid
  UNTRAINED channel. -/
  | trainGo (rivals : List KeyAsk := []) (stored : List (Nat × Nat) := [])
  /-- TRAINING_STEP_END, R201: A training step meets or fails its pass criterion; the run proceeds,
  retries with advanced seeds, or fails the channel. -/
  | trainingStepEnd (chan : Nat) (e : StepEnd) (sub : Nat := 0) (rivals : List KeyAsk := [])
  /-- STEP_TIMEOUT, R204: A training step or attempt exceeds STEP_MS or CHAN_MS and ends as TIMEOUT. -/
  | stepTimeout (chan : Nat) (e : StepEnd) (sub : Nat := 0)
  /-- RETRAIN_TICK, R211: At each PERIOD Screed compares temperature with the baseline and retrains
  the subchannels if a gate holds. -/
  | retrainTick (chan temp : Nat) (rivals : List KeyAsk := [])
  /-- SEAM_POINT, R209: A subchannel is paused, drained and precharged, measured if needed, and new
  values move from shadow to active on one edge. -/
  | seamPoint (chan : Nat) (e : StepEnd) (rivals : List KeyAsk := [])
  /-- PLINTH_STORE, R227: Plinth starts storing a record into the slot not in force, header first
  and commit last. -/
  | plinthStore
  /-- PLINTH_ROW_WRITE_DONE, R228: A row write is read back and compared, then retried, followed by
  the next row, or the store is abandoned. -/
  | plinthRowWriteDone (good : Bool) (corr : Bool := false)
  /-- RAW_READ, R234: PLN_CMD RAW_READ copies a PLATFORM row into the buffer. -/
  | rawRead (w : RegW) (upset : Nat)
  /-- RAW_WRITE, R234: PLN_CMD RAW_WRITE writes the buffer to a PLATFORM row with verification. -/
  | rawWrite (w : RegW)
  /-- READ_REC, R234: PLN_CMD READ_REC copies the body of the SEAL, CYCLE or FATAL record in force
  into the buffer. -/
  | readRec (w : RegW) (upset : Nat)
  /-- ADD, R272: ALU rd ← rs1 + rs2. -/
  | add (m upset rd rs1 rs2 : Nat)
  /-- SUB, R272: ALU rd ← rs1 − rs2. -/
  | sub (m upset rd rs1 rs2 : Nat)
  /-- AND, R272: ALU bitwise AND. -/
  | and (m upset rd rs1 rs2 : Nat)
  /-- OR, R272: ALU bitwise OR. -/
  | or (m upset rd rs1 rs2 : Nat)
  /-- XOR, R272: ALU bitwise XOR. -/
  | xor (m upset rd rs1 rs2 : Nat)
  /-- SLL, R272: ALU logical shift left by rs2[5:0]. -/
  | sll (m upset rd rs1 rs2 : Nat)
  /-- SRL, R272: ALU logical shift right by rs2[5:0]. -/
  | srl (m upset rd rs1 rs2 : Nat)
  /-- SRA, R272: ALU arithmetic shift right by rs2[5:0]. -/
  | sra (m upset rd rs1 rs2 : Nat)
  /-- SLT, R272: ALU signed set-less-than. -/
  | slt (m upset rd rs1 rs2 : Nat)
  /-- SLTU, R272: ALU unsigned set-less-than. -/
  | sltu (m upset rd rs1 rs2 : Nat)
  /-- MIN, R272: ALU signed minimum. -/
  | min (m upset rd rs1 rs2 : Nat)
  /-- MAX, R272: ALU signed maximum. -/
  | max (m upset rd rs1 rs2 : Nat)
  /-- MINU, R272: ALU unsigned minimum. -/
  | minu (m upset rd rs1 rs2 : Nat)
  /-- MAXU, R272: ALU unsigned maximum. -/
  | maxu (m upset rd rs1 rs2 : Nat)
  /-- MUL, R272: ALU low 64 bits of the product. -/
  | mul (m upset rd rs1 rs2 : Nat)
  /-- MULHU, R272: ALU high 64 bits of the unsigned product. -/
  | mulhu (m upset rd rs1 rs2 : Nat)
  /-- CLZ, R272: ALU count of leading zeros of rs1. -/
  | clz (m upset rd rs1 : Nat)
  /-- POPC, R272: ALU count of set bits of rs1. -/
  | popc (m upset rd rs1 : Nat)
  /-- BSWAP, R272: ALU byte reversal of rs1. -/
  | bswap (m upset rd rs1 : Nat)
  /-- ADDI, R271: rd ← rs1 + sign-extended immediate. -/
  | addi (m upset rd rs1 imm : Nat)
  /-- ANDI, R271: rd ← rs1 AND zero-extended immediate. -/
  | andi (m upset rd rs1 imm : Nat)
  /-- ORI, R271: rd ← rs1 OR zero-extended immediate. -/
  | ori (m upset rd rs1 imm : Nat)
  /-- XORI, R271: rd ← rs1 XOR zero-extended immediate. -/
  | xori (m upset rd rs1 imm : Nat)
  /-- SLTI, R271: rd ← 1 if rs1 is below the immediate, signed. -/
  | slti (m upset rd rs1 imm : Nat)
  /-- SLTIU, R271: rd ← 1 if rs1 is below the immediate, unsigned. -/
  | sltiu (m upset rd rs1 imm : Nat)
  /-- SLLI, R271: rd ← rs1 shifted left by the immediate. -/
  | slli (m upset rd rs1 imm : Nat)
  /-- SRLI, R271: rd ← rs1 shifted right logically by the immediate. -/
  | srli (m upset rd rs1 imm : Nat)
  /-- SRAI, R271: rd ← rs1 shifted right arithmetically by the immediate. -/
  | srai (m upset rd rs1 imm : Nat)
  /-- SHI16, R271: rd ← (rs1 << 16) OR the immediate. -/
  | shi16 (m upset rd rs1 imm : Nat)
  /-- BEQ, R271: Branch if equal. -/
  | beq (m upset rs1 rs2 off : Nat)
  /-- BNE, R271: Branch if not equal. -/
  | bne (m upset rs1 rs2 off : Nat)
  /-- BLT, R271: Branch if less than, signed. -/
  | blt (m upset rs1 rs2 off : Nat)
  /-- BGE, R271: Branch if greater than or equal, signed. -/
  | bge (m upset rs1 rs2 off : Nat)
  /-- BLTU, R271: Branch if less than, unsigned. -/
  | bltu (m upset rs1 rs2 off : Nat)
  /-- BGEU, R271: Branch if greater than or equal, unsigned. -/
  | bgeu (m upset rs1 rs2 off : Nat)
  /-- JAL, R271: Jump relative and link. -/
  | jal (m upset rd imm : Nat)
  /-- JALR, R271: Jump to a register target and link. -/
  | jalr (m upset rd rs1 imm : Nat)
  /-- LDS8, R276: Load 8 scratch bytes into rd. -/
  | lds8 (m upset rd rs1 imm : Nat)
  /-- LDS4, R276: Load 4 scratch bytes into rd, zero-extended. -/
  | lds4 (m upset rd rs1 imm : Nat)
  /-- LDS2, R276: Load 2 scratch bytes into rd, zero-extended. -/
  | lds2 (m upset rd rs1 imm : Nat)
  /-- LDS1, R276: Load 1 scratch byte into rd, zero-extended. -/
  | lds1 (m upset rd rs1 imm : Nat)
  /-- STS8, R276: Store 8 bytes of rs2 to scratch. -/
  | sts8 (m upset rs2 rs1 imm : Nat)
  /-- STS4, R276: Store 4 bytes of rs2 to scratch. -/
  | sts4 (m upset rs2 rs1 imm : Nat)
  /-- STS2, R276: Store 2 bytes of rs2 to scratch. -/
  | sts2 (m upset rs2 rs1 imm : Nat)
  /-- STS1, R276: Store 1 byte of rs2 to scratch. -/
  | sts1 (m upset rs2 rs1 imm : Nat)
  /-- LLS, R271: Fill a line register from 64 scratch bytes, clearing its poison mark. -/
  | lls (m upset rd rs1 imm : Nat)
  /-- SLS, R275: Store a line register to 64 scratch bytes, trapping on a poison mark. -/
  | sls (m upset rs2 rs1 imm : Nat)
  /-- LGET, R273: rd ← word k of a line register. -/
  | lget (m upset rd rs1 k : Nat)
  /-- LPUT, R273: Word k of a line register ← rs1. -/
  | lput (m upset rd rs1 k : Nat)
  /-- LMOV, R273: Copy a line register with its poison mark and fill address. -/
  | lmov (m upset rd rs1 : Nat)
  /-- LCLR, R273: Zero a line register and clear its poison mark. -/
  | lclr (m upset rd : Nat)
  /-- LCRC, R274: Update a CRC-32C state over the 64 bytes of a line register. -/
  | lcrc (m upset rd rs1 rs2 : Nat)
  /-- LSUM32, R273: Add the sixteen 32-bit words of a line register to rs1. -/
  | lsum32 (m upset rd rs1 rs2 : Nat)
  /-- LPSN, R273: rd ← 1 if a line register carries a poison mark. -/
  | lpsn (m upset rd rs1 : Nat)
  /-- LD, R277: Scalar memory load, issued as RD_PART, waiting or posted. -/
  | ld (m upset rd rs1 rt : Nat) (posted : Bool) (size : Nat) (sign : Bool) (off : Nat)
  /-- ST, R277: Scalar memory store, issued as WR_PART. -/
  | st (m upset rs2 rs1 rt : Nat) (posted : Bool) (size off : Nat)
  /-- LL, R278: Line load into a line register, issued as RD_LINE. -/
  | ll (m upset l rs1 rt : Nat) (posted : Bool) (off : Nat)
  /-- SL, R278: Line store from a line register, issued as WR_LINE. -/
  | sl (m upset l rs1 rt : Nat) (posted : Bool) (off : Nat)
  /-- SLM, R278: Masked line store, issued as WR_PART. -/
  | slm (m upset l rs1 rt : Nat) (posted : Bool) (rm : Nat)
  /-- AMO_ADD, R279: Mason atomic add. -/
  | amoAdd (m upset rd rs1 rs2 rt : Nat) (posted wide : Bool)
  /-- AMO_OR, R279: Mason atomic OR. -/
  | amoOr (m upset rd rs1 rs2 rt : Nat) (posted wide : Bool)
  /-- AMO_AND, R279: Mason atomic AND. -/
  | amoAnd (m upset rd rs1 rs2 rt : Nat) (posted wide : Bool)
  /-- AMO_XOR, R279: Mason atomic XOR. -/
  | amoXor (m upset rd rs1 rs2 rt : Nat) (posted wide : Bool)
  /-- AMO_SWAP, R279: Mason atomic swap. -/
  | amoSwap (m upset rd rs1 rs2 rt : Nat) (posted wide : Bool)
  /-- AMO_CAS, R279: Mason atomic compare-and-swap with B from rd. -/
  | amoCas (m upset rd rs1 rs2 rt : Nat) (posted wide : Bool)
  /-- AMO_MIN, R279: Mason atomic signed minimum. -/
  | amoMin (m upset rd rs1 rs2 rt : Nat) (posted wide : Bool)
  /-- AMO_MAX, R279: Mason atomic signed maximum. -/
  | amoMax (m upset rd rs1 rs2 rt : Nat) (posted wide : Bool)
  /-- AMO_UMIN, R279: Mason atomic unsigned minimum. -/
  | amoUmin (m upset rd rs1 rs2 rt : Nat) (posted wide : Bool)
  /-- AMO_UMAX, R279: Mason atomic unsigned maximum. -/
  | amoUmax (m upset rd rs1 rs2 rt : Nat) (posted wide : Bool)
  /-- AMO_SETAD, R279: Handler-only 64-bit SETAD. -/
  | amoSetad (m upset rd rs1 rs2 rt : Nat) (posted : Bool)
  /-- WLD, R280: Handler walk load of 8 bytes, trapping TABLE_ACCESS on any error status. -/
  | wld (m upset rd rs1 imm : Nat)
  /-- RUN_ZERO, R285: Issue a zero run of 1 to 1,024 lines. -/
  | runZero (m upset rd rs1 rt : Nat) (posted indiv : Bool)
  /-- RUN_FILL, R285: Issue a fill run writing a line register to every line. -/
  | runFill (m upset rd rs1 rs2 rt : Nat) (posted indiv : Bool)
  /-- RUN_COPY, R285: Issue a copy run from a source base to a destination base. -/
  | runCopy (m upset rd rs1 rs2 rt : Nat) (posted indiv : Bool)
  /-- HPUSH_LO, R286: Push bytes 0–31 of a line register into a hod. -/
  | hpushLo (m upset rd rs1 rs2 : Nat)
  /-- HPUSH_HI, R286: Push bytes 32–63 of a line register into a hod. -/
  | hpushHi (m upset rd rs1 rs2 : Nat)
  /-- HPOP_LO, R286: Pop a hod item into bytes 0–31 of a line register. -/
  | hpopLo (m upset rd rs1 rt : Nat)
  /-- HPOP_HI, R286: Pop a hod item into bytes 32–63 of a line register. -/
  | hpopHi (m upset rd rs1 rt : Nat)
  /-- HCOUNT, R286: rd ← the hod's item count. -/
  | hcount (m upset rd rs1 : Nat)
  /-- LOCK, R288: A Mason asks the Keystone for a lock range and receives GRANTED, RETRY, TORN or
  REFUSED. -/
  | lock (m upset rd rs1 rs2 : Nat) (also : List Nat) (rivals : List KeyAsk := [])
  /-- UNLOCK, R287: A Mason releases a lock slot once its earlier requests in the range are
  performed. -/
  | unlock (m upset rd rs1 : Nat)
  /-- FENCE, R283: Wait until every request and run of the Mason is performed, then return the first
  bad posted status. -/
  | fence (m upset rd : Nat)
  /-- ERET, R242: Return from a trap to the handler or the task. -/
  | eret (m upset : Nat)
  /-- TEND, R290: End a task by trapping TASK_END. -/
  | tend (m upset : Nat)
  /-- TRAP, R290: Take a software trap with TVAL from rs1. -/
  | trap (m upset rs1 : Nat)
  /-- WAIT, R290: Start a wait of rs1 × 64 ns of uptime. -/
  | wait (m upset rs1 : Nat)
  /-- WAIT_EXPIRY, R290: A WAIT's time has elapsed and the Mason continues. -/
  | waitExpiry (m : Nat)
  /-- HALT, R290: The Mason enters HALTED. -/
  | halt (m upset : Nat)
  /-- CSRR, R289: Read a system register into rd. -/
  | csrr (m upset rd n : Nat)
  /-- CSRW, R289: Write a system register from rs1. -/
  | csrw (m upset n rs1 : Nat)
  /-- TPL_WRITE, R249: Write a template entry into the lowest invalid slot or the clock-pointer
  victim. -/
  | tplWrite (m upset rs1 : Nat)
  /-- TPL_INV, R253: Invalidate every template entry containing a virtual address. -/
  | tplInv (m upset rs1 : Nat)
  /-- TPL_INVALL, R290: Invalidate every template entry. -/
  | tplInvall (m upset : Nat)
  /-- TPL_SYNC, R253: Wait until all traffic translated through invalidated entries is performed or
  refused. -/
  | tplSync (m upset : Nat)
  /-- ILLEGAL_INSTRUCTION, R270: An instruction word with a reserved opcode or bad field traps
  ILLEGAL. -/
  | illegalInstruction (m upset : Nat)
  /-- MASON_RESULT_ARRIVAL, R240: The result of an outstanding Mason request or run is written into
  its reserved register with its status. -/
  | masonResultArrival (rid : Nat) (upset : Nat := 0)
  /-- MAS_RUN_WRITE, R261: MAS_CTRL.RUN written starts a halted Mason at the reset vector or halts
  it after its current instruction. -/
  | masRunWrite (m : Nat) (run : Bool)
  /-- MAS_GLOBAL_PROFILE_WRITE, R261: MAS_GLOBAL.PROFILE written decides which Masons run or halt. -/
  | masGlobalProfileWrite (profile : Nat)
  /-- MASON_RESET, R264: MAS_CMD.RESET halts a Mason, clears its registers and template, and reloads
  its scratch. -/
  | masonReset (m : Nat)
  /-- IMG_CHECK, R260: MAS_IMG_CMD OP CHECK reads and checks a host image without putting it in
  force. -/
  | imgCheck (kind len : Nat)
  /-- IMG_LOAD, R260: MAS_IMG_CMD OP LOAD checks a host image and puts it in force. -/
  | imgLoad (kind len : Nat)
  /-- IMG_LOAD_STORE, R260: MAS_IMG_CMD OP LOAD_STORE checks, puts in force and stores an image to
  Plinth. -/
  | imgLoadStore (kind len : Nat)
  /-- MASON_STORE_WRITE, R263: A host write to a Mason's instruction store or scratch is taken or
  refused by the Mason's state. -/
  | masonStoreWrite (m off : Nat) (w : RegW)
  /-- DEBUG_HALT, R262: The debug port halts a Mason into DEBUG. -/
  | debugHalt (m : Nat)
  /-- DEBUG_STEP, R262: The debug port steps a Mason by one instruction. -/
  | debugStep (m : Nat)
  /-- DEBUG_RESUME, R262: The debug port leaves DEBUG and the Mason resumes its prior state. -/
  | debugResume (m : Nat)
  /-- DEBUG_ACCESS, R262: The debug port reads or writes a Mason's registers or template, or reads
  its stores. -/
  | debugAccess (m : Nat) (a : DbgAccess)
  /-- HOD_ITEM_PUSH, R305: A 32-byte write to a hod item port through BAR0 pushes an item. -/
  | hodItemPush (hod : Nat) (item : BitVec 256) (upset : Bool)
  /-- HOD_ITEM_POP, R305: A 32-byte read of a hod item port through BAR0 pops an item or returns the
  idle item. -/
  | hodItemPop (hod : Nat) (upset : Bool)
  /-- SPILL_COMPLETE, R301: A hod spill read or write completes, moving items to or from the carve-
  out or marking them LOST. -/
  | spillComplete (rid : Nat)
  /-- HOD_CFG_WRITE, R306: A write of HOD_CFG or HOD_CARVE takes effect only while the hod is empty
  with no spill in flight. -/
  | hodCfgWrite (hod : Nat) (carve : Bool) (w : RegW)
  /-- KEY_HOST_LOCK, R308: KEY_HOST_REQ OP LOCK asks the Keystone for a range on behalf of the
  Quoin. -/
  | keyHostLock (line : Nat) (rivals : List KeyAsk := [])
  /-- KEY_HOST_UNLOCK, R308: KEY_HOST_REQ OP UNLOCK releases a slot held by the Quoin. -/
  | keyHostUnlock (slot : Nat)
  /-- CLEAR_TORN, R310: KEY_CMD.CLEAR_TORN frees a TORN slot. -/
  | clearTorn (slot : Nat)
  /-- LOCK_WATCHDOG, R311: A lock grant older than LOCK_US is released to TORN and reported
  DEFERRED. -/
  | lockWatchdog (slot : Nat)
  /-- MNT_WATCHDOG, R311: A maintenance path held by the Quoin for longer than MNT_US is released
  and LOST is set. -/
  | mntWatchdog (chan : Nat)
  /-- MNT_REQ, R308: KEY_MNT_CTRL.REQ asks for a channel's maintenance path for the Quoin. -/
  | mntReq (chan : Nat) (rivals : List KeyAsk := [])
  /-- MNT_RELEASE, R314: KEY_MNT_CTRL.RELEASE gives up the Quoin's maintenance path. -/
  | mntRelease (chan : Nat)
  /-- KEY_MNT_MRR, R314: KEY_MNT_CMD OP MRR reads a mode register while the Quoin holds the path. -/
  | keyMntMrr (chan cyc rank addr data : Nat)
  /-- KEY_MNT_MRW, R314: KEY_MNT_CMD OP MRW writes a mode register while the Quoin holds the path. -/
  | keyMntMrw (chan cyc rank addr data : Nat)
  /-- KEY_MNT_MPC, R314: KEY_MNT_CMD OP MPC issues a multi-purpose command while the Quoin holds the
  path. -/
  | keyMntMpc (chan cyc rank addr data : Nat)
  /-- LINK_UP, R318: bndx_link_up rises and the peer port returns its 128 receive credits. -/
  | linkUp (port : Nat)
  /-- LINK_DOWN, R336: bndx_link_up falls: queued flits are discarded, the neighbour is DOWN and
  routes are recomputed. -/
  | linkDown (port : Nat)
  /-- TX_CREDIT_RETURN, R318: The link returns one transmit credit of a lane and class. -/
  | txCreditReturn (port lane cls : Nat)
  /-- BOND_RD_LINE, R332: An inbound RD_LINE message for this node is sequence-checked, admitted,
  decoded and performed. -/
  | bondRdLine (port : Nat) (msg : Msg)
  /-- BOND_RD_PART, R332: An inbound RD_PART message is handled at the home node. -/
  | bondRdPart (port : Nat) (msg : Msg)
  /-- BOND_WR_ZERO, R332: An inbound WR_ZERO message is handled at the home node. -/
  | bondWrZero (port : Nat) (msg : Msg)
  /-- BOND_WR_LINE, R332: An inbound WR_LINE message with two data flits is handled at the home
  node. -/
  | bondWrLine (port : Nat) (msg : Msg)
  /-- BOND_WR_PART, R332: An inbound WR_PART message with its mask is handled at the home node. -/
  | bondWrPart (port : Nat) (msg : Msg)
  /-- BOND_AT_ADD, R332: An inbound atomic add message is performed at the home node. -/
  | bondAtAdd (port : Nat) (msg : Msg)
  /-- BOND_AT_OR, R332: An inbound atomic OR message is performed at the home node. -/
  | bondAtOr (port : Nat) (msg : Msg)
  /-- BOND_AT_AND, R332: An inbound atomic AND message is performed at the home node. -/
  | bondAtAnd (port : Nat) (msg : Msg)
  /-- BOND_AT_XOR, R332: An inbound atomic XOR message is performed at the home node. -/
  | bondAtXor (port : Nat) (msg : Msg)
  /-- BOND_AT_SWAP, R332: An inbound atomic swap message is performed at the home node. -/
  | bondAtSwap (port : Nat) (msg : Msg)
  /-- BOND_AT_CAS, R332: An inbound compare-and-swap message is performed at the home node. -/
  | bondAtCas (port : Nat) (msg : Msg)
  /-- BOND_AT_MIN, R332: An inbound signed-minimum message is performed at the home node. -/
  | bondAtMin (port : Nat) (msg : Msg)
  /-- BOND_AT_MAX, R332: An inbound signed-maximum message is performed at the home node. -/
  | bondAtMax (port : Nat) (msg : Msg)
  /-- BOND_AT_UMIN, R332: An inbound unsigned-minimum message is performed at the home node. -/
  | bondAtUmin (port : Nat) (msg : Msg)
  /-- BOND_AT_UMAX, R332: An inbound unsigned-maximum message is performed at the home node. -/
  | bondAtUmax (port : Nat) (msg : Msg)
  /-- BOND_SETAD, R332: An inbound SETAD message is performed at the home node. -/
  | bondSetad (port : Nat) (msg : Msg)
  /-- SYNC, R329: An inbound SYNC message resets the pair's expected sequence and nonce, or is
  discarded. -/
  | sync (port : Nat) (msg : Msg)
  /-- CPL, R333: A completion without data arrives and is delivered, discarded as late or stray, or
  forwarded. -/
  | cpl (port : Nat) (msg : Msg)
  /-- CPL_DATA, R333: A read completion with data arrives, is CRC-checked in its reserved line and
  delivered, or is discarded or forwarded. -/
  | cplData (port : Nat) (msg : Msg)
  /-- HELLO, R323: A HELLO arrives and moves the neighbour's state toward UP, or detects a new nonce
  or duplicate ID. -/
  | hello (port : Nat) (msg : Msg)
  /-- LSA, R326: A link-state advertisement arrives and is stored and flooded, or discarded. -/
  | lsa (port : Nat) (msg : Msg)
  /-- MALFORMED_MESSAGE, R321: A message with a reserved OPC, wrong length, bad DST or failed CRC is
  discarded and counted. -/
  | malformedMessage (port : Nat) (msg : Msg) (flits : Nat)
  /-- HELLO_TIMER, R324: The HELLO interval elapses and the port broadcasts a HELLO. -/
  | helloTimer (port : Nat)
  /-- NEIGHBOUR_TIMEOUT, R323: No HELLO has arrived for 3 × HELLO_US and the neighbour becomes DOWN. -/
  | neighbourTimeout (port node : Nat)
  /-- LSA_ORIGINATE, R325: A change of the UP set, or 500 µs, causes this node to originate an LSA,
  at most one per 50 µs. -/
  | lsaOriginate
  /-- LSA_EXPIRY, R326: An LSA not refreshed for 2 ms is removed. -/
  | lsaExpiry (node : Nat)
  /-- ROUTE_COMPUTE, R327: Routes are recomputed by breadth-first search and the new table replaces
  the old in one instant. -/
  | routeCompute
  /-- REMOTE_REQUEST_SEND, R330: A remote request takes an outbound tag and reservation and its
  header flit is sent with the next pair sequence. -/
  | remoteRequestSend (rid : Nat)
  /-- SYNC_SEND, R329: A resyncing pair with nothing outstanding sends SYNC and is no longer
  resyncing. -/
  | syncSend (node : Nat)
  /-- BOND_TIMEOUT, R333: An outstanding remote request's timer expires: it completes REMOTE_TIMEOUT
  and its tag is quarantined. -/
  | bondTimeout (tag : Nat)
  /-- TAG_QUARANTINE_EXPIRY, R333: 4 × TIMEOUT_US after expiry a quarantined tag is freed. -/
  | tagQuarantineExpiry (tag : Nat)
  /-- REPORT_READ, R347: Buttress reads a source's report, sets its status, captures or merges it,
  raises interrupts and escalates a FATAL. One MCLK sample: every source that signals gives one report. `parity`: a
  parity error in Buttress's own registers (R359). -/
  | reportRead (parity : Bool)
  /-- WIRE_FAULT, R342: A source's error line or pair shows an impossible state for two samples and
  a WIRE_FAULT is recorded. `equal`: the two lines of its pair read equal, rather than a report with none in the queue;
  `ended`: the condition has ended. -/
  | wireFault (src : Nat) (equal : Bool := false) (ended : Bool := false)
  /-- GRACE_EXPIRY, R350: A PENDING source's grace timer expires and its REACT is applied. -/
  | graceExpiry (src : Nat)
  /-- BUT_ACK, R350: BUT_ACK names a source and returns it to IDLE. -/
  | butAck (src : Nat)
  /-- FORCE, R348: BUT_SRC.FORCE creates a forced report of the source when Buttress's expert bit is
  1. `coincide`: the source's newest report was made in the same MCLK cycle. -/
  | force (src sev : Nat) (coincide : Bool)
  /-- CAPTURE_RELEASE, R347: A write of 1 to BUT_CAP_INFO.VALID releases the capture. -/
  | captureRelease
  /-- SWEEP_START, R353: At each multiple of SWEEP_MS a self-test pass starts. -/
  | sweepStart
  /-- SWEEP_PASS_END, R353: A self-test pass completes, counting PASSES, raising SWEEP_FAIL or
  setting SAFE. `failed`: the items that failed. -/
  | sweepPassEnd (failed : List SweepItem)
  /-- PLB_FREEZE, R366: PLB_CTRL.FREEZE written 1 stops all counters at the next RCLK edge. -/
  | plbFreeze
  /-- PLB_UNFREEZE, R366: PLB_CTRL.FREEZE written 0 resumes counting. -/
  | plbUnfreeze
  /-- PLB_CLEAR, R366: PLB_CTRL.CLEAR zeroes every counter and OVF. -/
  | plbClear
  /-- PLB_TAG_CFG_WRITE, R367: A write of PLB_TAG_CFG reloads every entry-point LFSR. -/
  | plbTagCfgWrite (w : RegW)
  /-- PLB_TAG_RD_WRITE, R370: A write of PLB_TAG_RD releases tag records read by the host. -/
  | plbTagRdWrite (w : RegW)
  /-- TAG_RECORD_WRITE, R369: A tagged request completes or is abandoned and its record is written
  to the tag buffer. -/
  | tagRecordWrite (upset : Nat)
  /-- EXT_CLEAR, R374: DST_CMD.EXT_CLEAR sets every extreme EMPTY. -/
  | extClear
  /-- HIST_CLEAR, R372: DST_CMD.HIST_CLEAR zeroes every histogram bin. -/
  | histClear
  /-- LOG_CLEAR, R376: DST_CMD.LOG_CLEAR empties the snapshot log and clears LOG_FULL. -/
  | logClear
  /-- SNAP, R375: DST_CMD.SNAP raises snapshot trigger 0x01. -/
  | snap
  /-- SNAPSHOT_PERIOD, R375: Each multiple of PERIOD_US of uptime raises snapshot trigger 0x02. -/
  | snapshotPeriod
  /-- SNAPSHOT_TAKEN, R376: A snapshot's selected registers are read and written to the log, or it
  is dropped. -/
  | snapshotTaken
  /-- DST_MODE_WRITE, R371: A change of DST_CTRL.MODE empties the log or zeroes the histograms. -/
  | dstModeWrite (mode : Nat)
  /-- DST_FREEZE_WRITE, R379: DST_CTRL.FREEZE freezes or unfreezes the Datestone at the next RCLK
  edge. -/
  | dstFreezeWrite (on : Bool)
  /-- DST_HIST_CFG_WRITE, R380: A write of DST_HIST_CFG zeroes every histogram at once. -/
  | dstHistCfgWrite (w : RegW)
  /-- DST_WINDOW_READ, R378: A read of window word 7 with AUTOINC advances the cursor index. `top`: the
  read covers bit 63 (R417). -/
  | dstWindowRead (word : Nat) (top : Bool) (upset : Nat)
  /-- CONFIG_WRITE, R383: A configuration write sets the Quoin's PCI Express configuration space. -/
  | configWrite (off data bytes : Nat)
  /-- POWER_STATE_CHANGE, R386: A write of the power state moves the Quoin between D0 and D3hot. -/
  | powerStateChange (state : Nat)
  /-- BUS_MASTER_DISABLE, R398: Bus Master Enable cleared stops outbound work and ends image loads
  and drains. -/
  | busMasterDisable
  /-- UNSUPPORTED_REQUEST, R389: An inbound TLP that the Quoin does not support receives UR or is
  discarded and logged. -/
  | unsupportedRequest (t : InTlp)
  /-- QUO_COMPLETION_RX, R396: A completion for an outbound read arrives and is used, discarded, or
  contains the Quoin. `same`: in the MCLK cycle of the trigger that contained it (R401). -/
  | quoCompletionRx (tag : Nat) (good poisoned malformed : Bool) (same : Bool := false)
  /-- QUO_CPL_TIMEOUT, R385: An outbound read reaches its completion timeout, containing the Quoin
  or freeing its tag. `same`: in the MCLK cycle of the trigger that contained it (R401). -/
  | quoCplTimeout (tag : Nat) (same : Bool := false)
  /-- POISONED_WRITE_RX, R396: An inbound write with EP set is discarded and the Quoin enters
  CONTAINED. `same`: in the MCLK cycle of the trigger that contained it (R401). -/
  | poisonedWriteRx (same : Bool := false)
  /-- QUO_RELEASE, R397: QUO_RELEASE written 1 while CONTAINED moves the Quoin to RELEASE_WAIT. -/
  | quoRelease
  /-- FLR_INITIATE, R399: Initiate Function Level Reset starts an FLR: outbound work stops and tags
  are quarantined. -/
  | flrInitiate
  /-- FLR_COMPLETE, R399: All quarantined tags are freed and the Quoin's function state returns to
  reset values. -/
  | flrComplete
  /-- DRAIN_START, R392: QUO_DRAIN_CTL.GO starts copying Datestone items into host memory. -/
  | drainStart
  /-- DRAIN_COMPLETE, R393: The last item write is issued and the drain completion record is written
  and signalled. -/
  | drainComplete
  /-- EXPORT_RECORD, R395: A tag record is written to the host ring, the producer index is updated
  and the record is released. -/
  | exportRecord
  /-- MSIX_SEND, R391: A pending vector whose delivery conditions hold sends its MSI-X message and
  clears its PBA bit. -/
  | msixSend (vector : Nat)
  /-- CHANNEL_RESET, R410: BLK_CHAN_RST.GO bit c resets channel c through self-refresh, with its
  contents kept where possible. -/
  | channelReset (mask : Nat)
  /-- CHANNEL_RESET_DONE, R410: The reset channel exits self-refresh with exit correction and BUSY
  clears. -/
  | channelResetDone (chan : Nat)
  /-- EXPERT_EN_WRITE, R420: A write of BLK_EXPERT_EN freezes or reapplies the basic profiles of the
  functions whose bits change. -/
  | expertEnWrite (w : RegW)
  /-- REGISTER_WRITE, R15: A write to any register field without a row of its own takes effect
  according to its type and the expert gate. -/
  | registerWrite (off : Nat) (w : RegW)
  /-- RCLK_CYCLE, R31: On every RCLK cycle BLK_UPTIME advances by 10 ns and the time events counted
  in 10 ns units advance. `upsets`: the errors that Plumb and the Datestone met in words they updated or drained in it
  (R381). -/
  | rclkCycle (upsets : List PlbUpset := [])
  /-- SLOT, R155: Each data-bus slot of a live channel is classified at its decision cycle as
  retired, wasted, front-starved or back-stalled and counted. The decision cycle lies `late` cycles before `cyc`, the
  cycle of this command. -/
  | slot (chan sub : Nat) (cyc : Nat := 0) (late : Nat := 0)
  /-- MASON_RESET_COMPLETE, R264: A Mason reset ends within 25 µs with scratch reloaded and the
  Mason leaves RESETTING for HALTED. -/
  | masonResetComplete (m : Nat)
  /-- IMAGE_CHECK_OR_LOAD_COMPLETE, R260: A host image check or load finishes its checks and
  loading, sets RESULT, clears BUSY and raises vector 9. -/
  | imageCheckOrLoadComplete (bytes : List Nat)
  /-- DEBUG_TAKEOVER, R314: The Keystone debug requester preempts a HELD lock slot or a maintenance
  path, and the former holder loses it. -/
  | debugTakeover (slot : Option Nat) (chan : Nat)
  /-- DEBUG_RELEASE, R310: The debug port releases a lock slot it took over, which becomes TORN, or
  a maintenance path it held. -/
  | debugRelease (slot : Option Nat) (chan : Nat)
  /-- ROUTES_STABLE, R328: Routes have been unchanged for 2 ms and BND_STATUS.STABLE becomes 1. -/
  | routesStable
  deriving DecidableEq, Repr

end Sys2Proof
end

