-- ==== Sys2Proof/Machine/Tbl.lean ====
section
/-! DEFINITION. Sparse tables: lists of (key, value) pairs with strictly rising keys. They hold
the register words that differ from their reset values, memories, and the state of numbered units.
`get` and `put` never depend on the order, so their laws hold of every table. -/

namespace Sys2Proof.Machine

/-- A table keyed by number. -/
abbrev Tbl (α : Type) := List (Nat × α)

/-- The value listed for `k`, or `none`. -/
def Tbl.find {α : Type} : Tbl α → Nat → Option α
  | [], _ => none
  | (k', v) :: t, k => if k' = k then some v else Tbl.find t k

/-- The value listed for `k`, or what an unlisted key reads as. -/
def Tbl.get {α : Type} (t : Tbl α) (d : α) (k : Nat) : α := (Tbl.find t k).getD d

/-- The table without `k`. -/
def Tbl.del {α : Type} : Tbl α → Nat → Tbl α
  | [], _ => []
  | (k', v) :: t, k => if k' = k then Tbl.del t k else (k', v) :: Tbl.del t k

/-- `(k, v)` put before the first larger key. -/
def Tbl.ins {α : Type} : Tbl α → Nat → α → Tbl α
  | [], k, v => [(k, v)]
  | (k', v') :: t, k, v => if k < k' then (k, v) :: (k', v') :: t else (k', v') :: Tbl.ins t k v

/-- `k` listed with `v`, whatever an unlisted key reads as. -/
def Tbl.put {α : Type} (t : Tbl α) (k : Nat) (v : α) : Tbl α := Tbl.ins (Tbl.del t k) k v

/-- `k` made to read as `v`, where an unlisted `k` reads as `d`: nothing equal to `d` is listed. -/
def Tbl.set {α : Type} [DecidableEq α] (t : Tbl α) (d : α) (k : Nat) (v : α) : Tbl α :=
  if v = d then Tbl.del t k else Tbl.ins (Tbl.del t k) k v

/-- The entries whose key meets `p`. -/
def Tbl.keep {α : Type} (p : Nat → Bool) : Tbl α → Tbl α
  | [] => []
  | (k, v) :: t => if p k then (k, v) :: Tbl.keep p t else Tbl.keep p t

/-- Every listed value changed. -/
def Tbl.mapVal {α : Type} (f : Nat → α → α) : Tbl α → Tbl α
  | [] => []
  | (k, v) :: t => (k, f k v) :: Tbl.mapVal f t

/-- Every listed value changed; what then equals the unlisted value `d` of its key is dropped. -/
def Tbl.mapSet {α : Type} [DecidableEq α] (d : Nat → α) (f : Nat → α → α) : Tbl α → Tbl α
  | [] => []
  | (k, v) :: t =>
    if f k v = d k then Tbl.mapSet d f t else (k, f k v) :: Tbl.mapSet d f t

/-- The keys rise strictly. -/
def Tbl.sorted {α : Type} : Tbl α → Bool
  | [] => true
  | [_] => true
  | (k, _) :: (k', v') :: t => decide (k < k') && Tbl.sorted ((k', v') :: t)

/-- The canonical form: keys rise strictly and no entry equals what an unlisted key reads as. -/
def Tbl.wf {α : Type} [DecidableEq α] (d : Nat → α) (t : Tbl α) : Bool :=
  Tbl.sorted t && t.all (fun e => decide (e.2 ≠ d e.1))

end Sys2Proof.Machine
end

