-- ==== Sys2Proof/Machine/Types.lean ====
section
/-! DEFINITION. The plain data of the request path: statuses, destinations, DRAM positions, queued
requests, the channel's banks and command history. State.lean puts them together. -/

namespace Sys2Proof.Machine

/-- The statuses of R59 (the first ten) and R244. -/
inductive Status where
  | ok | okCorrected | poison | poisonWalk | nonmem | unmapped | decodeErr | remoteTimeout
  | fenced | retiredTag | runTooLong
  deriving DecidableEq, Repr

/-- The code of a status, R59; RUN_TOO_LONG as R244 numbers it. -/
def Status.code : Status → Nat
  | .ok => 0 | .okCorrected => 1 | .poison => 2 | .poisonWalk => 3 | .nonmem => 4 | .unmapped => 5
  | .decodeErr => 6 | .remoteTimeout => 7 | .fenced => 8 | .retiredTag => 9 | .runTooLong => 10

/-- OK or OK_CORRECTED: the statuses under which data is returned (R60). -/
def Status.good : Status → Bool
  | .ok => true | .okCorrected => true | _ => false

/-- A line's place in a channel (R108): subchannel (0 = A), logical rank, bank group, bank, row and
the column bits above C[3:0]. -/
structure Pos where
  sub : Nat
  rank : Nat
  bg : Nat
  ba : Nat
  row : Nat
  col : Nat
  deriving DecidableEq, Repr

/-- One number for a place, the key of the DRAM contents. -/
def Pos.key (p : Pos) : Nat :=
  ((((p.row * 512 + p.col) * 4 + p.ba) * 8 + p.bg) * 4 + p.rank) * 2 + p.sub

/-- One number for a bank of a channel (R145: 2 subchannels x 4 ranks x 32 banks). -/
def Pos.bank (p : Pos) : Nat := ((p.sub * 4 + p.rank) * 8 + p.bg) * 4 + p.ba

/-- Where a request goes (R104). -/
inductive Dest where
  | local (chan : Nat)
  | remote (node : Nat)
  | control (off : Nat)
  | flush
  deriving DecidableEq, Repr

/-- What the Mapper answers (R104). -/
inductive Decoded where
  | refused (st : Status)
  | control (off : Nat)
  | remote (node : Nat)
  | place (chan : Nat) (pos : Pos)
  deriving DecidableEq, Repr

/-- Who sent a request (R77). `mason m dst`: the slot its result goes to is kept by the Mason under
the request's number. `scrub k` is a line that Ashlar offers (R188): 0 a demand write-back, 1 patrol, 2 a sparing
copy, 3 an initialisation write. `lost n`: port `n` abandoned it, and nobody awaits its completion
(R73). -/
inductive Src where
  | port (n : Nat)
  | mason (m : Nat)
  | bond (p : Nat)
  | hod (h : Nat)
  | scrub (kind : Nat)
  | lost (port : Nat)
  deriving DecidableEq, Repr

/-- The states of R81, and the two places of a request that holds no entry (R82, R84): at the head
of its port, or answered there. FREE entries are not listed. -/
inductive Stage where
  | atPort | answeredAtPort | waitData | held | queued | issued | done
  deriving DecidableEq, Repr

/-- The colours of R58 and R116. -/
inductive Colour where
  | uncoloured | green | yellow | red
  deriving DecidableEq, Repr

/-- The code of a colour, R58. -/
def Colour.code : Colour → Nat
  | .uncoloured => 0 | .green => 1 | .yellow => 2 | .red => 3

/-- How far one line of a request has come: nothing issued; its row outcome decided (an ACT or PRE
was issued for it); its read column command issued; its read half judged and its write half waiting;
finished. -/
inductive LineStage where
  | fresh | opened | reading | writeHalf | finished
  deriving DecidableEq, Repr

/-- One line of a request: its global address, its place, how far it is, and the data of its write
or write half with its poison mark (`none` while a copy's source line is still to be read), and the
global address of a copy's source line. -/
structure LineJob where
  addr : Nat
  pos : Pos
  stage : LineStage
  wdata : Option (BitVec 512)
  wpoison : Bool
  source : Nat
  deriving DecidableEq, Repr

/-- The tag record of R369 that travels with a tagged request, intervals in 0.625 ns units. -/
structure TagRec where
  point : Nat
  seq : Nat
  tAccept : Nat
  alloc : Option Nat
  enq : Option Nat
  cmd : Option Nat
  dat : Option Nat
  verdict : Option Nat
  row : Nat
  wstore : Bool
  deriving DecidableEq, Repr

/-- A request from its acceptance to the acceptance of its completion (R81, R82). The list of
requests is kept in acceptance order, the order point of R66. -/
structure Req where
  /-- Its number, unique since cold reset -/
  rid : Nat
  src : Src
  op : Op
  size : Nat
  addr : Nat
  tag : Nat
  sid : Nat
  qid : Nat
  priv : Nat
  ns : Bool
  attr : Nat
  col : Colour
  /-- Walk-class (R57) -/
  walk : Bool
  dest : Dest
  /-- The partition whose entry it holds (R81) -/
  part : Option Nat
  stage : Stage
  lines : List LineJob
  /-- The Mason run it belongs to, by the run's number (R245), and whether that run is indivisible -/
  run : Option Nat
  indiv : Bool
  /-- Its write data with byte enables, once received (R63) -/
  data : Option (BitVec 512)
  mask : BitVec 64
  wpoison : Bool
  wparity : Bool
  /-- The data waits in the port write-data buffer; it is in the channel write store (R77, R78) -/
  inBuf : Bool
  inStore : Bool
  /-- Performed under R66 -/
  performed : Bool
  /-- A read was served from its data (R85 rule 2) -/
  served : Bool
  status : Option Status
  rdata : BitVec 512
  /-- Ashlar corrected a line it read (R67) -/
  corrected : Bool
  colour : Colour
  /-- Its queue: 0 to 3 S0 to S3, 4 to 15 W0 to W11, 16 rubble (R122) -/
  queue : Nat
  /-- Its cost was charged at its first command (R125) -/
  charged : Bool
  /-- Times a younger request was taken before it (R144) -/
  bypassed : Nat
  /-- It was counted as split or made to wait under R131 -/
  judged : Bool
  /-- How it was judged under R131: the deadline, and the lines (by address) that are held back before it -/
  fit : Option (Nat × List Nat)
  tAccept : Nat
  tAlloc : Nat
  tEnq : Nat
  /-- The requests a FLUSH still waits for (R87) -/
  waits : List Nat
  /-- Its tracker entry holds an uncorrectable error (R93) -/
  entryBad : Bool
  /-- The pointer check of the hod it reaches fails (R303) -/
  ptrBad : Bool
  /-- Lock requests of others that reach the Keystone with its own (R308) -/
  rivals : List KeyAsk
  /-- Its completion stands in its port's completion stage (R77), and the uptime at which it was first
  offered there -/
  staged : Bool
  offered : Nat
  tagRec : Option TagRec
  /-- Inbound Bond: the sender's tag, node, and the hop its completion goes back to (R332) -/
  peerTag : Nat
  peerNode : Nat
  peerHop : Nat
  /-- Sent to another node: the peer port that its completion came in by, else that it was sent by (R88) -/
  via : Nat
  deriving DecidableEq, Repr

/-- A write-data slot that port request `rid` awaits (R63): its tag and slot, the uptime of its handshake;
`dropped`: a fence answered the request, and its data is no longer awaited (R65). -/
structure Await where
  rid : Nat
  tag : Nat
  slot : Nat
  since : Nat
  dropped : Bool
  deriving DecidableEq, Repr

/-- A completion slot as the port drives it (R51): channel (0 response, 1 read data), tag, status code, data,
parity. -/
structure CplSlot where
  chan : Nat
  tag : Nat
  status : Nat
  data : BitVec 512
  par : Nat
  deriving DecidableEq, Repr

/-- A gauge meter (R115): rates and bursts in the units of its fields, mode, and the two buckets
in 1/256 bytes. -/
structure Meter where
  cir : Nat
  pir : Nat
  cbs : Nat
  pbs : Nat
  mode : Nat
  tc : Int
  tp : Int
  deriving DecidableEq, Repr

/-- The commands of `TIM_CHK_CAP.CMD`. -/
inductive CmdKind where
  | act | rd | rda | wr | wra | pre | presb | preab | refab | refsb | rfmab | rfmsb
  | mrr | mrw | mpc | sre | srx | pde | pdx
  deriving DecidableEq, Repr

/-- The code of a command in `TIM_CHK_CAP.CMD`. -/
def CmdKind.code : CmdKind → Nat
  | .act => 0 | .rd => 1 | .rda => 2 | .wr => 3 | .wra => 4 | .pre => 5 | .presb => 6 | .preab => 7
  | .refab => 8 | .refsb => 9 | .rfmab => 10 | .rfmsb => 11 | .mrr => 12 | .mrw => 13 | .mpc => 14
  | .sre => 15 | .srx => 16 | .pde => 17 | .pdx => 18

/-- A command that passed the shadow checker, with its issue instant in CCLK cycles (R137). `fine`
marks a fine-granularity REFab (row 30). -/
structure Passed where
  cyc : Nat
  kind : CmdKind
  sub : Nat
  rank : Nat
  bg : Nat
  ba : Nat
  row : Nat
  fine : Bool
  deriving DecidableEq, Repr

/-- A bank of the issuer (R145 to R147): the open row, the last row, the predictor (R145), the
instant of its last use. -/
structure Bank where
  openRow : Option Nat
  lastRow : Option Nat
  pred : Nat
  used : Nat
  deriving DecidableEq, Repr

/-- A read burst of request or scrub line `rid` between its column command, issued at `cyc`, and its verdict (R183). -/
structure Burst where
  rid : Nat
  addr : Nat
  pos : Pos
  cyc : Nat
  deriving DecidableEq, Repr

/-- What an event brings to the filters of R364: privilege and non-secure flag; master kind (1 port,
2 Mason, 3 inbound Bond), number, port and node; global address; QID; Setter queue. -/
structure Ev where
  ident : Option (Nat × Bool)
  who : Option (Nat × Nat × Nat × Nat)
  addr : Option Nat
  qid : Option Nat
  queue : Option Nat
  deriving DecidableEq, Repr

/-- A line register of R267: 64 bytes, the poison mark and the fill address. -/
structure LReg where
  data : BitVec 512
  poison : Bool
  fill : Nat
  deriving DecidableEq, Repr

/-- A template entry (R247). -/
structure TplEnt where
  w0 : BitVec 64
  w1 : BitVec 64
  w2 : BitVec 64
  deriving DecidableEq, Repr

/-- Where the result of a Mason request goes (R240). -/
inductive ResDst where
  | none
  | scalar (r : Nat)
  | line (l : Nat)
  deriving DecidableEq, Repr

/-- What a Mason has outstanding (R240, R281): a request, a walk load, an A/D update (R251), or a
run (R285). -/
inductive OutKind where
  | load | store | atomic | walkLoad | adUpdate | run
  deriving DecidableEq, Repr

/-- One outstanding request or run of a Mason. -/
structure MasOut where
  /-- Its number: the request's, or the run's -/
  id : Nat
  kind : OutKind
  /-- The requests not yet complete: one, or one per sub-run -/
  rids : List Nat
  /-- Waiting form (P = 0) -/
  waiting : Bool
  dst : ResDst
  /-- Scalar register that receives the status in the posted form (0 = discarded) -/
  rt : Nat
  /-- Address as the program gave it (R281), and the global address -/
  addr : Nat
  gaddr : Nat
  size : Nat
  sign : Bool
  /-- Lines a run covers: first line and count of destination and source (R283 rule 2) -/
  cover : List (Nat × Nat)
  /-- Statuses collected from a run's sub-runs (R246) -/
  got : List Status
  /-- The tag record of a run whose tagged request is complete (R368, R369) -/
  record : Option (List Nat)
  /-- Template slots it was translated through, and whether one was invalidated since (R253) -/
  slots : List Nat
  stale : Bool
  /-- A/D update: A set, D set (R251) -/
  setA : Bool
  setD : Bool
  deriving DecidableEq, Repr

/-- A line of a hod's carve-out (R299): its index, 0 write in flight, 1 stored, 2 read in flight,
the request in flight, whether its write failed (R301), and its two items while the write is in flight. -/
structure HodLine where
  idx : Nat
  st : Nat
  rid : Nat
  lost : Bool
  deriving DecidableEq, Repr

/-- A lock slot that is not FREE (R310). `owner` is a Mason number, or port x 4096 + SID. -/
structure KeySlot where
  torn : Bool
  line : Nat
  count : Nat
  kind : Nat
  owner : Nat
  since : Nat
  /-- The debug port took the slot over (R314) -/
  taken : Bool
  deriving DecidableEq, Repr

/-- A neighbour of a peer port that is not DOWN (R323). -/
structure Nbr where
  up : Bool
  nonce : Nat
  heard : Nat
  deriving DecidableEq, Repr

/-- A stored link-state advertisement (R326). -/
structure LsaRec where
  nonce : Nat
  seq : Nat
  upA : Nat
  upB : Nat
  heard : Nat
  deriving DecidableEq, Repr

/-- A computed route (R327): port, next hop, hops. -/
structure Route where
  port : Nat
  nh : Nat
  hops : Nat
  deriving DecidableEq, Repr

/-- An outbound tag in use (R330, R333): its request and destination; once the request was sent (`live`) its port and
the uptime at which it times out, or, quarantined, at which it is freed. -/
structure OutTag where
  rid : Nat
  node : Nat
  port : Nat
  ends : Nat
  quar : Bool
  live : Bool
  deriving DecidableEq, Repr

/-- A message that waits for credits (R318): the receive credits that its flits return when it leaves, where it is in
transit, as their key and number; and the tag record of the inbound request that it completes (R368). -/
structure TxEnt where
  msg : Msg
  origin : Option (Nat × Nat)
  record : Option (List Nat)
  deriving DecidableEq, Repr

/-- A request for this node that waits in a receive buffer (R318): its opcode, the message, and the uptime at which its
last flit came in (R368). -/
structure RxEnt where
  op : Op
  msg : Msg
  since : Nat
  deriving DecidableEq, Repr

/-- An outbound read of the Quoin (R385): uptime of its timeout, quarantined. -/
structure QuoTag where
  ends : Nat
  quar : Bool
  deriving DecidableEq, Repr

/-- An image operation in progress (R260): 0 CHECK, 1 LOAD, 2 LOAD_STORE; kind 0 training, 1 Mason
runtime; length; bytes not yet asked for; waiting for the Plinth store. -/
structure ImgOp where
  op : Nat
  kind : Nat
  len : Nat
  addr : Nat
  left : Nat
  image : Option (List Nat)
  deriving DecidableEq, Repr

/-- An image in force (R258). -/
structure Img where
  version : Nat
  otherMin : Nat
  otherMax : Nat
  source : Nat
  code : List Nat
  data : List Nat
  deriving DecidableEq, Repr

/-- A drain in progress (R392): region, first item, items, items written, uptime of the last item. -/
structure Drain where
  region : Nat
  start : Nat
  count : Nat
  done : Nat
  time : Nat
  deriving DecidableEq, Repr

/-- A write the Quoin presented on its TLP interface: host address, 32-bit words, Relaxed Ordering. -/
structure HostWrite where
  addr : Nat
  words : List Nat
  relaxed : Bool
  deriving DecidableEq, Repr

end Sys2Proof.Machine
end

