-- ==== Sys2Proof/Machine/Crypto.lean ====
section
/-! DEFINITION. The check words of R225, and what R256 names of FIPS 180-4 and FIPS 186-5: SHA-384, and the verification of an ECDSA signature over
the NIST curve P-384. PRESUMED (log 91): the standards' constants and steps are taken from outside the spec, which names
the standards. -/

namespace Sys2Proof.Machine

/-! Check words (R225). -/

/-- `n` bit steps of the reflected CRC-32C. -/
def crcBits : Nat → Nat → Nat
  | 0, x => x
  | n + 1, x => crcBits n (if x % 2 = 1 then Nat.xor (x / 2) 0x82F63B78 else x / 2)

/-- A CRC-32C state after one more byte. -/
def crcByte (x b : Nat) : Nat := crcBits 8 (Nat.xor x (b % 256))

/-- A CRC-32C state after more bytes, without the initial and final inversion. -/
def crcRun (x : Nat) (bs : List Nat) : Nat := bs.foldl crcByte x

/-- CRC-32C (R225). -/
def crc32c (bs : List Nat) : Nat := Nat.xor (crcRun 0xFFFFFFFF bs) 0xFFFFFFFF

/-- The `n` bytes of a number, little-endian. -/
def leBytes (n v : Nat) : List Nat := (List.range n).map (fun i => nfield v (8 * i) 8)

/-! SHA-384 (FIPS 180-4). -/

/-- Round constants 0 to 19 of SHA-384. -/
def shaK0 : List Nat :=
  [0x428A2F98D728AE22, 0x7137449123EF65CD, 0xB5C0FBCFEC4D3B2F, 0xE9B5DBA58189DBBC, 0x3956C25BF348B538,
   0x59F111F1B605D019, 0x923F82A4AF194F9B, 0xAB1C5ED5DA6D8118, 0xD807AA98A3030242, 0x12835B0145706FBE,
   0x243185BE4EE4B28C, 0x550C7DC3D5FFB4E2, 0x72BE5D74F27B896F, 0x80DEB1FE3B1696B1, 0x9BDC06A725C71235,
   0xC19BF174CF692694, 0xE49B69C19EF14AD2, 0xEFBE4786384F25E3, 0x0FC19DC68B8CD5B5, 0x240CA1CC77AC9C65]

/-- Round constants 20 to 39 of SHA-384. -/
def shaK1 : List Nat :=
  [0x2DE92C6F592B0275, 0x4A7484AA6EA6E483, 0x5CB0A9DCBD41FBD4, 0x76F988DA831153B5, 0x983E5152EE66DFAB,
   0xA831C66D2DB43210, 0xB00327C898FB213F, 0xBF597FC7BEEF0EE4, 0xC6E00BF33DA88FC2, 0xD5A79147930AA725,
   0x06CA6351E003826F, 0x142929670A0E6E70, 0x27B70A8546D22FFC, 0x2E1B21385C26C926, 0x4D2C6DFC5AC42AED,
   0x53380D139D95B3DF, 0x650A73548BAF63DE, 0x766A0ABB3C77B2A8, 0x81C2C92E47EDAEE6, 0x92722C851482353B]

/-- Round constants 40 to 59 of SHA-384. -/
def shaK2 : List Nat :=
  [0xA2BFE8A14CF10364, 0xA81A664BBC423001, 0xC24B8B70D0F89791, 0xC76C51A30654BE30, 0xD192E819D6EF5218,
   0xD69906245565A910, 0xF40E35855771202A, 0x106AA07032BBD1B8, 0x19A4C116B8D2D0C8, 0x1E376C085141AB53,
   0x2748774CDF8EEB99, 0x34B0BCB5E19B48A8, 0x391C0CB3C5C95A63, 0x4ED8AA4AE3418ACB, 0x5B9CCA4F7763E373,
   0x682E6FF3D6B2B8A3, 0x748F82EE5DEFB2FC, 0x78A5636F43172F60, 0x84C87814A1F0AB72, 0x8CC702081A6439EC]

/-- Round constants 60 to 79 of SHA-384. -/
def shaK3 : List Nat :=
  [0x90BEFFFA23631E28, 0xA4506CEBDE82BDE9, 0xBEF9A3F7B2C67915, 0xC67178F2E372532B, 0xCA273ECEEA26619C,
   0xD186B8C721C0C207, 0xEADA7DD6CDE0EB1E, 0xF57D4F7FEE6ED178, 0x06F067AA72176FBA, 0x0A637DC5A2C898A6,
   0x113F9804BEF90DAE, 0x1B710B35131C471B, 0x28DB77F523047D84, 0x32CAAB7B40C72493, 0x3C9EBE0A15C9BEBC,
   0x431D67C49C100D4C, 0x4CC5D4BECB3E42B6, 0x597F299CFC657E2A, 0x5FCB6FAB3AD6FAEC, 0x6C44198C4A475817]

/-- The 80 round constants: the fractional parts of the cube roots of the first 80 primes. -/
def shaK : List (BitVec 64) := (shaK0 ++ shaK1 ++ shaK2 ++ shaK3).map (BitVec.ofNat 64)

/-- The initial hash value of SHA-384: the fractional parts of the square roots of the ninth to the sixteenth prime. -/
def shaInit : List Nat :=
  [0xCBBB9D5DC1059ED8, 0x629A292A367CD507, 0x9159015A3070DD17, 0x152FECD8F70E5939, 0x67332667FFC00B31,
   0x8EB44A8768581511, 0xDB0C2E0D64F98FA7, 0x47B5481DBEFA4FA4]

/-- A word rotated right. -/
def rotr (x : BitVec 64) (n : Nat) : BitVec 64 := (x >>> n) ||| (x <<< (64 - n))

/-- A number from its bytes, big-endian. -/
def beNat (bs : List Nat) : Nat := bs.foldl (fun a b => 256 * a + b % 256) 0

/-- The `n` bytes of a number, big-endian. -/
def beBytes (n v : Nat) : List Nat := ((List.range n).map (fun i => nfield v (8 * i) 8)).reverse

/-- The message padded to whole blocks of 128 bytes. -/
def shaPad (bs : List Nat) : List Nat :=
  bs ++ 0x80 :: List.replicate ((111 + 128 - bs.length % 128) % 128) 0 ++ beBytes 16 (8 * bs.length)

/-- `n` more words of the message schedule, the newest first. -/
def shaExpand : Nat → List (BitVec 64) → List (BitVec 64)
  | 0, w => w
  | n + 1, w =>
    let a := w.getD 1 0
    let b := w.getD 14 0
    shaExpand n (((rotr a 19 ^^^ rotr a 61 ^^^ (a >>> 6)) + w.getD 6 0 + (rotr b 1 ^^^ rotr b 8 ^^^ (b >>> 7)) +
      w.getD 15 0) :: w)

/-- The 80 words of the schedule of one block. -/
def shaSchedule (block : List Nat) : List (BitVec 64) :=
  (shaExpand 64 ((List.range 16).map (fun i => BitVec.ofNat 64 (beNat ((block.drop (8 * i)).take 8)))).reverse).reverse

/-- The eight working variables. -/
structure ShaVars where
  a : BitVec 64
  b : BitVec 64
  c : BitVec 64
  d : BitVec 64
  e : BitVec 64
  f : BitVec 64
  g : BitVec 64
  h : BitVec 64
  deriving DecidableEq, Repr

/-- One round with its constant and its word. -/
def ShaVars.round (v : ShaVars) (k : BitVec 64 × BitVec 64) : ShaVars :=
  let t1 := v.h + (rotr v.e 14 ^^^ rotr v.e 18 ^^^ rotr v.e 41) + ((v.e &&& v.f) ^^^ (~~~ v.e &&& v.g)) + k.1 + k.2
  let t2 := (rotr v.a 28 ^^^ rotr v.a 34 ^^^ rotr v.a 39) + ((v.a &&& v.b) ^^^ (v.a &&& v.c) ^^^ (v.b &&& v.c))
  ⟨t1 + t2, v.a, v.b, v.c, v.d + t1, v.e, v.f, v.g⟩

/-- The hash value after one more block. -/
def shaBlock (v : ShaVars) (block : List Nat) : ShaVars :=
  let x := (shaK.zip (shaSchedule block)).foldl ShaVars.round v
  ⟨v.a + x.a, v.b + x.b, v.c + x.c, v.d + x.d, v.e + x.e, v.f + x.f, v.g + x.g, v.h + x.h⟩

/-- The initial hash value as variables. -/
def shaStart : ShaVars :=
  let h (i : Nat) : BitVec 64 := BitVec.ofNat 64 (shaInit.getD i 0)
  ⟨h 0, h 1, h 2, h 3, h 4, h 5, h 6, h 7⟩

/-- The 48 bytes of SHA-384. -/
def sha384Bytes (bs : List Nat) : List Nat :=
  let m := shaPad bs
  let v := (List.range (m.length / 128)).foldl (fun v i => shaBlock v ((m.drop (128 * i)).take 128)) shaStart
  [v.a, v.b, v.c, v.d, v.e, v.f].flatMap (fun w => beBytes 8 w.toNat)

/-- SHA-384 as a number whose bits [7:0] are the first digest byte (R256). -/
def sha384 (bs : List Nat) : Nat := (sha384Bytes bs).foldr (fun b a => b + 256 * a) 0

/-! ECDSA over P-384 (FIPS 186-5). -/

/-- The prime of P-384. -/
def p384 : Nat := 2 ^ 384 - 2 ^ 128 - 2 ^ 96 + 2 ^ 32 - 1

/-- The order of its base point. -/
def p384n : Nat :=
  0xffffffffffffffffffffffffffffffffffffffffffffffffc7634d81f4372ddf581a0db248b0a77aecec196accc52973

/-- The coefficient b of y^2 = x^3 - 3x + b. -/
def p384b : Nat :=
  0xb3312fa7e23ee7e4988e056be3f82d19181d9c6efe8141120314088f5013875ac656398d8a2ed19d2a85c8edd3ec2aef

/-- The base point. -/
def p384G : Nat × Nat :=
  (0xaa87ca22be8b05378eb1c71ef320ad746e1d3b628ba79b9859f741e082542a385502f25dbf55296c3a545e3872760ab7,
   0x3617de4a96262c6f5d9e98bf9292dc29f8f41dbd289a147ce9da3113b5f0b8c00a60b1ce1d7e819d7a431d7c90ea0e5f)

/-- `x` to the power of the low `n` bits of `k`, modulo `m`. -/
def powMod : Nat → Nat → Nat → Nat → Nat
  | 0, _, _, _ => 1
  | n + 1, m, x, k => (if k % 2 = 1 then x else 1) * powMod n m (x * x % m) (k / 2) % m

/-- The inverse modulo a prime of 384 bits. -/
def invMod (m x : Nat) : Nat := powMod 384 m (x % m) (m - 2)

/-- The sum of two points of the curve; none is the point at infinity. -/
def ecAdd (p q : Option (Nat × Nat)) : Option (Nat × Nat) :=
  match p, q with
  | none, q => q
  | p, none => p
  | some (x1, y1), some (x2, y2) =>
    if x1 = x2 ∧ (y1 + y2) % p384 = 0 then none
    else
      let l := (if x1 = x2 then (3 * x1 * x1 + p384 - 3) * invMod p384 (2 * y1)
        else (y2 + p384 - y1) * invMod p384 (x2 + p384 - x1)) % p384
      let x := (l * l + 2 * p384 - x1 - x2) % p384
      some (x, (l * (x1 + p384 - x) + p384 - y1) % p384)

/-- A point times the low `n` bits of `k`. -/
def ecMul : Nat → Nat → Option (Nat × Nat) → Option (Nat × Nat)
  | 0, _, _ => none
  | n + 1, k, p => ecAdd (if k % 2 = 1 then p else none) (ecMul n (k / 2) (ecAdd p p))

/-- The public key of 97 bytes, uncompressed SEC 1: a point of the curve (R256). -/
def ecKey (key : List Nat) : Option (Nat × Nat) :=
  let x := beNat ((key.drop 1).take 48)
  let y := beNat ((key.drop 49).take 48)
  if key.length = 97 ∧ key.getD 0 0 = 4 ∧ x < p384 ∧ y < p384 ∧
      y * y % p384 = (x * x * x + (p384 - 3) * x + p384b) % p384 then some (x, y) else none

/-- The signature `sig`, r then s of 48 bytes each, of the message verifies under the key (R256). -/
def ecdsaVerifies (key msg sig : List Nat) : Bool :=
  let r := beNat (sig.take 48)
  let s := beNat ((sig.drop 48).take 48)
  match ecKey key with
  | none => false
  | some q =>
    if sig.length ≠ 96 ∨ r = 0 ∨ p384n ≤ r ∨ s = 0 ∨ p384n ≤ s then false
    else
      let e := beNat (sha384Bytes msg)
      let w := invMod p384n s
      match ecAdd (ecMul 384 (e * w % p384n) (some p384G)) (ecMul 384 (r * w % p384n) (some q)) with
      | none => false
      | some (x, _) => decide (x % p384n = r)

end Sys2Proof.Machine
end

