-- ==== Sys2Proof/Config.lean ====
section
/-! DEFINITION. What the model leaves open: functions without a body, of which nothing can be proved
beyond their type, and the constants that the 24-channel build fixes. -/

namespace Sys2Proof

/-- Screed's speed-bin table (R139): the JEDEC value of row `row` of R138 in CCLK cycles, rounded up,
for the fastest (`fast`) or the slowest speed bin of a rate N, a DIMM type, a density code, a width code
and the numbers of physical ranks and chips per stack. The spec gives the table only through one column of
R138. -/
opaque Config.speedBin (fast : Bool) (mult dimm dens width phys height row : Nat) : Nat

/-- `TIM_CHK_CAP.RULE` of a position check that fails (R152, R194): the spec lists no code for it. -/
opaque Config.posCheckRule : Nat

/-- What a Plinth row holds after its last write attempt mismatched (R228) or after a reset cut its write (R229), and
what a PLATFORM row that cannot be corrected reads as (R234, R236): row number and uptime. The spec states none. -/
opaque Config.failedRow (row uptime : Nat) : BitVec 512

/-- Byte `i` of the value blocks of a TRAIN body that holds the given oscillator counts and trained values, and what
Screed reads from the bytes of value blocks (R231): their layout is the training firmware image's. -/
opaque Config.valueByte (vals : List (Nat × Nat)) (i : Nat) : Nat
opaque Config.valuesOf (block : List Nat) : List (Nat × Nat)

/-- The write DQS correction in taps for an oscillator count `now` where `ref` was recorded (R212): the spec gives no
formula. -/
opaque Config.oscTaps (ref now : Nat) : Int

/-- One step of the LFSR of a training seed (R205): the spec gives no polynomial. `wr` is the write-pattern
seed. -/
opaque Config.seedLfsr (wr : Bool) (seed : Nat) : Nat

/-- The mode register that holds the DRAM's refresh-mode setting, and its value in a mode of R159 (R164): the spec
names neither. -/
opaque Config.refModeReg : Nat
opaque Config.refModeVal (mode : Nat) : Nat

/-- The time a stopped channel PLL takes to relock, in ns (R174): the spec bounds it by 10 µs. -/
opaque Config.relockNs : Nat

/-- `BND_ROUTE.HOPS` of a pinned entry (R327): the spec states no path length for one. Node, port, next hop. -/
opaque Config.pinnedHops (node port nh : Nat) : Nat

/-- `BUT_CAP_INFO.SOURCE` of a parity error in Buttress's own registers (R359): Buttress has no source index. -/
opaque Config.parityIndex : Nat

/-- The uptime in the completion record of a drain of no items (R393): no item was read. Uptime of the record. -/
opaque Config.emptyDrainTime (uptime : Nat) : Nat

/-- Items a running drain has written in the RCLK cycle that ends at an uptime (R392). -/
opaque Config.drainItems (uptime : Nat) : Nat

/-- Word `i` of the header of the request that the Header Log of R387 shows; the commands carry no header. -/
opaque Config.tlpHeader (uptime i : Nat) : Nat

/-- What word `w` of item `n` reads at an uptime where the shared store of R371 holds the other of histograms and log. -/
opaque Config.sharedStore (region n w uptime : Nat) : Nat

end Sys2Proof
end

