-- ==== Sys2Proof/Machine/RegMap.lean ====
section
/-! DEFINITION. The register map of R413 to R423: every software-visible register by BAR0 offset,
with the field maps of the home chapters (bits, access type of R15, reset value, and the function of
R421 whose expert bit gates it). A register `NAME` is a `RegAt`; its field `F` is `NAME_F`. -/

namespace Sys2Proof.Machine

/-- Access types of R15. `rws` is RWS written as RW; `rws1c` is RWS written as RW1C; `rwsOnes` is
RWS cleared by writing all ones to it; `rwsRo` is RWS whose host writes are ignored; `devCnt` is the
packed counters of `ASH_DEV_CNT`, each cleared by writing all ones to it. -/
inductive FTy where
  | ro | rw | rw1c | wo | rws | rws1c | rwsOnes | rwsRo | devCnt | rwx
  deriving DecidableEq, Repr

/-- Where a register lies: its first instance, and up to three instance terms (count and stride). -/
structure RegAt where
  base : Nat
  n0 : Nat
  s0 : Nat
  n1 : Nat
  s1 : Nat
  n2 : Nat
  s2 : Nat
  deriving DecidableEq, Repr

/-- A field: its register, lowest bit, width, type, reset value and the function of R421
whose expert bit gates it (16 for none). -/
structure Field where
  reg : RegAt
  lo : Nat
  width : Nat
  ty : FTy
  reset : Nat
  fn : Nat
  deriving DecidableEq, Repr

/-- The BAR0 offset of instance `(i, j, k)` of a register (R414). -/
def RegAt.off (r : RegAt) (i j k : Nat) : Nat := r.base + i * r.s0 + j * r.s1 + k * r.s2


/-- `HDR_CTRL`, chapter 02. -/
def HDR_CTRL : RegAt := ⟨0x4000, 12, 0x40, 1, 0x0, 1, 0x0⟩
def HDR_CTRL_UNFENCE : Field := ⟨HDR_CTRL, 2, 1, .wo, 0x0, 16⟩
def HDR_CTRL_FENCE : Field := ⟨HDR_CTRL, 1, 1, .wo, 0x0, 16⟩
def HDR_CTRL_OPEN : Field := ⟨HDR_CTRL, 0, 1, .rw, 0x0, 16⟩

/-- `HDR_STATUS`, chapter 02. -/
def HDR_STATUS : RegAt := ⟨0x4008, 12, 0x40, 1, 0x0, 1, 0x0⟩
def HDR_STATUS_WD_FREE : Field := ⟨HDR_STATUS, 32, 10, .ro, 0x0, 16⟩
def HDR_STATUS_OUTSTANDING : Field := ⟨HDR_STATUS, 16, 13, .ro, 0x0, 16⟩
def HDR_STATUS_CLK_OK : Field := ⟨HDR_STATUS, 2, 1, .ro, 0x0, 16⟩
def HDR_STATUS_STATE : Field := ⟨HDR_STATUS, 0, 2, .ro, 0x0, 16⟩

/-- `HDR_CREDIT_CFG`, chapter 02. -/
def HDR_CREDIT_CFG : RegAt := ⟨0x4010, 12, 0x40, 1, 0x0, 1, 0x0⟩
def HDR_CREDIT_CFG_STALL_LIMIT : Field := ⟨HDR_CREDIT_CFG, 48, 16, .rwx, 0x3E8, 0⟩
def HDR_CREDIT_CFG_WD_LIMIT : Field := ⟨HDR_CREDIT_CFG, 32, 16, .rwx, 0x64, 0⟩
def HDR_CREDIT_CFG_WD_CREDITS : Field := ⟨HDR_CREDIT_CFG, 16, 10, .rwx, 0x100, 0⟩
def HDR_CREDIT_CFG_REQ_CREDITS : Field := ⟨HDR_CREDIT_CFG, 0, 13, .rwx, 0x0, 0⟩

/-- `HDR_ERR`, chapter 02. -/
def HDR_ERR : RegAt := ⟨0x4018, 12, 0x40, 1, 0x0, 1, 0x0⟩
def HDR_ERR_ABANDON : Field := ⟨HDR_ERR, 7, 1, .rws1c, 0x0, 16⟩
def HDR_ERR_CPL_STALL : Field := ⟨HDR_ERR, 6, 1, .rws1c, 0x0, 16⟩
def HDR_ERR_WD_TIMEOUT : Field := ⟨HDR_ERR, 5, 1, .rws1c, 0x0, 16⟩
def HDR_ERR_WD_EARLY : Field := ⟨HDR_ERR, 4, 1, .rws1c, 0x0, 16⟩
def HDR_ERR_WD_ORDER : Field := ⟨HDR_ERR, 3, 1, .rws1c, 0x0, 16⟩
def HDR_ERR_WD_PARITY : Field := ⟨HDR_ERR, 2, 1, .rws1c, 0x0, 16⟩
def HDR_ERR_REQ_PARITY : Field := ⟨HDR_ERR, 1, 1, .rws1c, 0x0, 16⟩
def HDR_ERR_TAG_DUP : Field := ⟨HDR_ERR, 0, 1, .rws1c, 0x0, 16⟩

/-- `HDR_ERR_CAP`, chapter 02. -/
def HDR_ERR_CAP : RegAt := ⟨0x4020, 12, 0x40, 1, 0x0, 1, 0x0⟩
def HDR_ERR_CAP_VALID : Field := ⟨HDR_ERR_CAP, 63, 1, .rws1c, 0x0, 16⟩
def HDR_ERR_CAP_KIND : Field := ⟨HDR_ERR_CAP, 16, 3, .rws, 0x0, 16⟩
def HDR_ERR_CAP_SLOT : Field := ⟨HDR_ERR_CAP, 12, 1, .rws, 0x0, 16⟩
def HDR_ERR_CAP_TAG : Field := ⟨HDR_ERR_CAP, 0, 12, .rws, 0x0, 16⟩

/-- `MOR_CTRL`, chapter 03. -/
def MOR_CTRL : RegAt := ⟨0x5000, 1, 0x0, 1, 0x0, 1, 0x0⟩
def MOR_CTRL_PEAK_CLR : Field := ⟨MOR_CTRL, 2, 1, .wo, 0x0, 16⟩
def MOR_CTRL_RSV_PROFILE : Field := ⟨MOR_CTRL, 0, 2, .rw, 0x0, 16⟩

/-- `MOR_STATUS`, chapter 03. -/
def MOR_STATUS : RegAt := ⟨0x5008, 1, 0x0, 1, 0x0, 1, 0x0⟩
def MOR_STATUS_VCORE_MV : Field := ⟨MOR_STATUS, 32, 10, .ro, 0x0, 16⟩
def MOR_STATUS_QUIESCED : Field := ⟨MOR_STATUS, 2, 1, .ro, 0x1, 16⟩
def MOR_STATUS_DERATE_SEEN : Field := ⟨MOR_STATUS, 1, 1, .rws1c, 0x0, 16⟩
def MOR_STATUS_DERATE : Field := ⟨MOR_STATUS, 0, 1, .ro, 0x0, 16⟩

/-- `MOR_ERR`, chapter 03. -/
def MOR_ERR : RegAt := ⟨0x5010, 1, 0x0, 1, 0x0, 1, 0x0⟩
def MOR_ERR_STALL : Field := ⟨MOR_ERR, 8, 4, .rws1c, 0x0, 16⟩
def MOR_ERR_UNCORR : Field := ⟨MOR_ERR, 4, 4, .rws1c, 0x0, 16⟩
def MOR_ERR_CORR : Field := ⟨MOR_ERR, 0, 4, .rws1c, 0x0, 16⟩

/-- `MOR_PART_STATUS`, chapter 03. -/
def MOR_PART_STATUS : RegAt := ⟨0x100200, 24, 0x40000, 1, 0x0, 1, 0x0⟩
def MOR_PART_STATUS_PEAK : Field := ⟨MOR_PART_STATUS, 36, 12, .ro, 0x0, 16⟩
def MOR_PART_STATUS_HELD : Field := ⟨MOR_PART_STATUS, 16, 12, .ro, 0x0, 16⟩
def MOR_PART_STATUS_OCC : Field := ⟨MOR_PART_STATUS, 0, 12, .ro, 0x0, 16⟩

/-- `MOR_RSV_CFG`, chapter 03. -/
def MOR_RSV_CFG : RegAt := ⟨0x100208, 24, 0x40000, 1, 0x0, 1, 0x0⟩
def MOR_RSV_CFG_BOND_RSV : Field := ⟨MOR_RSV_CFG, 16, 10, .rwx, 0x40, 2⟩
def MOR_RSV_CFG_MASON_RSV : Field := ⟨MOR_RSV_CFG, 0, 10, .rwx, 0x40, 2⟩

/-- `MAP_RGN_BASE`, chapter 04. -/
def MAP_RGN_BASE : RegAt := ⟨0x6000, 64, 0x20, 1, 0x0, 1, 0x0⟩
def MAP_RGN_BASE_BASE : Field := ⟨MAP_RGN_BASE, 21, 31, .rws, 0x0, 16⟩

/-- `MAP_RGN_LIMIT`, chapter 04. -/
def MAP_RGN_LIMIT : RegAt := ⟨0x6008, 64, 0x20, 1, 0x0, 1, 0x0⟩
def MAP_RGN_LIMIT_LIMIT : Field := ⟨MAP_RGN_LIMIT, 21, 31, .rws, 0x0, 16⟩

/-- `MAP_RGN_CTL`, chapter 04. -/
def MAP_RGN_CTL : RegAt := ⟨0x6010, 64, 0x20, 1, 0x0, 1, 0x0⟩
def MAP_RGN_CTL_VALID : Field := ⟨MAP_RGN_CTL, 63, 1, .rws, 0x0, 16⟩
def MAP_RGN_CTL_TYPE : Field := ⟨MAP_RGN_CTL, 58, 2, .rws, 0x0, 16⟩
def MAP_RGN_CTL_PRIV_MIN : Field := ⟨MAP_RGN_CTL, 56, 2, .rws, 0x0, 16⟩
def MAP_RGN_CTL_SEC : Field := ⟨MAP_RGN_CTL, 54, 2, .rws, 0x0, 16⟩
def MAP_RGN_CTL_WAYS : Field := ⟨MAP_RGN_CTL, 50, 4, .rws, 0x0, 16⟩
def MAP_RGN_CTL_GRAN : Field := ⟨MAP_RGN_CTL, 48, 2, .rwx, 0x0, 1⟩
def MAP_RGN_CTL_HASH : Field := ⟨MAP_RGN_CTL, 47, 1, .rwx, 0x1, 1⟩
def MAP_RGN_CTL_CHOFF : Field := ⟨MAP_RGN_CTL, 24, 18, .rws, 0x0, 16⟩
def MAP_RGN_CTL_CH_MASK : Field := ⟨MAP_RGN_CTL, 0, 24, .rws, 0x0, 16⟩

/-- `MAP_GEOM`, chapter 04. -/
def MAP_GEOM : RegAt := ⟨0x100100, 24, 0x40000, 1, 0x0, 1, 0x0⟩
def MAP_GEOM_VALID : Field := ⟨MAP_GEOM, 63, 1, .rws, 0x0, 16⟩
def MAP_GEOM_CAP_GIB : Field := ⟨MAP_GEOM, 32, 16, .ro, 0x0, 16⟩
def MAP_GEOM_BANK_HASH : Field := ⟨MAP_GEOM, 8, 1, .rwx, 0x1, 1⟩
def MAP_GEOM_PHYS : Field := ⟨MAP_GEOM, 6, 1, .rws, 0x0, 16⟩
def MAP_GEOM_HEIGHT : Field := ⟨MAP_GEOM, 4, 2, .rws, 0x0, 16⟩
def MAP_GEOM_WIDTH : Field := ⟨MAP_GEOM, 3, 1, .rws, 0x0, 16⟩
def MAP_GEOM_DENS : Field := ⟨MAP_GEOM, 0, 3, .rws, 0x0, 16⟩

/-- `MAP_CTRL`, chapter 04. -/
def MAP_CTRL : RegAt := ⟨0x6800, 1, 0x0, 1, 0x0, 1, 0x0⟩
def MAP_CTRL_PROFILE : Field := ⟨MAP_CTRL, 0, 2, .rw, 0x0, 16⟩

/-- `MAP_ERR`, chapter 04. -/
def MAP_ERR : RegAt := ⟨0x6808, 1, 0x0, 1, 0x0, 1, 0x0⟩
def MAP_ERR_ENTRY : Field := ⟨MAP_ERR, 40, 6, .ro, 0x0, 16⟩
def MAP_ERR_GEOM_BAD : Field := ⟨MAP_ERR, 2, 1, .rw1c, 0x0, 16⟩
def MAP_ERR_LIVE_WRITE : Field := ⟨MAP_ERR, 1, 1, .rw1c, 0x0, 16⟩
def MAP_ERR_BAD_ENTRY : Field := ⟨MAP_ERR, 0, 1, .rw1c, 0x0, 16⟩

/-- `SET_CTRL`, chapter 05. -/
def SET_CTRL : RegAt := ⟨0x101000, 24, 0x40000, 1, 0x0, 1, 0x0⟩
def SET_CTRL_PROFILE : Field := ⟨SET_CTRL, 0, 2, .rw, 0x0, 16⟩

/-- `SET_STATUS`, chapter 05. -/
def SET_STATUS : RegAt := ⟨0x101008, 24, 0x40000, 1, 0x0, 1, 0x0⟩
def SET_STATUS_RUBBLE_AGE : Field := ⟨SET_STATUS, 32, 16, .ro, 0x0, 16⟩
def SET_STATUS_RUBBLE_DEPTH : Field := ⟨SET_STATUS, 0, 12, .ro, 0x0, 16⟩

/-- `SET_ERR`, chapter 05. -/
def SET_ERR : RegAt := ⟨0x101010, 24, 0x40000, 1, 0x0, 1, 0x0⟩
def SET_ERR_FIRST_MASON : Field := ⟨SET_ERR, 32, 8, .rwsRo, 0x0, 16⟩
def SET_ERR_RTL_COUNT : Field := ⟨SET_ERR, 16, 16, .rwsRo, 0x0, 16⟩
def SET_ERR_RTL : Field := ⟨SET_ERR, 0, 1, .rws1c, 0x0, 16⟩

/-- `SET_WINDOW`, chapter 05. -/
def SET_WINDOW : RegAt := ⟨0x101018, 24, 0x40000, 1, 0x0, 1, 0x0⟩
def SET_WINDOW_FINE : Field := ⟨SET_WINDOW, 16, 1, .ro, 0x0, 16⟩
def SET_WINDOW_WHOLE : Field := ⟨SET_WINDOW, 0, 16, .ro, 0x0, 16⟩

/-- `SET_QID_SEL`, chapter 05. -/
def SET_QID_SEL : RegAt := ⟨0x101020, 24, 0x40000, 1, 0x0, 1, 0x0⟩
def SET_QID_SEL_QID : Field := ⟨SET_QID_SEL, 0, 12, .rw, 0x0, 16⟩

/-- `SET_QID_CLASS`, chapter 05. -/
def SET_QID_CLASS : RegAt := ⟨0x101028, 24, 0x40000, 1, 0x0, 1, 0x0⟩
def SET_QID_CLASS_CLASS : Field := ⟨SET_QID_CLASS, 0, 4, .rws, 0x4, 16⟩

/-- `SET_CLASS_TABLE`, chapter 05. -/
def SET_CLASS_TABLE : RegAt := ⟨0x101100, 24, 0x40000, 16, 0x8, 1, 0x0⟩
def SET_CLASS_TABLE_DEPTH : Field := ⟨SET_CLASS_TABLE, 48, 12, .ro, 0x0, 16⟩
def SET_CLASS_TABLE_DEFICIT : Field := ⟨SET_CLASS_TABLE, 16, 18, .ro, 0x0, 16⟩
def SET_CLASS_TABLE_WEIGHT : Field := ⟨SET_CLASS_TABLE, 0, 16, .rwx, 0x100, 3⟩

/-- `GAU_CTRL`, chapter 05. -/
def GAU_CTRL : RegAt := ⟨0x101800, 24, 0x40000, 1, 0x0, 1, 0x0⟩
def GAU_CTRL_PROFILE : Field := ⟨GAU_CTRL, 0, 2, .rw, 0x0, 16⟩

/-- `GAU_SEL`, chapter 05. -/
def GAU_SEL : RegAt := ⟨0x101808, 24, 0x40000, 1, 0x0, 1, 0x0⟩
def GAU_SEL_QID : Field := ⟨GAU_SEL, 0, 12, .rw, 0x0, 16⟩

/-- `GAU_RATE`, chapter 05. -/
def GAU_RATE : RegAt := ⟨0x101810, 24, 0x40000, 1, 0x0, 1, 0x0⟩
def GAU_RATE_MODE : Field := ⟨GAU_RATE, 62, 2, .rwx, 0x0, 4⟩
def GAU_RATE_PIR : Field := ⟨GAU_RATE, 24, 24, .rws, 0xFFFFFF, 16⟩
def GAU_RATE_CIR : Field := ⟨GAU_RATE, 0, 24, .rws, 0xFFFFFF, 16⟩

/-- `GAU_BURST`, chapter 05. -/
def GAU_BURST : RegAt := ⟨0x101818, 24, 0x40000, 1, 0x0, 1, 0x0⟩
def GAU_BURST_PBS : Field := ⟨GAU_BURST, 20, 20, .rws, 0xFFFFF, 16⟩
def GAU_BURST_CBS : Field := ⟨GAU_BURST, 0, 20, .rws, 0xFFFFF, 16⟩

/-- `GAU_STATE`, chapter 05. -/
def GAU_STATE : RegAt := ⟨0x101820, 24, 0x40000, 1, 0x0, 1, 0x0⟩
def GAU_STATE_TP : Field := ⟨GAU_STATE, 32, 32, .ro, 0x0, 16⟩
def GAU_STATE_TC : Field := ⟨GAU_STATE, 0, 32, .ro, 0x0, 16⟩

/-- `GAU_CMD`, chapter 05. -/
def GAU_CMD : RegAt := ⟨0x101828, 24, 0x40000, 1, 0x0, 1, 0x0⟩
def GAU_CMD_REFILL_ALL : Field := ⟨GAU_CMD, 1, 1, .wo, 0x0, 16⟩
def GAU_CMD_REFILL : Field := ⟨GAU_CMD, 0, 1, .wo, 0x0, 16⟩

/-- `GAU_ERR`, chapter 05. -/
def GAU_ERR : RegAt := ⟨0x101830, 24, 0x40000, 1, 0x0, 1, 0x0⟩
def GAU_ERR_QID : Field := ⟨GAU_ERR, 32, 12, .ro, 0x0, 16⟩
def GAU_ERR_BURST_CLAMP : Field := ⟨GAU_ERR, 1, 1, .rw1c, 0x0, 16⟩
def GAU_ERR_RATE_CLAMP : Field := ⟨GAU_ERR, 0, 1, .rw1c, 0x0, 16⟩

/-- `TIM_RATE`, chapter 06. -/
def TIM_RATE : RegAt := ⟨0x102000, 24, 0x40000, 1, 0x0, 1, 0x0⟩
def TIM_RATE_DIMM : Field := ⟨TIM_RATE, 8, 2, .rws, 0x0, 16⟩
def TIM_RATE_MULT : Field := ⟨TIM_RATE, 0, 6, .rws, 0xC, 16⟩

/-- `TIM_BANK`, chapter 06. -/
def TIM_BANK : RegAt := ⟨0x102008, 24, 0x40000, 1, 0x0, 1, 0x0⟩
def TIM_BANK_RTP : Field := ⟨TIM_BANK, 56, 8, .rwx, 0x3F, 3⟩
def TIM_BANK_FAW : Field := ⟨TIM_BANK, 48, 8, .rwx, 0xFF, 3⟩
def TIM_BANK_RRD_L : Field := ⟨TIM_BANK, 40, 8, .rwx, 0x3F, 3⟩
def TIM_BANK_RRD_S : Field := ⟨TIM_BANK, 32, 8, .rwx, 0x3F, 3⟩
def TIM_BANK_RC : Field := ⟨TIM_BANK, 24, 8, .rwx, 0xFF, 3⟩
def TIM_BANK_RAS : Field := ⟨TIM_BANK, 16, 8, .rwx, 0xFF, 3⟩
def TIM_BANK_RP : Field := ⟨TIM_BANK, 8, 8, .rwx, 0xFF, 3⟩
def TIM_BANK_RCD : Field := ⟨TIM_BANK, 0, 8, .rwx, 0xFF, 3⟩

/-- `TIM_COL`, chapter 06. -/
def TIM_COL : RegAt := ⟨0x102010, 24, 0x40000, 1, 0x0, 1, 0x0⟩
def TIM_COL_WTR_L : Field := ⟨TIM_COL, 56, 8, .rwx, 0x7F, 3⟩
def TIM_COL_WTR_S : Field := ⟨TIM_COL, 48, 8, .rwx, 0x3F, 3⟩
def TIM_COL_CWL : Field := ⟨TIM_COL, 40, 8, .rwx, 0xFF, 3⟩
def TIM_COL_CL : Field := ⟨TIM_COL, 32, 8, .rwx, 0xFF, 3⟩
def TIM_COL_CCD_L_WR : Field := ⟨TIM_COL, 24, 8, .rwx, 0x7F, 3⟩
def TIM_COL_CCD_L : Field := ⟨TIM_COL, 16, 8, .rwx, 0x3F, 3⟩
def TIM_COL_CCD_S : Field := ⟨TIM_COL, 8, 8, .rwx, 0xF, 3⟩
def TIM_COL_WR : Field := ⟨TIM_COL, 0, 8, .rwx, 0xFF, 3⟩

/-- `TIM_TURN`, chapter 06. -/
def TIM_TURN : RegAt := ⟨0x102018, 24, 0x40000, 1, 0x0, 1, 0x0⟩
def TIM_TURN_FAW_DLR : Field := ⟨TIM_TURN, 56, 8, .rwx, 0xFF, 3⟩
def TIM_TURN_RRD_DLR : Field := ⟨TIM_TURN, 48, 8, .rwx, 0x3F, 3⟩
def TIM_TURN_CCD_DLR : Field := ⟨TIM_TURN, 40, 8, .rwx, 0xF, 3⟩
def TIM_TURN_WTW_R : Field := ⟨TIM_TURN, 32, 8, .rwx, 0x1F, 3⟩
def TIM_TURN_RTR_R : Field := ⟨TIM_TURN, 24, 8, .rwx, 0x1F, 3⟩
def TIM_TURN_WTR_R_ADD : Field := ⟨TIM_TURN, 20, 4, .rwx, 0xF, 3⟩
def TIM_TURN_RTW_R_ADD : Field := ⟨TIM_TURN, 16, 4, .rwx, 0xF, 3⟩
def TIM_TURN_RTW_ADD : Field := ⟨TIM_TURN, 12, 4, .rwx, 0xF, 3⟩
def TIM_TURN_PPD : Field := ⟨TIM_TURN, 0, 8, .rwx, 0xF, 3⟩

/-- `TIM_REF`, chapter 06. -/
def TIM_REF : RegAt := ⟨0x102020, 24, 0x40000, 1, 0x0, 1, 0x0⟩
def TIM_REF_RFCSB : Field := ⟨TIM_REF, 48, 16, .rwx, 0xFFFF, 3⟩
def TIM_REF_RFC2 : Field := ⟨TIM_REF, 32, 16, .rwx, 0xFFFF, 3⟩
def TIM_REF_RFC1 : Field := ⟨TIM_REF, 16, 16, .rwx, 0xFFFF, 3⟩
def TIM_REF_REFI : Field := ⟨TIM_REF, 0, 16, .rwx, 0x100, 3⟩

/-- `TIM_REF2`, chapter 06. -/
def TIM_REF2 : RegAt := ⟨0x102028, 24, 0x40000, 1, 0x0, 1, 0x0⟩
def TIM_REF2_RFC_DLR : Field := ⟨TIM_REF2, 48, 16, .rwx, 0xFFFF, 3⟩
def TIM_REF2_RFMSB : Field := ⟨TIM_REF2, 32, 16, .rwx, 0xFFFF, 3⟩
def TIM_REF2_RFM1 : Field := ⟨TIM_REF2, 16, 16, .rwx, 0xFFFF, 3⟩
def TIM_REF2_REFSBRD : Field := ⟨TIM_REF2, 0, 16, .rwx, 0xFFFF, 3⟩

/-- `TIM_MNT`, chapter 06. -/
def TIM_MNT : RegAt := ⟨0x102030, 24, 0x40000, 1, 0x0, 1, 0x0⟩
def TIM_MNT_ZQCAL : Field := ⟨TIM_MNT, 48, 16, .rwx, 0xFFFF, 3⟩
def TIM_MNT_ZQLAT : Field := ⟨TIM_MNT, 40, 8, .rwx, 0xFF, 3⟩
def TIM_MNT_MPC : Field := ⟨TIM_MNT, 32, 8, .rwx, 0xFF, 3⟩
def TIM_MNT_MRD : Field := ⟨TIM_MNT, 24, 8, .rwx, 0xFF, 3⟩
def TIM_MNT_MRW : Field := ⟨TIM_MNT, 16, 8, .rwx, 0xFF, 3⟩
def TIM_MNT_MRR : Field := ⟨TIM_MNT, 8, 8, .rwx, 0xFF, 3⟩
def TIM_MNT_PAR_ALERT : Field := ⟨TIM_MNT, 0, 8, .rwx, 0xFF, 3⟩

/-- `TIM_PWR`, chapter 06. -/
def TIM_PWR : RegAt := ⟨0x102038, 24, 0x40000, 1, 0x0, 1, 0x0⟩
def TIM_PWR_XS : Field := ⟨TIM_PWR, 32, 16, .rwx, 0xFFFF, 3⟩
def TIM_PWR_CSL : Field := ⟨TIM_PWR, 16, 8, .rwx, 0xFF, 3⟩
def TIM_PWR_XP : Field := ⟨TIM_PWR, 8, 8, .rwx, 0xFF, 3⟩
def TIM_PWR_PD : Field := ⟨TIM_PWR, 0, 8, .rwx, 0xFF, 3⟩

/-- `TIM_ALERT`, chapter 06. -/
def TIM_ALERT : RegAt := ⟨0x102040, 24, 0x40000, 1, 0x0, 1, 0x0⟩
def TIM_ALERT_ABO_DELAY : Field := ⟨TIM_ALERT, 48, 16, .rwx, 0xFFFF, 3⟩
def TIM_ALERT_ABO_ACT : Field := ⟨TIM_ALERT, 32, 16, .rwx, 0x1, 3⟩
def TIM_ALERT_PW_MAX : Field := ⟨TIM_ALERT, 16, 8, .rwx, 0x28, 3⟩
def TIM_ALERT_PW_MIN : Field := ⟨TIM_ALERT, 8, 8, .rwx, 0x14, 3⟩
def TIM_ALERT_RETRY : Field := ⟨TIM_ALERT, 0, 3, .rwx, 0x3, 3⟩

/-- `TIM_CTRL`, chapter 06. -/
def TIM_CTRL : RegAt := ⟨0x102048, 24, 0x40000, 1, 0x0, 1, 0x0⟩
def TIM_CTRL_APPLY : Field := ⟨TIM_CTRL, 2, 1, .wo, 0x0, 16⟩
def TIM_CTRL_BIN : Field := ⟨TIM_CTRL, 0, 2, .rw, 0x0, 16⟩

/-- `TIM_STATUS`, chapter 06. -/
def TIM_STATUS : RegAt := ⟨0x102050, 24, 0x40000, 1, 0x0, 1, 0x0⟩
def TIM_STATUS_BURST : Field := ⟨TIM_STATUS, 16, 8, .ro, 0x2, 16⟩
def TIM_STATUS_PHASE_B : Field := ⟨TIM_STATUS, 5, 1, .ro, 0x0, 16⟩
def TIM_STATUS_PHASE_A : Field := ⟨TIM_STATUS, 4, 1, .ro, 0x0, 16⟩
def TIM_STATUS_PEND : Field := ⟨TIM_STATUS, 1, 1, .ro, 0x0, 16⟩
def TIM_STATUS_LIVE : Field := ⟨TIM_STATUS, 0, 1, .ro, 0x0, 16⟩

/-- `TIM_ISSUE`, chapter 06. -/
def TIM_ISSUE : RegAt := ⟨0x102058, 24, 0x40000, 1, 0x0, 1, 0x0⟩
def TIM_ISSUE_WR_AGE : Field := ⟨TIM_ISSUE, 56, 8, .rwx, 0x28, 3⟩
def TIM_ISSUE_DRAIN_MAX : Field := ⟨TIM_ISSUE, 48, 8, .rwx, 0x20, 3⟩
def TIM_ISSUE_WR_LO : Field := ⟨TIM_ISSUE, 39, 9, .rwx, 0x80, 3⟩
def TIM_ISSUE_WR_HI : Field := ⟨TIM_ISSUE, 30, 9, .rwx, 0x180, 3⟩
def TIM_ISSUE_BYPASS_MAX : Field := ⟨TIM_ISSUE, 24, 6, .rwx, 0x10, 3⟩
def TIM_ISSUE_IDLE_CLOSE : Field := ⟨TIM_ISSUE, 12, 12, .rwx, 0x40, 3⟩
def TIM_ISSUE_POLICY : Field := ⟨TIM_ISSUE, 0, 2, .rw, 0x0, 16⟩

/-- `TIM_ERR`, chapter 06. -/
def TIM_ERR : RegAt := ⟨0x102060, 24, 0x40000, 1, 0x0, 1, 0x0⟩
def TIM_ERR_APPLY_ROW : Field := ⟨TIM_ERR, 56, 8, .ro, 0x0, 16⟩
def TIM_ERR_REPLAY_COUNT : Field := ⟨TIM_ERR, 32, 16, .rwsRo, 0x0, 16⟩
def TIM_ERR_TABLE_DIVERGE : Field := ⟨TIM_ERR, 7, 1, .rws1c, 0x0, 16⟩
def TIM_ERR_CHK_VIOLATION : Field := ⟨TIM_ERR, 6, 1, .rws1c, 0x0, 16⟩
def TIM_ERR_REPLAY_FAIL : Field := ⟨TIM_ERR, 5, 1, .rws1c, 0x0, 16⟩
def TIM_ERR_REPLAY : Field := ⟨TIM_ERR, 4, 1, .rws1c, 0x0, 16⟩
def TIM_ERR_ALERT_GLITCH : Field := ⟨TIM_ERR, 3, 1, .rws1c, 0x0, 16⟩
def TIM_ERR_APPLY_FLOOR : Field := ⟨TIM_ERR, 2, 1, .rw1c, 0x0, 16⟩
def TIM_ERR_APPLY_CONSIST : Field := ⟨TIM_ERR, 1, 1, .rw1c, 0x0, 16⟩
def TIM_ERR_APPLY_RANGE : Field := ⟨TIM_ERR, 0, 1, .rw1c, 0x0, 16⟩

/-- `TIM_CHK_CAP`, chapter 06. -/
def TIM_CHK_CAP : RegAt := ⟨0x102068, 24, 0x40000, 1, 0x0, 1, 0x0⟩
def TIM_CHK_CAP_VALID : Field := ⟨TIM_CHK_CAP, 63, 1, .rws1c, 0x0, 16⟩
def TIM_CHK_CAP_RULE : Field := ⟨TIM_CHK_CAP, 50, 6, .rws, 0x0, 16⟩
def TIM_CHK_CAP_SUB : Field := ⟨TIM_CHK_CAP, 49, 1, .rws, 0x0, 16⟩
def TIM_CHK_CAP_RANK : Field := ⟨TIM_CHK_CAP, 47, 2, .rws, 0x0, 16⟩
def TIM_CHK_CAP_BG : Field := ⟨TIM_CHK_CAP, 44, 3, .rws, 0x0, 16⟩
def TIM_CHK_CAP_BANK : Field := ⟨TIM_CHK_CAP, 42, 2, .rws, 0x0, 16⟩
def TIM_CHK_CAP_CMD : Field := ⟨TIM_CHK_CAP, 37, 5, .rws, 0x0, 16⟩
def TIM_CHK_CAP_SHORT : Field := ⟨TIM_CHK_CAP, 0, 16, .rws, 0x0, 16⟩

/-- `PNT_CTRL`, chapter 07. -/
def PNT_CTRL : RegAt := ⟨0x103000, 24, 0x40000, 1, 0x0, 1, 0x0⟩
def PNT_CTRL_SR_REQ : Field := ⟨PNT_CTRL, 6, 1, .rw, 0x0, 16⟩
def PNT_CTRL_LP : Field := ⟨PNT_CTRL, 4, 2, .rw, 0x0, 16⟩
def PNT_CTRL_PROT : Field := ⟨PNT_CTRL, 2, 2, .rw, 0x0, 16⟩
def PNT_CTRL_MODE : Field := ⟨PNT_CTRL, 0, 2, .rw, 0x0, 16⟩

/-- `PNT_CFG`, chapter 07. -/
def PNT_CFG : RegAt := ⟨0x103008, 24, 0x40000, 1, 0x0, 1, 0x0⟩
def PNT_CFG_ZQ_PERIOD : Field := ⟨PNT_CFG, 48, 16, .rwx, 0x80, 5⟩
def PNT_CFG_MR4_PERIOD : Field := ⟨PNT_CFG, 32, 16, .rwx, 0xFA0, 5⟩
def PNT_CFG_PULL_IDLE : Field := ⟨PNT_CFG, 16, 16, .rwx, 0x400, 5⟩
def PNT_CFG_PULL_MAX : Field := ⟨PNT_CFG, 4, 3, .rwx, 0x4, 5⟩
def PNT_CFG_POST_MAX : Field := ⟨PNT_CFG, 0, 3, .rwx, 0x4, 5⟩

/-- `PNT_PROT`, chapter 07. -/
def PNT_PROT : RegAt := ⟨0x103010, 24, 0x40000, 1, 0x0, 1, 0x0⟩
def PNT_PROT_ACT_TH : Field := ⟨PNT_PROT, 48, 16, .rwx, 0x400, 5⟩
def PNT_PROT_RAA_IMT : Field := ⟨PNT_PROT, 40, 8, .rwx, 0x0, 5⟩
def PNT_PROT_RAA_MMT : Field := ⟨PNT_PROT, 28, 10, .rwx, 0x0, 5⟩
def PNT_PROT_ABO_RFM : Field := ⟨PNT_PROT, 8, 2, .rwx, 0x0, 5⟩
def PNT_PROT_TRACK_EN : Field := ⟨PNT_PROT, 2, 1, .rwx, 0x1, 5⟩
def PNT_PROT_RFM_EN : Field := ⟨PNT_PROT, 1, 1, .rwx, 0x1, 5⟩
def PNT_PROT_PRAC_EN : Field := ⟨PNT_PROT, 0, 1, .rwx, 0x1, 5⟩

/-- `PNT_LP`, chapter 07. -/
def PNT_LP : RegAt := ⟨0x103018, 24, 0x40000, 1, 0x0, 1, 0x0⟩
def PNT_LP_SR_IDLE : Field := ⟨PNT_LP, 32, 32, .rwx, 0x0, 5⟩
def PNT_LP_PD_IDLE : Field := ⟨PNT_LP, 16, 16, .rwx, 0x100, 5⟩
def PNT_LP_PLL_OFF : Field := ⟨PNT_LP, 0, 1, .rwx, 0x1, 5⟩

/-- `PNT_STATUS`, chapter 07. -/
def PNT_STATUS : RegAt := ⟨0x103020, 24, 0x40000, 1, 0x0, 1, 0x0⟩
def PNT_STATUS_COLD_LEFT : Field := ⟨PNT_STATUS, 32, 8, .ro, 0x0, 16⟩
def PNT_STATUS_OWED : Field := ⟨PNT_STATUS, 24, 6, .ro, 0x0, 16⟩
def PNT_STATUS_PD : Field := ⟨PNT_STATUS, 16, 4, .ro, 0x0, 16⟩
def PNT_STATUS_METHOD : Field := ⟨PNT_STATUS, 12, 2, .ro, 0x3, 16⟩
def PNT_STATUS_MODE_IN : Field := ⟨PNT_STATUS, 10, 2, .ro, 0x0, 16⟩
def PNT_STATUS_RATE2X : Field := ⟨PNT_STATUS, 9, 1, .ro, 0x0, 16⟩
def PNT_STATUS_COLD : Field := ⟨PNT_STATUS, 8, 1, .ro, 0x0, 16⟩
def PNT_STATUS_LPSTATE : Field := ⟨PNT_STATUS, 0, 3, .ro, 0x4, 16⟩

/-- `PNT_ERR`, chapter 07. -/
def PNT_ERR : RegAt := ⟨0x103028, 24, 0x40000, 1, 0x0, 1, 0x0⟩
def PNT_ERR_PREEMPT : Field := ⟨PNT_ERR, 3, 1, .rws1c, 0x0, 16⟩
def PNT_ERR_TEMP_LIMIT : Field := ⟨PNT_ERR, 2, 1, .rws1c, 0x0, 16⟩
def PNT_ERR_EXTRA_REF : Field := ⟨PNT_ERR, 1, 1, .rws1c, 0x0, 16⟩
def PNT_ERR_RAA_BLOCK : Field := ⟨PNT_ERR, 0, 1, .rws1c, 0x0, 16⟩

/-- `ASH_CTRL`, chapter 08. -/
def ASH_CTRL : RegAt := ⟨0x104000, 24, 0x40000, 1, 0x0, 1, 0x0⟩
def ASH_CTRL_X8_ERASE : Field := ⟨ASH_CTRL, 4, 1, .rwx, 0x0, 6⟩
def ASH_CTRL_ACCEPT : Field := ⟨ASH_CTRL, 3, 1, .rwx, 0x0, 6⟩
def ASH_CTRL_PROFILE : Field := ⟨ASH_CTRL, 0, 2, .rw, 0x0, 16⟩

/-- `ASH_SCRUB`, chapter 08. -/
def ASH_SCRUB : RegAt := ⟨0x104008, 24, 0x40000, 1, 0x0, 1, 0x0⟩
def ASH_SCRUB_BUDGET : Field := ⟨ASH_SCRUB, 8, 6, .rwx, 0xA, 6⟩
def ASH_SCRUB_PERIOD : Field := ⟨ASH_SCRUB, 0, 8, .rwx, 0x18, 6⟩

/-- `ASH_INIT`, chapter 08. -/
def ASH_INIT : RegAt := ⟨0x104010, 24, 0x40000, 1, 0x0, 1, 0x0⟩
def ASH_INIT_START : Field := ⟨ASH_INIT, 63, 1, .wo, 0x0, 16⟩
def ASH_INIT_DONE : Field := ⟨ASH_INIT, 62, 1, .ro, 0x0, 16⟩
def ASH_INIT_BUSY : Field := ⟨ASH_INIT, 61, 1, .ro, 0x0, 16⟩
def ASH_INIT_COUNT : Field := ⟨ASH_INIT, 18, 18, .rw, 0x0, 16⟩
def ASH_INIT_START_OFF : Field := ⟨ASH_INIT, 0, 18, .rw, 0x0, 16⟩

/-- `ASH_SPARE`, chapter 08. -/
def ASH_SPARE : RegAt := ⟨0x104018, 24, 0x40000, 1, 0x0, 1, 0x0⟩
def ASH_SPARE_CURSOR : Field := ⟨ASH_SPARE, 32, 32, .ro, 0x0, 16⟩
def ASH_SPARE_STATE : Field := ⟨ASH_SPARE, 8, 2, .rws, 0x0, 16⟩
def ASH_SPARE_FROM : Field := ⟨ASH_SPARE, 6, 2, .rws, 0x0, 16⟩
def ASH_SPARE_TO : Field := ⟨ASH_SPARE, 4, 2, .rwx, 0x0, 6⟩
def ASH_SPARE_EN : Field := ⟨ASH_SPARE, 0, 1, .rwx, 0x0, 6⟩

/-- `ASH_STATUS`, chapter 08. -/
def ASH_STATUS : RegAt := ⟨0x104020, 24, 0x40000, 1, 0x0, 1, 0x0⟩
def ASH_STATUS_PASSES : Field := ⟨ASH_STATUS, 32, 32, .ro, 0x0, 16⟩
def ASH_STATUS_UNGUARDED : Field := ⟨ASH_STATUS, 2, 4, .ro, 0x0, 16⟩
def ASH_STATUS_PATROL_LATE : Field := ⟨ASH_STATUS, 1, 1, .ro, 0x0, 16⟩
def ASH_STATUS_PATROL_ON : Field := ⟨ASH_STATUS, 0, 1, .ro, 0x0, 16⟩

/-- `ASH_THRESH`, chapter 08. -/
def ASH_THRESH : RegAt := ⟨0x104100, 24, 0x40000, 2, 0x100, 1, 0x0⟩
def ASH_THRESH_LEAK : Field := ⟨ASH_THRESH, 8, 16, .rwx, 0x3C, 6⟩
def ASH_THRESH_MARK : Field := ⟨ASH_THRESH, 0, 6, .rwx, 0x18, 6⟩

/-- `ASH_MARK`, chapter 08. -/
def ASH_MARK : RegAt := ⟨0x104108, 24, 0x40000, 2, 0x100, 1, 0x0⟩
def ASH_MARK_MARKS : Field := ⟨ASH_MARK, 0, 20, .rws, 0x0, 16⟩

/-- `ASH_DEV_CNT`, chapter 08. -/
def ASH_DEV_CNT : RegAt := ⟨0x104110, 24, 0x40000, 2, 0x100, 4, 0x8⟩
def ASH_DEV_CNT_CNT : Field := ⟨ASH_DEV_CNT, 0, 60, .devCnt, 0x0, 16⟩

/-- `ASH_COUNT`, chapter 08. -/
def ASH_COUNT : RegAt := ⟨0x104130, 24, 0x40000, 2, 0x100, 1, 0x0⟩
def ASH_COUNT_CE : Field := ⟨ASH_COUNT, 32, 32, .rwsOnes, 0x0, 16⟩
def ASH_COUNT_UE : Field := ⟨ASH_COUNT, 16, 16, .rwsOnes, 0x0, 16⟩
def ASH_COUNT_AMM : Field := ⟨ASH_COUNT, 0, 16, .rwsOnes, 0x0, 16⟩

/-- `ASH_ERR`, chapter 08. -/
def ASH_ERR : RegAt := ⟨0x104138, 24, 0x40000, 2, 0x100, 1, 0x0⟩
def ASH_ERR_BITS : Field := ⟨ASH_ERR, 0, 10, .rws1c, 0x0, 16⟩

/-- `ASH_ERR_CAP`, chapter 08. -/
def ASH_ERR_CAP : RegAt := ⟨0x104140, 24, 0x40000, 2, 0x100, 1, 0x0⟩
def ASH_ERR_CAP_VALID : Field := ⟨ASH_ERR_CAP, 63, 1, .rws1c, 0x0, 16⟩
def ASH_ERR_CAP_KIND : Field := ⟨ASH_ERR_CAP, 59, 4, .rws, 0x0, 16⟩
def ASH_ERR_CAP_DEV : Field := ⟨ASH_ERR_CAP, 55, 4, .rws, 0x0, 16⟩
def ASH_ERR_CAP_RANK : Field := ⟨ASH_ERR_CAP, 53, 2, .rws, 0x0, 16⟩
def ASH_ERR_CAP_LINE : Field := ⟨ASH_ERR_CAP, 0, 46, .rws, 0x0, 16⟩

/-- `SCR_CTRL`, chapter 09. -/
def SCR_CTRL : RegAt := ⟨0x105000, 24, 0x40000, 1, 0x0, 1, 0x0⟩
def SCR_CTRL_RESUME_EN : Field := ⟨SCR_CTRL, 2, 1, .rws, 0x1, 16⟩
def SCR_CTRL_PROFILE : Field := ⟨SCR_CTRL, 0, 2, .rws, 0x0, 16⟩

/-- `SCR_CMD`, chapter 09. -/
def SCR_CMD : RegAt := ⟨0x105008, 24, 0x40000, 1, 0x0, 1, 0x0⟩
def SCR_CMD_STORE : Field := ⟨SCR_CMD, 2, 1, .wo, 0x0, 16⟩
def SCR_CMD_RETRAIN : Field := ⟨SCR_CMD, 1, 1, .wo, 0x0, 16⟩
def SCR_CMD_TRAIN : Field := ⟨SCR_CMD, 0, 1, .wo, 0x0, 16⟩

/-- `SCR_STATUS`, chapter 09. -/
def SCR_STATUS : RegAt := ⟨0x105010, 24, 0x40000, 1, 0x0, 1, 0x0⟩
def SCR_STATUS_STEP : Field := ⟨SCR_STATUS, 32, 4, .ro, 0x0, 16⟩
def SCR_STATUS_BASE : Field := ⟨SCR_STATUS, 24, 8, .ro, 0x0, 16⟩
def SCR_STATUS_TEMP : Field := ⟨SCR_STATUS, 16, 8, .ro, 0x0, 16⟩
def SCR_STATUS_ATTEMPT : Field := ⟨SCR_STATUS, 8, 8, .ro, 0x0, 16⟩
def SCR_STATUS_RESUMED : Field := ⟨SCR_STATUS, 7, 1, .ro, 0x0, 16⟩
def SCR_STATUS_FLOOR : Field := ⟨SCR_STATUS, 6, 1, .ro, 0x0, 16⟩
def SCR_STATUS_CLAMPED : Field := ⟨SCR_STATUS, 5, 1, .ro, 0x0, 16⟩
def SCR_STATUS_STATE : Field := ⟨SCR_STATUS, 0, 3, .ro, 0x0, 16⟩

/-- `SCR_ERR`, chapter 09. -/
def SCR_ERR : RegAt := ⟨0x105018, 24, 0x40000, 1, 0x0, 1, 0x0⟩
def SCR_ERR_PLL_LOCK : Field := ⟨SCR_ERR, 6, 1, .rws1c, 0x0, 16⟩
def SCR_ERR_CMD_REFUSED : Field := ⟨SCR_ERR, 5, 1, .rws1c, 0x0, 16⟩
def SCR_ERR_RETRAIN_CLAMP : Field := ⟨SCR_ERR, 4, 1, .rws1c, 0x0, 16⟩
def SCR_ERR_RETRAIN_STUCK : Field := ⟨SCR_ERR, 3, 1, .rws1c, 0x0, 16⟩
def SCR_ERR_RETRAIN_FAIL : Field := ⟨SCR_ERR, 2, 1, .rws1c, 0x0, 16⟩
def SCR_ERR_RESUME_FAIL : Field := ⟨SCR_ERR, 1, 1, .rws1c, 0x0, 16⟩
def SCR_ERR_TRAIN_FAIL : Field := ⟨SCR_ERR, 0, 1, .rws1c, 0x0, 16⟩

/-- `SCR_GUARD`, chapter 09. -/
def SCR_GUARD : RegAt := ⟨0x105020, 24, 0x40000, 1, 0x0, 1, 0x0⟩
def SCR_GUARD_VREF : Field := ⟨SCR_GUARD, 16, 8, .rwx, 0x3, 7⟩
def SCR_GUARD_CA : Field := ⟨SCR_GUARD, 8, 8, .rwx, 0x20, 7⟩
def SCR_GUARD_DQ : Field := ⟨SCR_GUARD, 0, 8, .rwx, 0x13, 7⟩

/-- `SCR_SEED`, chapter 09. -/
def SCR_SEED : RegAt := ⟨0x105028, 24, 0x40000, 1, 0x0, 1, 0x0⟩
def SCR_SEED_WR : Field := ⟨SCR_SEED, 32, 32, .rwx, 0x3C5A96E1, 7⟩
def SCR_SEED_RD : Field := ⟨SCR_SEED, 0, 32, .rwx, 0x7B21D40F, 7⟩

/-- `SCR_LIMIT`, chapter 09. -/
def SCR_LIMIT : RegAt := ⟨0x105030, 24, 0x40000, 1, 0x0, 1, 0x0⟩
def SCR_LIMIT_STEP_MAX : Field := ⟨SCR_LIMIT, 32, 8, .rwx, 0x8, 7⟩
def SCR_LIMIT_ATTEMPTS : Field := ⟨SCR_LIMIT, 24, 3, .rwx, 0x2, 7⟩
def SCR_LIMIT_CHAN_MS : Field := ⟨SCR_LIMIT, 8, 16, .rwx, 0x1F4, 7⟩
def SCR_LIMIT_STEP_MS : Field := ⟨SCR_LIMIT, 0, 8, .rwx, 0x2, 7⟩

/-- `SCR_RETRAIN`, chapter 09. -/
def SCR_RETRAIN : RegAt := ⟨0x105038, 24, 0x40000, 1, 0x0, 1, 0x0⟩
def SCR_RETRAIN_FORCE_N : Field := ⟨SCR_RETRAIN, 24, 8, .rwx, 0x0, 7⟩
def SCR_RETRAIN_TEMP_DELTA : Field := ⟨SCR_RETRAIN, 16, 8, .rwx, 0x4, 7⟩
def SCR_RETRAIN_PERIOD : Field := ⟨SCR_RETRAIN, 0, 16, .rwx, 0x40, 7⟩

/-- `SCR_DIMM_ID`, chapter 09. -/
def SCR_DIMM_ID : RegAt := ⟨0x105040, 24, 0x40000, 1, 0x0, 1, 0x0⟩
def SCR_DIMM_ID_ID : Field := ⟨SCR_DIMM_ID, 0, 64, .rws, 0x0, 16⟩

/-- `SCR_RESULT`, chapter 09. -/
def SCR_RESULT : RegAt := ⟨0x105100, 24, 0x40000, 2, 0x100, 10, 0x8⟩
def SCR_RESULT_STALE : Field := ⟨SCR_RESULT, 63, 1, .ro, 0x0, 16⟩
def SCR_RESULT_VERDICT : Field := ⟨SCR_RESULT, 60, 3, .ro, 0x0, 16⟩
def SCR_RESULT_RANK : Field := ⟨SCR_RESULT, 58, 2, .ro, 0x0, 16⟩
def SCR_RESULT_ATTEMPT : Field := ⟨SCR_RESULT, 55, 3, .ro, 0x0, 16⟩
def SCR_RESULT_LANE_FAIL : Field := ⟨SCR_RESULT, 0, 40, .ro, 0x0, 16⟩

/-- `PLN_CTRL`, chapter 10. -/
def PLN_CTRL : RegAt := ⟨0x7000, 1, 0x0, 1, 0x0, 1, 0x0⟩
def PLN_CTRL_RETRY : Field := ⟨PLN_CTRL, 8, 3, .rwx, 0x3, 8⟩
def PLN_CTRL_PROFILE : Field := ⟨PLN_CTRL, 0, 2, .rw, 0x0, 16⟩

/-- `PLN_CMD`, chapter 10. -/
def PLN_CMD : RegAt := ⟨0x7008, 1, 0x0, 1, 0x0, 1, 0x0⟩
def PLN_CMD_ROW : Field := ⟨PLN_CMD, 16, 11, .wo, 0x0, 16⟩
def PLN_CMD_TYPE : Field := ⟨PLN_CMD, 8, 8, .wo, 0x0, 16⟩
def PLN_CMD_OP : Field := ⟨PLN_CMD, 0, 3, .wo, 0x0, 16⟩

/-- `PLN_STATUS`, chapter 10. -/
def PLN_STATUS : RegAt := ⟨0x7010, 1, 0x0, 1, 0x0, 1, 0x0⟩
def PLN_STATUS_FATAL_PREV : Field := ⟨PLN_STATUS, 4, 1, .ro, 0x0, 16⟩
def PLN_STATUS_SEAL_CHANGED : Field := ⟨PLN_STATUS, 3, 1, .ro, 0x0, 16⟩
def PLN_STATUS_CMD_FAIL : Field := ⟨PLN_STATUS, 2, 1, .ro, 0x0, 16⟩
def PLN_STATUS_READY : Field := ⟨PLN_STATUS, 1, 1, .ro, 0x0, 16⟩
def PLN_STATUS_BUSY : Field := ⟨PLN_STATUS, 0, 1, .ro, 0x1, 16⟩

/-- `PLN_VALID`, chapter 10. -/
def PLN_VALID : RegAt := ⟨0x7018, 1, 0x0, 1, 0x0, 1, 0x0⟩
def PLN_VALID_SLOT : Field := ⟨PLN_VALID, 32, 29, .ro, 0x0, 16⟩
def PLN_VALID_SMALL : Field := ⟨PLN_VALID, 24, 5, .ro, 0x0, 16⟩
def PLN_VALID_TRAIN : Field := ⟨PLN_VALID, 0, 24, .ro, 0x0, 16⟩

/-- `PLN_CYCLE`, chapter 10. -/
def PLN_CYCLE : RegAt := ⟨0x7020, 1, 0x0, 1, 0x0, 1, 0x0⟩
def PLN_CYCLE_COUNT : Field := ⟨PLN_CYCLE, 0, 64, .ro, 0x0, 16⟩

/-- `PLN_ERR`, chapter 10. -/
def PLN_ERR : RegAt := ⟨0x7028, 1, 0x0, 1, 0x0, 1, 0x0⟩
def PLN_ERR_CMD_REFUSED : Field := ⟨PLN_ERR, 3, 1, .rw1c, 0x0, 16⟩
def PLN_ERR_CYCLE_LOST : Field := ⟨PLN_ERR, 2, 1, .rw1c, 0x0, 16⟩
def PLN_ERR_WRITE_FAIL : Field := ⟨PLN_ERR, 1, 1, .rw1c, 0x0, 16⟩
def PLN_ERR_CORR : Field := ⟨PLN_ERR, 0, 1, .rw1c, 0x0, 16⟩

/-- `PLN_BUF`, chapter 10. -/
def PLN_BUF : RegAt := ⟨0x7040, 8, 0x8, 1, 0x0, 1, 0x0⟩
def PLN_BUF_DATA : Field := ⟨PLN_BUF, 0, 64, .rw, 0x0, 16⟩

/-- `MAS_CTRL`, chapter 11. -/
def MAS_CTRL : RegAt := ⟨0x200C000, 192, 0x10000, 1, 0x0, 1, 0x0⟩
def MAS_CTRL_HQID : Field := ⟨MAS_CTRL, 32, 12, .rwx, 0x0, 9⟩
def MAS_CTRL_HNS : Field := ⟨MAS_CTRL, 16, 1, .rwx, 0x1, 9⟩
def MAS_CTRL_OUT_MAX : Field := ⟨MAS_CTRL, 8, 5, .rwx, 0x10, 9⟩
def MAS_CTRL_RUN : Field := ⟨MAS_CTRL, 0, 1, .rwx, 0x0, 9⟩

/-- `MAS_CMD`, chapter 11. -/
def MAS_CMD : RegAt := ⟨0x200C008, 192, 0x10000, 1, 0x0, 1, 0x0⟩
def MAS_CMD_RESET : Field := ⟨MAS_CMD, 0, 1, .wo, 0x0, 16⟩

/-- `MAS_STATUS`, chapter 11. -/
def MAS_STATUS : RegAt := ⟨0x200C010, 192, 0x10000, 1, 0x0, 1, 0x0⟩
def MAS_STATUS_PC : Field := ⟨MAS_STATUS, 32, 12, .ro, 0x0, 16⟩
def MAS_STATUS_OUTSTANDING : Field := ⟨MAS_STATUS, 16, 5, .ro, 0x0, 16⟩
def MAS_STATUS_NESTED : Field := ⟨MAS_STATUS, 5, 1, .ro, 0x0, 16⟩
def MAS_STATUS_MODE : Field := ⟨MAS_STATUS, 4, 1, .ro, 0x1, 16⟩
def MAS_STATUS_STATE : Field := ⟨MAS_STATUS, 0, 3, .ro, 0x0, 16⟩

/-- `MAS_TASK`, chapter 11. -/
def MAS_TASK : RegAt := ⟨0x200C018, 192, 0x10000, 1, 0x0, 1, 0x0⟩
def MAS_TASK_NS : Field := ⟨MAS_TASK, 16, 1, .ro, 0x1, 16⟩
def MAS_TASK_PRIV : Field := ⟨MAS_TASK, 14, 2, .ro, 0x0, 16⟩
def MAS_TASK_QID : Field := ⟨MAS_TASK, 0, 12, .ro, 0x0, 16⟩

/-- `MAS_ERR`, chapter 11. -/
def MAS_ERR : RegAt := ⟨0x200C020, 192, 0x10000, 1, 0x0, 1, 0x0⟩
def MAS_ERR_BITS : Field := ⟨MAS_ERR, 0, 7, .rws1c, 0x0, 16⟩

/-- `TPL_CFG`, chapter 11. -/
def TPL_CFG : RegAt := ⟨0x200C100, 192, 0x10000, 1, 0x0, 1, 0x0⟩
def TPL_CFG_D_BIT : Field := ⟨TPL_CFG, 8, 6, .rwx, 0xB, 10⟩
def TPL_CFG_A_BIT : Field := ⟨TPL_CFG, 0, 6, .rwx, 0xA, 10⟩

/-- `TPL_ENTRY`, chapter 11. -/
def TPL_ENTRY : RegAt := ⟨0x200C200, 192, 0x10000, 64, 0x18, 3, 0x8⟩
def TPL_ENTRY_WORD : Field := ⟨TPL_ENTRY, 0, 64, .ro, 0x0, 16⟩

/-- `MAS_GLOBAL`, chapter 11. -/
def MAS_GLOBAL : RegAt := ⟨0x8000, 1, 0x0, 1, 0x0, 1, 0x0⟩
def MAS_GLOBAL_PROFILE : Field := ⟨MAS_GLOBAL, 0, 2, .rw, 0x0, 16⟩

/-- `MAS_IMG_ADDR`, chapter 11. -/
def MAS_IMG_ADDR : RegAt := ⟨0x8008, 1, 0x0, 1, 0x0, 1, 0x0⟩
def MAS_IMG_ADDR_ADDR : Field := ⟨MAS_IMG_ADDR, 6, 58, .rw, 0x0, 16⟩

/-- `MAS_IMG_CMD`, chapter 11. -/
def MAS_IMG_CMD : RegAt := ⟨0x8010, 1, 0x0, 1, 0x0, 1, 0x0⟩
def MAS_IMG_CMD_GO : Field := ⟨MAS_IMG_CMD, 63, 1, .wo, 0x0, 16⟩
def MAS_IMG_CMD_OP : Field := ⟨MAS_IMG_CMD, 48, 2, .wo, 0x0, 16⟩
def MAS_IMG_CMD_KIND : Field := ⟨MAS_IMG_CMD, 40, 1, .wo, 0x0, 16⟩
def MAS_IMG_CMD_LEN : Field := ⟨MAS_IMG_CMD, 0, 17, .wo, 0x0, 16⟩

/-- `MAS_IMG_STATUS`, chapter 11. -/
def MAS_IMG_STATUS : RegAt := ⟨0x8018, 2, 0x8, 1, 0x0, 1, 0x0⟩
def MAS_IMG_STATUS_VERSION : Field := ⟨MAS_IMG_STATUS, 32, 32, .ro, 0x0, 16⟩
def MAS_IMG_STATUS_SOURCE : Field := ⟨MAS_IMG_STATUS, 12, 4, .ro, 0x0, 16⟩
def MAS_IMG_STATUS_BUSY : Field := ⟨MAS_IMG_STATUS, 7, 1, .ro, 0x0, 16⟩
def MAS_IMG_STATUS_RESULT : Field := ⟨MAS_IMG_STATUS, 0, 4, .ro, 0x0, 16⟩

/-- `TPL_CTRL`, chapter 11. -/
def TPL_CTRL : RegAt := ⟨0x8100, 1, 0x0, 1, 0x0, 1, 0x0⟩
def TPL_CTRL_PROFILE : Field := ⟨TPL_CTRL, 0, 2, .rw, 0x0, 16⟩

/-- `HOD_CFG`, chapter 13. -/
def HOD_CFG : RegAt := ⟨0x3000040, 448, 0x1000, 1, 0x0, 1, 0x0⟩
def HOD_CFG_CARVE_PAGES : Field := ⟨HOD_CFG, 1, 9, .rwx, 0x0, 11⟩
def HOD_CFG_MODE : Field := ⟨HOD_CFG, 0, 1, .rwx, 0x0, 11⟩

/-- `HOD_CARVE`, chapter 13. -/
def HOD_CARVE : RegAt := ⟨0x3000048, 448, 0x1000, 1, 0x0, 1, 0x0⟩
def HOD_CARVE_BASE : Field := ⟨HOD_CARVE, 12, 40, .rwx, 0x0, 11⟩

/-- `HOD_STATUS`, chapter 13. -/
def HOD_STATUS : RegAt := ⟨0x3000050, 448, 0x1000, 1, 0x0, 1, 0x0⟩
def HOD_STATUS_RP_WP : Field := ⟨HOD_STATUS, 32, 10, .ro, 0x0, 16⟩
def HOD_STATUS_RING_RP : Field := ⟨HOD_STATUS, 22, 10, .ro, 0x0, 16⟩
def HOD_STATUS_MODE_IN : Field := ⟨HOD_STATUS, 21, 1, .ro, 0x0, 16⟩
def HOD_STATUS_CFG_REFUSED : Field := ⟨HOD_STATUS, 20, 1, .rw1c, 0x0, 16⟩
def HOD_STATUS_SPILL_ERR : Field := ⟨HOD_STATUS, 19, 1, .rws1c, 0x0, 16⟩
def HOD_STATUS_PTR_FAULT : Field := ⟨HOD_STATUS, 18, 1, .rws1c, 0x0, 16⟩
def HOD_STATUS_OVERRUN : Field := ⟨HOD_STATUS, 17, 1, .rws1c, 0x0, 16⟩
def HOD_STATUS_FULL : Field := ⟨HOD_STATUS, 16, 1, .ro, 0x0, 16⟩
def HOD_STATUS_HOD_COUNT : Field := ⟨HOD_STATUS, 0, 16, .ro, 0x0, 16⟩

/-- `HOD_CTRL`, chapter 13. -/
def HOD_CTRL : RegAt := ⟨0x31C0000, 1, 0x0, 1, 0x0, 1, 0x0⟩
def HOD_CTRL_SPILL_NS : Field := ⟨HOD_CTRL, 16, 1, .rwx, 0x0, 11⟩
def HOD_CTRL_SPILL_QID : Field := ⟨HOD_CTRL, 2, 12, .rwx, 0x0, 11⟩
def HOD_CTRL_PROFILE : Field := ⟨HOD_CTRL, 0, 2, .rw, 0x0, 16⟩

/-- `KEY_CTRL`, chapter 13. -/
def KEY_CTRL : RegAt := ⟨0xA000, 1, 0x0, 1, 0x0, 1, 0x0⟩
def KEY_CTRL_PROFILE : Field := ⟨KEY_CTRL, 0, 2, .rw, 0x0, 16⟩

/-- `KEY_WDOG`, chapter 13. -/
def KEY_WDOG : RegAt := ⟨0xA008, 1, 0x0, 1, 0x0, 1, 0x0⟩
def KEY_WDOG_MNT_US : Field := ⟨KEY_WDOG, 32, 16, .rwx, 0x64, 12⟩
def KEY_WDOG_LOCK_US : Field := ⟨KEY_WDOG, 0, 16, .rwx, 0x64, 12⟩

/-- `KEY_CMD`, chapter 13. -/
def KEY_CMD : RegAt := ⟨0xA010, 1, 0x0, 1, 0x0, 1, 0x0⟩
def KEY_CMD_CLEAR_TORN : Field := ⟨KEY_CMD, 10, 1, .wo, 0x0, 16⟩
def KEY_CMD_SLOT : Field := ⟨KEY_CMD, 0, 10, .wo, 0x0, 16⟩

/-- `KEY_HOST_REQ`, chapter 13. -/
def KEY_HOST_REQ : RegAt := ⟨0xA018, 1, 0x0, 1, 0x0, 1, 0x0⟩
def KEY_HOST_REQ_OP : Field := ⟨KEY_HOST_REQ, 62, 2, .wo, 0x0, 16⟩
def KEY_HOST_REQ_SLOT : Field := ⟨KEY_HOST_REQ, 52, 10, .wo, 0x0, 16⟩
def KEY_HOST_REQ_BASE : Field := ⟨KEY_HOST_REQ, 6, 46, .wo, 0x0, 16⟩

/-- `KEY_HOST_CNT`, chapter 13. -/
def KEY_HOST_CNT : RegAt := ⟨0xA020, 1, 0x0, 1, 0x0, 1, 0x0⟩
def KEY_HOST_CNT_COUNT : Field := ⟨KEY_HOST_CNT, 0, 11, .rw, 0x1, 16⟩

/-- `KEY_HOST_RES`, chapter 13. -/
def KEY_HOST_RES : RegAt := ⟨0xA028, 1, 0x0, 1, 0x0, 1, 0x0⟩
def KEY_HOST_RES_DONE : Field := ⟨KEY_HOST_RES, 63, 1, .ro, 0x0, 16⟩
def KEY_HOST_RES_RESULT : Field := ⟨KEY_HOST_RES, 0, 63, .ro, 0x0, 16⟩

/-- `KEY_ERR`, chapter 13. -/
def KEY_ERR : RegAt := ⟨0xA030, 1, 0x0, 1, 0x0, 1, 0x0⟩
def KEY_ERR_SLOT : Field := ⟨KEY_ERR, 38, 10, .ro, 0x0, 16⟩
def KEY_ERR_PARITY : Field := ⟨KEY_ERR, 2, 1, .rws1c, 0x0, 16⟩
def KEY_ERR_WDOG_MNT : Field := ⟨KEY_ERR, 1, 1, .rws1c, 0x0, 16⟩
def KEY_ERR_WDOG_LOCK : Field := ⟨KEY_ERR, 0, 1, .rws1c, 0x0, 16⟩

/-- `KEY_CLASS`, chapter 13. -/
def KEY_CLASS : RegAt := ⟨0xA800, 253, 0x8, 1, 0x0, 1, 0x0⟩
def KEY_CLASS_LOSSES : Field := ⟨KEY_CLASS, 8, 4, .ro, 0x0, 16⟩
def KEY_CLASS_CLASS : Field := ⟨KEY_CLASS, 0, 2, .rwx, 0x0, 12⟩

/-- `KEY_SLOT`, chapter 13. -/
def KEY_SLOT : RegAt := ⟨0xC000, 1024, 0x8, 1, 0x0, 1, 0x0⟩
def KEY_SLOT_STATE : Field := ⟨KEY_SLOT, 62, 2, .ro, 0x0, 16⟩
def KEY_SLOT_COUNT : Field := ⟨KEY_SLOT, 52, 10, .ro, 0x0, 16⟩
def KEY_SLOT_BASE : Field := ⟨KEY_SLOT, 6, 46, .ro, 0x0, 16⟩
def KEY_SLOT_KIND : Field := ⟨KEY_SLOT, 4, 2, .ro, 0x0, 16⟩

/-- `KEY_SLOT_OWN`, chapter 13. -/
def KEY_SLOT_OWN : RegAt := ⟨0xE000, 1024, 0x8, 1, 0x0, 1, 0x0⟩
def KEY_SLOT_OWN_AGE_US : Field := ⟨KEY_SLOT_OWN, 32, 16, .ro, 0x0, 16⟩
def KEY_SLOT_OWN_OWNER : Field := ⟨KEY_SLOT_OWN, 0, 16, .ro, 0x0, 16⟩

/-- `KEY_MNT_CTRL`, chapter 13. -/
def KEY_MNT_CTRL : RegAt := ⟨0x106000, 24, 0x40000, 1, 0x0, 1, 0x0⟩
def KEY_MNT_CTRL_MRR_DATA : Field := ⟨KEY_MNT_CTRL, 48, 8, .ro, 0x0, 16⟩
def KEY_MNT_CTRL_LOST : Field := ⟨KEY_MNT_CTRL, 3, 1, .rw1c, 0x0, 16⟩
def KEY_MNT_CTRL_GRANTED : Field := ⟨KEY_MNT_CTRL, 2, 1, .ro, 0x0, 16⟩
def KEY_MNT_CTRL_RELEASE : Field := ⟨KEY_MNT_CTRL, 1, 1, .wo, 0x0, 16⟩
def KEY_MNT_CTRL_REQ : Field := ⟨KEY_MNT_CTRL, 0, 1, .wo, 0x0, 16⟩

/-- `KEY_MNT_CMD`, chapter 13. -/
def KEY_MNT_CMD : RegAt := ⟨0x106008, 24, 0x40000, 1, 0x0, 1, 0x0⟩
def KEY_MNT_CMD_OP : Field := ⟨KEY_MNT_CMD, 30, 2, .wo, 0x0, 16⟩
def KEY_MNT_CMD_RANK : Field := ⟨KEY_MNT_CMD, 28, 2, .wo, 0x0, 16⟩
def KEY_MNT_CMD_ADDR : Field := ⟨KEY_MNT_CMD, 8, 8, .wo, 0x0, 16⟩
def KEY_MNT_CMD_DATA : Field := ⟨KEY_MNT_CMD, 0, 8, .wo, 0x0, 16⟩

/-- `BND_CTRL`, chapter 14. -/
def BND_CTRL : RegAt := ⟨0x9000, 1, 0x0, 1, 0x0, 1, 0x0⟩
def BND_CTRL_PROFILE : Field := ⟨BND_CTRL, 0, 2, .rws, 0x0, 16⟩

/-- `BND_CFG`, chapter 14. -/
def BND_CFG : RegAt := ⟨0x9008, 1, 0x0, 1, 0x0, 1, 0x0⟩
def BND_CFG_TIMEOUT_US : Field := ⟨BND_CFG, 48, 16, .rwx, 0x32, 13⟩
def BND_CFG_HELLO_US : Field := ⟨BND_CFG, 32, 16, .rwx, 0x64, 13⟩

/-- `BND_STATUS`, chapter 14. -/
def BND_STATUS : RegAt := ⟨0x9010, 1, 0x0, 1, 0x0, 1, 0x0⟩
def BND_STATUS_NONCE : Field := ⟨BND_STATUS, 32, 32, .ro, 0x0, 16⟩
def BND_STATUS_REACHABLE : Field := ⟨BND_STATUS, 16, 6, .ro, 0x0, 16⟩
def BND_STATUS_STABLE : Field := ⟨BND_STATUS, 15, 1, .ro, 0x0, 16⟩
def BND_STATUS_TAGS_FREE : Field := ⟨BND_STATUS, 0, 13, .ro, 0x1000, 16⟩

/-- `BND_COUNT`, chapter 14. -/
def BND_COUNT : RegAt := ⟨0x9018, 1, 0x0, 1, 0x0, 1, 0x0⟩
def BND_COUNT_LATE_CPL : Field := ⟨BND_COUNT, 32, 32, .rwsOnes, 0x0, 16⟩
def BND_COUNT_CRC : Field := ⟨BND_COUNT, 0, 32, .rwsOnes, 0x0, 16⟩

/-- `BND_PORT_NBR`, chapter 14. -/
def BND_PORT_NBR : RegAt := ⟨0x9040, 2, 0x20, 1, 0x0, 1, 0x0⟩
def BND_PORT_NBR_UP : Field := ⟨BND_PORT_NBR, 0, 64, .ro, 0x0, 16⟩

/-- `BND_PORT_STATUS`, chapter 14. -/
def BND_PORT_STATUS : RegAt := ⟨0x9048, 2, 0x20, 1, 0x0, 1, 0x0⟩
def BND_PORT_STATUS_LINK_UP : Field := ⟨BND_PORT_STATUS, 0, 1, .ro, 0x0, 16⟩

/-- `BND_ERR`, chapter 14. -/
def BND_ERR : RegAt := ⟨0x9050, 2, 0x20, 1, 0x0, 1, 0x0⟩
def BND_ERR_BITS : Field := ⟨BND_ERR, 0, 8, .rws1c, 0x0, 16⟩

/-- `BND_ERR_CAP`, chapter 14. -/
def BND_ERR_CAP : RegAt := ⟨0x9058, 2, 0x20, 1, 0x0, 1, 0x0⟩
def BND_ERR_CAP_VALID : Field := ⟨BND_ERR_CAP, 63, 1, .rws1c, 0x0, 16⟩
def BND_ERR_CAP_KIND : Field := ⟨BND_ERR_CAP, 60, 3, .rws, 0x0, 16⟩
def BND_ERR_CAP_NODE : Field := ⟨BND_ERR_CAP, 54, 6, .rws, 0x0, 16⟩
def BND_ERR_CAP_ADDR : Field := ⟨BND_ERR_CAP, 0, 54, .rws, 0x0, 16⟩

/-- `BND_ROUTE`, chapter 14. -/
def BND_ROUTE : RegAt := ⟨0x9100, 64, 0x8, 1, 0x0, 1, 0x0⟩
def BND_ROUTE_VALID : Field := ⟨BND_ROUTE, 63, 1, .ro, 0x0, 16⟩
def BND_ROUTE_PIN : Field := ⟨BND_ROUTE, 62, 1, .rwx, 0x0, 13⟩
def BND_ROUTE_PORT : Field := ⟨BND_ROUTE, 61, 1, .rwx, 0x0, 13⟩
def BND_ROUTE_NH : Field := ⟨BND_ROUTE, 55, 6, .rwx, 0x0, 13⟩
def BND_ROUTE_HOPS : Field := ⟨BND_ROUTE, 51, 4, .ro, 0x0, 16⟩
def BND_ROUTE_ACCEPT : Field := ⟨BND_ROUTE, 7, 1, .rwx, 0x1, 13⟩
def BND_ROUTE_NS_FORCE : Field := ⟨BND_ROUTE, 6, 1, .rwx, 0x0, 13⟩
def BND_ROUTE_PRIV_MAX : Field := ⟨BND_ROUTE, 4, 2, .rwx, 0x3, 13⟩

/-- `BUT_CTRL`, chapter 15. -/
def BUT_CTRL : RegAt := ⟨0x10000, 1, 0x0, 1, 0x0, 1, 0x0⟩
def BUT_CTRL_PROFILE : Field := ⟨BUT_CTRL, 0, 2, .rw, 0x0, 16⟩

/-- `BUT_CFG`, chapter 15. -/
def BUT_CFG : RegAt := ⟨0x10008, 1, 0x0, 1, 0x0, 1, 0x0⟩
def BUT_CFG_GRACE_US : Field := ⟨BUT_CFG, 32, 16, .rwx, 0x3E8, 14⟩
def BUT_CFG_SWEEP_MS : Field := ⟨BUT_CFG, 4, 4, .rwx, 0x5, 14⟩

/-- `BUT_STATUS0`, chapter 15. -/
def BUT_STATUS0 : RegAt := ⟨0x10010, 1, 0x0, 1, 0x0, 1, 0x0⟩
def BUT_STATUS0_SRC : Field := ⟨BUT_STATUS0, 0, 64, .rws1c, 0x0, 16⟩

/-- `BUT_STATUS1`, chapter 15. -/
def BUT_STATUS1 : RegAt := ⟨0x10018, 1, 0x0, 1, 0x0, 1, 0x0⟩
def BUT_STATUS1_SRC : Field := ⟨BUT_STATUS1, 0, 48, .rws1c, 0x0, 16⟩

/-- `BUT_WIRE0`, chapter 15. -/
def BUT_WIRE0 : RegAt := ⟨0x10020, 1, 0x0, 1, 0x0, 1, 0x0⟩
def BUT_WIRE0_SRC : Field := ⟨BUT_WIRE0, 0, 64, .rws1c, 0x0, 16⟩

/-- `BUT_WIRE1`, chapter 15. -/
def BUT_WIRE1 : RegAt := ⟨0x10028, 1, 0x0, 1, 0x0, 1, 0x0⟩
def BUT_WIRE1_SRC : Field := ⟨BUT_WIRE1, 0, 48, .rws1c, 0x0, 16⟩

/-- `BUT_CAP_INFO`, chapter 15. -/
def BUT_CAP_INFO : RegAt := ⟨0x10030, 1, 0x0, 1, 0x0, 1, 0x0⟩
def BUT_CAP_INFO_VALID : Field := ⟨BUT_CAP_INFO, 63, 1, .rws1c, 0x0, 16⟩
def BUT_CAP_INFO_INJ : Field := ⟨BUT_CAP_INFO, 62, 1, .rws, 0x0, 16⟩
def BUT_CAP_INFO_INJ_COINCIDE : Field := ⟨BUT_CAP_INFO, 61, 1, .rws, 0x0, 16⟩
def BUT_CAP_INFO_SOURCE : Field := ⟨BUT_CAP_INFO, 54, 7, .rws, 0x0, 16⟩
def BUT_CAP_INFO_SEV : Field := ⟨BUT_CAP_INFO, 52, 2, .rws, 0x0, 16⟩
def BUT_CAP_INFO_ACCESS : Field := ⟨BUT_CAP_INFO, 48, 4, .rws, 0x0, 16⟩
def BUT_CAP_INFO_MKIND : Field := ⟨BUT_CAP_INFO, 46, 2, .rws, 0x0, 16⟩
def BUT_CAP_INFO_REG : Field := ⟨BUT_CAP_INFO, 42, 4, .rws, 0x0, 16⟩
def BUT_CAP_INFO_KIND : Field := ⟨BUT_CAP_INFO, 34, 8, .rws, 0x0, 16⟩
def BUT_CAP_INFO_MERGE_COUNT : Field := ⟨BUT_CAP_INFO, 16, 16, .rws, 0x0, 16⟩
def BUT_CAP_INFO_MASTER : Field := ⟨BUT_CAP_INFO, 0, 16, .rws, 0x0, 16⟩

/-- `BUT_CAP_ADDR`, chapter 15. -/
def BUT_CAP_ADDR : RegAt := ⟨0x10038, 1, 0x0, 1, 0x0, 1, 0x0⟩
def BUT_CAP_ADDR_ADDR_VALID : Field := ⟨BUT_CAP_ADDR, 63, 1, .rws, 0x0, 16⟩
def BUT_CAP_ADDR_ADDR : Field := ⟨BUT_CAP_ADDR, 0, 52, .rws, 0x0, 16⟩

/-- `BUT_CAP_TIME`, chapter 15. -/
def BUT_CAP_TIME : RegAt := ⟨0x10040, 1, 0x0, 1, 0x0, 1, 0x0⟩
def BUT_CAP_TIME_UPTIME : Field := ⟨BUT_CAP_TIME, 0, 64, .rws, 0x0, 16⟩

/-- `BUT_ACK`, chapter 15. -/
def BUT_ACK : RegAt := ⟨0x10048, 1, 0x0, 1, 0x0, 1, 0x0⟩
def BUT_ACK_ACK : Field := ⟨BUT_ACK, 7, 1, .wo, 0x0, 16⟩
def BUT_ACK_SOURCE : Field := ⟨BUT_ACK, 0, 7, .wo, 0x0, 16⟩

/-- `BUT_SAFETY`, chapter 15. -/
def BUT_SAFETY : RegAt := ⟨0x10050, 1, 0x0, 1, 0x0, 1, 0x0⟩
def BUT_SAFETY_PASSES : Field := ⟨BUT_SAFETY, 32, 32, .ro, 0x0, 16⟩
def BUT_SAFETY_FAIL_SRC : Field := ⟨BUT_SAFETY, 16, 7, .ro, 0x0, 16⟩
def BUT_SAFETY_SWEEP_FAIL : Field := ⟨BUT_SAFETY, 2, 1, .rws1c, 0x0, 16⟩
def BUT_SAFETY_SWEEP_ON : Field := ⟨BUT_SAFETY, 1, 1, .ro, 0x0, 16⟩
def BUT_SAFETY_SAFE : Field := ⟨BUT_SAFETY, 0, 1, .ro, 0x0, 16⟩

/-- `BUT_SRC`, chapter 15. -/
def BUT_SRC : RegAt := ⟨0x11000, 112, 0x8, 1, 0x0, 1, 0x0⟩
def BUT_SRC_COUNT : Field := ⟨BUT_SRC, 32, 16, .rwsOnes, 0x0, 16⟩
def BUT_SRC_REACT : Field := ⟨BUT_SRC, 16, 2, .rwx, 0x0, 14⟩
def BUT_SRC_FORCE : Field := ⟨BUT_SRC, 12, 1, .wo, 0x0, 16⟩
def BUT_SRC_FORCE_SEV : Field := ⟨BUT_SRC, 10, 2, .wo, 0x0, 16⟩
def BUT_SRC_INJ_COINCIDE : Field := ⟨BUT_SRC, 9, 1, .rws1c, 0x0, 16⟩
def BUT_SRC_SEV_MAX : Field := ⟨BUT_SRC, 6, 2, .rwsRo, 0x0, 16⟩
def BUT_SRC_STATE : Field := ⟨BUT_SRC, 4, 2, .ro, 0x0, 16⟩

/-- `PLB_CTRL`, chapter 16. -/
def PLB_CTRL : RegAt := ⟨0x12800, 1, 0x0, 1, 0x0, 1, 0x0⟩
def PLB_CTRL_FROZEN : Field := ⟨PLB_CTRL, 5, 1, .ro, 0x0, 16⟩
def PLB_CTRL_CLEAR : Field := ⟨PLB_CTRL, 4, 1, .wo, 0x0, 16⟩
def PLB_CTRL_FREEZE : Field := ⟨PLB_CTRL, 3, 1, .rw, 0x0, 16⟩
def PLB_CTRL_PROFILE : Field := ⟨PLB_CTRL, 0, 2, .rw, 0x0, 16⟩

/-- `PLB_CNT`, chapter 16. -/
def PLB_CNT : RegAt := ⟨0x107000, 24, 0x40000, 8, 0x10, 1, 0x0⟩
def PLB_CNT_VALUE : Field := ⟨PLB_CNT, 0, 48, .rws, 0x0, 16⟩

/-- `PLB_BCNT`, chapter 16. -/
def PLB_BCNT : RegAt := ⟨0x12000, 32, 0x10, 1, 0x0, 1, 0x0⟩
def PLB_BCNT_VALUE : Field := ⟨PLB_BCNT, 0, 48, .rws, 0x0, 16⟩

/-- `PLB_CNT_CTL`, chapter 16. -/
def PLB_CNT_CTL : RegAt := ⟨0x107008, 24, 0x40000, 8, 0x10, 1, 0x0⟩
def PLB_CNT_CTL_OVF : Field := ⟨PLB_CNT_CTL, 63, 1, .rws1c, 0x0, 16⟩
def PLB_CNT_CTL_NA : Field := ⟨PLB_CNT_CTL, 62, 1, .ro, 0x0, 16⟩
def PLB_CNT_CTL_FSET : Field := ⟨PLB_CNT_CTL, 16, 4, .rwx, 0x0, 15⟩
def PLB_CNT_CTL_FEN : Field := ⟨PLB_CNT_CTL, 15, 1, .rwx, 0x0, 15⟩
def PLB_CNT_CTL_EVENT : Field := ⟨PLB_CNT_CTL, 0, 8, .rwx, 0x0, 15⟩

/-- `PLB_BCNT_CTL`, chapter 16. -/
def PLB_BCNT_CTL : RegAt := ⟨0x12008, 32, 0x10, 1, 0x0, 1, 0x0⟩
def PLB_BCNT_CTL_OVF : Field := ⟨PLB_BCNT_CTL, 63, 1, .rws1c, 0x0, 16⟩
def PLB_BCNT_CTL_NA : Field := ⟨PLB_BCNT_CTL, 62, 1, .ro, 0x0, 16⟩
def PLB_BCNT_CTL_FSET : Field := ⟨PLB_BCNT_CTL, 16, 4, .rwx, 0x0, 15⟩
def PLB_BCNT_CTL_FEN : Field := ⟨PLB_BCNT_CTL, 15, 1, .rwx, 0x0, 15⟩
def PLB_BCNT_CTL_EVENT : Field := ⟨PLB_BCNT_CTL, 0, 8, .rwx, 0x0, 15⟩
def PLB_BCNT_CTL_CHAN : Field := ⟨PLB_BCNT_CTL, 8, 5, .rwx, 0x1F, 15⟩

/-- `PLB_FLT_MST`, chapter 16. -/
def PLB_FLT_MST : RegAt := ⟨0x12400, 16, 0x20, 1, 0x0, 1, 0x0⟩
def PLB_FLT_MST_KIND : Field := ⟨PLB_FLT_MST, 62, 2, .rwx, 0x0, 15⟩
def PLB_FLT_MST_NODE : Field := ⟨PLB_FLT_MST, 52, 6, .rwx, 0x0, 15⟩
def PLB_FLT_MST_PORT : Field := ⟨PLB_FLT_MST, 48, 4, .rwx, 0xF, 15⟩
def PLB_FLT_MST_HI : Field := ⟨PLB_FLT_MST, 24, 12, .rwx, 0xFFF, 15⟩
def PLB_FLT_MST_LO : Field := ⟨PLB_FLT_MST, 0, 12, .rwx, 0x0, 15⟩

/-- `PLB_FLT_ALO`, chapter 16. -/
def PLB_FLT_ALO : RegAt := ⟨0x12408, 16, 0x20, 1, 0x0, 1, 0x0⟩
def PLB_FLT_ALO_EN : Field := ⟨PLB_FLT_ALO, 63, 1, .rwx, 0x0, 15⟩
def PLB_FLT_ALO_LO : Field := ⟨PLB_FLT_ALO, 12, 40, .rwx, 0x0, 15⟩

/-- `PLB_FLT_AHI`, chapter 16. -/
def PLB_FLT_AHI : RegAt := ⟨0x12410, 16, 0x20, 1, 0x0, 1, 0x0⟩
def PLB_FLT_AHI_HI : Field := ⟨PLB_FLT_AHI, 12, 40, .rwx, 0x0, 15⟩

/-- `PLB_FLT_QOS`, chapter 16. -/
def PLB_FLT_QOS : RegAt := ⟨0x12418, 16, 0x20, 1, 0x0, 1, 0x0⟩
def PLB_FLT_QOS_QMODE : Field := ⟨PLB_FLT_QOS, 62, 2, .rwx, 0x0, 15⟩
def PLB_FLT_QOS_PRIV : Field := ⟨PLB_FLT_QOS, 56, 4, .rwx, 0xF, 15⟩
def PLB_FLT_QOS_SEC : Field := ⟨PLB_FLT_QOS, 52, 2, .rwx, 0x3, 15⟩
def PLB_FLT_QOS_QUEUES : Field := ⟨PLB_FLT_QOS, 24, 17, .rwx, 0x0, 15⟩
def PLB_FLT_QOS_QID_HI : Field := ⟨PLB_FLT_QOS, 12, 12, .rwx, 0xFFF, 15⟩
def PLB_FLT_QOS_QID_LO : Field := ⟨PLB_FLT_QOS, 0, 12, .rwx, 0x0, 15⟩

/-- `PLB_TAG_CFG`, chapter 16. -/
def PLB_TAG_CFG : RegAt := ⟨0x12808, 1, 0x0, 1, 0x0, 1, 0x0⟩
def PLB_TAG_CFG_SEED : Field := ⟨PLB_TAG_CFG, 32, 32, .rwx, 0x5D3B1C97, 15⟩
def PLB_TAG_CFG_K : Field := ⟨PLB_TAG_CFG, 8, 5, .rwx, 0xC, 15⟩
def PLB_TAG_CFG_EN : Field := ⟨PLB_TAG_CFG, 0, 1, .rwx, 0x0, 15⟩

/-- `PLB_TAG_STATUS`, chapter 16. -/
def PLB_TAG_STATUS : RegAt := ⟨0x12810, 1, 0x0, 1, 0x0, 1, 0x0⟩
def PLB_TAG_STATUS_WR : Field := ⟨PLB_TAG_STATUS, 32, 11, .ro, 0x0, 16⟩
def PLB_TAG_STATUS_INFLIGHT : Field := ⟨PLB_TAG_STATUS, 0, 7, .ro, 0x0, 16⟩

/-- `PLB_TAG_RD`, chapter 16. -/
def PLB_TAG_RD : RegAt := ⟨0x12818, 1, 0x0, 1, 0x0, 1, 0x0⟩
def PLB_TAG_RD_RD : Field := ⟨PLB_TAG_RD, 0, 11, .rw, 0x0, 16⟩

/-- `PLB_ERR`, chapter 16. -/
def PLB_ERR : RegAt := ⟨0x12820, 1, 0x0, 1, 0x0, 1, 0x0⟩
def PLB_ERR_UNCORR : Field := ⟨PLB_ERR, 1, 1, .rws1c, 0x0, 16⟩
def PLB_ERR_CORR : Field := ⟨PLB_ERR, 0, 1, .rws1c, 0x0, 16⟩

/-- `DST_CTRL`, chapter 16. -/
def DST_CTRL : RegAt := ⟨0x3C00000, 1, 0x0, 1, 0x0, 1, 0x0⟩
def DST_CTRL_MODE : Field := ⟨DST_CTRL, 4, 2, .rwx, 0x0, 15⟩
def DST_CTRL_FREEZE : Field := ⟨DST_CTRL, 0, 1, .rw, 0x0, 16⟩

/-- `DST_CMD`, chapter 16. -/
def DST_CMD : RegAt := ⟨0x3C00008, 1, 0x0, 1, 0x0, 1, 0x0⟩
def DST_CMD_EXT_CLEAR : Field := ⟨DST_CMD, 3, 1, .wo, 0x0, 16⟩
def DST_CMD_HIST_CLEAR : Field := ⟨DST_CMD, 2, 1, .wo, 0x0, 16⟩
def DST_CMD_LOG_CLEAR : Field := ⟨DST_CMD, 1, 1, .wo, 0x0, 16⟩
def DST_CMD_SNAP : Field := ⟨DST_CMD, 0, 1, .wo, 0x0, 16⟩

/-- `DST_STATUS`, chapter 16. -/
def DST_STATUS : RegAt := ⟨0x3C00010, 1, 0x0, 1, 0x0, 1, 0x0⟩
def DST_STATUS_MISSED : Field := ⟨DST_STATUS, 48, 16, .rwsOnes, 0x0, 16⟩
def DST_STATUS_DROPPED : Field := ⟨DST_STATUS, 32, 16, .rwsOnes, 0x0, 16⟩
def DST_STATUS_LOG_USED : Field := ⟨DST_STATUS, 16, 13, .ro, 0x0, 16⟩
def DST_STATUS_MODE_IN : Field := ⟨DST_STATUS, 4, 2, .ro, 0x0, 16⟩
def DST_STATUS_LOG_FULL : Field := ⟨DST_STATUS, 3, 1, .ro, 0x0, 16⟩
def DST_STATUS_SNAP_BUSY : Field := ⟨DST_STATUS, 2, 1, .ro, 0x0, 16⟩
def DST_STATUS_FROZEN : Field := ⟨DST_STATUS, 1, 1, .ro, 0x0, 16⟩

/-- `DST_CURSOR`, chapter 16. -/
def DST_CURSOR : RegAt := ⟨0x3C00018, 1, 0x0, 1, 0x0, 1, 0x0⟩
def DST_CURSOR_REGION : Field := ⟨DST_CURSOR, 62, 2, .rw, 0x0, 16⟩
def DST_CURSOR_AUTOINC : Field := ⟨DST_CURSOR, 61, 1, .rw, 0x1, 16⟩
def DST_CURSOR_INDEX : Field := ⟨DST_CURSOR, 0, 13, .rw, 0x0, 16⟩

/-- `DST_HIST_CFG`, chapter 16. -/
def DST_HIST_CFG : RegAt := ⟨0x3C00020, 1, 0x0, 1, 0x0, 1, 0x0⟩
def DST_HIST_CFG_LAT_UNIT : Field := ⟨DST_HIST_CFG, 32, 8, .rwx, 0x8, 15⟩
def DST_HIST_CFG_DLY_UNIT : Field := ⟨DST_HIST_CFG, 16, 8, .rwx, 0x10, 15⟩
def DST_HIST_CFG_DEPTH_UNIT : Field := ⟨DST_HIST_CFG, 0, 8, .rwx, 0x10, 15⟩

/-- `DST_TRIG`, chapter 16. -/
def DST_TRIG : RegAt := ⟨0x3C00028, 1, 0x0, 1, 0x0, 1, 0x0⟩
def DST_TRIG_PERIOD_US : Field := ⟨DST_TRIG, 48, 16, .rwx, 0x0, 15⟩
def DST_TRIG_BUT_EN : Field := ⟨DST_TRIG, 47, 1, .rwx, 0x0, 15⟩
def DST_TRIG_BUT_SEV : Field := ⟨DST_TRIG, 45, 2, .rwx, 0x2, 15⟩
def DST_TRIG_BUT_SRC : Field := ⟨DST_TRIG, 38, 7, .rwx, 0x7F, 15⟩
def DST_TRIG_OVF_EN : Field := ⟨DST_TRIG, 37, 1, .rwx, 0x0, 15⟩
def DST_TRIG_HOD_EN : Field := ⟨DST_TRIG, 36, 1, .rwx, 0x0, 15⟩

/-- `DST_WINDOW`, chapter 16. -/
def DST_WINDOW : RegAt := ⟨0x3C00040, 8, 0x8, 1, 0x0, 1, 0x0⟩
def DST_WINDOW_DATA : Field := ⟨DST_WINDOW, 0, 64, .ro, 0x0, 16⟩

/-- `DST_SNAP_SEL`, chapter 16. -/
def DST_SNAP_SEL : RegAt := ⟨0x3C00100, 16, 0x8, 1, 0x0, 1, 0x0⟩
def DST_SNAP_SEL_VALID : Field := ⟨DST_SNAP_SEL, 63, 1, .rwx, 0x0, 15⟩
def DST_SNAP_SEL_OFFSET : Field := ⟨DST_SNAP_SEL, 3, 23, .rwx, 0x0, 15⟩

/-- `QUO_STATUS`, chapter 17. -/
def QUO_STATUS : RegAt := ⟨0x13000, 1, 0x0, 1, 0x0, 1, 0x0⟩
def QUO_STATUS_OUTSTANDING : Field := ⟨QUO_STATUS, 24, 7, .ro, 0x0, 16⟩
def QUO_STATUS_QUAR : Field := ⟨QUO_STATUS, 16, 7, .ro, 0x0, 16⟩
def QUO_STATUS_CAUSE : Field := ⟨QUO_STATUS, 4, 4, .ro, 0x0, 16⟩
def QUO_STATUS_STATE : Field := ⟨QUO_STATUS, 0, 2, .ro, 0x0, 16⟩

/-- `QUO_RELEASE`, chapter 17. -/
def QUO_RELEASE : RegAt := ⟨0x13008, 1, 0x0, 1, 0x0, 1, 0x0⟩
def QUO_RELEASE_RELEASE : Field := ⟨QUO_RELEASE, 0, 1, .wo, 0x0, 16⟩

/-- `QUO_ERR`, chapter 17. -/
def QUO_ERR : RegAt := ⟨0x13010, 1, 0x0, 1, 0x0, 1, 0x0⟩
def QUO_ERR_DRAIN_BUSY : Field := ⟨QUO_ERR, 5, 1, .rw1c, 0x0, 16⟩
def QUO_ERR_UR_SENT : Field := ⟨QUO_ERR, 4, 1, .rw1c, 0x0, 16⟩
def QUO_ERR_UNEXP_CPL : Field := ⟨QUO_ERR, 3, 1, .rw1c, 0x0, 16⟩
def QUO_ERR_MALFORMED : Field := ⟨QUO_ERR, 2, 1, .rw1c, 0x0, 16⟩
def QUO_ERR_CPL_TIMEOUT : Field := ⟨QUO_ERR, 1, 1, .rw1c, 0x0, 16⟩
def QUO_ERR_POISON_RX : Field := ⟨QUO_ERR, 0, 1, .rw1c, 0x0, 16⟩

/-- `QUO_IDENT`, chapter 17. -/
def QUO_IDENT : RegAt := ⟨0x13018, 1, 0x0, 1, 0x0, 1, 0x0⟩
def QUO_IDENT_LOCK : Field := ⟨QUO_IDENT, 63, 1, .rws, 0x0, 16⟩
def QUO_IDENT_SSID : Field := ⟨QUO_IDENT, 16, 16, .rws, 0x0, 16⟩
def QUO_IDENT_SSVID : Field := ⟨QUO_IDENT, 0, 16, .rws, 0x0, 16⟩

/-- `QUO_DSN`, chapter 17. -/
def QUO_DSN : RegAt := ⟨0x13020, 1, 0x0, 1, 0x0, 1, 0x0⟩
def QUO_DSN_DSN : Field := ⟨QUO_DSN, 0, 64, .rws, 0x0, 16⟩

/-- `QUO_DRAIN_ADDR`, chapter 17. -/
def QUO_DRAIN_ADDR : RegAt := ⟨0x13028, 1, 0x0, 1, 0x0, 1, 0x0⟩
def QUO_DRAIN_ADDR_ADDR : Field := ⟨QUO_DRAIN_ADDR, 6, 58, .rw, 0x0, 16⟩

/-- `QUO_DRAIN_CPL`, chapter 17. -/
def QUO_DRAIN_CPL : RegAt := ⟨0x13030, 1, 0x0, 1, 0x0, 1, 0x0⟩
def QUO_DRAIN_CPL_ADDR : Field := ⟨QUO_DRAIN_CPL, 6, 58, .rw, 0x0, 16⟩

/-- `QUO_DRAIN_CTL`, chapter 17. -/
def QUO_DRAIN_CTL : RegAt := ⟨0x13038, 1, 0x0, 1, 0x0, 1, 0x0⟩
def QUO_DRAIN_CTL_GO : Field := ⟨QUO_DRAIN_CTL, 63, 1, .wo, 0x0, 16⟩
def QUO_DRAIN_CTL_REGION : Field := ⟨QUO_DRAIN_CTL, 58, 2, .rw, 0x0, 16⟩
def QUO_DRAIN_CTL_COUNT : Field := ⟨QUO_DRAIN_CTL, 32, 13, .rw, 0x0, 16⟩
def QUO_DRAIN_CTL_START : Field := ⟨QUO_DRAIN_CTL, 0, 13, .rw, 0x0, 16⟩

/-- `QUO_DRAIN_STATUS`, chapter 17. -/
def QUO_DRAIN_STATUS : RegAt := ⟨0x13040, 1, 0x0, 1, 0x0, 1, 0x0⟩
def QUO_DRAIN_STATUS_DONE_ITEMS : Field := ⟨QUO_DRAIN_STATUS, 32, 13, .ro, 0x0, 16⟩
def QUO_DRAIN_STATUS_STATUS : Field := ⟨QUO_DRAIN_STATUS, 0, 4, .ro, 0x0, 16⟩

/-- `QUO_EXPORT_BASE`, chapter 17. -/
def QUO_EXPORT_BASE : RegAt := ⟨0x13048, 1, 0x0, 1, 0x0, 1, 0x0⟩
def QUO_EXPORT_BASE_BASE : Field := ⟨QUO_EXPORT_BASE, 6, 58, .rw, 0x0, 16⟩

/-- `QUO_EXPORT_CTL`, chapter 17. -/
def QUO_EXPORT_CTL : RegAt := ⟨0x13050, 1, 0x0, 1, 0x0, 1, 0x0⟩
def QUO_EXPORT_CTL_PI_ADDR : Field := ⟨QUO_EXPORT_CTL, 3, 61, .rw, 0x0, 16⟩
def QUO_EXPORT_CTL_SIZE : Field := ⟨QUO_EXPORT_CTL, 1, 2, .rw, 0x0, 16⟩
def QUO_EXPORT_CTL_EN : Field := ⟨QUO_EXPORT_CTL, 0, 1, .rw, 0x0, 16⟩

/-- `QUO_EXPORT_CI`, chapter 17. -/
def QUO_EXPORT_CI : RegAt := ⟨0x13058, 1, 0x0, 1, 0x0, 1, 0x0⟩
def QUO_EXPORT_CI_CI : Field := ⟨QUO_EXPORT_CI, 0, 32, .rw, 0x0, 16⟩

/-- `BLK_BOOT`, chapter 18. -/
def BLK_BOOT : RegAt := ⟨0x100, 1, 0x0, 1, 0x0, 1, 0x0⟩
def BLK_BOOT_BASIC : Field := ⟨BLK_BOOT, 8, 1, .ro, 0x0, 16⟩
def BLK_BOOT_TRAIN_GO : Field := ⟨BLK_BOOT, 7, 1, .wo, 0x0, 16⟩
def BLK_BOOT_STEP : Field := ⟨BLK_BOOT, 0, 4, .ro, 0x1, 16⟩

/-- `BLK_CHAN_RST`, chapter 18. -/
def BLK_CHAN_RST : RegAt := ⟨0x108, 1, 0x0, 1, 0x0, 1, 0x0⟩
def BLK_CHAN_RST_BUSY : Field := ⟨BLK_CHAN_RST, 32, 24, .ro, 0x0, 16⟩
def BLK_CHAN_RST_GO : Field := ⟨BLK_CHAN_RST, 0, 24, .wo, 0x0, 16⟩

/-- `BLK_VERSION`, chapter 19. -/
def BLK_VERSION : RegAt := ⟨0x0, 1, 0x0, 1, 0x0, 1, 0x0⟩
def BLK_VERSION_MAJOR : Field := ⟨BLK_VERSION, 16, 16, .ro, 0x4, 16⟩
def BLK_VERSION_MINOR : Field := ⟨BLK_VERSION, 0, 16, .ro, 0x1, 16⟩

/-- `BLK_BUILD`, chapter 19. -/
def BLK_BUILD : RegAt := ⟨0x8, 1, 0x0, 1, 0x0, 1, 0x0⟩
def BLK_BUILD_MASONS : Field := ⟨BLK_BUILD, 40, 8, .ro, 0x0, 16⟩
def BLK_BUILD_PAIR : Field := ⟨BLK_BUILD, 32, 1, .ro, 0x0, 16⟩
def BLK_BUILD_KEY_FUSED : Field := ⟨BLK_BUILD, 26, 1, .ro, 0x0, 16⟩
def BLK_BUILD_PROGRAM_SEAL : Field := ⟨BLK_BUILD, 25, 1, .ro, 0x0, 16⟩
def BLK_BUILD_DEBUG_SEAL : Field := ⟨BLK_BUILD, 24, 1, .ro, 0x0, 16⟩
def BLK_BUILD_NODE : Field := ⟨BLK_BUILD, 16, 6, .ro, 0x0, 16⟩
def BLK_BUILD_CHANNELS : Field := ⟨BLK_BUILD, 0, 5, .ro, 0x0, 16⟩

/-- `BLK_EXPERT_EN`, chapter 19. -/
def BLK_EXPERT_EN : RegAt := ⟨0x10, 1, 0x0, 1, 0x0, 1, 0x0⟩
def BLK_EXPERT_EN_EN : Field := ⟨BLK_EXPERT_EN, 0, 16, .rws, 0x0, 16⟩

/-- `BLK_UPTIME`, chapter 19. -/
def BLK_UPTIME : RegAt := ⟨0x18, 1, 0x0, 1, 0x0, 1, 0x0⟩
def BLK_UPTIME_UPTIME : Field := ⟨BLK_UPTIME, 0, 64, .ro, 0x0, 16⟩

/-- `BLK_KEY_DIGEST`, chapter 19. -/
def BLK_KEY_DIGEST : RegAt := ⟨0x40, 6, 0x8, 1, 0x0, 1, 0x0⟩
def BLK_KEY_DIGEST_DIGEST : Field := ⟨BLK_KEY_DIGEST, 0, 64, .ro, 0x0, 16⟩

/-! The registers of each unit with their fields, for host accesses by offset. -/

def regsHDR : List (RegAt × List Field) :=
  [(HDR_CTRL, [HDR_CTRL_UNFENCE, HDR_CTRL_FENCE, HDR_CTRL_OPEN]),
   (HDR_STATUS, [HDR_STATUS_WD_FREE, HDR_STATUS_OUTSTANDING, HDR_STATUS_CLK_OK, HDR_STATUS_STATE]),
   (HDR_CREDIT_CFG, [HDR_CREDIT_CFG_STALL_LIMIT, HDR_CREDIT_CFG_WD_LIMIT, HDR_CREDIT_CFG_WD_CREDITS, HDR_CREDIT_CFG_REQ_CREDITS]),
   (HDR_ERR, [HDR_ERR_ABANDON, HDR_ERR_CPL_STALL, HDR_ERR_WD_TIMEOUT, HDR_ERR_WD_EARLY, HDR_ERR_WD_ORDER, HDR_ERR_WD_PARITY, HDR_ERR_REQ_PARITY, HDR_ERR_TAG_DUP]),
   (HDR_ERR_CAP, [HDR_ERR_CAP_VALID, HDR_ERR_CAP_KIND, HDR_ERR_CAP_SLOT, HDR_ERR_CAP_TAG])]

def regsMOR : List (RegAt × List Field) :=
  [(MOR_CTRL, [MOR_CTRL_PEAK_CLR, MOR_CTRL_RSV_PROFILE]),
   (MOR_STATUS, [MOR_STATUS_VCORE_MV, MOR_STATUS_QUIESCED, MOR_STATUS_DERATE_SEEN, MOR_STATUS_DERATE]),
   (MOR_ERR, [MOR_ERR_STALL, MOR_ERR_UNCORR, MOR_ERR_CORR]),
   (MOR_PART_STATUS, [MOR_PART_STATUS_PEAK, MOR_PART_STATUS_HELD, MOR_PART_STATUS_OCC]),
   (MOR_RSV_CFG, [MOR_RSV_CFG_BOND_RSV, MOR_RSV_CFG_MASON_RSV])]

def regsMAP : List (RegAt × List Field) :=
  [(MAP_RGN_BASE, [MAP_RGN_BASE_BASE]),
   (MAP_RGN_LIMIT, [MAP_RGN_LIMIT_LIMIT]),
   (MAP_RGN_CTL, [MAP_RGN_CTL_VALID, MAP_RGN_CTL_TYPE, MAP_RGN_CTL_PRIV_MIN, MAP_RGN_CTL_SEC, MAP_RGN_CTL_WAYS, MAP_RGN_CTL_GRAN, MAP_RGN_CTL_HASH, MAP_RGN_CTL_CHOFF, MAP_RGN_CTL_CH_MASK]),
   (MAP_GEOM, [MAP_GEOM_VALID, MAP_GEOM_CAP_GIB, MAP_GEOM_BANK_HASH, MAP_GEOM_PHYS, MAP_GEOM_HEIGHT, MAP_GEOM_WIDTH, MAP_GEOM_DENS]),
   (MAP_CTRL, [MAP_CTRL_PROFILE]),
   (MAP_ERR, [MAP_ERR_ENTRY, MAP_ERR_GEOM_BAD, MAP_ERR_LIVE_WRITE, MAP_ERR_BAD_ENTRY])]

def regsSET : List (RegAt × List Field) :=
  [(SET_CTRL, [SET_CTRL_PROFILE]),
   (SET_STATUS, [SET_STATUS_RUBBLE_AGE, SET_STATUS_RUBBLE_DEPTH]),
   (SET_ERR, [SET_ERR_FIRST_MASON, SET_ERR_RTL_COUNT, SET_ERR_RTL]),
   (SET_WINDOW, [SET_WINDOW_FINE, SET_WINDOW_WHOLE]),
   (SET_QID_SEL, [SET_QID_SEL_QID]),
   (SET_QID_CLASS, [SET_QID_CLASS_CLASS]),
   (SET_CLASS_TABLE, [SET_CLASS_TABLE_DEPTH, SET_CLASS_TABLE_DEFICIT, SET_CLASS_TABLE_WEIGHT])]

def regsGAU : List (RegAt × List Field) :=
  [(GAU_CTRL, [GAU_CTRL_PROFILE]),
   (GAU_SEL, [GAU_SEL_QID]),
   (GAU_RATE, [GAU_RATE_MODE, GAU_RATE_PIR, GAU_RATE_CIR]),
   (GAU_BURST, [GAU_BURST_PBS, GAU_BURST_CBS]),
   (GAU_STATE, [GAU_STATE_TP, GAU_STATE_TC]),
   (GAU_CMD, [GAU_CMD_REFILL_ALL, GAU_CMD_REFILL]),
   (GAU_ERR, [GAU_ERR_QID, GAU_ERR_BURST_CLAMP, GAU_ERR_RATE_CLAMP])]

def regsTIM : List (RegAt × List Field) :=
  [(TIM_RATE, [TIM_RATE_DIMM, TIM_RATE_MULT]),
   (TIM_BANK, [TIM_BANK_RTP, TIM_BANK_FAW, TIM_BANK_RRD_L, TIM_BANK_RRD_S, TIM_BANK_RC, TIM_BANK_RAS, TIM_BANK_RP, TIM_BANK_RCD]),
   (TIM_COL, [TIM_COL_WTR_L, TIM_COL_WTR_S, TIM_COL_CWL, TIM_COL_CL, TIM_COL_CCD_L_WR, TIM_COL_CCD_L, TIM_COL_CCD_S, TIM_COL_WR]),
   (TIM_TURN, [TIM_TURN_FAW_DLR, TIM_TURN_RRD_DLR, TIM_TURN_CCD_DLR, TIM_TURN_WTW_R, TIM_TURN_RTR_R, TIM_TURN_WTR_R_ADD, TIM_TURN_RTW_R_ADD, TIM_TURN_RTW_ADD, TIM_TURN_PPD]),
   (TIM_REF, [TIM_REF_RFCSB, TIM_REF_RFC2, TIM_REF_RFC1, TIM_REF_REFI]),
   (TIM_REF2, [TIM_REF2_RFC_DLR, TIM_REF2_RFMSB, TIM_REF2_RFM1, TIM_REF2_REFSBRD]),
   (TIM_MNT, [TIM_MNT_ZQCAL, TIM_MNT_ZQLAT, TIM_MNT_MPC, TIM_MNT_MRD, TIM_MNT_MRW, TIM_MNT_MRR, TIM_MNT_PAR_ALERT]),
   (TIM_PWR, [TIM_PWR_XS, TIM_PWR_CSL, TIM_PWR_XP, TIM_PWR_PD]),
   (TIM_ALERT, [TIM_ALERT_ABO_DELAY, TIM_ALERT_ABO_ACT, TIM_ALERT_PW_MAX, TIM_ALERT_PW_MIN, TIM_ALERT_RETRY]),
   (TIM_CTRL, [TIM_CTRL_APPLY, TIM_CTRL_BIN]),
   (TIM_STATUS, [TIM_STATUS_BURST, TIM_STATUS_PHASE_B, TIM_STATUS_PHASE_A, TIM_STATUS_PEND, TIM_STATUS_LIVE]),
   (TIM_ISSUE, [TIM_ISSUE_WR_AGE, TIM_ISSUE_DRAIN_MAX, TIM_ISSUE_WR_LO, TIM_ISSUE_WR_HI, TIM_ISSUE_BYPASS_MAX, TIM_ISSUE_IDLE_CLOSE, TIM_ISSUE_POLICY]),
   (TIM_ERR, [TIM_ERR_APPLY_ROW, TIM_ERR_REPLAY_COUNT, TIM_ERR_TABLE_DIVERGE, TIM_ERR_CHK_VIOLATION, TIM_ERR_REPLAY_FAIL, TIM_ERR_REPLAY, TIM_ERR_ALERT_GLITCH, TIM_ERR_APPLY_FLOOR, TIM_ERR_APPLY_CONSIST, TIM_ERR_APPLY_RANGE]),
   (TIM_CHK_CAP, [TIM_CHK_CAP_VALID, TIM_CHK_CAP_RULE, TIM_CHK_CAP_SUB, TIM_CHK_CAP_RANK, TIM_CHK_CAP_BG, TIM_CHK_CAP_BANK, TIM_CHK_CAP_CMD, TIM_CHK_CAP_SHORT])]

def regsPNT : List (RegAt × List Field) :=
  [(PNT_CTRL, [PNT_CTRL_SR_REQ, PNT_CTRL_LP, PNT_CTRL_PROT, PNT_CTRL_MODE]),
   (PNT_CFG, [PNT_CFG_ZQ_PERIOD, PNT_CFG_MR4_PERIOD, PNT_CFG_PULL_IDLE, PNT_CFG_PULL_MAX, PNT_CFG_POST_MAX]),
   (PNT_PROT, [PNT_PROT_ACT_TH, PNT_PROT_RAA_IMT, PNT_PROT_RAA_MMT, PNT_PROT_ABO_RFM, PNT_PROT_TRACK_EN, PNT_PROT_RFM_EN, PNT_PROT_PRAC_EN]),
   (PNT_LP, [PNT_LP_SR_IDLE, PNT_LP_PD_IDLE, PNT_LP_PLL_OFF]),
   (PNT_STATUS, [PNT_STATUS_COLD_LEFT, PNT_STATUS_OWED, PNT_STATUS_PD, PNT_STATUS_METHOD, PNT_STATUS_MODE_IN, PNT_STATUS_RATE2X, PNT_STATUS_COLD, PNT_STATUS_LPSTATE]),
   (PNT_ERR, [PNT_ERR_PREEMPT, PNT_ERR_TEMP_LIMIT, PNT_ERR_EXTRA_REF, PNT_ERR_RAA_BLOCK])]

def regsASH : List (RegAt × List Field) :=
  [(ASH_CTRL, [ASH_CTRL_X8_ERASE, ASH_CTRL_ACCEPT, ASH_CTRL_PROFILE]),
   (ASH_SCRUB, [ASH_SCRUB_BUDGET, ASH_SCRUB_PERIOD]),
   (ASH_INIT, [ASH_INIT_START, ASH_INIT_DONE, ASH_INIT_BUSY, ASH_INIT_COUNT, ASH_INIT_START_OFF]),
   (ASH_SPARE, [ASH_SPARE_CURSOR, ASH_SPARE_STATE, ASH_SPARE_FROM, ASH_SPARE_TO, ASH_SPARE_EN]),
   (ASH_STATUS, [ASH_STATUS_PASSES, ASH_STATUS_UNGUARDED, ASH_STATUS_PATROL_LATE, ASH_STATUS_PATROL_ON]),
   (ASH_THRESH, [ASH_THRESH_LEAK, ASH_THRESH_MARK]),
   (ASH_MARK, [ASH_MARK_MARKS]),
   (ASH_DEV_CNT, [ASH_DEV_CNT_CNT]),
   (ASH_COUNT, [ASH_COUNT_CE, ASH_COUNT_UE, ASH_COUNT_AMM]),
   (ASH_ERR, [ASH_ERR_BITS]),
   (ASH_ERR_CAP, [ASH_ERR_CAP_VALID, ASH_ERR_CAP_KIND, ASH_ERR_CAP_DEV, ASH_ERR_CAP_RANK, ASH_ERR_CAP_LINE])]

def regsSCR : List (RegAt × List Field) :=
  [(SCR_CTRL, [SCR_CTRL_RESUME_EN, SCR_CTRL_PROFILE]),
   (SCR_CMD, [SCR_CMD_STORE, SCR_CMD_RETRAIN, SCR_CMD_TRAIN]),
   (SCR_STATUS, [SCR_STATUS_STEP, SCR_STATUS_BASE, SCR_STATUS_TEMP, SCR_STATUS_ATTEMPT, SCR_STATUS_RESUMED, SCR_STATUS_FLOOR, SCR_STATUS_CLAMPED, SCR_STATUS_STATE]),
   (SCR_ERR, [SCR_ERR_PLL_LOCK, SCR_ERR_CMD_REFUSED, SCR_ERR_RETRAIN_CLAMP, SCR_ERR_RETRAIN_STUCK, SCR_ERR_RETRAIN_FAIL, SCR_ERR_RESUME_FAIL, SCR_ERR_TRAIN_FAIL]),
   (SCR_GUARD, [SCR_GUARD_VREF, SCR_GUARD_CA, SCR_GUARD_DQ]),
   (SCR_SEED, [SCR_SEED_WR, SCR_SEED_RD]),
   (SCR_LIMIT, [SCR_LIMIT_STEP_MAX, SCR_LIMIT_ATTEMPTS, SCR_LIMIT_CHAN_MS, SCR_LIMIT_STEP_MS]),
   (SCR_RETRAIN, [SCR_RETRAIN_FORCE_N, SCR_RETRAIN_TEMP_DELTA, SCR_RETRAIN_PERIOD]),
   (SCR_DIMM_ID, [SCR_DIMM_ID_ID]),
   (SCR_RESULT, [SCR_RESULT_STALE, SCR_RESULT_VERDICT, SCR_RESULT_RANK, SCR_RESULT_ATTEMPT, SCR_RESULT_LANE_FAIL])]

def regsPLN : List (RegAt × List Field) :=
  [(PLN_CTRL, [PLN_CTRL_RETRY, PLN_CTRL_PROFILE]),
   (PLN_CMD, [PLN_CMD_ROW, PLN_CMD_TYPE, PLN_CMD_OP]),
   (PLN_STATUS, [PLN_STATUS_FATAL_PREV, PLN_STATUS_SEAL_CHANGED, PLN_STATUS_CMD_FAIL, PLN_STATUS_READY, PLN_STATUS_BUSY]),
   (PLN_VALID, [PLN_VALID_SLOT, PLN_VALID_SMALL, PLN_VALID_TRAIN]),
   (PLN_CYCLE, [PLN_CYCLE_COUNT]),
   (PLN_ERR, [PLN_ERR_CMD_REFUSED, PLN_ERR_CYCLE_LOST, PLN_ERR_WRITE_FAIL, PLN_ERR_CORR]),
   (PLN_BUF, [PLN_BUF_DATA])]

def regsMAS : List (RegAt × List Field) :=
  [(MAS_CTRL, [MAS_CTRL_HQID, MAS_CTRL_HNS, MAS_CTRL_OUT_MAX, MAS_CTRL_RUN]),
   (MAS_CMD, [MAS_CMD_RESET]),
   (MAS_STATUS, [MAS_STATUS_PC, MAS_STATUS_OUTSTANDING, MAS_STATUS_NESTED, MAS_STATUS_MODE, MAS_STATUS_STATE]),
   (MAS_TASK, [MAS_TASK_NS, MAS_TASK_PRIV, MAS_TASK_QID]),
   (MAS_ERR, [MAS_ERR_BITS]),
   (MAS_GLOBAL, [MAS_GLOBAL_PROFILE]),
   (MAS_IMG_ADDR, [MAS_IMG_ADDR_ADDR]),
   (MAS_IMG_CMD, [MAS_IMG_CMD_GO, MAS_IMG_CMD_OP, MAS_IMG_CMD_KIND, MAS_IMG_CMD_LEN]),
   (MAS_IMG_STATUS, [MAS_IMG_STATUS_VERSION, MAS_IMG_STATUS_SOURCE, MAS_IMG_STATUS_BUSY, MAS_IMG_STATUS_RESULT])]

def regsTPL : List (RegAt × List Field) :=
  [(TPL_CFG, [TPL_CFG_D_BIT, TPL_CFG_A_BIT]),
   (TPL_ENTRY, [TPL_ENTRY_WORD]),
   (TPL_CTRL, [TPL_CTRL_PROFILE])]

def regsHOD : List (RegAt × List Field) :=
  [(HOD_CFG, [HOD_CFG_CARVE_PAGES, HOD_CFG_MODE]),
   (HOD_CARVE, [HOD_CARVE_BASE]),
   (HOD_STATUS, [HOD_STATUS_RP_WP, HOD_STATUS_RING_RP, HOD_STATUS_MODE_IN, HOD_STATUS_CFG_REFUSED, HOD_STATUS_SPILL_ERR, HOD_STATUS_PTR_FAULT, HOD_STATUS_OVERRUN, HOD_STATUS_FULL, HOD_STATUS_HOD_COUNT]),
   (HOD_CTRL, [HOD_CTRL_SPILL_NS, HOD_CTRL_SPILL_QID, HOD_CTRL_PROFILE])]

def regsKEY : List (RegAt × List Field) :=
  [(KEY_CTRL, [KEY_CTRL_PROFILE]),
   (KEY_WDOG, [KEY_WDOG_MNT_US, KEY_WDOG_LOCK_US]),
   (KEY_CMD, [KEY_CMD_CLEAR_TORN, KEY_CMD_SLOT]),
   (KEY_HOST_REQ, [KEY_HOST_REQ_OP, KEY_HOST_REQ_SLOT, KEY_HOST_REQ_BASE]),
   (KEY_HOST_CNT, [KEY_HOST_CNT_COUNT]),
   (KEY_HOST_RES, [KEY_HOST_RES_DONE, KEY_HOST_RES_RESULT]),
   (KEY_ERR, [KEY_ERR_SLOT, KEY_ERR_PARITY, KEY_ERR_WDOG_MNT, KEY_ERR_WDOG_LOCK]),
   (KEY_CLASS, [KEY_CLASS_LOSSES, KEY_CLASS_CLASS]),
   (KEY_SLOT, [KEY_SLOT_STATE, KEY_SLOT_COUNT, KEY_SLOT_BASE, KEY_SLOT_KIND]),
   (KEY_SLOT_OWN, [KEY_SLOT_OWN_AGE_US, KEY_SLOT_OWN_OWNER]),
   (KEY_MNT_CTRL, [KEY_MNT_CTRL_MRR_DATA, KEY_MNT_CTRL_LOST, KEY_MNT_CTRL_GRANTED, KEY_MNT_CTRL_RELEASE, KEY_MNT_CTRL_REQ]),
   (KEY_MNT_CMD, [KEY_MNT_CMD_OP, KEY_MNT_CMD_RANK, KEY_MNT_CMD_ADDR, KEY_MNT_CMD_DATA])]

def regsBND : List (RegAt × List Field) :=
  [(BND_CTRL, [BND_CTRL_PROFILE]),
   (BND_CFG, [BND_CFG_TIMEOUT_US, BND_CFG_HELLO_US]),
   (BND_STATUS, [BND_STATUS_NONCE, BND_STATUS_REACHABLE, BND_STATUS_STABLE, BND_STATUS_TAGS_FREE]),
   (BND_COUNT, [BND_COUNT_LATE_CPL, BND_COUNT_CRC]),
   (BND_PORT_NBR, [BND_PORT_NBR_UP]),
   (BND_PORT_STATUS, [BND_PORT_STATUS_LINK_UP]),
   (BND_ERR, [BND_ERR_BITS]),
   (BND_ERR_CAP, [BND_ERR_CAP_VALID, BND_ERR_CAP_KIND, BND_ERR_CAP_NODE, BND_ERR_CAP_ADDR]),
   (BND_ROUTE, [BND_ROUTE_VALID, BND_ROUTE_PIN, BND_ROUTE_PORT, BND_ROUTE_NH, BND_ROUTE_HOPS, BND_ROUTE_ACCEPT, BND_ROUTE_NS_FORCE, BND_ROUTE_PRIV_MAX])]

def regsBUT : List (RegAt × List Field) :=
  [(BUT_CTRL, [BUT_CTRL_PROFILE]),
   (BUT_CFG, [BUT_CFG_GRACE_US, BUT_CFG_SWEEP_MS]),
   (BUT_STATUS0, [BUT_STATUS0_SRC]),
   (BUT_STATUS1, [BUT_STATUS1_SRC]),
   (BUT_WIRE0, [BUT_WIRE0_SRC]),
   (BUT_WIRE1, [BUT_WIRE1_SRC]),
   (BUT_CAP_INFO, [BUT_CAP_INFO_VALID, BUT_CAP_INFO_INJ, BUT_CAP_INFO_INJ_COINCIDE, BUT_CAP_INFO_SOURCE, BUT_CAP_INFO_SEV, BUT_CAP_INFO_ACCESS, BUT_CAP_INFO_MKIND, BUT_CAP_INFO_REG, BUT_CAP_INFO_KIND, BUT_CAP_INFO_MERGE_COUNT, BUT_CAP_INFO_MASTER]),
   (BUT_CAP_ADDR, [BUT_CAP_ADDR_ADDR_VALID, BUT_CAP_ADDR_ADDR]),
   (BUT_CAP_TIME, [BUT_CAP_TIME_UPTIME]),
   (BUT_ACK, [BUT_ACK_ACK, BUT_ACK_SOURCE]),
   (BUT_SAFETY, [BUT_SAFETY_PASSES, BUT_SAFETY_FAIL_SRC, BUT_SAFETY_SWEEP_FAIL, BUT_SAFETY_SWEEP_ON, BUT_SAFETY_SAFE]),
   (BUT_SRC, [BUT_SRC_COUNT, BUT_SRC_REACT, BUT_SRC_FORCE, BUT_SRC_FORCE_SEV, BUT_SRC_INJ_COINCIDE, BUT_SRC_SEV_MAX, BUT_SRC_STATE])]

def regsPLB : List (RegAt × List Field) :=
  [(PLB_CTRL, [PLB_CTRL_FROZEN, PLB_CTRL_CLEAR, PLB_CTRL_FREEZE, PLB_CTRL_PROFILE]),
   (PLB_CNT, [PLB_CNT_VALUE]),
   (PLB_BCNT, [PLB_BCNT_VALUE]),
   (PLB_CNT_CTL, [PLB_CNT_CTL_OVF, PLB_CNT_CTL_NA, PLB_CNT_CTL_FSET, PLB_CNT_CTL_FEN, PLB_CNT_CTL_EVENT]),
   (PLB_BCNT_CTL, [PLB_BCNT_CTL_OVF, PLB_BCNT_CTL_NA, PLB_BCNT_CTL_FSET, PLB_BCNT_CTL_FEN, PLB_BCNT_CTL_EVENT, PLB_BCNT_CTL_CHAN]),
   (PLB_FLT_MST, [PLB_FLT_MST_KIND, PLB_FLT_MST_NODE, PLB_FLT_MST_PORT, PLB_FLT_MST_HI, PLB_FLT_MST_LO]),
   (PLB_FLT_ALO, [PLB_FLT_ALO_EN, PLB_FLT_ALO_LO]),
   (PLB_FLT_AHI, [PLB_FLT_AHI_HI]),
   (PLB_FLT_QOS, [PLB_FLT_QOS_QMODE, PLB_FLT_QOS_PRIV, PLB_FLT_QOS_SEC, PLB_FLT_QOS_QUEUES, PLB_FLT_QOS_QID_HI, PLB_FLT_QOS_QID_LO]),
   (PLB_TAG_CFG, [PLB_TAG_CFG_SEED, PLB_TAG_CFG_K, PLB_TAG_CFG_EN]),
   (PLB_TAG_STATUS, [PLB_TAG_STATUS_WR, PLB_TAG_STATUS_INFLIGHT]),
   (PLB_TAG_RD, [PLB_TAG_RD_RD]),
   (PLB_ERR, [PLB_ERR_UNCORR, PLB_ERR_CORR])]

def regsDST : List (RegAt × List Field) :=
  [(DST_CTRL, [DST_CTRL_MODE, DST_CTRL_FREEZE]),
   (DST_CMD, [DST_CMD_EXT_CLEAR, DST_CMD_HIST_CLEAR, DST_CMD_LOG_CLEAR, DST_CMD_SNAP]),
   (DST_STATUS, [DST_STATUS_MISSED, DST_STATUS_DROPPED, DST_STATUS_LOG_USED, DST_STATUS_MODE_IN, DST_STATUS_LOG_FULL, DST_STATUS_SNAP_BUSY, DST_STATUS_FROZEN]),
   (DST_CURSOR, [DST_CURSOR_REGION, DST_CURSOR_AUTOINC, DST_CURSOR_INDEX]),
   (DST_HIST_CFG, [DST_HIST_CFG_LAT_UNIT, DST_HIST_CFG_DLY_UNIT, DST_HIST_CFG_DEPTH_UNIT]),
   (DST_TRIG, [DST_TRIG_PERIOD_US, DST_TRIG_BUT_EN, DST_TRIG_BUT_SEV, DST_TRIG_BUT_SRC, DST_TRIG_OVF_EN, DST_TRIG_HOD_EN]),
   (DST_WINDOW, [DST_WINDOW_DATA]),
   (DST_SNAP_SEL, [DST_SNAP_SEL_VALID, DST_SNAP_SEL_OFFSET])]

def regsQUO : List (RegAt × List Field) :=
  [(QUO_STATUS, [QUO_STATUS_OUTSTANDING, QUO_STATUS_QUAR, QUO_STATUS_CAUSE, QUO_STATUS_STATE]),
   (QUO_RELEASE, [QUO_RELEASE_RELEASE]),
   (QUO_ERR, [QUO_ERR_DRAIN_BUSY, QUO_ERR_UR_SENT, QUO_ERR_UNEXP_CPL, QUO_ERR_MALFORMED, QUO_ERR_CPL_TIMEOUT, QUO_ERR_POISON_RX]),
   (QUO_IDENT, [QUO_IDENT_LOCK, QUO_IDENT_SSID, QUO_IDENT_SSVID]),
   (QUO_DSN, [QUO_DSN_DSN]),
   (QUO_DRAIN_ADDR, [QUO_DRAIN_ADDR_ADDR]),
   (QUO_DRAIN_CPL, [QUO_DRAIN_CPL_ADDR]),
   (QUO_DRAIN_CTL, [QUO_DRAIN_CTL_GO, QUO_DRAIN_CTL_REGION, QUO_DRAIN_CTL_COUNT, QUO_DRAIN_CTL_START]),
   (QUO_DRAIN_STATUS, [QUO_DRAIN_STATUS_DONE_ITEMS, QUO_DRAIN_STATUS_STATUS]),
   (QUO_EXPORT_BASE, [QUO_EXPORT_BASE_BASE]),
   (QUO_EXPORT_CTL, [QUO_EXPORT_CTL_PI_ADDR, QUO_EXPORT_CTL_SIZE, QUO_EXPORT_CTL_EN]),
   (QUO_EXPORT_CI, [QUO_EXPORT_CI_CI])]

def regsBLK : List (RegAt × List Field) :=
  [(BLK_BOOT, [BLK_BOOT_BASIC, BLK_BOOT_TRAIN_GO, BLK_BOOT_STEP]),
   (BLK_CHAN_RST, [BLK_CHAN_RST_BUSY, BLK_CHAN_RST_GO]),
   (BLK_VERSION, [BLK_VERSION_MAJOR, BLK_VERSION_MINOR]),
   (BLK_BUILD, [BLK_BUILD_MASONS, BLK_BUILD_PAIR, BLK_BUILD_KEY_FUSED, BLK_BUILD_PROGRAM_SEAL, BLK_BUILD_DEBUG_SEAL, BLK_BUILD_NODE, BLK_BUILD_CHANNELS]),
   (BLK_EXPERT_EN, [BLK_EXPERT_EN_EN]),
   (BLK_UPTIME, [BLK_UPTIME_UPTIME]),
   (BLK_KEY_DIGEST, [BLK_KEY_DIGEST_DIGEST])]

/-- Every register of the index (R419 and the stores it names). -/
def allRegs : List (RegAt × List Field) :=
  regsHDR ++ regsMOR ++ regsMAP ++ regsSET ++ regsGAU ++ regsTIM ++ regsPNT ++ regsASH ++ regsSCR ++ regsPLN ++ regsMAS ++ regsTPL ++ regsHOD ++ regsKEY ++ regsBND ++ regsBUT ++ regsPLB ++ regsDST ++ regsQUO ++ regsBLK

end Sys2Proof.Machine
end

