-- ==== Sys2Proof/Machine/State.lean ====
section
/-! DEFINITION. The whole state of the DX24 as plain data, and the macro out of reset. The docstring
of each field names the rule and file of the spec, and its reset value. Unit tables list what differs
from the unit's initial state. -/

namespace Sys2Proof.Machine

/-- The state of one Header port that its registers do not hold (02_header_ports.md). -/
structure PortSt where
  /-- Port state: 0 CLOSED, 1 OPEN, 2 DRAIN, 3 FENCED (R64, 02_header_ports.md; reset 0) -/
  st : Nat
  /-- Request credits presented at the last entry to OPEN (R61, 02_header_ports.md; reset 0) -/
  reqCredits : Nat
  /-- Write-data credits presented at the last entry to OPEN (R61, 02_header_ports.md; reset 0) -/
  wdCredits : Nat
  /-- Data-bearing requests that await their write-data slot, oldest first (R63, 02_header_ports.md; reset empty) -/
  awaits : List Await
  /-- Slot 0 of a two-slot request transfer was accepted and slot 1 is next (R61 rule 4, 02_header_ports.md; reset false) -/
  pairOpen : Bool
  /-- Slot 0 of a two-slot write-data transfer was accepted and slot 1 is next (R49, 02_header_ports.md; reset false) -/
  wdPair : Bool
  /-- Write-data slots accepted since the last entry to OPEN; with those still buffered it gives the credits
  that `hdrn_wd_crd_rtn` returned (R61 rule 3, 02_header_ports.md; reset 0) -/
  wdTaken : Nat
  /-- Tags whose completions were accepted in the present HCLKn cycle (R70, 02_header_ports.md; reset empty) -/
  cycTags : List Nat
  /-- `HDR_ERR_CAP` was filled in the present HCLKn cycle (R76, 02_header_ports.md; reset false) -/
  capFresh : Bool
  /-- Requests whose CPL_STALL was already reported (R71, 02_header_ports.md; reset empty) -/
  stalled : List Nat
  /-- HCLKn is within range (`HDR_STATUS.CLK_OK`, R32, 01_macro_boundary.md; reset false) -/
  clkOk : Bool
  /-- Uptime since which HCLKn has run within range (R73, 02_header_ports.md; reset 0) -/
  clkSince : Nat
  /-- HCLKn shows no edges: no handshake occurs (R32, R73, 01_macro_boundary.md; reset false) -/
  stopped : Bool
  /-- The port acted on the present stop of HCLKn: it abandoned what it held (R73, 02_header_ports.md; reset false) -/
  abandoned : Bool
  /-- Last completion transferred (R51 output signals, 02_header_ports.md; reset 0) -/
  lastCpl : CplSlot
  deriving DecidableEq, Repr

/-- A port out of cold reset (R74). -/
def PortSt.init : PortSt :=
  { st := 0, reqCredits := 0, wdCredits := 0, awaits := [], pairOpen := false, wdPair := false, wdTaken := 0,
    cycTags := [], capFresh := false, stalled := [], clkOk := false, clkSince := 0, stopped := false,
    abandoned := false, lastCpl := ⟨0, 0, 0, 0, 0⟩ }

/-- The state of one channel's request core, Setter, issuer and shadow checker that its registers do
not hold. -/
structure SetSt where
  /-- Meters that differ from a full meter at reset values, by QID (R115, R134, 05_setter_qos.md; reset full at reset parameters) -/
  meters : Tbl Meter
  /-- Green queue of each QID, where it differs from 0100 (R122, R134, 05_setter_qos.md; reset 0100) -/
  qidClass : Tbl Nat
  /-- Deficits of W0 to W11, where not 0 (R125, R134, 05_setter_qos.md; reset 0) -/
  deficit : Tbl Nat
  /-- The `added` marks of W0 to W11 (R125, 05_setter_qos.md; reset none) -/
  added : List Nat
  /-- The DRR pointer (R125, R134, 05_setter_qos.md; reset W0) -/
  drr : Nat
  /-- Uptime of the last refill tick applied (R115, 05_setter_qos.md; reset 0) -/
  lastTick : Nat
  /-- Multiple of 256 ns at which the queues were last sampled (R132, 05_setter_qos.md; reset 0) -/
  lastSample : Nat
  /-- Write conservation: lines entered (R354, 15_buttress_faults.md; reset 0) -/
  wsEntered : Nat
  /-- Write conservation: lines released (R354, 15_buttress_faults.md; reset 0) -/
  wsReleased : Nat
  /-- Write conservation: lines resident (R354, 15_buttress_faults.md; reset 0) -/
  wsResident : Nat
  /-- Read-return lines reserved, by the request that holds each (R79, 03_mortar_core.md; reset empty) -/
  rrHeld : List Nat
  deriving DecidableEq, Repr

/-- A Setter out of cold reset (R134). -/
def SetSt.init : SetSt := ⟨[], [], [], [], 0, 0, 0, 0, 0, 0, []⟩

/-- The issuer and the shadow checker of one channel (06_command_timing.md). -/
structure TimSt where
  /-- In-force copy of rows 1 to 47 held by the issuer (R139, R158, 06_command_timing.md; reset the field reset values) -/
  tabI : List Nat
  /-- In-force copy of rows 1 to 47 held by the shadow checker (R139, R151, 06_command_timing.md; reset as the issuer's) -/
  tabC : List Nat
  /-- The accepted copy that awaits its seam point while PEND = 1 (R139, 06_command_timing.md; reset none) -/
  pendTab : Option (List Nat)
  /-- Commands that passed the checker, newest first, as far back as a rule looks (R137, R138, 06_command_timing.md; reset empty) -/
  hist : List Passed
  /-- Banks of the issuer that differ from closed, unrecorded, OPEN_WEAK (R145, R158, 06_command_timing.md; reset closed) -/
  banks : Tbl Bank
  /-- Instant at which a queued request for the bank last left the Setter with a line not commanded (R147, R160,
  06_command_timing.md; reset none) -/
  left : Tbl Nat
  /-- Open rows of the checker's own bank model (R151, R158, 06_command_timing.md; reset all closed) -/
  chkOpen : Tbl Nat
  /-- Alert onset of the last PRAC back-off, by physical rank: in progress until its end in `backoffEnd` (R149, R168, 06_command_timing.md; reset none) -/
  backoff : Tbl Nat
  /-- End of the last back-off RFMs, by physical rank (row 36, R149, 06_command_timing.md; reset none) -/
  backoffEnd : Tbl Nat
  /-- Write column commands issued in the present write phase, subchannels A and B (R141, 06_command_timing.md; reset 0, 0) -/
  drained : Nat × Nat
  /-- A replay is in progress (R150, 06_command_timing.md; reset false) -/
  replaying : Bool
  /-- Consecutive replays that ended in an alert (R150, 06_command_timing.md; reset 0) -/
  replayFails : Nat
  /-- The commands the replay buffer held at the alert, oldest first (R150, R158, 06_command_timing.md; reset empty) -/
  replayBuf : List Passed
  /-- Instant from which commands stand in the replay buffer: a reset empties it (R158, 06_command_timing.md; reset 0) -/
  bufFrom : Nat
  /-- Reissued column commands: subchannel and issue instant (R155, 06_command_timing.md; reset empty) -/
  redone : List (Nat × Nat)
  /-- Onsets of PRAC alerts that came before step 3 of a replay, by physical rank (R157, 06_command_timing.md; reset none) -/
  pracLater : Tbl Nat
  /-- Step 3 of the replay is done (R150, 06_command_timing.md; reset false) -/
  replayPre : Bool
  /-- The cycle of the alert that began the replay, and the end of the last replay (R155, R157, 06_command_timing.md;
  reset 0, 0) -/
  alertAt : Nat
  replayEnd : Nat
  /-- Slots that a deselect took in the channel's present cycle: subchannel and cycle (R152, 06_command_timing.md; reset none) -/
  desel : List (Nat × Nat)
  /-- Bursts on their way back from DRAM, oldest first (R183, 08_ashlar_integrity.md; reset empty) -/
  bursts : List Burst
  /-- One past the start of the last slot classified, subchannels A and B (R154, R155, 06_command_timing.md; reset 0, 0) -/
  slotAt : Nat × Nat
  /-- Slots whose decision cycle fell in the replay under way with no request queued: subchannel and start; they are
  counted at its end (R155, 06_command_timing.md; reset none) -/
  slotWait : List (Nat × Nat)
  deriving DecidableEq, Repr

/-- The reset values of rows 1 to 47 (the fields of 06_command_timing.md; rows 16, 19, 22 and 23 are
derived). -/
def TimSt.resetTab : List Nat :=
  [0xFF, 0xFF, 0xFF, 0xFF, 0x3F, 0x3F, 0xFF, 0x3F, 0xFF, 0x0F, 0x0F, 0x3F, 0x7F, 0xFF, 0xFF, 2,
   0x3F, 0x7F, 0xF, 0x1F, 0x1F, 0xF, 0xF, 0x3F, 0xFF, 0x0F, 0xFFFF, 0x0100, 0xFFFF, 0xFFFF, 0xFFFF,
   0xFFFF, 0xFFFF, 0xFFFF, 0x0001, 0xFFFF, 0xFF, 0xFF, 0xFF, 0xFF, 0xFFFF, 0xFF, 0xFF, 0xFF, 0xFF,
   0xFF, 0xFFFF]

/-- An issuer out of cold reset (R158). -/
def TimSt.init : TimSt :=
  { tabI := TimSt.resetTab, tabC := TimSt.resetTab, pendTab := none, hist := [], banks := [], left := [], chkOpen := [],
    backoff := [], backoffEnd := [], drained := (0, 0), replaying := false, replayFails := 0, replayBuf := [],
    bufFrom := 0, redone := [], pracLater := [], replayPre := false, alertAt := 0, replayEnd := 0, desel := [],
    bursts := [], slotAt := (0, 0), slotWait := [] }

/-- No replay under way: its buffer and what waited for it are gone. -/
def TimSt.noReplay (t : TimSt) : TimSt :=
  { t with replaying := false, replayFails := 0, replayBuf := [], pracLater := [], replayPre := false }

/-- A report on its way to Buttress (R343, R346). `mkind` is 0 port, 1 Mason, 2 inbound Bond,
3 none. -/
structure Report where
  sev : Nat
  access : Nat
  reg : Nat
  kind : Nat
  mkind : Nat
  master : Nat
  addr : Option Nat
  time : Nat
  forced : Bool
  coincide : Bool
  deriving DecidableEq, Repr

/-- Buttress (15_buttress_faults.md). -/
structure ButSt where
  /-- Report queue of each source, oldest first, at most 8 (R343, 15_buttress_faults.md; reset empty) -/
  queue : Tbl (List Report)
  /-- Uptime at which each PENDING source's grace timer expires (R350, 15_buttress_faults.md; reset none) -/
  expiry : Tbl Nat
  /-- Sources whose line is in WIRE_FAULT condition (R342, 15_buttress_faults.md; reset none) -/
  wire : List Nat
  /-- Uptime at which the running sweep pass started (R353, 15_buttress_faults.md; reset none) -/
  pass : Option Nat
  /-- A start deferred to the end of the running pass (R353, 15_buttress_faults.md; reset false) -/
  deferred : Bool
  /-- Multiple of SWEEP_MS last seen (R353, 15_buttress_faults.md; reset 0) -/
  lastSweep : Nat
  /-- SAFE is held at 0 until a complete pass of R358 (R358, 15_buttress_faults.md; reset true) -/
  unsafeUntilPass : Bool
  /-- Timers are stopped by a warm reset (R358, 15_buttress_faults.md; reset false) -/
  paused : Bool
  /-- Uptime at which a real report of a source last merged into its newest entry (R343, R348, 15_buttress_faults.md; reset
  none) -/
  merged : Tbl Nat
  deriving DecidableEq, Repr

/-- Buttress out of cold reset (R358). -/
def ButSt.init : ButSt := ⟨[], [], [], none, false, 0, true, false, []⟩

/-- Plumb's counters and sampler (16_plumb_datestone.md). -/
structure PlbSt where
  /-- Counter VALUEs that are not 0, by counter number 8c + i or 192 + j (R361, 16_plumb_datestone.md; reset 0) -/
  cnt : Tbl Nat
  /-- Counters whose OVF is set (R361, 16_plumb_datestone.md; reset none) -/
  ovf : List Nat
  /-- Counting is stopped (R366, 16_plumb_datestone.md; reset false) -/
  stopped : Bool
  /-- LFSR states of the 15 entry points; absent = as reloaded from SEED (R367, 16_plumb_datestone.md; reset reloaded) -/
  lfsr : Tbl Nat
  /-- Tags chosen at each entry point since its LFSR was reloaded (R369, 16_plumb_datestone.md; reset 0) -/
  seq : Tbl Nat
  /-- Finished records that await their write to the tag buffer (R369, 16_plumb_datestone.md; reset empty) -/
  doneRecs : List (List Nat)
  /-- The tag buffer: eight words of each record, by index (R370, 16_plumb_datestone.md; reset empty) -/
  ring : Tbl (List Nat)
  /-- A clear of every counter waits for the next RCLK edge (R366, 16_plumb_datestone.md; reset false) -/
  clearDue : Bool
  /-- EVENT, FSET, FEN and CHAN that a counter goes on with until the next RCLK edge, where a write has replaced them,
  by counter (R380, 16_plumb_datestone.md; reset none) -/
  ctlOld : Tbl (Nat × Nat × Nat × Nat)
  /-- Records written to the tag buffer since cold reset (R395, 17_quoin_endpoint.md; reset 0) -/
  recNo : Nat
  deriving DecidableEq, Repr

/-- Plumb out of cold reset (R382). -/
def PlbSt.init : PlbSt := ⟨[], [], false, [], [], [], [], false, [], 0⟩

/-- The Datestone (16_plumb_datestone.md). -/
structure DstSt where
  /-- Histogram bins that are not 0, by 432c + bin (R372, 16_plumb_datestone.md; reset 0) -/
  hist : Tbl Nat
  /-- Extremes that are not EMPTY: value and uptime, by 4 x item + position of R377 (R374, 16_plumb_datestone.md; reset EMPTY) -/
  ext : Tbl (Nat × Nat)
  /-- Log entries filled: eight words each (R376, 16_plumb_datestone.md; reset empty) -/
  log : List (List Nat)
  /-- Waiting triggers: code, detail, uptime (R375, 16_plumb_datestone.md; reset empty) -/
  trig : List (Nat × Nat × Nat)
  /-- Uptime at which the period trigger was last looked at (R375, 16_plumb_datestone.md; reset 0) -/
  lastPeriod : Nat
  /-- The word the last read of `DST_WINDOW` returned (R378, 16_plumb_datestone.md; reset 0) -/
  winOut : Nat
  /-- The freeze is in force (R379, 16_plumb_datestone.md; reset false) -/
  frozen : Bool
  /-- The store that histograms and log share holds the log (R371, 16_plumb_datestone.md; reset false) -/
  logHeld : Bool
  deriving DecidableEq, Repr

/-- The Datestone out of cold reset (R382). -/
def DstSt.init : DstSt := ⟨[], [], [], [], 0, 0, false, false⟩

/-- What Screed reads of the DIMMs of a channel at training (R165, R23, R4): it stands for the DIMMs
outside the macro and no instruction of the block writes it. -/
structure Dimm where
  /-- The chip selects of each DIMM of the channel, as step 0 found them (R23, 01_macro_boundary.md; reset none, DESIGN
  CHOICE) -/
  dimms : List (List Nat)
  /-- Per-Row Activation Counting offered (R165, 07_pointing_refresh.md; reset false, DESIGN CHOICE) -/
  prac : Bool
  /-- Refresh Management offered (R165, 07_pointing_refresh.md; reset false, DESIGN CHOICE) -/
  rfm : Bool
  /-- Same-bank refresh offered (R159, 07_pointing_refresh.md; reset false, DESIGN CHOICE) -/
  sameBank : Bool
  /-- The DIMM's IMT (R166, 07_pointing_refresh.md; reset 0, DESIGN CHOICE) -/
  imt : Nat
  /-- The DIMM's MMT (R166, 07_pointing_refresh.md; reset 0, DESIGN CHOICE) -/
  mmt : Nat
  /-- The DIMM's RFMab per back-off (R168, 07_pointing_refresh.md; reset 1, DESIGN CHOICE) -/
  aboRfm : Nat
  deriving DecidableEq, Repr

/-- A population of which nothing is offered. -/
def Dimm.init : Dimm := ⟨[], false, false, false, 0, 0, 1⟩

/-- Pointing of one channel (07_pointing_refresh.md). Refresh units are numbered 4 x subchannel +
logical rank. -/
structure PntSt where
  /-- owed of each refresh unit (R160, R178, 07_pointing_refresh.md; reset 0, 1 at the end of the first training) -/
  owed : Tbl Int
  /-- Next tick instant of each refresh unit in CCLK (R162, 07_pointing_refresh.md; reset none) -/
  nextTick : Tbl Nat
  /-- Ticks of the present interval already made, for SAME_BANK (R162, 07_pointing_refresh.md; reset 0) -/
  tickNo : Tbl Nat
  /-- Bank index the next REFsb of each unit covers (R162, 07_pointing_refresh.md; reset 0) -/
  nextSb : Tbl Nat
  /-- The doubled rate asked for, and in force from each unit's next tick (R163, 07_pointing_refresh.md; reset 1x) -/
  want2x : Bool
  /-- Units that have already ticked at the rate asked for (R163, 07_pointing_refresh.md; reset empty) -/
  rateUnits : List Nat
  /-- Consecutive polls in which no device needed the doubled rate (R163, 07_pointing_refresh.md; reset 0) -/
  calmPolls : Nat
  /-- Uptime of the last MR4 poll (R163, 07_pointing_refresh.md; reset 0) -/
  lastPoll : Nat
  /-- A mode written and not yet in force (R164, 07_pointing_refresh.md; reset none) -/
  modePend : Option Nat
  /-- Units whose DRAM took the mode-register write of step 2 of R164 (R164, 07_pointing_refresh.md; reset none) -/
  modeWritten : List Nat
  /-- Uptime of the last ZQCal Start to each physical rank (R170, 07_pointing_refresh.md; reset 0) -/
  zqLast : Tbl Nat
  /-- CCLK instant of a ZQCal Start that awaits its Latch, by physical rank (R170, 07_pointing_refresh.md; reset none) -/
  zqOpen : Tbl Nat
  /-- RAA count of each bank (R166, R178, 07_pointing_refresh.md; reset 0) -/
  raa : Tbl Nat
  /-- The row tracker: (row, count) entries of each bank (R167, R178, 07_pointing_refresh.md; reset empty) -/
  track : Tbl (List (Nat × Nat))
  /-- Banks to which an RFMsb is due (R166, R167, 07_pointing_refresh.md; reset none) -/
  rfmDue : List Nat
  /-- Extra refreshes due, one entry each: 4 x unit + bank index (R167, 07_pointing_refresh.md; reset none) -/
  extraDue : List Nat
  /-- CCLK instant of the last halving of the tracker counts (R167, 07_pointing_refresh.md; reset 0) -/
  lastHalve : Nat
  /-- CCLK instant at which cold-start mode ends (R169, 07_pointing_refresh.md; reset none) -/
  coldEnd : Option Nat
  /-- Cold-start mode begins at the next tick (R169, 07_pointing_refresh.md; reset true) -/
  coldArmed : Bool
  /-- RFMab commands still to be issued to each logical rank in a back-off (R168, 07_pointing_refresh.md; reset none) -/
  aboLeft : Tbl Nat
  /-- Physical ranks in power-down: CCLK instant of PDE, by 2 x subchannel + physical rank (R172, 07_pointing_refresh.md; reset none) -/
  pd : Tbl Nat
  /-- Ranks in self-refresh, by 2 x subchannel + physical rank (R173, 07_pointing_refresh.md; reset none) -/
  sr : List Nat
  /-- CCLK instant of the last column command to each unit (R160, 07_pointing_refresh.md; reset 0) -/
  lastCol : Tbl Nat
  /-- Cause of the self-refresh in progress: 0 none, 1 SR_REQ, 2 idle, 3 warm reset, 4 channel reset (R173, 07_pointing_refresh.md; reset 0) -/
  srWhy : Nat
  /-- Step of the entry or exit sequence (R173, R174, 07_pointing_refresh.md; reset 0) -/
  srStep : Nat
  /-- Uptime of the last SRE of an entry, or of the start of an exit (R173 step 7, R174 step 2, 07_pointing_refresh.md; reset 0) -/
  srAt : Nat
  /-- The channel PLL is stopped by self-refresh (R173 step 7, 07_pointing_refresh.md; reset false) -/
  pllOff : Bool
  /-- Units whose owed refreshes go before a training pause begins (R176, 07_pointing_refresh.md; reset none) -/
  pauseDue : List Nat
  deriving DecidableEq, Repr

/-- Pointing out of cold reset (R178). -/
def PntSt.init : PntSt :=
  ⟨[], [], [], [], false, [], 0, 0, none, [], [], [], [], [], [], [], 0, none, true, [], [], [],
   [], 0, 0, 0, false, []⟩

/-- Ashlar of one channel (08_ashlar_integrity.md). -/
structure AshSt where
  /-- Patrol: the line number in the channel from which the next line falls due; the cursor is the oldest line due and not
  read, else this (R189, R197, 08_ashlar_integrity.md; reset lowest mapped line) -/
  patrol : Nat
  /-- Lines due that a reset or fence dropped before they were read, by line number (R189, 08_ashlar_integrity.md; reset none) -/
  again : List Nat
  /-- A patrol pass is under way, and the uptime at which it began (R189, 08_ashlar_integrity.md; reset false, 0) -/
  passOn : Bool
  passStart : Nat
  /-- Uptime from which the next patrol line is due, which a pause puts off, and the fraction of a nanosecond left
  over, as a numerator over the mapped lines (R189, 08_ashlar_integrity.md; reset 0, 0) -/
  dueAt : Nat × Nat
  /-- Initialisation cursor and last line of the run, as line numbers in the channel (R190, 08_ashlar_integrity.md; reset none) -/
  initRun : Option (Nat × Nat)
  /-- Sparing: next line number to copy (R193, 08_ashlar_integrity.md; reset 0) -/
  spareAt : Nat
  /-- Sparing: lines copied (R193, 08_ashlar_integrity.md; reset 0) -/
  spared : Nat
  /-- Sparing: the spare rank that copied lines are issued to (R193, 08_ashlar_integrity.md; reset 0) -/
  spareTo : Nat
  /-- Uptime of the last leak step of subchannels A and B (R191, 08_ashlar_integrity.md; reset 0, 0) -/
  lastLeak : Nat × Nat
  /-- Scrub column commands among the last 4,096 slots: subchannel and issue instant (R188, 08_ashlar_integrity.md; reset empty) -/
  scrubSlots : List (Nat × Nat)
  /-- The codeword of a mismatched line that the sparing copy writes as read (R193, 08_ashlar_integrity.md; reset none) -/
  rawCopy : Option (List Nat)
  deriving DecidableEq, Repr

/-- Ashlar out of cold reset (R197). -/
def AshSt.init : AshSt := ⟨0, [], false, 0, (0, 0), none, 0, 0, 0, (0, 0), [], none⟩

/-- Screed of one channel (09_screed_training.md). -/
structure ScrSt where
  /-- Kind of the run in progress: 0 none, 1 full training, 2 fast resume, 3 exit correction, 4 periodic retraining, 5 apply (R198, 09_screed_training.md; reset 0) -/
  run : Nat
  /-- Subchannels the run holds quiesced: bit 0 A, bit 1 B (R207, 09_screed_training.md; reset 0) -/
  quiet : Nat
  /-- SCR_GUARD, SCR_SEED, SCR_LIMIT words and N latched at the run's start (R217, 09_screed_training.md; reset 0) -/
  latched : List Nat
  /-- Attempt number within the run, from 1 (R205, 09_screed_training.md; reset 0) -/
  attempt : Nat
  /-- Seeds of the present attempt: read pattern, write pattern (R205, 09_screed_training.md; reset 0, 0) -/
  seeds : Nat × Nat
  /-- Results of the run by (subchannel, row), packed as `SCR_RESULT` words (R208, 09_screed_training.md; reset empty) -/
  newRes : Tbl Nat
  /-- Progress beside `SCR_STATUS.STEP`: 0 a step runs, 3 the seam point is due, 4 the checks of a fast resume run; in a retraining bit 0 = A measured (R201, R211, R214, 09_screed_training.md; reset 0) -/
  passed : Nat
  /-- The calibration engine of the channel's CALREF is in use by this channel (R217, 09_screed_training.md; reset false) -/
  zqBusy : Bool
  /-- Uptime of the last retraining tick handled (R211, 09_screed_training.md; reset 0) -/
  lastTick : Nat
  /-- Periods passed since the last measurement (R211, 09_screed_training.md; reset 0) -/
  sinceMeas : Nat
  /-- `SCR_CMD.RETRAIN` was written since the last tick (R211, 09_screed_training.md; reset false) -/
  wantRetrain : Bool
  /-- The temperature baseline, once there is one (R211, R219, 09_screed_training.md; reset none) -/
  baseline : Option Nat
  /-- Consecutive failed measurements of subchannels A and B (R212, 09_screed_training.md; reset 0, 0) -/
  measFails : Nat × Nat
  /-- Trained values in force, by quantity, subchannel, rank and lane: taps, Vref steps, DFE taps, codes, and the
  oscillator counts recorded (R202, R212, R219, 09_screed_training.md; reset none) -/
  active : Tbl Nat
  /-- Values the run in progress has found, by the same keys (R209, R214, 09_screed_training.md; reset none) -/
  shadow : Tbl Nat
  /-- Ranks that have ended the step in progress, on subchannels A and B (R201, R204, 09_screed_training.md; reset 0, 0) -/
  prog : Nat × Nat
  /-- What the identity and capability reads of the run found (R165, R201, 09_screed_training.md; reset none) -/
  found : Option Dimm
  /-- The maintenance path was taken from the run in progress (R207, 09_screed_training.md; reset false) -/
  preempted : Bool
  /-- Rows 14 and 15 that the last training found (R139, R201, 09_screed_training.md; reset 0, 0) -/
  trained : Nat × Nat
  /-- The channel was fenced by TRAIN_FAIL (R205, 09_screed_training.md; reset false) -/
  trainFence : Bool
  /-- `CHcc_RESET_N` is high (R24, R205, 01_macro_boundary.md; reset false) -/
  resetN : Bool
  /-- Uptime at which the clock of the step on the present rank started, on subchannels A and B, and that of the attempt
  (R204, 09_screed_training.md; reset 0, 0, 0) -/
  stepAt : Nat × Nat
  attAt : Nat
  deriving DecidableEq, Repr

/-- Screed out of cold reset (R219). -/
def ScrSt.init : ScrSt :=
  ⟨0, 0, [], 0, (0, 0), [], 0, false, 0, 0, false, none, (0, 0), [], [], (0, 0), none, false, (0, 0), false, false,
   (0, 0), 0⟩

/-- One channel: the units of chapters 05 to 09, and its fences. -/
structure Chan where
  /-- Setter and gauge meters (05_setter_qos.md) -/
  set : SetSt
  /-- Issuer and shadow checker (06_command_timing.md) -/
  tim : TimSt
  /-- Pointing (07_pointing_refresh.md) -/
  pnt : PntSt
  /-- Ashlar (08_ashlar_integrity.md) -/
  ash : AshSt
  /-- Screed (09_screed_training.md) -/
  scr : ScrSt
  /-- The DIMMs, outside the macro (R165, 07_pointing_refresh.md) -/
  dimm : Dimm
  /-- Present CCLK count of the channel: the latest instant a command of the model named (R137, 06_command_timing.md; reset 0) -/
  now : Nat
  /-- The channel is fenced by a cause other than TRAIN_FAIL (R152, R156, R195, R351, R354; reset false) -/
  fenced : Bool
  /-- The PLL lost lock since the channel last returned to service (R410, 18_bringup_reset.md; reset false) -/
  pllLost : Bool
  /-- Step of the channel reset in progress, 0 = none (R410, 18_bringup_reset.md; reset 0) -/
  rstStep : Nat
  /-- The channel was TRAINED when the warm or channel reset began (R409, R410, 18_bringup_reset.md; reset false) -/
  wasTrained : Bool
  /-- Screed has reached TRAINED or FAILED since cold reset (R358, 15_buttress_faults.md; reset false) -/
  settled : Bool
  /-- Maintenance path: holder's requester index, if held (R314, 13_hods_keystone.md; reset free) -/
  mntHolder : Option Nat
  /-- Uptime at which the maintenance path was granted (R311, 13_hods_keystone.md; reset 0) -/
  mntSince : Nat
  deriving DecidableEq, Repr

/-- A channel out of cold reset. -/
def Chan.init : Chan :=
  ⟨SetSt.init, TimSt.init, PntSt.init, AshSt.init, ScrSt.init, Dimm.init, 0, false, false, 0, false, false,
   none, 0⟩

/-- A Plinth store waiting or in progress (R227, R235): the record's TYPE and INDEX, its body rows, the
slot, ring start and SEQ chosen, the next row to write, and the write attempts spent on that row. -/
structure PlnStore where
  type : Nat
  index : Nat
  body : List (BitVec 512)
  length : Nat
  time : Nat
  deriving DecidableEq, Repr

/-- A command of `PLN_CMD` (R234, R235): its fields, what its read will meet (1 a corrected word, 2 a row that cannot be
corrected), and whether it has begun. -/
structure PlnCmd where
  op : Nat
  type : Nat
  row : Nat
  upset : Nat
  runs : Bool
  deriving DecidableEq, Repr

/-- Plinth (10_plinth_store.md). -/
structure PlnSt where
  /-- The 8,192 rows of 64 bytes that are not zero (R221, 10_plinth_store.md; kept through every reset, PRESUMED zero when new) -/
  rows : Tbl (BitVec 512)
  /-- Rows whose hidden check bits cannot correct them, until they are written (R221, R236, 10_plinth_store.md; kept through every reset, PRESUMED none when new) -/
  bad : List Nat
  /-- next_start of each window, by its first row (R227, R232, 10_plinth_store.md; reset 0) -/
  nextStart : Tbl Nat
  /-- Stores waiting, oldest first; the first is in progress when `row` is not none (R227, R235, 10_plinth_store.md; reset empty) -/
  stores : List PlnStore
  /-- Rows of the store in progress already written (R227, 10_plinth_store.md; reset none) -/
  row : Option Nat
  /-- Failed attempts at the row being written (R228, 10_plinth_store.md; reset 0) -/
  tries : Nat
  /-- The store in progress is dropped at its next row boundary (R233, R398, 10_plinth_store.md; reset false) -/
  dropping : Bool
  /-- The command of `PLN_CMD` in progress or waiting for the store in progress (R235, 10_plinth_store.md; reset none) -/
  cmd : Option PlnCmd
  /-- A FATAL record was already stored since cold reset (R233, R235, 10_plinth_store.md; reset false) -/
  fatalDone : Bool
  /-- Values that were handed over for TRAIN records, newest first, by channel: what the value blocks stored from them
  are read as (R213, R214, 10_plinth_store.md; kept through every reset, as the rows are) -/
  handed : List (Nat × Tbl Nat)
  deriving DecidableEq, Repr

/-- Plinth out of cold reset with an empty array. -/
def PlnSt.init : PlnSt := ⟨[], [], [], [], none, 0, false, none, false, []⟩

/-- One Mason: an Aklet engine with its stores and template (11_mason_engines.md, 12_aklet_isa.md). -/
structure Mason where
  /-- STATE of `MAS_STATUS`: 0 HALTED, 1 RUNNING, 2 FAULT, 3 RESETTING, 4 DEBUG (R261, R264, 11_mason_engines.md; reset 0) -/
  st : Nat
  /-- Instruction index, 12 bits, or 4,096 past the last (R267, 12_aklet_isa.md; reset 0) -/
  pc : Nat
  /-- s1 to s31, 64 bits each, where not zero (R238, R267, 12_aklet_isa.md; reset 0) -/
  regs : Tbl (BitVec 64)
  /-- l0 to l7 with poison mark and fill address, where not zero and clean (R238, R267, 12_aklet_isa.md; reset 0) -/
  lregs : Tbl LReg
  /-- Handler mode (R241, 11_mason_engines.md; reset true) -/
  handler : Bool
  /-- NESTED (R242, 11_mason_engines.md; reset false) -/
  nested : Bool
  /-- System registers EPC, CAUSE, TVAL, HEPC, HCAUSE, HTVAL by number (R289, 12_aklet_isa.md; reset 0) -/
  csr : Tbl (BitVec 64)
  /-- TASK: NS, PRIV, QID as in `MAS_TASK` (R289, 12_aklet_isa.md; reset NS = 1, PRIV 0, QID 0) -/
  task : Nat
  /-- FADDR, 64 bits (R283, R289, 12_aklet_isa.md; reset 0) -/
  faddr : Nat
  /-- The fence record: first bad status of a posted request and its address (R283, 12_aklet_isa.md; reset none) -/
  fence : Option (Status × Nat)
  /-- The template's 64 entries that were ever written (R247, 11_mason_engines.md; reset all invalid) -/
  tpl : Tbl TplEnt
  /-- The clock pointer, 6 bits (R249, 11_mason_engines.md; reset 0, DESIGN CHOICE) -/
  clock : Nat
  /-- Instruction store words that are not zero, by index 0 to 4,095 (R238, 11_mason_engines.md; reset 0) -/
  istore : Tbl (BitVec 32)
  /-- Scratch bytes that are not zero, by offset 0 to 32,767 (R238, 11_mason_engines.md; reset 0) -/
  scratch : List Host.Cell
  /-- Outstanding requests, runs and A/D updates (R240, R251, 11_mason_engines.md; reset none) -/
  outs : List MasOut
  /-- Uptime at which a WAIT ends (R290, 12_aklet_isa.md; reset none) -/
  waitEnd : Option Nat
  /-- A halt is due once the waiting instruction completes (R294, 12_aklet_isa.md; reset false) -/
  haltDue : Bool
  /-- The instruction at the PC was presented and waits (R294, 12_aklet_isa.md; reset false) -/
  stalled : Bool
  /-- A DEBUG halt is due, and the state DEBUG returns to (R262, 11_mason_engines.md; reset none, 0) -/
  dbgDue : Bool
  dbgFrom : Nat
  /-- One debug step is owed (R262, 11_mason_engines.md; reset false) -/
  dbgStep : Bool
  /-- Run control stood at run when last looked at (R261, R290, 11_mason_engines.md; reset false) -/
  asked : Bool
  deriving DecidableEq, Repr

/-- A Mason out of cold reset (R264, R268). -/
def Mason.init : Mason :=
  ⟨0, 0, [], [], true, false, [], 0x10000, 0, none, [], 0, [], [], [], none, false, false, false, 0, false, false⟩

/-- One hod (13_hods_keystone.md). Both pointer copies of R303 are one here; a mismatch enters as an
operand. -/
structure Hod where
  /-- MODE in force: RING (R298, R306; reset NATIVE) -/
  ring : Bool
  /-- CARVE_PAGES and BASE in force (R298, R306; reset 0, 0) -/
  pages : Nat
  base : Nat
  /-- Head items of NATIVE mode, oldest first (R298; reset empty) -/
  head : List (BitVec 256)
  /-- Lines of the carve-out in use, oldest first (R299; reset empty) -/
  mid : List HodLine
  /-- Next line index of the carve-out to write (R303; reset 0) -/
  nextLine : Nat
  /-- Tail items of NATIVE mode, oldest first (R298; reset empty) -/
  tail : List (BitVec 256)
  /-- Ring slots written, by slot 0 to 511 (R298; reset empty) -/
  slots : Tbl (BitVec 256)
  /-- Ring pointers rp and wp, 10 bits (R298; reset 0, 0) -/
  rp : Nat
  wp : Nat
  /-- Requesters whose pop waits for a refill: 0 to 191 a Mason, 192 the CONTROL path, 193 the Quoin (R297, R299; reset none) -/
  waits : List Nat
  deriving DecidableEq, Repr

/-- A hod out of cold reset under `HOD_CTRL.PROFILE` 00 (R316). -/
def Hod.init : Hod := ⟨false, 0, 0, [], [], 0, [], [], 0, 0, []⟩

/-- The Keystone (13_hods_keystone.md). -/
structure KeySt where
  /-- Lock slots that are HELD or TORN, by slot (R310; reset all FREE) -/
  slots : Tbl KeySlot
  /-- Loss counters, 0 to 12, by requester index (R308; reset 0) -/
  losses : Tbl Nat
  /-- Round-robin pointers, by 4 x resource + class, resource 0 the lock table and 1 + c the path of channel c (R308; reset 0) -/
  rr : Tbl Nat
  /-- Lock mailboxes: 32 bytes each, by number 0 to 255 (R312; reset 0) -/
  mail : Tbl (BitVec 256)
  /-- Result of the last `KEY_HOST_REQ` (R312; reset none) -/
  hostRes : Option Nat
  /-- Lock requests already judged in the cycle of another one's command, with the answers that their own commands will
  collect (R308, 13_hods_keystone.md; reset none) -/
  given : List (KeyAsk × Nat)
  deriving DecidableEq, Repr

/-- The Keystone out of cold reset (R316). -/
def KeySt.init : KeySt := ⟨[], [], [], [], none, []⟩

/-- Bond (14_bond_fabric.md). -/
structure BndSt where
  /-- NONCE, 32 bits (R322; drawn at reset) -/
  nonce : Nat
  /-- `bndx_link_up` of ports A and B as sampled (R317; reset low) -/
  link : List Nat
  /-- Peer ports that Buttress holds as if their link were down (R351; reset none) -/
  held : List Nat
  /-- Transmit credits by 16 x port + 8 x lane + class (R318; reset 0) -/
  txCred : Tbl Nat
  /-- Receive credits returned to the link since it came up, by 16 x port + 8 x lane + class (R318; reset 0) -/
  rxCred : Tbl Nat
  /-- Neighbours that are TRYING or UP, by 64 x port + node (R323; reset all DOWN) -/
  nbr : Tbl Nbr
  /-- Uptime of the last HELLO sent on ports A and B (R324; reset none) -/
  lastHello : Tbl Nat
  /-- Senders ignored for a duplicate number, as 64 x port + node (R324; reset none) -/
  ignored : List Nat
  /-- Stored LSAs, by node (R326; reset empty) -/
  lsa : Tbl LsaRec
  /-- Sequence number of this node's last LSA (R325; reset 0) -/
  lsaSeq : Nat
  /-- Uptime of this node's last LSA (R325; reset none) -/
  lsaLast : Option Nat
  /-- The UP set changed since the last LSA (R325; reset false) -/
  lsaDue : Bool
  /-- Uptime of the oldest change that no route computation has taken in (R327; reset none) -/
  routeDue : Option Nat
  /-- Computed routes, by node (R327; reset empty) -/
  routes : Tbl Route
  /-- Uptime of the last change of routes (R328; reset 0) -/
  routeAt : Nat
  /-- Routes unchanged for 2 ms (`BND_STATUS.STABLE`, R328; reset false) -/
  stable : Bool
  /-- Next pair sequence to each node (R329; reset 0, DESIGN CHOICE) -/
  pairNext : Tbl Nat
  /-- Pairs that are not resyncing (R329; reset none) -/
  synced : List Nat
  /-- Home side: expected sequence and recorded nonce of each active pair (R329; reset INIT) -/
  pairExp : Tbl (Nat × Nat)
  /-- Outbound tags in use, 12 bits (R330, R333; reset none) -/
  tags : Tbl OutTag
  /-- Messages waiting for credits on ports A and B, oldest first (R318; reset empty) -/
  txq : Tbl (List TxEnt)
  /-- Requests for this node that wait in the receive buffers of ports A and B for their inbound lane, oldest first
  (R318, R335; reset empty) -/
  rxq : Tbl (List RxEnt)
  /-- Last message each port presented (`bndx_tx_*`, R317; reset none) -/
  sent : Tbl Msg
  deriving DecidableEq, Repr

/-- Bond out of cold reset (R337). -/
def BndSt.init : BndSt :=
  ⟨0, [], [], [], [], [], [], [], [], 0, none, false, none, [], 0, false, [], [], [], [], [], [], []⟩

/-- The Quoin (17_quoin_endpoint.md). -/
structure QuoSt where
  /-- STATE of `QUO_STATUS`: 0 NORMAL, 1 CONTAINED, 2 RELEASE_WAIT (R396; reset 0) -/
  st : Nat
  /-- CAUSE of `QUO_STATUS` (R396; reset 0) -/
  cause : Nat
  /-- Configuration space words that differ from reset, by dword number (R383, R384; reset per R383) -/
  cfg : Tbl Nat
  /-- MSI-X table words that differ from reset, by dword number (R388; reset vectors masked) -/
  msix : Tbl Nat
  /-- MSI-X pending bits that are set (R391; reset none) -/
  pba : List Nat
  /-- Outbound read tags in use (R385, R396; reset none) -/
  tags : Tbl QuoTag
  /-- Image operation in progress (R260; reset none) -/
  img : Option ImgOp
  /-- Drain in progress (R392; reset none) -/
  drain : Option Drain
  /-- Status and items of the last drain (`QUO_DRAIN_STATUS`, R393; reset 0, 0) -/
  drainStatus : Nat × Nat
  /-- Next tag record to export (R395; reset 0) -/
  nextExport : Nat
  /-- Uptime at which an FLR in progress began (R399; reset none) -/
  flr : Option Nat
  /-- Writes the last command presented on the TLP interface, oldest first (R394; reset empty) -/
  out : List HostWrite
  /-- Uptime of the last entry to CONTAINED, and the tags it quarantined (R401; reset none) -/
  entry : Option (Nat × List Nat)
  deriving DecidableEq, Repr

/-- The Quoin out of cold reset (R401). -/
def QuoSt.init : QuoSt := ⟨0, 0, [], [], [], [], none, none, (0, 0), 0, none, [], none⟩

/-- The macro. -/
structure State where
  /-- Channels of the build: 8, 12, 16 or 24 (R5, 00_scope.md; reset 24, DESIGN CHOICE) -/
  build : Nat
  /-- Complementary-pair error signalling (R9, R342, 00_scope.md; reset true) -/
  pair : Bool
  /-- Cold reset is asserted (R44, 01_macro_boundary.md; reset true) -/
  cold : Bool
  /-- Warm reset: 0 none, 1 latched and draining, 2 self-refresh entry, 3 applied, 4 restarting (R45, R409, 01_macro_boundary.md; reset 0) -/
  warm : Nat
  /-- `BLK_BOOT.STEP` when the warm reset was latched (R45, R412, 18_bringup_reset.md; reset 0) -/
  warmAt : Nat
  /-- `blk_warm_safe` (R44, 01_macro_boundary.md; reset low) -/
  warmSafe : Bool
  /-- `blk_fatal_t` asserted (R46, 01_macro_boundary.md; reset idle) -/
  fatal : Bool
  /-- Straps and fuses as sampled (R47, R422, 01_macro_boundary.md; reset 0) -/
  straps : Straps
  /-- `BLK_UPTIME`, 64 bits (R13, R31, 00_scope.md; reset 0) -/
  uptime : Nat
  /-- RCLK is lost (R33, 01_macro_boundary.md; reset false) -/
  rclkLost : Bool
  /-- Clock domains now reported by R32: 0 MCLK, 1 + n HCLKn, 13 + x PCLKx (R32, 01_macro_boundary.md; reset none) -/
  clkBad : List Nat
  /-- Register fields that differ from reset, by 64 x BAR0 offset + lowest bit (R14, 00_scope.md; reset empty) -/
  regs : Tbl Nat
  /-- RWX fields written while their function's expert bit is 1, keyed as regs (R18, 00_scope.md; reset empty) -/
  xregs : Tbl Nat
  /-- Selectors as they stood when their function's expert bit was set, where not at reset, keyed as regs (R18, R420, 19_register_map.md; reset empty) -/
  frozen : Tbl Nat
  /-- Header ports 0 to 11 that differ from reset (02_header_ports.md) -/
  ports : Tbl PortSt
  /-- Requests in acceptance order (R66, R81, 03_mortar_core.md; reset empty) -/
  reqs : List Req
  /-- Round-robin pointers of the crossbar outputs: channel c, 24 + n for port n, 36 the hod path, 37 + p for peer port
  p, 39 + m for Mason m (R88, 03_mortar_core.md; reset 0, DESIGN CHOICE) -/
  xbar : Tbl Nat
  /-- Number of the next request or run (model's own; reset 1) -/
  nextRid : Nat
  /-- Channels that differ from reset (chapters 05 to 09) -/
  chans : Tbl Chan
  /-- DRAM codewords written, 80 symbols of 8 bits, by channel x 2^48 + place (R179, 08_ashlar_integrity.md; reset none written) -/
  dram : Tbl (List Nat)
  /-- Buttress (15_buttress_faults.md) -/
  but : ButSt
  /-- Plumb (16_plumb_datestone.md) -/
  plb : PlbSt
  /-- The Datestone (16_plumb_datestone.md) -/
  dst : DstSt
  /-- Plinth (10_plinth_store.md) -/
  pln : PlnSt
  /-- Masons that differ from reset (11_mason_engines.md) -/
  masons : Tbl Mason
  /-- Images in force: 0 training, 1 Mason runtime (R258, 11_mason_engines.md; reset none) -/
  imgs : Tbl Img
  /-- Data the debug port last read: register or words, poison mark (R262, 11_mason_engines.md; reset 0, false) -/
  dbgOut : BitVec 512 × Bool
  /-- Hods that differ from reset (13_hods_keystone.md) -/
  hods : Tbl Hod
  /-- The requester from which the round robin of pops starts, across all hods (R297, 13_hods_keystone.md; reset 0,
  DESIGN CHOICE) -/
  popNext : Nat
  /-- Item returned by the last pop through BAR0 (R305, 13_hods_keystone.md; reset idle) -/
  hodOut : BitVec 256
  /-- The Keystone (13_hods_keystone.md) -/
  key : KeySt
  /-- Bond (14_bond_fabric.md) -/
  bnd : BndSt
  /-- The Quoin (17_quoin_endpoint.md) -/
  quo : QuoSt
  /-- Commands waiting, first in first out (model's own; reset empty) -/
  pending : List Instr
  deriving DecidableEq, Repr

/-- Reasons a step may stop with a fault: the model has none. -/
inductive Fault where
  /-- Raised by nobody: every command of the spec has an effect in the model (safe). -/
  | none
  deriving DecidableEq, Repr

/-- Reasons a step may be refused. -/
inductive Refusal where
  /-- Raised by an arm of `exec` whose command has no meaning yet (safe). -/
  | notModelled (mnemonic : String)
  deriving DecidableEq, Repr

/-- No straps sampled (R422). -/
def strapsNone : Straps := ⟨0, false, false, 0, 0, false, 0, 0⟩

/-- The macro in cold reset: every register at its reset value, nothing sampled (R44, R422, R425). -/
def State.reset : State :=
  { build := 24, pair := true, cold := true, warm := 0, warmAt := 0, warmSafe := false,
    fatal := false, straps := strapsNone, uptime := 0, rclkLost := false, clkBad := [], regs := [],
    xregs := [], frozen := [], ports := [], reqs := [], xbar := [], nextRid := 1, chans := [], dram := [],
    but := ButSt.init, plb := PlbSt.init, dst := DstSt.init, pln := PlnSt.init, masons := [],
    imgs := [], dbgOut := (0, false), hods := [], popNext := 0, hodOut := 0, key := KeySt.init,
    bnd := BndSt.init, quo := QuoSt.init, pending := [] }

end Sys2Proof.Machine
end

