-- ==== Sys2Proof/Machine/Ops.lean ====
section
/-! DEFINITION. The named operations over the state: units, requests, and register fields. Every
reader and writer of a register field goes through `State.fld` and `State.setF`. -/

namespace Sys2Proof

/-! Register writes (R14, R417). -/

/-- The bits a write covers. -/
def RegW.mask (w : RegW) : Nat :=
  (if w.lo then 0xFFFFFFFF else 0) + (if w.hi then 0xFFFFFFFF00000000 else 0)

/-- The write covers some bit of the field. -/
def RegW.covers (w : RegW) (f : Machine.Field) : Bool := decide (nfield w.mask f.lo f.width ≠ 0)

/-- The write covers the whole field. -/
def RegW.coversAll (w : RegW) (f : Machine.Field) : Bool :=
  decide (nfield w.mask f.lo f.width = 2 ^ f.width - 1)

/-- What a field that acts by its written bits sees: zeros where the write does not reach. -/
def RegW.bits (w : RegW) (f : Machine.Field) : Nat := Nat.land (nfield w.val.toNat f.lo f.width) (nfield w.mask f.lo f.width)

/-- A field that holds a value, after the write: written bits in the covered part, old bits elsewhere. -/
def RegW.merge (w : RegW) (f : Machine.Field) (old : Nat) : Nat :=
  Nat.lor (w.bits f) (Nat.land old (Nat.xor (nfield w.mask f.lo f.width) (2 ^ f.width - 1)))

/-- A whole 64-bit write. -/
def RegW.whole (v : Nat) : RegW := ⟨BitVec.ofNat 64 v, true, true⟩

end Sys2Proof

namespace Sys2Proof.Machine

/-- Acts only while cold reset is released: an asserted cold reset holds everything (R44, R425). -/
def State.live (s : State) (f : State → State) : State := if s.cold then s else f s

/-- `f` where `c` holds, else the state unchanged: a command whose condition does not hold does not
occur. -/
def State.whenTrue (s : State) (c : Bool) (f : State → State) : State := if c then f s else s

/-! Numbered units. -/

/-- Masons of the build (R8). -/
def State.masonCount (s : State) : Nat := 8 * s.build

/-- Header port `n`. -/
def State.port (s : State) (n : Nat) : PortSt := Tbl.get s.ports PortSt.init n

/-- Header port `n` set to `p`. -/
def State.setPort (s : State) (n : Nat) (p : PortSt) : State :=
  { s with ports := Tbl.set s.ports PortSt.init n p }

/-- Channel `c`. -/
def State.chan (s : State) (c : Nat) : Chan := Tbl.get s.chans Chan.init c

/-- Channel `c` set to `x`. -/
def State.setChan (s : State) (c : Nat) (x : Chan) : State :=
  { s with chans := Tbl.set s.chans Chan.init c x }

/-- Channel `c` changed by `f`. -/
def State.modChan (s : State) (c : Nat) (f : Chan → Chan) : State := s.setChan c (f (s.chan c))

/-- Mason `m`. -/
def State.mason (s : State) (m : Nat) : Mason := Tbl.get s.masons Mason.init m

/-- Mason `m` set to `x`. -/
def State.setMason (s : State) (m : Nat) (x : Mason) : State :=
  { s with masons := Tbl.set s.masons Mason.init m x }

/-- Mason `m` changed by `f`. -/
def State.modMason (s : State) (m : Nat) (f : Mason → Mason) : State := s.setMason m (f (s.mason m))

/-- Hod `h`. -/
def State.hod (s : State) (h : Nat) : Hod := Tbl.get s.hods Hod.init h

/-- Hod `h` set to `x`. -/
def State.setHod (s : State) (h : Nat) (x : Hod) : State :=
  { s with hods := Tbl.set s.hods Hod.init h x }

/-- Channel `c` is in the build, which has at most 24 (R5). -/
def State.hasChan (s : State) (c : Nat) : Bool := decide (c < s.build) && decide (s.build ≤ 24)

/-- Mason `m` is in the build (R8). -/
def State.hasMason (s : State) (m : Nat) : Bool := decide (m < s.masonCount) && decide (s.build ≤ 24)

/-- The Aklet engine of channel `c`'s Screed sequencer (R258, R267): it stands behind the 192 Masons. -/
def seqOf (c : Nat) : Nat := 192 + c

/-- The ROM floor is in force (R199, R258). -/
def State.romFloor (s : State) : Bool := (Tbl.find s.imgs 0).isNone

/-- Hod `h` is in the build (R316). -/
def State.hasHod (s : State) (h : Nat) : Bool :=
  decide (h < 2 * s.masonCount) || (decide (384 ≤ h) && decide (h < 448))

/-! Requests. -/

/-- The request numbered `rid`. -/
def State.req (s : State) (rid : Nat) : Option Req := s.reqs.find? (fun r => decide (r.rid = rid))

/-- Every request numbered `rid` changed by `f`. -/
def State.modReq (s : State) (rid : Nat) (f : Req → Req) : State :=
  { s with reqs := s.reqs.map (fun r => if r.rid = rid then f r else r) }

/-- The request numbered `rid` leaves the list. -/
def State.dropReq (s : State) (rid : Nat) : State :=
  { s with reqs := s.reqs.filter (fun r => decide (r.rid ≠ rid)) }

/-! Register fields. -/

/-- The key of a field's instance in the register file. -/
def Field.key (f : Field) (i j k : Nat) : Nat := f.reg.off i j k * 64 + f.lo

/-- What the register file holds for a field. -/
def State.rawF (s : State) (f : Field) (i j k : Nat) : Nat := Tbl.get s.regs f.reset (f.key i j k)

/-- The register file with a field at `v`, cut to its width. -/
def State.setF (s : State) (f : Field) (i j k v : Nat) : State :=
  { s with regs := Tbl.set s.regs f.reset (f.key i j k) (v % 2 ^ f.width) }

/-- A one-bit field set. -/
def State.setBit (s : State) (f : Field) (i j k : Nat) : State := s.setF f i j k 1

/-- The expert bit of function `fn` (R421). -/
def State.expert (s : State) (fn : Nat) : Bool := (s.rawF BLK_EXPERT_EN_EN 0 0 0).testBit fn

/-- A selector as a function's fields see it: frozen while the function's expert bit is 1 (R18,
R420). -/
def State.sel (s : State) (fn : Nat) (f : Field) (i : Nat) : Nat :=
  if s.expert fn then (Tbl.find s.frozen (f.key i 0 0)).getD f.reset else s.rawF f i 0 0

/-- The value at position `n` of a list of numbers, 0 beyond its end. -/
def nth (l : List Nat) (n : Nat) : Nat := (l[n]?).getD 0

/-- The default reaction of a source (R341). -/
def defaultReact (src : Nat) : Nat :=
  if src < 24 then 1 else if src < 48 then 0 else if src < 84 then 1
  else if src < 86 then 0 else if src < 90 then 2 else 0

/-- The class a Keystone requester has from the profile (R307). -/
def profileClass (p i : Nat) : Nat :=
  if i < 192 then (if p = 1 then 2 else 1)
  else if i < 204 then 1
  else if i = 204 then (if p = 1 then 0 else 1)
  else if i < 229 then 3 else 2

/-- The weights of `SET_CTRL.PROFILE` 01 (R126). -/
def gradedWeights : List Nat := [2048, 1536, 1024, 768, 512, 384, 256, 192, 128, 96, 64, 64]

/-- Events of channel counters 0 to 7 under profiles 00 and 01 (R362). -/
def profileEvents : List Nat := [0x20, 0x21, 0x22, 0x23, 1, 5, 6, 7]

/-- Events of block counters 0 to 15 under profiles 00 and 01 (R362). -/
def profileBlockEvents : List Nat :=
  [0x40, 0x43, 0x44, 0x4B, 0x4A, 0x4C, 0x4E, 0x50, 0x53, 0x55, 0x56, 0x45, 0x46, 0x47, 0x48, 0x57]

/-- The request credits every port has at reset (R75). -/
def State.resetCredits (s : State) : Nat := min 4096 (2048 * s.build / 12)

/-- What the basic profile gives an RWX field, or its reset value (R18). The timing rows hold what
Screed last loaded (R139). -/
def State.profileVal (s : State) (f : Field) (i j : Nat) : Nat :=
  if f = HDR_CREDIT_CFG_REQ_CREDITS then s.resetCredits
  else if f = MOR_RSV_CFG_MASON_RSV then
    (match s.sel 2 MOR_CTRL_RSV_PROFILE 0 with | 1 => 16 | 2 => 256 | _ => 64)
  else if f = MOR_RSV_CFG_BOND_RSV then
    (match s.sel 2 MOR_CTRL_RSV_PROFILE 0 with | 1 => 16 | _ => 64)
  else if f = SET_CLASS_TABLE_WEIGHT then
    (if j < 4 then 0 else if s.sel 3 SET_CTRL_PROFILE i = 1 then nth gradedWeights (j - 4) else 256)
  else if f.reg.base ≥ TIM_BANK.base ∧ f.reg.base ≤ TIM_ALERT.base ∧ f.fn = 3 then s.rawF f i j 0
  else if f = PNT_LP_PD_IDLE then (if s.sel 5 PNT_CTRL_LP i = 2 then 0 else 256)
  else if f = PNT_LP_SR_IDLE then (if s.sel 5 PNT_CTRL_LP i = 1 then 1000 else 0)
  else if f = ASH_CTRL_ACCEPT then
    (match s.sel 6 ASH_CTRL_PROFILE i with | 1 => 1 | 2 => 1 | _ => 0)
  else if f = ASH_SCRUB_PERIOD then (if s.sel 6 ASH_CTRL_PROFILE i = 2 then 8 else 24)
  else if f = SCR_GUARD_DQ then (if s.sel 7 SCR_CTRL_PROFILE i = 1 then 32 else 19)
  else if f = SCR_GUARD_CA then (if s.sel 7 SCR_CTRL_PROFILE i = 1 then 48 else 32)
  else if f = SCR_GUARD_VREF then (if s.sel 7 SCR_CTRL_PROFILE i = 1 then 5 else 3)
  else if f = TPL_CFG_A_BIT then (if s.sel 10 TPL_CTRL_PROFILE 0 = 1 then 6 else 10)
  else if f = TPL_CFG_D_BIT then (if s.sel 10 TPL_CTRL_PROFILE 0 = 1 then 7 else 11)
  else if f = HOD_CFG_MODE then
    (if s.sel 11 HOD_CTRL_PROFILE 0 = 1 ∧ 384 ≤ i then 1 else 0)
  else if f = KEY_CLASS_CLASS then profileClass (s.sel 12 KEY_CTRL_PROFILE 0) i
  else if f = BND_ROUTE_NS_FORCE then (if s.sel 13 BND_CTRL_PROFILE 0 = 2 then 1 else 0)
  else if f = BND_ROUTE_PRIV_MAX then (if s.sel 13 BND_CTRL_PROFILE 0 = 2 then 1 else 3)
  else if f = BUT_CFG_GRACE_US then
    (match s.sel 14 BUT_CTRL_PROFILE 0 with | 1 => 100 | 2 => 10000 | _ => 1000)
  else if f = BUT_SRC_REACT then defaultReact i
  else if f = PLB_CNT_CTL_EVENT then
    (if s.sel 15 PLB_CTRL_PROFILE 0 = 2 then 0 else nth profileEvents j)
  else if f = PLB_BCNT_CTL_EVENT then
    (if s.sel 15 PLB_CTRL_PROFILE 0 = 2 then 0 else nth profileBlockEvents i)
  else if f = PLB_TAG_CFG_EN then (if s.sel 15 PLB_CTRL_PROFILE 0 = 1 then 1 else 0)
  else if f = DST_CTRL_MODE then (if s.sel 15 PLB_CTRL_PROFILE 0 = 2 then 2 else 0)
  else f.reset

/-- The value a field reads and is used at: an RWX field as R18 says, any other as held. -/
def State.fld (s : State) (f : Field) (i j k : Nat) : Nat :=
  if f.ty = .rwx ∧ f ≠ MAP_RGN_CTL_GRAN ∧ f ≠ MAP_RGN_CTL_HASH ∧ f ≠ MAP_GEOM_BANK_HASH then
    (if s.expert f.fn then (Tbl.find s.xregs (f.key i j k)).getD (s.profileVal f i j)
     else s.profileVal f i j)
  else s.rawF f i j k

/-- A host write of an RWX field while its expert bit is 1. -/
def State.setX (s : State) (f : Field) (i j k v : Nat) : State :=
  { s with xregs := Tbl.put s.xregs (f.key i j k) (v % 2 ^ f.width) }

/-- The answer of a command that has an effect in every state. -/
def done (s : State) : Host.Outcome State Fault Refusal := .next s

/-- A register field counter that saturates at its width. -/
def State.bumpF (s : State) (f : Field) (i j k : Nat) : State :=
  s.setF f i j k (min (s.rawF f i j k + 1) (2 ^ f.width - 1))

end Sys2Proof.Machine
end

