-- ==== Sys2Proof/Machine/Flags.lean ====
section
/-! DEFINITION. What units raise beside their own effect: interrupt vectors (R390), Datestone records
(R372 to R376), Plumb counts (R361 to R364), tags (R367, R368), and reports to Buttress (R343). None of
them changes a request or a status (R360). -/

namespace Sys2Proof.Machine

/-- Vector `v` becomes pending (R391). -/
def State.raiseVec (s : State) (v : Nat) : State :=
  if s.quo.pba.contains v then s else { s with quo := { s.quo with pba := v :: s.quo.pba } }

/-! The Datestone. -/

/-- The recording mode in force (R371). -/
def State.dstMode (s : State) : Nat :=
  let m := s.fld DST_CTRL_MODE 0 0 0
  if m = 3 then 0 else m

/-- The Datestone is frozen (R379): from the first RCLK edge after the write of 1, while `DST_CTRL.FREEZE` is 1. -/
def State.dstFrozen (s : State) : Bool := s.dst.frozen

/-- One more dropped trigger or snapshot. -/
def State.dstDrop (s : State) : State := s.bumpF DST_STATUS_DROPPED 0 0 0

/-- A snapshot trigger (R375): at most eight wait behind the one being taken. -/
def State.trigger (s : State) (code detail : Nat) : State :=
  if s.dstMode ≠ 1 then s
  else if s.dstFrozen ∨ s.rawF DST_STATUS_LOG_FULL 0 0 0 = 1 ∨ 9 ≤ s.dst.trig.length then s.dstDrop
  else { s with dst := { s.dst with trig := s.dst.trig ++ [(code, detail, s.uptime)] } }

/-- A unit of `DST_HIST_CFG`; 0 is used as 1 (R373). -/
def State.dstUnit (s : State) (f : Field) : Nat := max 1 (s.fld f 0 0 0)

/-- The latency bin of `v` ns at unit `u` (R373). -/
def latBin (u v : Nat) : Nat :=
  if v < 32 * u then v / u
  else if v < 96 * u then 32 + (v - 32 * u) / (4 * u)
  else if v < 336 * u then 48 + (v - 96 * u) / (16 * u) else 63

/-- The delay bin of `v` ns at unit `u` (R373). -/
def delayBin (u v : Nat) : Nat :=
  if v < u then 0
  else ((List.range 14).find? (fun i => decide (v < u * 2 ^ (i + 1)))).elim 15 (· + 1)

/-- The depth bin of `v` requests at unit `u` (R373). -/
def depthBin (u v : Nat) : Nat := min 31 (v / u)

/-- A Datestone update that a freeze discards (R379). -/
def State.dstUpdate (s : State) (f : DstSt → DstSt) : State :=
  if s.dstFrozen then s.bumpF DST_STATUS_MISSED 0 0 0 else { s with dst := f s.dst }

/-- One more occurrence in a histogram bin, in MAIN mode (R372). -/
def State.histAdd (s : State) (c bin : Nat) : State :=
  if s.dstMode ≠ 0 then s
  else s.dstUpdate (fun d =>
    let n := min (Tbl.get d.hist 0 (432 * c + bin) + 1) (2 ^ 48 - 1)
    { d with hist := Tbl.set d.hist 0 (432 * c + bin) n })

/-- A value `v` goes beyond an extreme (R374): it reads EMPTY, or `v` lies strictly beyond it. -/
def beyond (least : Bool) (v : Nat) (old : Option (Nat × Nat)) : Bool :=
  old.all (fun e => if least then decide (v < e.1) else decide (e.1 < v))

/-- A value offered to an extreme (R374): replaced when EMPTY or strictly beyond. -/
def State.extreme (s : State) (key : Nat) (least : Bool) (v : Nat) : State :=
  if s.dstMode = 2 ∨ ¬ beyond least v (Tbl.find s.dst.ext key) then s
  else s.dstUpdate (fun d => { d with ext := Tbl.put d.ext key (v, s.uptime) })

/-- A read latency of channel `c` in ns (R372, R374). -/
def State.readLatency (s : State) (c v : Nat) : State :=
  (((s.histAdd c (latBin (s.dstUnit DST_HIST_CFG_LAT_UNIT) v)).extreme (40 * c) true v).extreme
    (40 * c + 1) false v)

/-- A write latency of channel `c` in ns (R372, R374). -/
def State.writeLatency (s : State) (c v : Nat) : State :=
  (((s.histAdd c (64 + latBin (s.dstUnit DST_HIST_CFG_LAT_UNIT) v)).extreme (40 * c + 2) true v).extreme
    (40 * c + 3) false v)

/-- A queueing delay of queue `q` of channel `c` in ns (R132, R372). -/
def State.queueDelay (s : State) (c q v : Nat) : State :=
  s.histAdd c (160 + 16 * q + delayBin (s.dstUnit DST_HIST_CFG_DLY_UNIT) v)

/-- The depth of hod `h` after a push (R302, R374). -/
def State.hodDepth (s : State) (h n : Nat) : State := s.extreme (4 * 240 + h) false n

/-! Plumb. -/

/-- The event of channel counter `i` of channel `c`. -/
def State.cntEvent (s : State) (c i : Nat) : Nat :=
  if s.expert 15 then s.fld PLB_CNT_CTL_EVENT c i 0
  else if s.rawF PLB_CTRL_PROFILE 0 0 0 = 2 then 0 else nth profileEvents i

/-- The event of block counter `j`. -/
def State.bcntEvent (s : State) (j : Nat) : Nat :=
  if s.expert 15 then s.fld PLB_BCNT_CTL_EVENT j 0 0
  else if s.rawF PLB_CTRL_PROFILE 0 0 0 = 2 then 0 else nth profileBlockEvents j

/-- EVENT in force, FSET, FEN and CHAN that the registers of counter `n` hold: channel counter `n mod 8` of channel
`n / 8`, or block counter `n - 192`. -/
def State.cntRegs (s : State) (n : Nat) : Nat × Nat × Nat × Nat :=
  if n < 192 then
    (s.cntEvent (n / 8) (n % 8), s.fld PLB_CNT_CTL_FSET (n / 8) (n % 8) 0, s.fld PLB_CNT_CTL_FEN (n / 8) (n % 8) 0, n / 8)
  else
    (s.bcntEvent (n - 192), s.fld PLB_BCNT_CTL_FSET (n - 192) 0 0, s.fld PLB_BCNT_CTL_FEN (n - 192) 0 0,
      s.fld PLB_BCNT_CTL_CHAN (n - 192) 0 0)

/-- What counter `n` counts by: its registers as they stood at the last RCLK edge (R380). -/
def State.cntCtl (s : State) (n : Nat) : Nat × Nat × Nat × Nat :=
  (Tbl.find s.plb.ctlOld n).getD (s.cntRegs n)

/-- Counter `n` goes on with its present control fields until the next RCLK edge (R380). -/
def State.cntPin (s : State) (n : Nat) : State :=
  { s with plb := { s.plb with ctlOld := Tbl.put s.plb.ctlOld n (s.cntCtl n) } }

/-- An RCLK edge at Plumb and the Datestone: a freeze of either, the end of Plumb's, a clear, and control fields written
since the last edge take effect (R366, R379, R380); `clear` says whether a clear was written. -/
def State.rclkEdge (s : State) (clear : Bool) : State :=
  let p := if clear then { s.plb with cnt := [], ovf := [] } else s.plb
  { s with
    plb := { p with stopped := decide (s.rawF PLB_CTRL_FREEZE 0 0 0 = 1), clearDue := false, ctlOld := [] }
    dst := { s.dst with frozen := decide (s.rawF DST_CTRL_FREEZE 0 0 0 = 1) } }

/-- A channel event of R363. -/
def chanEvent (code : Nat) : Bool := decide (1 ≤ code) && decide (code ≤ 0x23)

/-- The fields a code carries (R363): P, M, A, Q, K as bits 0 to 4. -/
def carries (code : Nat) : Nat :=
  if code = 0 then 0
  else if code ≤ 7 ∨ (9 ≤ code ∧ code ≤ 0xB) ∨ (0x15 ≤ code ∧ code ≤ 0x18) then 31
  else if code = 0xC ∨ (0x40 ≤ code ∧ code ≤ 0x47) ∨ code = 0x4C ∨ code = 0x4F then 15
  else if (0x12 ≤ code ∧ code ≤ 0x14) ∨ code = 0x4D ∨ code = 0x4E ∨ code = 0x58 ∨ code = 0x59 then 2
  else if code = 0x19 then 4
  else if 0x54 ≤ code ∧ code ≤ 0x56 then 6
  else 0

/-- An occurrence with the fields its code does not carry removed. -/
def Ev.restrict (e : Ev) (code : Nat) : Ev :=
  let c := carries code
  ⟨if c.testBit 0 then e.ident else none, if c.testBit 1 then e.who else none,
   if c.testBit 2 then e.addr else none, if c.testBit 3 then e.qid else none,
   if c.testBit 4 then e.queue else none⟩

/-- No field. -/
def Ev.nothing : Ev := ⟨none, none, none, none, none⟩

/-- An address alone. -/
def Ev.ofAddr (a : Nat) : Ev := ⟨none, none, some a, none, none⟩

/-- What a request's occurrences carry. DESIGN CHOICE (log 164): those of scrub carry nothing, as R364 says, though R363 has
them carry an address. -/
def Req.ev (r : Req) : Ev :=
  let k := if r.colour = .uncoloured then none else some r.queue
  match r.src with
  | .port n => ⟨some (r.priv, r.ns), some (1, r.sid, n, 0), some r.addr, some r.qid, k⟩
  | .mason m => ⟨some (r.priv, r.ns), some (2, m, 0, 0), some r.addr, some r.qid, k⟩
  | .bond _ => ⟨some (r.priv, r.ns), some (3, r.sid, 0, r.peerNode), some r.addr, some r.qid, k⟩
  | .hod _ => ⟨some (r.priv, r.ns), none, some r.addr, some r.qid, k⟩
  | .scrub _ => Ev.nothing
  | .lost n => ⟨some (r.priv, r.ns), some (1, r.sid, n, 0), some r.addr, some r.qid, k⟩

/-- A Mason's occurrence that carries only its number. -/
def Ev.ofMason (m : Nat) : Ev := ⟨none, some (2, m, 0, 0), none, none, none⟩

/-- The match of R364 against filter set `f`. -/
def State.matchesFilter (s : State) (f : Nat) (e : Ev) : Bool :=
  let priv := s.fld PLB_FLT_QOS_PRIV f 0 0
  let sec := s.fld PLB_FLT_QOS_SEC f 0 0
  let kind := s.fld PLB_FLT_MST_KIND f 0 0
  let qm := s.fld PLB_FLT_QOS_QMODE f 0 0
  (decide (priv = 15) || e.ident.any (fun x => priv.testBit x.1)) &&
  (decide (sec = 3) || e.ident.any (fun x => sec.testBit (b2n x.2))) &&
  (decide (kind = 0) || e.who.any (fun x =>
    decide (x.1 = kind) &&
    (decide (kind ≠ 1) || decide (s.fld PLB_FLT_MST_PORT f 0 0 = 15) ||
      decide (s.fld PLB_FLT_MST_PORT f 0 0 = x.2.2.1)) &&
    (decide (kind = 3) || (decide (s.fld PLB_FLT_MST_LO f 0 0 ≤ x.2.1) &&
      decide (x.2.1 ≤ s.fld PLB_FLT_MST_HI f 0 0))) &&
    (decide (kind ≠ 3) || decide (s.fld PLB_FLT_MST_NODE f 0 0 = x.2.2.2)))) &&
  (decide (s.fld PLB_FLT_ALO_EN f 0 0 = 0) || e.addr.any (fun a =>
    decide (s.fld PLB_FLT_ALO_LO f 0 0 ≤ nfield a 12 40) &&
    decide (nfield a 12 40 ≤ s.fld PLB_FLT_AHI_HI f 0 0))) &&
  (decide (qm ≠ 1) || e.qid.any (fun q =>
    decide (s.fld PLB_FLT_QOS_QID_LO f 0 0 ≤ q) && decide (q ≤ s.fld PLB_FLT_QOS_QID_HI f 0 0))) &&
  (decide (qm ≠ 2) || e.queue.any (fun q => (s.fld PLB_FLT_QOS_QUEUES f 0 0).testBit q))

/-- Counter `k` advances by `n`, wrapping past 2^48 - 1 (R361). -/
def State.addCnt (s : State) (k n : Nat) : State :=
  let v := Tbl.get s.plb.cnt 0 k + n
  let s1 := { s with plb := { s.plb with cnt := Tbl.set s.plb.cnt 0 k (v % 2 ^ 48) } }
  if v < 2 ^ 48 then s1
  else
    let s2 := if s1.plb.ovf.contains k then s1
      else
        let s3 := { s1 with plb := { s1.plb with ovf := k :: s1.plb.ovf } }
        if s3.fld DST_TRIG_OVF_EN 0 0 0 = 1 then s3.trigger 4 k else s3
    s2.raiseVec 5

/-- Counter `k` counts an occurrence of event `code` on channel `c` (R362 to R364). -/
def State.counts (s : State) (k code c : Nat) (e : Ev) : Bool :=
  let (event, fset, fen, chan) := s.cntCtl k
  decide (event = code) && (!chanEvent code || decide (chan = 0x1F) || decide (chan = c)) &&
    (decide (fen = 0) || s.matchesFilter fset e)

/-- `n` occurrences of event `code` on channel `c` (any number for a block event), counted by every
counter whose event and filter they match (R361 to R364). -/
def State.countN (s : State) (code c : Nat) (e : Ev) (n : Nat) : State :=
  if s.plb.stopped ∨ code = 0 ∨ n = 0 then s
  else
    let e' := e.restrict code
    let one (t : State) (k : Nat) : State := if t.counts k code c e' then t.addCnt k n else t
    (List.range 32).foldl (fun t j => one t (192 + j))
      (if chanEvent code then (List.range 8).foldl (fun t i => one t (8 * c + i)) s else s)

/-- One occurrence. -/
def State.count (s : State) (code c : Nat) (e : Ev) : State := s.countN code c e 1

/-- One step of an entry point's LFSR (R367). -/
def lfsrStep (x : Nat) : Nat := if x % 2 = 1 then Nat.xor (x / 2) 0x80200003 else x / 2

/-- The state an LFSR takes at reload (R367). -/
def lfsrReload (seed p : Nat) : Nat :=
  let sd := if seed = 0 then 0x5D3B1C97 else seed
  let x := Nat.xor sd (p * 0x01010101 % 2 ^ 32)
  if x = 0 then 1 else x

/-- The LFSR of entry point `p`. -/
def State.lfsrOf (s : State) (p : Nat) : Nat :=
  (Tbl.find s.plb.lfsr p).getD (lfsrReload (s.fld PLB_TAG_CFG_SEED 0 0 0) p)

/-- Tagged requests not yet completed. -/
def State.tagInflight (s : State) : Nat :=
  (s.reqs.filter (fun r => r.tagRec.isSome)).length +
  (s.bnd.txq.map (fun e => (e.2.filter (fun x => x.record.isSome)).length)).sum +
  (s.masons.map (fun e => (e.2.outs.filter (fun o => o.record.isSome)).length)).sum

/-- Records written and not yet released (R367). -/
def State.tagUnread (s : State) : Nat :=
  (s.rawF PLB_TAG_STATUS_WR 0 0 0 + 2048 - s.rawF PLB_TAG_RD_RD 0 0 0) % 2048

/-- The sampler's decision for a request accepted at point `p` (R367, R368): the new state, and the
record that travels with the request. -/
def State.sampleTag (s : State) (p : Nat) (e : Ev) : State × Option TagRec :=
  let x := lfsrStep (s.lfsrOf p)
  let s1 := { s with plb := { s.plb with lfsr := Tbl.put s.plb.lfsr p x } }
  let k := min 20 (max 4 (s.fld PLB_TAG_CFG_K 0 0 0))
  if s.fld PLB_TAG_CFG_EN 0 0 0 = 1 ∧ ¬ s.dstFrozen ∧ x % 2 ^ k = 0 then
    if s.tagInflight < 64 ∧ s.tagUnread + s.tagInflight + s.plb.doneRecs.length < 1024 then
      let n := Tbl.get s1.plb.seq 0 p + 1
      let s2 := { s1 with plb := { s1.plb with seq := Tbl.set s1.plb.seq 0 p n } }
      (s2.count 0x58 0 e, some ⟨p, n, s.uptime, none, none, none, none, none, 0, false⟩)
    else (s1.count 0x59 0 e, none)
  else (s1, none)

/-- An interval of a tag record from `t0` to `t1` ns, in 0.625 ns units (R368, R369). -/
def tagGap (t0 t1 : Nat) : Nat :=
  let d := (t1 - t0) * 8 / 5
  if 0xFFFFFFFE ≤ d then 0xFFFFFFFE else d

/-- Two 32-bit halves as one word. -/
def pair32 (lo hi : Nat) : Nat := lo + hi * 2 ^ 32

/-- The eight words of a finished record (R369). -/
def tagWords (node : Nat) (r : Req) (t : TagRec) (resp : Option Nat) (statusCode : Nat)
    (aborted : Bool) : List Nat :=
  let g (x : Option Nat) : Nat := x.elim 0xFFFFFFFF (tagGap t.tAccept)
  let (mk, master) : Nat × Nat := match r.src with
    | .port n => (0, n * 4096 + r.sid)
    | .mason m => (1, m)
    | .bond _ => (2, r.sid)
    | _ => (3, 0)
  let opc : Nat := if r.run.isSome then 0 else match r.op with
    | .rdLine => 1 | .rdPart => 2 | .wrLine => 3 | .wrPart => 4 | .wrZero => 5
    | .atAdd => 8 | .atOr => 9 | .atAnd => 10 | .atXor => 11 | .atSwap => 12 | .atCas => 13
    | .atMin => 14 | .atMax => 15 | .atUmin => 16 | .atUmax => 17 | .setad => 20
    | .flush => if r.peerTag = 0 then 24 else r.peerTag
  let q := if r.colour = .uncoloured then 0xFF else r.queue
  let p : Pos := (r.lines.head?).elim ⟨0, 0, 0, 0, 0, 0⟩ (fun l => l.pos)
  let (ch, nd, rem) : Nat × Nat × Bool := match r.dest with
    | .local c => (c, node, false)
    | .remote n => (0xFF, n, true)
    | _ => (0xFF, node, false)
  [t.tAccept, pair32 (g t.alloc) (g t.enq), pair32 (g t.cmd) (g t.dat), pair32 (g t.verdict) (g resp),
   r.addr,
   master + (mk + 4 * r.priv + 16 * b2n r.ns) * 2 ^ 16 + opc * 2 ^ 24 + r.qid * 2 ^ 32 + q * 2 ^ 48 +
     (statusCode + 16 * r.colour.code) * 2 ^ 56,
   ch + (b2n aborted + 2 * b2n rem + 4 * b2n t.wstore + 8 * t.row + 32 * p.sub) * 2 ^ 8 +
     (p.rank + 4 * p.bg + 32 * p.ba) * 2 ^ 16 + nd * 2 ^ 24 + t.seq * 2 ^ 32,
   0]

/-- A finished record joins those awaiting their write (R369). -/
def State.keepRecord (s : State) (ws : List Nat) : State :=
  { s with plb := { s.plb with doneRecs := s.plb.doneRecs ++ [ws] } }

/-- The record of a finished or abandoned request joins those awaiting their write (R369). -/
def State.tagDone (s : State) (r : Req) (aborted : Bool) : State :=
  match r.tagRec with
  | none => s
  | some t =>
    let resp := if aborted then none else some s.uptime
    s.keepRecord (tagWords s.straps.node r t resp ((r.status.map Status.code).getD 0) aborted)

/-- The record of an inbound request whose completion has yet to leave: RESP is still to come (R368). -/
def State.openRecord (s : State) (r : Req) : Option (List Nat) :=
  r.tagRec.map (fun t => tagWords s.straps.node r t none ((r.status.map Status.code).getD 0) false)

/-- The record of a run, taken from the request that carried its tag: the run's address, its outcome and RESP still to
come (R368, R369). -/
def State.runRecord (s : State) (r : Req) (addr : Nat) : Option (List Nat) :=
  r.tagRec.map (fun t => tagWords s.straps.node { r with addr := addr } t none 0 false)

/-- The status of a record that has none (R369). -/
def setOutcome (code : Nat) (ws : List Nat) : List Nat := ws.set 5 (nth ws 5 + code * 2 ^ 56)

/-- A record with RESP stamped at `now` (R368). -/
def stampResp (now : Nat) (ws : List Nat) : List Nat :=
  ws.set 3 (pair32 (nth ws 3 % 2 ^ 32) (tagGap (nth ws 0) now))

/-- A record of a request that will never complete (R369): ABORTED. -/
def abortRecord (ws : List Nat) : List Nat := ws.set 6 (Nat.lor (nth ws 6) (2 ^ 8))

/-! Reports to Buttress. -/

/-- Source `src` exists in the build (R341, R359). -/
def State.hasSource (s : State) (src : Nat) : Bool :=
  if src < 72 then decide (src % 24 < s.build) else decide (src < 112)

/-- The unread reports of a source (R343). -/
def State.reports (s : State) (src : Nat) : List Report := Tbl.get s.but.queue [] src

/-- A report enters its source's queue, or merges into the newest of eight (R343). -/
def State.report (s : State) (src : Nat) (r : Report) : State :=
  if ¬ s.hasSource src then s
  else
    let q := s.reports src
    if q.length < 8 then
      { s with but := { s.but with queue := Tbl.set s.but.queue [] src (q ++ [r]) } }
    else
      let q' := q.dropLast ++ (match q.getLast? with
        | some n => [{ n with sev := max n.sev r.sev }]
        | none => [])
      let at_ := if r.forced then s.but.merged else Tbl.put s.but.merged src s.uptime
      ({ s with but := { s.but with queue := Tbl.set s.but.queue [] src q', merged := at_ } }).bumpF BUT_SRC_COUNT src 0 0

/-- A report of severity `sev` whose bit `kind` of register `reg` was set, without a master (R346). -/
def State.reportUnit (s : State) (src sev access reg kind : Nat) (addr : Option Nat) : State :=
  s.report src ⟨sev, access, reg, kind, 3, 0, addr, s.uptime, false, false⟩

/-- The access type of a request (R345). -/
def Req.access (r : Req) : Nat :=
  match r.src with
  | .hod _ => 0xA
  | .scrub _ => 7
  | _ =>
  if r.walk ∧ r.op ≠ .setad then 6
  else match r.op with
    | .rdLine => 1 | .rdPart => 1 | .wrLine => 2 | .wrZero => 2 | .wrPart => 3
    | .setad => 5 | .flush => 0 | _ => 4

/-- The master fields of a report about a request (`BUT_CAP_INFO.MKIND` and `MASTER`). -/
def Req.master (r : Req) : Nat × Nat :=
  match r.src with
  | .port n => (0, n * 4096 + r.sid)
  | .mason m => (1, m)
  | .bond _ => (2, r.sid)
  | .lost n => (0, n * 4096 + r.sid)
  | _ => (3, 0)

/-- A report about a request. -/
def State.reportReq (s : State) (src sev reg kind : Nat) (r : Req) : State :=
  s.report src ⟨sev, r.access, reg, kind, r.master.1, r.master.2, some r.addr, s.uptime, false, false⟩

/-- A sticky bit of a packed error field set. -/
def State.orF (s : State) (f : Field) (i j k mask : Nat) : State :=
  s.setF f i j k (Nat.lor (s.rawF f i j k) mask)

end Sys2Proof.Machine
end

