-- ==== Sys2Proof/Machine/Bar0.lean ====
section
/-! DEFINITION. The Quoin as every register command meets it: its configuration space (R383, R384), its errors
(R387), its MSI-X table (R388), and which memory accesses of BAR0 it serves (R386, R389, R396, R400). -/

namespace Sys2Proof.Machine

/-- The Quoin's state changed. -/
def State.modQuo (s : State) (f : QuoSt → QuoSt) : State := { s with quo := f s.quo }

/-! Configuration space (R383, R384, R387). -/

/-- The reset value of configuration dword `n`, the two identity registers and the serial number apart. -/
def cfgReset (n : Nat) : Nat :=
  match n with
  | 0 => 0xD0241F6C | 1 => 0x00100000 | 2 => 0x05800041 | 4 => 0x4 | 13 => 0x40
  | 16 => 0x00035001 | 17 => 0x8 | 20 => 0x007F7011 | 21 => 0x3E00000 | 22 => 0x3E01000
  | 28 => 0x00920010 | 29 => 0x10008021 | 30 => 0x2810 | 37 => 0x3
  | 64 => 0x14820001 | 67 => 0x40000 | 69 => 0x2000 | 82 => 0x00010003
  | _ => 0

/-- The bits of configuration dword `n` that a write sets. -/
def cfgMask (n : Nat) : Nat :=
  match n with
  | 1 => 0x546 | 3 => 0xFF | 4 => 0xFC000000 | 5 => 0xFFFFFFFF | 15 => 0xFF | 17 => 0x3
  | 20 => 0xC0000000 | 30 => 0x79FF | 38 => 0xF | 66 => 0x155000 | 67 => 0x155000 | 69 => 0x2000
  | _ => 0

/-- The bits of configuration dword `n` that a written 1 clears. -/
def cfgClear (n : Nat) : Nat :=
  match n with
  | 1 => 0xF9000000 | 30 => 0xF0000 | 65 => 0x155000 | 68 => 0x2000
  | _ => 0

/-- Configuration dword `n` as read. -/
def State.cfgWord (s : State) (n : Nat) : Nat :=
  if n = 11 then s.rawF QUO_IDENT_SSID 0 0 0 * 2 ^ 16 + s.rawF QUO_IDENT_SSVID 0 0 0
  else if n = 83 then s.rawF QUO_DSN_DSN 0 0 0 % 2 ^ 32
  else if n = 84 then s.rawF QUO_DSN_DSN 0 0 0 / 2 ^ 32
  else Tbl.get s.quo.cfg (cfgReset n) n

/-- Configuration dword `n` set. -/
def State.setCfg (s : State) (n v : Nat) : State :=
  s.modQuo (fun q => { q with cfg := Tbl.set q.cfg (cfgReset n) n v })

/-- Bus Master Enable. -/
def State.busMaster (s : State) : Bool := (s.cfgWord 1).testBit 2

/-- Memory Space Enable. -/
def State.memEnable (s : State) : Bool := (s.cfgWord 1).testBit 1

/-- The power state: 0 D0, 3 D3hot. -/
def State.powerState (s : State) : Nat := s.cfgWord 17 % 4

/-- Bytes of Max_Payload_Size in use: 128 or 256 (R384, R385). -/
def State.maxPayload (s : State) : Nat := if nfield (s.cfgWord 30) 5 3 = 0 then 128 else 256

/-- Bytes of Max_Read_Request_Size. -/
def State.maxRead (s : State) : Nat := 128 * 2 ^ min 5 (nfield (s.cfgWord 30) 12 3)

/-- Enable Relaxed Ordering. -/
def State.relaxed (s : State) : Bool := (s.cfgWord 30).testBit 4

/-- The completion timeout in ns (R385). -/
def State.cplTimeout (s : State) : Nat :=
  match s.cfgWord 38 % 16 with
  | 1 => 75000 | 2 => 5000000 | 5 => 35000000 | 6 => 130000000 | _ => 32000000

/-- The Quoin may issue outbound (R386, R396, R398, R399). -/
def State.quoOut (s : State) : Bool :=
  s.busMaster && decide (s.powerState = 0) && decide (s.quo.st = 0) && s.quo.flr.isNone

/-! Errors (R387). PRESUMED (log 170): what AER records beyond the names of the errors is the PCI Express
specification's. -/

/-- Bits of a configuration dword set. -/
def State.cfgOr (s : State) (n bits : Nat) : State := s.setCfg n (Nat.lor (s.cfgWord n) bits)

/-- The First Error Pointer names an error that is still in the Uncorrectable Error Status. -/
def State.aerBusy (s : State) : Bool := (s.cfgWord 65).testBit (s.cfgWord 70 % 32)

/-- The first error: its pointer, and where `logs` the header of its request. -/
def State.aerFirst (s : State) (bit : Nat) (logs : Bool) : State :=
  let s1 := s.setCfg 70 (s.cfgWord 70 / 32 * 32 + bit)
  if logs then (List.range 4).foldl (fun t i => t.setCfg (71 + i) (Config.tlpHeader t.uptime i % 2 ^ 32)) s1 else s1

/-- An error in the Uncorrectable Error Status, and, where it is not masked and no earlier one is held, as the first
error. -/
def State.aerLog (s : State) (bit : Nat) (logs : Bool) : State :=
  let s1 := s.cfgOr 65 (2 ^ bit)
  if s.aerBusy ∨ (s.cfgWord 66).testBit bit then s1 else s1.aerFirst bit logs

/-- An error for AER: Device Status, then the Uncorrectable Error Status; `adv` marks an advisory case, which counts as
correctable while its severity is non-fatal. -/
def State.aer (s : State) (bit : Nat) (adv logs : Bool) : State :=
  let fatal := (s.cfgWord 67).testBit bit
  let s1 := if bit = 20 then s.cfgOr 30 (2 ^ 19) else s
  if adv ∧ ¬ fatal then
    let s2 := (s1.cfgOr 30 (2 ^ 16)).cfgOr 68 (2 ^ 13)
    if (s2.cfgWord 69).testBit 13 then s2 else s2.aerLog bit logs
  else (s1.cfgOr 30 (if fatal then 2 ^ 18 else 2 ^ 17)).aerLog bit logs

/-- A Quoin error: its bit, its Buttress report with REG 1011, and AER's record of it. -/
def State.quoErr (s : State) (f : Field) (kind sev aer : Nat) (adv := false) (logs := true) : State :=
  ((s.setBit f 0 0 0).reportUnit 109 sev 0 11 kind none).aer aer adv logs

/-- A request answered UR, or discarded as unsupported where it is posted (R389). -/
def State.urSent (s : State) (posted := true) : State := s.quoErr QUO_ERR_UR_SENT 4 0 20 (!posted)

/-! MSI-X (R388). -/

/-- The reset value of an MSI-X table dword: every vector masked. -/
def msixReset (n : Nat) : Nat := if n % 4 = 3 then 1 else 0

/-- An MSI-X table dword. -/
def State.msixWord (s : State) (n : Nat) : Nat := Tbl.get s.quo.msix (msixReset n) n

/-- The offset lies in the MSI-X table or its PBA. -/
def inMsix (off : Nat) : Bool :=
  (decide (0x3E00000 ≤ off) && decide (off < 0x3E00800)) || (decide (0x3E01000 ≤ off) && decide (off < 0x3E01010))

/-- The 64 bits at offset `off` of the MSI-X table or its PBA. -/
def State.msixRead (s : State) (off : Nat) : Nat :=
  if off < 0x3E01000 then
    let n := (off - 0x3E00000) / 8 * 2
    s.msixWord n + s.msixWord (n + 1) * 2 ^ 32
  else
    let v := (off - 0x3E01000) / 8 * 64
    ((List.range 64).map (fun i => b2n (s.quo.pba.contains (v + i)) * 2 ^ i)).sum

/-! BAR0 (R386, R389, R396, R400). -/

/-- Memory requests receive UR: Memory Space Enable 0, D3hot, or an FLR in progress. -/
def State.bar0Off (s : State) : Bool := !s.memEnable || decide (s.powerState ≠ 0) || s.quo.flr.isSome

/-- A memory write of BAR0: discarded and logged as unsupported, discarded while CONTAINED or RELEASE_WAIT, or
served. -/
def State.hostWrite (s : State) (f : State → State) : State :=
  if s.bar0Off then s.urSent else if s.quo.st ≠ 0 then s else f s

/-- A memory read of BAR0 outside the status window: answered UR, or served. -/
def State.hostRead (s : State) (f : State → State) : State :=
  if s.bar0Off ∨ s.quo.st ≠ 0 then s.urSent (posted := false) else f s

/-- A host write while cold reset is released (R425). -/
def State.host (s : State) (f : State → State) : State := s.live (fun s => s.hostWrite f)

/-- A host read while cold reset is released. -/
def State.hostRd (s : State) (f : State → State) : State := s.live (fun s => s.hostRead f)

end Sys2Proof.Machine
end

