-- ==== Sys2Proof/Machine/MasonRun.lean ====
section
/-! DEFINITION. Which Masons run (R258, R261): starting and halting an engine. -/

namespace Sys2Proof.Machine

/-- The channel's Screed is TRAINED, or retrains. -/
def State.isTrained (s : State) (c : Nat) : Bool :=
  decide (s.rawF SCR_STATUS_STATE c 0 0 = 2) || decide (s.rawF SCR_STATUS_STATE c 0 0 = 3)

/-- A host access to offset `off` of Mason `m`'s window reaches the store (R263): the scratch while the Mason is HALTED,
the instruction store only with the seal intact and the expert bit set as well. -/
def State.storeOpen (s : State) (m off : Nat) : Bool :=
  decide ((s.mason m).st = 0) && (decide (0x4000 ≤ off) || (!s.straps.programSeal && s.expert 9))

/-- Mason `m` is to run (R258 step 4, R261): none while no training image is in force, none during a warm reset (R264). With `anew` the profile decides afresh;
else a Mason that runs under profile 01 keeps running when its channel leaves TRAINED (R265). -/
def State.masonWanted (s : State) (m : Nat) (anew : Bool) : Bool :=
  decide (s.warm = 0) && (Tbl.find s.imgs 0).isSome &&
  (if s.expert 9 then decide (s.fld MAS_CTRL_RUN m 0 0 = 1)
   else match s.rawF MAS_GLOBAL_PROFILE 0 0 0 with
     | 1 => s.isTrained (m / 8) || (!anew && (s.mason m).asked)
     | 2 => true
     | _ => false)

/-- An engine at its start (R268): PC 0, handler mode, NESTED 0, every register zero (TASK at its reset value); its
stores, its template and what it waits for stay. -/
def Mason.fresh (x : Mason) : Mason :=
  { x with
    pc := 0, regs := [], lregs := [], handler := true, nested := false, csr := [], task := Mason.init.task, faddr := 0,
    fence := none, haltDue := false, stalled := false }

/-- Mason `m` starts in handler mode at the reset vector (R261, R268, R291), if it is HALTED; one in DEBUG starts when
it leaves DEBUG. -/
def Mason.start (x : Mason) : Mason :=
  if x.st = 0 then { x.fresh with st := 1 }
  else if x.st = 4 ∧ x.dbgFrom = 0 then { x.fresh with dbgFrom := 1 }
  else if x.st = 1 then { x with haltDue := false } else x

/-- The instruction in progress has not ended: its request is out, or it waits for time (R240, R290). -/
def Mason.waits (x : Mason) : Bool := x.outs.any (fun o => o.waiting) || x.waitEnd.isSome

/-- A WAIT ends at once, and PC names the next instruction (R294). -/
def Mason.endWait (x : Mason) : Mason :=
  if x.waitEnd.isSome then { x with waitEnd := none, pc := x.pc + 1 } else x

/-- Mason `m` halts after its current instruction (R261, R294); one in DEBUG stays halted after it. -/
def Mason.halt (x : Mason) : Mason :=
  if x.st = 1 then
    let y := x.endWait
    if y.waits || y.stalled then { y with haltDue := true } else { y with st := 0 }
  else if x.st = 4 ∧ x.dbgFrom = 1 then { x with dbgFrom := 0 }
  else x

/-- Mason `m` follows its run control, which acts when it changes (R261, R290); a Mason that is to run while it is
RESETTING starts when its reset completes. -/
def State.masonTake (s : State) (m : Nat) (want : Bool) : State :=
  let x := s.mason m
  if want = x.asked ∨ ¬ s.hasMason m ∨ (x.st = 3 ∧ want) then s
  else s.setMason m { (if want then x.start else x.halt) with asked := want }

/-- Mason `m` made to run or halt as the profile or its own RUN says. -/
def State.masonFollow (s : State) (m : Nat) : State := s.masonTake m (s.masonWanted m false)

/-- Every Mason made to run or halt as the profile or its own RUN says (R261). -/
def State.masonsApply (s : State) : State :=
  (List.range s.masonCount).foldl (fun t m => t.masonFollow m) s

/-- The same where the profile, or what decides instead of it, was written: it decides afresh. -/
def State.masonsAnew (s : State) : State :=
  (List.range s.masonCount).foldl (fun t m => t.masonTake m (t.masonWanted m true)) s

/-- The Masons of a channel that became TRAINED start, where they are to run (R261); none halts because its
channel left TRAINED (R265). -/
def State.masonsOf (s : State) (c : Nat) : State :=
  (List.range 8).foldl (fun t i => t.masonFollow (8 * c + i)) s

end Sys2Proof.Machine
end

