-- ==== Sys2Proof/Machine/Mapper.lean ====
section
/-! DEFINITION. The Mapper: address decode through the region table (R98 to R109), and the checked writes
of region entries and geometries (R102, R103, R110). -/

namespace Sys2Proof.Machine

/-- GRAN, HASH and BANK_HASH that the Mapper's profile gives (`MAP_CTRL.PROFILE`). -/
def State.mapProfile (s : State) (f : Field) : Nat :=
  let p := s.sel 1 MAP_CTRL_PROFILE 0
  if f = MAP_RGN_CTL_GRAN then (if p = 1 then 2 else 0) else (if p = 2 then 0 else 1)

/-- GRAN, HASH or BANK_HASH as it reads: latched while its entry or geometry is valid (R18, R110). -/
def State.mapVal (s : State) (f : Field) (i : Nat) (valid : Bool) : Nat :=
  if valid then s.rawF f i 0 0
  else if s.expert 1 then (Tbl.find s.xregs (f.key i 0 0)).getD (s.mapProfile f)
  else s.mapProfile f

/-- The ways of `MAP_RGN_CTL.WAYS`; 0 for a reserved code. -/
def waysOf (code : Nat) : Nat := nth [1, 2, 3, 4, 6, 8, 12, 16, 24] code

/-- The granule in bytes of `MAP_RGN_CTL.GRAN`. -/
def granBytes (code : Nat) : Nat := nth [256, 1024, 4096, 65536] code

/-- The node address space of the build in bytes (R8). -/
def nodeSpace (build : Nat) : Nat := if build = 8 then 2 ^ 42 else if build = 12 then 2 ^ 43 else 2 ^ 44

/-- The number of ones among the low `n` bits. -/
def ones (x : Nat) : Nat → Nat
  | 0 => 0
  | n + 1 => ones x n + b2n (x.testBit n)

/-- The position of the `k`-th set bit of a 24-bit mask, counting from bit 0. -/
def nthSet (mask k : Nat) : Nat :=
  (((List.range 24).filter (fun b => mask.testBit b))[k]?).getD 24

/-- The XOR of the digits of `x` to base `p2` (R105). -/
def foldXor (p2 : Nat) : Nat → Nat → Nat
  | 0, _ => 0
  | n + 1, x => if x = 0 then 0 else Nat.xor (x % p2) (foldXor p2 n (x / p2))

/-- Region entry `r` matches block `b` of 2 MiB (R99). -/
def State.rgnMatches (s : State) (b r : Nat) : Bool :=
  decide (s.rawF MAP_RGN_CTL_VALID r 0 0 = 1) && decide (s.rawF MAP_RGN_BASE_BASE r 0 0 ≤ b) &&
  decide (b ≤ s.rawF MAP_RGN_LIMIT_LIMIT r 0 0)

/-- The entry that decides an address (R99). -/
def State.rgnOf (s : State) (a : Nat) : Option Nat :=
  (List.range 64).find? (s.rgnMatches (a / 2 ^ 21))

/-- The security states a region admits (R101). -/
def secAdmits (sec : Nat) (ns : Bool) : Bool :=
  match sec with | 0 => true | 1 => !ns | 2 => ns | _ => false

/-- Channel and channel offset of an address through entry `r` (R105). -/
def State.interleave (s : State) (a r : Nat) : Nat × Nat :=
  let ways := waysOf (s.rawF MAP_RGN_CTL_WAYS r 0 0)
  let t := if ways % 3 = 0 then 3 else 1
  let p2 := ways / t
  let g := granBytes (s.rawF MAP_RGN_CTL_GRAN r 0 0)
  let off := a - s.rawF MAP_RGN_BASE_BASE r 0 0 * 2 ^ 21
  let u := off / g
  let q := u / p2
  let pos := q / t
  let lo := if s.rawF MAP_RGN_CTL_HASH r 0 0 = 1 ∧ 1 < p2 then Nat.xor (u % p2) (foldXor p2 52 pos)
    else u % p2
  let idx := q % t * p2 + lo
  (nthSet (s.rawF MAP_RGN_CTL_CH_MASK r 0 0) idx,
   s.rawF MAP_RGN_CTL_CHOFF r 0 0 * 2 ^ 21 + pos * g + off % g)

/-- Rows per bank of a density code (R107). -/
def rowsOf (dens : Nat) : Nat := nth [65536, 98304, 131072, 196608, 262144] dens

/-- Physical ranks of channel `c` (R107). -/
def State.physRanks (s : State) (c : Nat) : Nat := s.rawF MAP_GEOM_PHYS c 0 0 + 1

/-- Stack height of channel `c` (R107); 0 for the reserved code. -/
def State.height (s : State) (c : Nat) : Nat := nth [1, 2, 4] (s.rawF MAP_GEOM_HEIGHT c 0 0)

/-- P and H of channel `c` (R107). -/
def State.stack (s : State) (c : Nat) : Nat × Nat := (s.physRanks c, s.height c)

/-- Logical ranks of channel `c` (R107). -/
def State.ranks (s : State) (c : Nat) : Nat := s.physRanks c * s.height c

/-- Column bits above C[3:0] that number a line in a row pair, `w` of R107. -/
def State.colW (s : State) (c : Nat) : Nat := if s.rawF MAP_GEOM_WIDTH c 0 0 = 0 then 7 else 6

/-- Capacity of channel `c` in bytes (R107). -/
def State.capacity (s : State) (c : Nat) : Nat :=
  s.ranks c * rowsOf (s.rawF MAP_GEOM_DENS c 0 0) * 2 ^ (s.colW c + 12)

/-- `MAP_GEOM.CAP_GIB` (R107). -/
def State.capGib (s : State) (c : Nat) : Nat :=
  if s.rawF MAP_GEOM_VALID c 0 0 = 1 then s.capacity c / 2 ^ 30 else 0

/-- The position of a channel line number (R108). -/
def State.position (s : State) (c L : Nat) : Pos :=
  let w := s.colW c
  let rb := match s.ranks c with | 4 => 2 | 2 => 1 | _ => 0
  let row := L / 2 ^ (w + 6 + rb)
  let bg := nfield L 3 3
  let ba := nfield L (w + 4) 2
  let hashed := s.rawF MAP_GEOM_BANK_HASH c 0 0 = 1
  ⟨L % 2, if rb = 0 then 0 else nfield L (w + 6) rb,
   if hashed then Nat.xor bg (row % 8) else bg,
   if hashed then Nat.xor ba (nfield row 3 2) else ba,
   row, nfield L 6 (w - 2) * 4 + nfield L 1 2⟩

/-- The channel line number of a place: the inverse of R108. -/
def State.lineOf (s : State) (c : Nat) (p : Pos) : Nat :=
  let w := s.colW c
  let rb := match s.ranks c with | 4 => 2 | 2 => 1 | _ => 0
  let hashed := s.rawF MAP_GEOM_BANK_HASH c 0 0 = 1
  let bg := if hashed then Nat.xor p.bg (p.row % 8) else p.bg
  let ba := if hashed then Nat.xor p.ba (nfield p.row 3 2) else p.ba
  p.sub + 2 * (p.col % 4) + 8 * bg + 64 * (p.col / 4) + 2 ^ (w + 4) * ba +
    (if rb = 0 then 0 else 2 ^ (w + 6) * p.rank) + 2 ^ (w + 6 + rb) * p.row

/-- The rank a line is read from and written to, spared lines in the spare rank (R193). -/
def State.spot (s : State) (c L : Nat) (p : Pos) : Pos :=
  let st := s.rawF ASH_SPARE_STATE c 0 0
  if p.rank = s.rawF ASH_SPARE_FROM c 0 0 ∧ (st = 2 ∨ (st = 1 ∧ L < (s.chan c).ash.spareAt)) then
    { p with rank := (s.chan c).ash.spareTo }
  else p

/-- The decode of R104. -/
def State.decode (s : State) (a : Nat) (walk : Bool) (priv : Nat) (ns : Bool) : Decoded :=
  match s.rgnOf a with
  | none => .refused (if walk then .nonmem else .unmapped)
  | some r =>
    let ty := s.rawF MAP_RGN_CTL_TYPE r 0 0
    if ty ≠ 0 ∧ walk then .refused .nonmem
    else if ty = 2 then .refused .unmapped
    else if priv < s.rawF MAP_RGN_CTL_PRIV_MIN r 0 0 ∨
        ¬ secAdmits (s.rawF MAP_RGN_CTL_SEC r 0 0) ns then .refused .unmapped
    else if ty = 1 then .control (a - s.rawF MAP_RGN_BASE_BASE r 0 0 * 2 ^ 21)
    else if a / 2 ^ 46 ≠ s.straps.node then .remote (a / 2 ^ 46)
    else
      let (c, choff) := s.interleave a r
      if ¬ s.hasChan c ∨ s.rawF MAP_GEOM_VALID c 0 0 = 0 then .refused .unmapped
      else if s.capacity c ≤ choff then .refused .unmapped
      else .place c (s.position c (choff / 64))

/-- The global address of a byte at offset `x` of channel `c` through entry `r`: the inverse of R105
for an offset the entry maps. -/
def State.globalOf (s : State) (c r x : Nat) : Nat :=
  let ways := waysOf (s.rawF MAP_RGN_CTL_WAYS r 0 0)
  let t := if ways % 3 = 0 then 3 else 1
  let p2 := ways / t
  let g := granBytes (s.rawF MAP_RGN_CTL_GRAN r 0 0)
  let y := x - s.rawF MAP_RGN_CTL_CHOFF r 0 0 * 2 ^ 21
  let pos := y / g
  let idx := ones (s.rawF MAP_RGN_CTL_CH_MASK r 0 0) c
  let lo := if s.rawF MAP_RGN_CTL_HASH r 0 0 = 1 ∧ 1 < p2 then Nat.xor (idx % p2) (foldXor p2 52 pos)
    else idx % p2
  s.rawF MAP_RGN_BASE_BASE r 0 0 * 2 ^ 21 + ((pos * t + idx / p2) * p2 + lo) * g + y % g

/-- Entry `r` is an enabled local DRAM region that names channel `c`. -/
def State.rgnNames (s : State) (c r : Nat) : Bool :=
  decide (s.rawF MAP_RGN_CTL_VALID r 0 0 = 1) && decide (s.rawF MAP_RGN_CTL_TYPE r 0 0 = 0) &&
  decide (s.rawF MAP_RGN_BASE_BASE r 0 0 / 2 ^ 25 = s.straps.node) &&
  (s.rawF MAP_RGN_CTL_CH_MASK r 0 0).testBit c

/-- Ranges of 2 MiB blocks without blocks `lo` to `hi`; a range ends before its second number. -/
def cutBlocks (lo hi : Nat) (l : List (Nat × Nat)) : List (Nat × Nat) :=
  l.flatMap (fun x => [(x.1, min x.2 lo), (max x.1 (hi + 1), x.2)].filter (fun y => decide (y.1 < y.2)))

/-- The ranges of blocks that entry `r` decides: those that no lower-numbered entry matches (R99). -/
def State.visible (s : State) (r : Nat) : List (Nat × Nat) :=
  ((List.range r).filter (fun e => decide (s.rawF MAP_RGN_CTL_VALID e 0 0 = 1))).foldl
    (fun l e => cutBlocks (s.rawF MAP_RGN_BASE_BASE e 0 0) (s.rawF MAP_RGN_LIMIT_LIMIT e 0 0) l)
    [(s.rawF MAP_RGN_BASE_BASE r 0 0, s.rawF MAP_RGN_LIMIT_LIMIT r 0 0 + 1)]

/-- Granules of entry `r` on channel `c` that lie in the entry's first `n` blocks (R105: a channel's granules ascend
with its offset). -/
def State.granulesBelow (s : State) (c r n : Nat) : Nat :=
  let ways := max 1 (waysOf (s.rawF MAP_RGN_CTL_WAYS r 0 0))
  let p2 := ways / (if ways % 3 = 0 then 3 else 1)
  let u := n * 2 ^ 21 / granBytes (s.rawF MAP_RGN_CTL_GRAN r 0 0)
  let idx := ones (s.rawF MAP_RGN_CTL_CH_MASK r 0 0) c
  let lo := if s.rawF MAP_RGN_CTL_HASH r 0 0 = 1 ∧ 1 < p2 then Nat.xor (idx % p2) (foldXor p2 52 (u / ways))
    else idx % p2
  u / ways + b2n (decide (idx / p2 * p2 + lo < u % ways))

/-- Lines of channel `c`. -/
def State.chanLines (s : State) (c : Nat) : Nat :=
  if s.rawF MAP_GEOM_VALID c 0 0 = 1 then s.capacity c / 64 else 0

/-- The ranges of lines of channel `c` that enabled local DRAM region `r` maps (R99, R105). -/
def State.rgnSegs (s : State) (c r : Nat) : List (Nat × Nat) :=
  if ¬ s.rgnNames c r then []
  else
    let line (b : Nat) : Nat := s.rawF MAP_RGN_CTL_CHOFF r 0 0 * 2 ^ 15 +
      s.granulesBelow c r (b - s.rawF MAP_RGN_BASE_BASE r 0 0) * (granBytes (s.rawF MAP_RGN_CTL_GRAN r 0 0) / 64)
    ((s.visible r).map (fun x => (line x.1, min (line x.2) (s.chanLines c)))).filter (fun y => decide (y.1 < y.2))

/-- The entry through which an enabled local DRAM region maps line `L` of channel `c`. -/
def State.rgnOfLine (s : State) (c L : Nat) : Option Nat :=
  (List.range 64).find? (fun r => (s.rgnSegs c r).any (fun e => decide (e.1 ≤ L) && decide (L < e.2)))

/-- The checks of R102 on an entry's fields. -/
def rgnPasses (build node base limit ty ways mask choff : Nat) : Bool :=
  let isLocal := decide (base / 2 ^ 25 = node)
  let blocks := limit + 1 - base
  let w := waysOf ways
  decide (base ≤ limit) && decide (base / 2 ^ 25 = limit / 2 ^ 25) &&
  decide ((limit % 2 ^ 25 + 1) * 2 ^ 21 ≤ if isLocal then nodeSpace build else 2 ^ 44) &&
  decide (ty ≠ 3) && (decide (ty ≠ 1) || isLocal) &&
  (!(decide (ty = 0) && isLocal) ||
    (decide (w ≠ 0) && decide (ones mask 24 = w) && decide (blocks % w = 0) &&
     decide (choff + blocks / w ≤ 2 ^ 18)))

/-- Sets BAD_ENTRY, and ENTRY with the first since it was clear (R102). -/
def State.badEntry (s : State) (r : Nat) : State :=
  (if s.rawF MAP_ERR_BAD_ENTRY 0 0 0 = 0 then s.setF MAP_ERR_ENTRY 0 0 0 r else s).setBit
    MAP_ERR_BAD_ENTRY 0 0 0

/-- The fields of `MAP_RGN_CTL` a host writes whatever the expert bit. -/
def rgnCtlFields : List Field :=
  [MAP_RGN_CTL_TYPE, MAP_RGN_CTL_PRIV_MIN, MAP_RGN_CTL_SEC, MAP_RGN_CTL_WAYS, MAP_RGN_CTL_CHOFF,
   MAP_RGN_CTL_CH_MASK]

/-- GRAN or HASH of entry `r` as the write leaves it: gated by the Mapper's expert bit. -/
def State.rgnX (s : State) (f : Field) (r : Nat) (w : RegW) (valid : Bool) : Nat :=
  let old := s.mapVal f r valid
  if s.expert 1 then w.merge f old else old

/-- A write of `MAP_RGN_CTL` of entry `r` (R102, R103). -/
def State.writeRgnCtl (s : State) (r : Nat) (w : RegW) : State :=
  if 64 ≤ r then s
  else
    let wasV := decide (s.rawF MAP_RGN_CTL_VALID r 0 0 = 1)
    let nowV := decide (w.merge MAP_RGN_CTL_VALID (b2n wasV) = 1)
    let gran := s.rgnX MAP_RGN_CTL_GRAN r w wasV
    let hash := s.rgnX MAP_RGN_CTL_HASH r w wasV
    let changed := rgnCtlFields.any (fun f => decide (w.merge f (s.rawF f r 0 0) ≠ s.rawF f r 0 0)) ||
      decide (gran ≠ s.mapVal MAP_RGN_CTL_GRAN r wasV) || decide (hash ≠ s.mapVal MAP_RGN_CTL_HASH r wasV)
    if wasV && nowV then (if changed then s.setBit MAP_ERR_LIVE_WRITE 0 0 0 else s)
    else
      let s1 := rgnCtlFields.foldl (fun t f => t.setF f r 0 0 (w.merge f (t.rawF f r 0 0))) s
      let s2 := if s1.expert 1 then
          (s1.setX MAP_RGN_CTL_GRAN r 0 0 gran).setX MAP_RGN_CTL_HASH r 0 0 hash
        else s1
      if ¬ nowV then s2.setF MAP_RGN_CTL_VALID r 0 0 0
      else if rgnPasses s.build s.straps.node (s2.rawF MAP_RGN_BASE_BASE r 0 0)
          (s2.rawF MAP_RGN_LIMIT_LIMIT r 0 0) (s2.rawF MAP_RGN_CTL_TYPE r 0 0)
          (s2.rawF MAP_RGN_CTL_WAYS r 0 0) (s2.rawF MAP_RGN_CTL_CH_MASK r 0 0)
          (s2.rawF MAP_RGN_CTL_CHOFF r 0 0) then
        ((s2.setF MAP_RGN_CTL_GRAN r 0 0 gran).setF MAP_RGN_CTL_HASH r 0 0 hash).setF
          MAP_RGN_CTL_VALID r 0 0 1
      else s2.badEntry r

/-- A write of BASE or LIMIT of entry `r`: refused while the entry is enabled (R103). -/
def State.writeRgnBound (s : State) (f : Field) (r : Nat) (w : RegW) : State :=
  let v := w.merge f (s.rawF f r 0 0)
  if v = s.rawF f r 0 0 then s
  else if s.rawF MAP_RGN_CTL_VALID r 0 0 = 1 then s.setBit MAP_ERR_LIVE_WRITE 0 0 0
  else s.setF f r 0 0 v

/-- The fields of `MAP_GEOM` a host writes whatever the expert bit. -/
def geomFields : List Field := [MAP_GEOM_PHYS, MAP_GEOM_HEIGHT, MAP_GEOM_WIDTH, MAP_GEOM_DENS]

/-- A geometry that R107 supports. -/
def State.geomGood (s : State) (c : Nat) : Bool :=
  decide (s.rawF MAP_GEOM_DENS c 0 0 ≤ 4) && decide (s.height c ≠ 0) && decide (s.ranks c ≤ 4)

/-- A write of `MAP_GEOM` of channel `c` (R110). VALID written 1 with the expert bit 0 loads BANK_HASH from the
profile. DESIGN CHOICE (log 127): a geometry in force that is rewritten with a bad one loses its VALID. -/
def State.writeGeom (s : State) (c : Nat) (w : RegW) : State :=
  if ¬ s.hasChan c then s
  else if (List.range 64).any (s.rgnNames c) then s.setBit MAP_ERR_LIVE_WRITE 0 0 0
  else
    let wasV := decide (s.rawF MAP_GEOM_VALID c 0 0 = 1)
    let nowV := decide (w.merge MAP_GEOM_VALID (b2n wasV) = 1)
    let bh := if w.bits MAP_GEOM_VALID = 1 ∧ ¬ s.expert 1 then s.mapProfile MAP_GEOM_BANK_HASH
      else s.rgnX MAP_GEOM_BANK_HASH c w wasV
    let s1 := geomFields.foldl (fun t f => t.setF f c 0 0 (w.merge f (t.rawF f c 0 0))) s
    let s2 := if s1.expert 1 then s1.setX MAP_GEOM_BANK_HASH c 0 0 bh else s1
    if ¬ nowV then s2.setF MAP_GEOM_VALID c 0 0 0
    else if s2.geomGood c then
      (s2.setF MAP_GEOM_BANK_HASH c 0 0 bh).setF MAP_GEOM_VALID c 0 0 1
    else (s2.setF MAP_GEOM_VALID c 0 0 0).setBit MAP_ERR_GEOM_BAD 0 0 0

end Sys2Proof.Machine
end

