-- ==== Sys2Proof/Machine/RsCode.lean ====
section
/-! DEFINITION. Ashlar's Reed-Solomon code (R179 to R186): GF(2^8), encoding with the folded address,
errors-and-erasures decoding, the poison mask and the acceptance rule. -/

namespace Sys2Proof.Machine

/-! The field. -/

/-- Multiplication by alpha (R179). -/
def gfDbl (a : Nat) : Nat := if a < 128 then 2 * a else Nat.xor (2 * a) 0x11D

/-- The product of `a` and the low `n` bits of `b`. -/
def gfMulN : Nat → Nat → Nat → Nat
  | 0, _, _ => 0
  | n + 1, a, b => Nat.xor (if b % 2 = 1 then a else 0) (gfMulN n (gfDbl a) (b / 2))

/-- The product in GF(2^8). -/
def gfMul (a b : Nat) : Nat := if a = 0 ∨ b = 0 then 0 else if a = 1 then b else if b = 1 then a else gfMulN 8 a b

/-- Alpha to the power `n`. -/
def gfExp : Nat → Nat
  | 0 => 1
  | n + 1 => gfDbl (gfExp n)

/-- The inverse in GF(2^8): a^254. -/
def gfInv (a : Nat) : Nat :=
  let a2 := gfMul a a
  let a4 := gfMul a2 a2
  let a8 := gfMul a4 a4
  let a16 := gfMul a8 a8
  let a32 := gfMul a16 a16
  let a64 := gfMul a32 a32
  let a128 := gfMul a64 a64
  gfMul a128 (gfMul a64 (gfMul a32 (gfMul a16 (gfMul a8 (gfMul a4 a2)))))

/-! Polynomials, lowest coefficient first. -/

/-- Sum. -/
def polyAdd : List Nat → List Nat → List Nat
  | [], q => q
  | p, [] => p
  | a :: p, b :: q => Nat.xor a b :: polyAdd p q

/-- A polynomial times a constant. -/
def polyScale (c : Nat) (p : List Nat) : List Nat := p.map (gfMul c)

/-- Product. -/
def polyMul : List Nat → List Nat → List Nat
  | [], _ => []
  | a :: p, q => polyAdd (polyScale a q) (0 :: polyMul p q)

/-- Value at `x`. -/
def polyEval : List Nat → Nat → Nat
  | [], _ => 0
  | a :: p, x => Nat.xor a (gfMul x (polyEval p x))

/-- Formal derivative. -/
def polyDeriv : List Nat → List Nat
  | [] => []
  | _ :: p => p.mapIdx (fun i c => if i % 2 = 0 then c else 0)

/-- Trailing zero coefficients removed. -/
def polyTrim (p : List Nat) : List Nat := (p.reverse.dropWhile (· == 0)).reverse

/-! The code. -/

/-- g(x) without its leading 1, lowest coefficient first (R179). -/
def rsGen : List Nat := [59, 36, 50, 98, 229, 41, 65, 163, 8, 30, 209, 68, 189, 104, 13, 59]

/-- One step of the division by g. -/
def rsShift (rem : List Nat) (c : Nat) : List Nat :=
  let f := Nat.xor c (rem.getLast?.getD 0)
  (List.zip (0 :: rem.dropLast) rsGen).map (fun e => Nat.xor e.1 (gfMul f e.2))

/-- m(x) mod g(x) for the coefficients of x^16 and up, lowest first. -/
def rsRem (ms : List Nat) : List Nat := ms.reverse.foldl rsShift (List.replicate 16 0)

/-- The six virtual symbols of a global address (R182). -/
def virtSyms (a : Nat) : List Nat := (List.range 6).map (fun j => nfield a (6 + 8 * j) 8)

/-- The 64 bytes of a line. -/
def lineBytes (d : BitVec 512) : List Nat := (List.range 64).map (fun i => nfield d.toNat (8 * i) 8)

/-- A line from its bytes. -/
def bytesLine (l : List Nat) : BitVec 512 := BitVec.ofNat 512 (l.foldr (fun b a => b + 256 * a) 0)

/-- The poison mask pm (R186). -/
def poisonMask : List Nat :=
  [0x5C, 0x1B, 0xE7, 0x92, 0x36, 0xA4, 0x0F, 0xD1, 0x78, 0x2E, 0xB9, 0x43, 0x6A, 0xF5, 0x81, 0xCD]

/-- XOR of two lists, symbol by symbol. -/
def symXor (a b : List Nat) : List Nat := (List.zip a b).map (fun e => Nat.xor e.1 e.2)

/-- Data symbol `i` of a line (R179 to R181): bit `n` of DQ at beat `b` is bit `32 b + n` of the line. -/
def lineSym (x8 : Bool) (v i : Nat) : Nat :=
  if x8 then nfield v (32 * (i % 16) + 8 * (i / 16)) 8
  else nfield v (64 * (i % 8) + 4 * (i / 8)) 4 + 16 * nfield v (64 * (i % 8) + 32 + 4 * (i / 8)) 4

/-- The 64 data symbols of a line. -/
def lineSyms (x8 : Bool) (d : BitVec 512) : List Nat := (List.range 64).map (lineSym x8 d.toNat)

/-- What data symbol `i` of value `v` contributes to its line. -/
def symBits (x8 : Bool) (i v : Nat) : Nat :=
  if x8 then v * 2 ^ (32 * (i % 16) + 8 * (i / 16))
  else v % 16 * 2 ^ (64 * (i % 8) + 4 * (i / 8)) + v / 16 * 2 ^ (64 * (i % 8) + 32 + 4 * (i / 8))

/-- A line from its 64 data symbols. -/
def symsLine (x8 : Bool) (l : List Nat) : BitVec 512 :=
  BitVec.ofNat 512 (((List.range 64).map (fun i => symBits x8 i ((l[i]?).getD 0 % 256))).sum)

/-- The 80 stored symbols of a line (R182, R186): 64 data, 16 check. -/
def rsEncode (x8 : Bool) (d : BitVec 512) (a : Nat) (poison : Bool) : List Nat :=
  let ds := if poison then List.replicate 64 0 else lineSyms x8 d
  let chk := rsRem (ds ++ virtSyms a)
  ds ++ (if poison then symXor chk poisonMask else chk)

/-- A burst as the word of R179: check symbols, data, virtual symbols, lowest position first. -/
def rsWord (stored : List Nat) (a : Nat) : List Nat := stored.drop 64 ++ stored.take 64 ++ virtSyms a

/-- The 16 syndromes. -/
def rsSyndromes (w : List Nat) : List Nat := (List.range 16).map (fun i => polyEval w (gfExp i))

/-- The erasure locator of a list of positions. -/
def erasureLocator (es : List Nat) : List Nat := es.foldl (fun g p => polyMul g [1, gfExp p]) [1]

/-- State of the Berlekamp-Massey algorithm. -/
structure Bm where
  c : List Nat
  b : List Nat
  l : Nat
  m : Nat
  d : Nat
  deriving DecidableEq, Repr

/-- The discrepancy at step `n`. -/
def bmDelta (syn c : List Nat) (n l : Nat) : Nat :=
  (List.range (l + 1)).foldl (fun a i => Nat.xor a (gfMul (c.getD i 0) (if i ≤ n then syn.getD (n - i) 0 else 0))) 0

/-- One step of the algorithm. -/
def bmStep (syn : List Nat) (s : Bm) (n : Nat) : Bm :=
  let dl := bmDelta syn s.c n s.l
  if dl = 0 then { s with m := s.m + 1 }
  else
    let c' := polyAdd s.c (polyScale (gfMul dl (gfInv s.d)) (List.replicate s.m 0 ++ s.b))
    if 2 * s.l ≤ n then ⟨c', s.c, n + 1 - s.l, 1, dl⟩ else { s with c := c', m := s.m + 1 }

/-- The error locator of a list of syndromes, and its claimed degree. -/
def bmRun (syn : List Nat) : List Nat × Nat :=
  let s := (List.range syn.length).foldl (bmStep syn) ⟨[1], [1], 0, 1, 1⟩
  (polyTrim s.c, s.l)

/-- What the locator found: positions of errors beyond the erasures, and the magnitude at every position
changed. -/
structure Located where
  errors : List Nat
  change : List (Nat × Nat)
  deriving DecidableEq, Repr

/-- Errors and erasures located from 16 syndromes (R183 step 4): `none` when the locator fails. Positions
0 to 254 are searched, so that those beyond 85 are seen. -/
def rsLocate (syn erasures : List Nat) : Option Located :=
  let f := erasures.length
  let gam := erasureLocator erasures
  let t := ((polyMul syn gam).take 16).drop f
  let (lam, l) := bmRun t
  let roots := (List.range 255).filter (fun p => decide (polyEval lam (gfExp ((255 - p) % 255)) = 0))
  if 16 < 2 * l + f ∨ lam.length ≠ l + 1 ∨ roots.length ≠ l ∨ roots.any erasures.contains then none
  else
    let psi := polyMul lam gam
    let om := (polyMul syn psi).take 16
    let dpsi := polyDeriv psi
    some ⟨roots, (roots ++ erasures).map (fun p =>
      let xi := gfExp ((255 - p) % 255)
      (p, gfMul (gfExp p) (gfMul (polyEval om xi) (gfInv (polyEval dpsi xi)))))⟩

/-- A word with changes applied. -/
def applyChange (w : List Nat) (ch : List (Nat × Nat)) : List Nat :=
  w.mapIdx (fun i c => ch.foldl (fun a e => if e.1 = i then Nat.xor a e.2 else a) c)

/-! Devices (R180, R181). -/

/-- Devices of a subchannel. -/
def deviceCount (x8 : Bool) : Nat := if x8 then 5 else 10

/-- The device of a stored position of the word. -/
def deviceOf (x8 : Bool) (p : Nat) : Nat :=
  if x8 then (if p < 16 then 4 else (p - 16) / 16) else (if p < 16 then 8 + p / 8 else (p - 16) / 8)

/-- The positions of a device. -/
def devicePositions (x8 : Bool) (d : Nat) : List Nat :=
  (List.range 80).filter (fun p => decide (deviceOf x8 p = d))

/-- The verdicts of R183. -/
inductive Verdict where
  | clean | corrected | poisonStored | addressMismatch | uncorrectable
  deriving DecidableEq, Repr

/-- A verdict with the line delivered, the located positions, and whether DEC_CHK is reported. -/
structure Judged where
  verdict : Verdict
  line : BitVec 512
  located : List Nat
  decChk : Bool
  deriving DecidableEq, Repr

/-- The syndromes of a word with the poison mask removed. -/
def unmasked (w : List Nat) : List Nat := rsSyndromes (symXor (w.take 16) poisonMask ++ w.drop 16)

/-- The poison test of R186; under x8 erasure a poisoned line cannot be told apart, and the test is not
made. -/
def poisonTest (x8 : Bool) (mark : Option Nat) (w : List Nat) : Bool :=
  if x8 && mark.isSome then false
  else
    let syn := unmasked w
    syn.all (· == 0) ||
    (match mark with
     | none => (match rsLocate syn [] with
       | some q => decide (q.errors.length ≤ 4) && q.errors.all (fun p => decide (p < 80))
       | none => false)
     | some d => (match rsLocate syn (devicePositions x8 d) with
       | some q => q.errors.isEmpty
       | none => false))

/-- A poisoned line under x8 erasure (R186): with the marked device `d` left out, the word is the stored form of a
poisoned line. -/
def erasedPoison (d : Nat) (w : List Nat) : Bool :=
  let gone := devicePositions true d
  let v := w.mapIdx (fun i x => if gone.contains i then 0 else x)
  ((v.drop 16).take 64).all (· == 0) && (unmasked v).all (· == 0)

/-- The acceptance rule of R184. -/
def accepts (x8 deviceMode : Bool) (mark : Option Nat) (errs : List Nat) : Bool :=
  match mark with
  | none => !deviceMode || decide (errs.length ≤ 2) ||
      errs.all (fun p => decide (deviceOf x8 p = deviceOf x8 (errs.headD 0)))
  | some _ =>
    if x8 then errs.isEmpty else if deviceMode then decide (errs.length ≤ 1) else decide (errs.length ≤ 4)

/-- A burst of 80 symbols decoded for address `a` (R183). `split` says that the two syndrome generators
differ. -/
def rsDecode (x8 deviceMode : Bool) (mark : Option Nat) (stored : List Nat) (a : Nat) (split : Bool) :
    Judged :=
  let w := rsWord stored a
  let syn := rsSyndromes w
  let bad : Judged := ⟨.uncorrectable, 0, [], false⟩
  if split then { bad with decChk := true }
  else if syn.all (· == 0) then ⟨.clean, symsLine x8 (stored.take 64), [], false⟩
  else if poisonTest x8 mark w then ⟨.poisonStored, 0, [], false⟩
  else if x8 && mark.any (fun d => erasedPoison d w) then ⟨.corrected, 0, [], false⟩
  else match rsLocate syn ((mark.map (devicePositions x8)).getD []) with
    | none => bad
    | some q =>
      if q.errors.any (fun p => decide (80 ≤ p) && decide (p ≤ 85)) then ⟨.addressMismatch, 0, q.errors, false⟩
      else if q.errors.any (fun p => decide (85 < p)) then bad
      else if ¬ accepts x8 deviceMode mark q.errors then { bad with located := q.errors }
      else
        let w' := applyChange w q.change
        if (rsSyndromes w').all (· == 0) then ⟨.corrected, symsLine x8 ((w'.drop 16).take 64), q.errors, false⟩
        else { bad with decChk := true }

end Sys2Proof.Machine
end

