-- ==== Sys2Proof/Machine/PlinthOps.lean ====
section
/-! DEFINITION. The record store of Plinth (R221 to R236): records and their validity, the rows of a store,
the start-up reading, the FATAL record, and what a command of `PLN_CMD` does once it runs. -/

namespace Sys2Proof.Machine

/-- A number from its bytes, little-endian. -/
def leNat (bs : List Nat) : Nat := bs.foldr (fun b a => b % 256 + 256 * a) 0

/-- Bytes as rows of 64, the last one filled with zeros. -/
def rowsOfBytes (bs : List Nat) : List (BitVec 512) :=
  (List.range (cdiv bs.length 64)).map (fun i => bytesLine ((bs.drop (64 * i)).take 64))

/-! Areas (R222). -/

/-- First row and rows of the window of a record's slot; none for a type that has no window. -/
def plnWindow (type index slot : Nat) : Option (Nat × Nat) :=
  match type with
  | 1 => some (0x10 * slot, 16)
  | 2 => some (0x20 + 0x10 * slot, 16)
  | 3 => some (0x40 + 0x10 * slot, 16)
  | 0x10 => if index < 24 then some (0x60 + (2 * index + slot) * 64, 64) else none
  | 0x20 => some (0xC60 + 0x300 * slot, 768)
  | 0x21 => some (0x1260 + 0x400 * slot, 1024)
  | _ => none

/-- The largest body of a type (R222). -/
def plnMaxBody (type : Nat) : Nat :=
  match type with | 0x10 => 2944 | 0x20 => 49024 | 0x21 => 65408 | _ => 64

/-- The bit of `PLN_VALID` of a record. -/
def plnBit (type index : Nat) : Nat :=
  match type with | 1 => 24 | 2 => 25 | 3 => 26 | 0x20 => 27 | 0x21 => 28 | _ => index

/-! Rows. -/

/-- Plinth's state changed. -/
def State.modPln (s : State) (f : PlnSt → PlnSt) : State := { s with pln := f s.pln }

/-- Row `r` of the array. -/
def State.plnRow (s : State) (r : Nat) : BitVec 512 := Tbl.get s.pln.rows 0 r

/-- Row `r` written. -/
def State.setPlnRow (s : State) (r : Nat) (v : BitVec 512) : State :=
  s.modPln (fun p => { p with rows := Tbl.set p.rows 0 r v, bad := p.bad.filter (fun x => decide (x ≠ r)) })

/-- Row `r` reads as it was written: no error in it, or one its check bits correct (R221, R236). -/
def State.rowOk (s : State) (r : Nat) : Bool := !s.pln.bad.contains r

/-- Rows that can no longer be corrected (R236). -/
def State.rowsLost (s : State) (l : List Nat) : State :=
  s.modPln (fun p => { p with bad := p.bad ++ (l.filter (fun r => !p.bad.contains r)).eraseDups })

/-- A field of a row: byte offset and bytes. -/
def rowAt (r : BitVec 512) (off n : Nat) : Nat := nfield r.toNat (8 * off) (8 * n)

/-- A row whose last word is the check word of the others. -/
def withCrc (bs : List Nat) : BitVec 512 := bytesLine (bs ++ leBytes 4 (crc32c bs))

/-- The header row of R223. -/
def headerRow (type index slot seq cycle time : Nat) (body : List Nat) : BitVec 512 :=
  withCrc (leBytes 4 0x504C4E48 ++ [type, index, slot, 1] ++ leBytes 4 seq ++ leBytes 4 body.length ++
    leBytes 8 cycle ++ leBytes 8 time ++ leBytes 4 (crc32c body) ++ List.replicate 24 0)

/-- The commit row of R224. -/
def commitRow (seq hdrCrc : Nat) : BitVec 512 :=
  withCrc (leBytes 4 0x3A7C91E5 ++ leBytes 4 seq ++ leBytes 4 hdrCrc ++ List.replicate 48 0)

/-- The row's check word is right. -/
def rowCrcOk (r : BitVec 512) : Bool := decide (rowAt r 60 4 = crc32c ((lineBytes r).take 60))

/-- The row is a header with a right check word (R223). -/
def isHeader (r : BitVec 512) : Bool := decide (rowAt r 0 4 = 0x504C4E48) && rowCrcOk r

/-- The body bytes of the record whose header lies at ring position `p` of a window. -/
def State.bodyAt (s : State) (base size p len : Nat) : List Nat :=
  ((List.range (cdiv len 64)).flatMap (fun k => lineBytes (s.plnRow (base + (p + 1 + k) % size)))).take len

/-- Every row of the record of `n` rows at ring position `p` of a window can be read (R236). -/
def State.recordReads (s : State) (base size p n : Nat) : Bool :=
  (List.range n).all (fun k => s.rowOk (base + (p + k) % size))

/-- A valid record at ring position `p` of a slot (R226, R236): its SEQ. -/
def State.validAt (s : State) (type index slot base size p : Nat) : Option Nat :=
  let h := s.plnRow (base + p)
  if ¬ isHeader h ∨ rowAt h 4 1 ≠ type ∨ rowAt h 5 1 ≠ index ∨ rowAt h 6 1 ≠ slot then none
  else
    let len := rowAt h 12 4
    let seq := rowAt h 8 4
    if plnMaxBody type < len then none
    else
      let c := s.plnRow (base + (p + 1 + cdiv len 64) % size)
      if s.recordReads base size p (cdiv len 64 + 2) ∧ rowAt c 0 4 = 0x3A7C91E5 ∧ rowAt c 4 4 = seq ∧ rowAt c 8 4 = rowAt h 60 4 ∧ rowCrcOk c ∧
          rowAt h 32 4 = crc32c (s.bodyAt base size p len) then some seq
      else none

/-- Ring positions of a window whose row is not zero. -/
def State.usedRows (s : State) (base size : Nat) : List Nat :=
  (s.pln.rows.filter (fun e => decide (base ≤ e.1 ∧ e.1 < base + size))).map (fun e => e.1 - base)

/-- The record in force (R226): slot, ring position, SEQ. -/
def State.inForce (s : State) (type index : Nat) : Option (Nat × Nat × Nat) :=
  [0, 1].foldl (fun b slot =>
    match plnWindow type index slot with
    | none => b
    | some (base, size) =>
      (s.usedRows base size).foldl (fun b p =>
        match s.validAt type index slot base size p with
        | none => b
        | some q => (match b with
          | some (_, _, q') => if q' < q then some (slot, p, q) else b
          | none => some (slot, p, q))) b) none

/-- The header and body of the record in force. -/
def State.plnRecord (s : State) (type index : Nat) : Option (BitVec 512 × List Nat) :=
  match s.inForce type index with
  | none => none
  | some (slot, p, _) => match plnWindow type index slot with
    | none => none
    | some (base, size) =>
      let h := s.plnRow (base + p)
      some (h, s.bodyAt base size p (rowAt h 12 4))

/-- `PLN_VALID` of one record brought up to date. -/
def State.setValid (s : State) (type index : Nat) : State :=
  let b := plnBit type index
  let f := if b < 24 then PLN_VALID_TRAIN else PLN_VALID_SMALL
  let i := if b < 24 then b else b - 24
  let put (old on k : Nat) : Nat := old - nfield old k 1 * 2 ^ k + on * 2 ^ k
  match s.inForce type index with
  | none => (s.setF f 0 0 0 (put (s.rawF f 0 0 0) 0 i)).setF PLN_VALID_SLOT 0 0 0
      (put (s.rawF PLN_VALID_SLOT 0 0 0) 0 b)
  | some (slot, _, _) => (s.setF f 0 0 0 (put (s.rawF f 0 0 0) 1 i)).setF PLN_VALID_SLOT 0 0 0
      (put (s.rawF PLN_VALID_SLOT 0 0 0) slot b)

/-- A Plinth error with its report (R236). -/
def State.plnErr (s : State) (f : Field) (kind sev : Nat) : State :=
  (s.setBit f 0 0 0).reportUnit 108 sev 0 6 kind none

/-! Stores (R227, R228). -/

/-- A store chosen: slot, SEQ, window base and size, ring start. -/
structure PlnPlan where
  slot : Nat
  seq : Nat
  base : Nat
  size : Nat
  start : Nat
  deriving DecidableEq, Repr

/-- Slot, SEQ and place of the next store of a record (R227). -/
def State.plnPlan (s : State) (type index : Nat) : Option PlnPlan :=
  let cur := s.inForce type index
  let slot := cur.elim 0 (fun e => 1 - e.1)
  let seq := cur.elim 1 (fun e => e.2.2 + 1)
  (plnWindow type index slot).map (fun w =>
    ⟨slot, seq, w.1, w.2, Tbl.get s.pln.nextStart 0 w.1⟩)

/-- Rows of a store beside its header. -/
def PlnStore.bodyRows (st : PlnStore) : Nat := cdiv st.length 64

/-- The body bytes of a store. -/
def PlnStore.bytes (st : PlnStore) : List Nat := (st.body.flatMap lineBytes).take st.length

/-- The power-cycle count of this cold start (R232): one above the count in force before its CYCLE store. -/
def State.startCount (s : State) : Nat := ((s.plnRecord 2 0).map (fun e => leNat (e.2.take 8))).elim 1 (· + 1)

/-- The power-cycle count that a store carries: that of `PLN_CYCLE`, which reads 0 until READY. -/
def State.cycleCount (s : State) : Nat :=
  if s.rawF PLN_STATUS_READY 0 0 0 = 1 then s.rawF PLN_CYCLE_COUNT 0 0 0 else s.startCount

/-- Row `k` of a store: header, body, commit. -/
def State.storeRow (s : State) (st : PlnStore) (pl : PlnPlan) (k : Nat) : BitVec 512 :=
  let h := headerRow st.type st.index pl.slot pl.seq s.cycleCount st.time st.bytes
  if k = 0 then h
  else if k ≤ st.bodyRows then st.body.getD (k - 1) 0
  else commitRow pl.seq (rowAt h 60 4)

/-- next_start of the window of a plan after `n` rows. -/
def State.moveStart (s : State) (pl : PlnPlan) (n : Nat) : State :=
  s.modPln (fun p => { p with nextStart := Tbl.set p.nextStart 0 pl.base ((pl.start + n) % pl.size) })

/-- A store of `body` bytes. -/
def plnStoreOf (type index : Nat) (body : List Nat) (time : Nat) : PlnStore :=
  ⟨type, index, rowsOfBytes body, body.length, time⟩

/-- A store asked for: it waits its turn (R227, R235). -/
def State.askStore (s : State) (type index : Nat) (body : List Nat) : State :=
  s.modPln (fun p => { p with stores := p.stores ++ [plnStoreOf type index body s.uptime] })

/-- Row `r` of a record holds what a failed or a cut write left there, a free value that never alters the record
in force (R228, R229). -/
def State.tornRow (s : State) (r type index : Nat) : State :=
  let t := s.setPlnRow r (Config.failedRow r s.uptime)
  if t.inForce type index = s.inForce type index then t else s

/-- The store that waits first begins with its header row (R227). -/
def State.storeBegin (s : State) : State :=
  match s.pln.stores with
  | [] => s
  | st :: rest => s.modPln (fun p => { p with
      stores := { st with time := s.uptime } :: rest, row := some 0, tries := 0, dropping := false })

/-- The store in progress leaves the queue. -/
def State.storeGone (s : State) : State :=
  s.modPln (fun p => { p with stores := p.stores.drop 1, row := none, tries := 0, dropping := false })

/-- A command of `PLN_CMD` is running. -/
def State.cmdRuns (s : State) : Bool := s.pln.cmd.any PlnCmd.runs

/-- A Plinth store or command is in progress (`PLN_STATUS.BUSY`); 1 until the start-up reading is
complete. -/
def State.plnBusy (s : State) : Bool :=
  decide (s.rawF PLN_STATUS_READY 0 0 0 = 0) || s.pln.row.isSome || !s.pln.stores.isEmpty || s.pln.cmd.isSome

/-! Bodies (R230, R231). -/

/-- A SEAL body. -/
def sealBody (st : Straps) : List Nat :=
  [b2n st.debugSeal, b2n st.programSeal, 0, 0, 0, 0, 0, 0] ++ leBytes 48 st.keyDigest ++ List.replicate 8 0

/-- A CYCLE body. -/
def cycleBody (n : Nat) : List Nat := leBytes 8 n ++ List.replicate 56 0

/-- A FATAL body. -/
def fatalBody (src sev access merges mkind master addr time : Nat) : List Nat :=
  [src, sev, access, 0] ++ leBytes 2 merges ++ leBytes 2 master ++ [mkind] ++ List.replicate 7 0 ++
    leBytes 8 addr ++ leBytes 8 time ++ List.replicate 32 0

/-- `TIM_RATE` of channel `c` as a word. -/
def State.rateWord (s : State) (c : Nat) : Nat :=
  s.rawF TIM_RATE_MULT c 0 0 * 2 ^ TIM_RATE_MULT.lo + s.rawF TIM_RATE_DIMM c 0 0 * 2 ^ TIM_RATE_DIMM.lo

/-- `MAP_GEOM` of channel `c` as a word. -/
def State.geomWord (s : State) (c : Nat) : Nat :=
  ([MAP_GEOM_VALID, MAP_GEOM_PHYS, MAP_GEOM_HEIGHT, MAP_GEOM_WIDTH, MAP_GEOM_DENS].map
    (fun f => s.rawF f c 0 0 * 2 ^ f.lo)).sum +
    s.mapVal MAP_GEOM_BANK_HASH c (decide (s.rawF MAP_GEOM_VALID c 0 0 = 1)) * 2 ^ MAP_GEOM_BANK_HASH.lo +
    s.capGib c * 2 ^ MAP_GEOM_CAP_GIB.lo

/-- The version of an image in force; 0 where none is. -/
def State.imgVersion (s : State) (kind : Nat) : Nat := (Tbl.find s.imgs kind).elim 0 Img.version

/-- The first 32 bytes of the identity block of channel `c` (R231). -/
def State.trainIdent (s : State) (c : Nat) : List Nat :=
  leBytes 8 (s.rateWord c) ++ leBytes 8 (s.geomWord c) ++ leBytes 8 (s.rawF SCR_DIMM_ID_ID c 0 0) ++
    leBytes 4 (s.imgVersion 0) ++ leBytes 4 (s.imgVersion 1)

/-- The TRAIN body of channel `c` (R231). -/
def State.trainBody (s : State) (c : Nat) : List Nat :=
  s.trainIdent c ++ leBytes 8 ((s.chan c).scr.baseline.getD 0) ++ List.replicate 24 0 ++
    (List.range 2880).map (fun i => Config.valueByte (s.chan c).scr.active i % 256)

/-- The present values of channel `c` handed to Plinth (R213). -/
def State.handValues (s : State) (c : Nat) : State :=
  (s.askStore 0x10 c (s.trainBody c)).modPln (fun p => { p with
    handed := (c, (s.chan c).scr.active) :: (p.handed.filter (fun e => decide (e.1 = c))).take 2 ++
      p.handed.filter (fun e => decide (e.1 ≠ c)) })

/-- The values that the record in force of channel `c` holds (R214): those once handed over of which its value blocks
are the bytes, else what Screed reads from them. -/
def State.storedValues (s : State) (c : Nat) : Tbl Nat :=
  let block := (s.plnRecord 0x10 c).elim [] (fun e => (e.2.drop 64).take 2880)
  match s.pln.handed.find? (fun e => decide (e.1 = c) &&
      decide ((List.range 2880).map (fun i => Config.valueByte e.2 i % 256) = block)) with
  | some e => e.2
  | none => (Config.valuesOf block).foldl (fun t e => Tbl.put t e.1 e.2) []

/-- The stored values of channel `c` are valid (R213). -/
def State.storedValid (s : State) (c : Nat) : Bool :=
  match s.plnRecord 0x10 c with
  | none => false
  | some (_, b) => decide (b.take 32 = s.trainIdent c)

/-! Start-up (R232). -/

/-- next_start of a window at start-up: after the header of highest SEQ found there (R227). -/
def State.startPos (s : State) (base size : Nat) : Nat :=
  ((s.usedRows base size).foldl (fun (b : Option (Nat × Nat)) p =>
    let h := s.plnRow (base + p)
    if ¬ (isHeader h ∧ s.rowOk (base + p)) then b
    else (match b with
      | some (q, _) => if q < rowAt h 8 4 then some (rowAt h 8 4, p) else b
      | none => some (rowAt h 8 4, p))) none).elim 0 (fun e => (e.2 + 1) % size)

/-- Every record pair: type and index. -/
def plnPairs : List (Nat × Nat) :=
  [(1, 0), (2, 0), (3, 0), (0x20, 0), (0x21, 0)] ++ (List.range 24).map (fun c => (0x10, c))

/-- The start position of one slot of a record found at start-up (R227). -/
def State.startSlot (s : State) (w : Option (Nat × Nat)) : State :=
  w.elim s (fun w => s.modPln (fun p => { p with
    nextStart := Tbl.set p.nextStart 0 w.1 (s.startPos w.1 w.2) }))

/-- Both slots of a record and its VALID bit at start-up (R227, R232). -/
def State.startRecord (s : State) (e : Nat × Nat) : State :=
  ((s.setValid e.1 e.2).startSlot (plnWindow e.1 e.2 0)).startSlot (plnWindow e.1 e.2 1)

/-- The store of the CYCLE record of this start-up is asked for (R232 step 4). -/
def State.startCycle (s : State) : State :=
  let other := decide (s.rawF PLN_VALID_TRAIN 0 0 0 ≠ 0) || decide (s.rawF PLN_VALID_SMALL 0 0 0 ≠ 0)
  (if (s.plnRecord 2 0).isNone ∧ other then s.plnErr PLN_ERR_CYCLE_LOST 2 1 else s).askStore 2 0 (cycleBody s.startCount)

/-- The SEAL record held against the straps, and its store asked for (R232 step 5). -/
def State.startSeal (s : State) : State :=
  if (s.plnRecord 1 0).map (fun e => e.2) = some (sealBody s.straps) then s
  else (s.askStore 1 0 (sealBody s.straps)).setBit PLN_STATUS_SEAL_CHANGED 0 0 0

/-- `PLN_STATUS.FATAL_PREV` (R232): the FATAL record in force at this instant carries a CYCLE one below the present count,
which is known from READY on. -/
def State.fatalPrev (s : State) : Bool :=
  decide (s.rawF PLN_STATUS_READY 0 0 0 = 1) &&
    (s.plnRecord 3 0).any (fun e => decide (rowAt e.1 16 8 + 1 = s.rawF PLN_CYCLE_COUNT 0 0 0))

/-- A read of the array met an error (R221, R236): 1 a corrected word. -/
def State.plnUpset (s : State) (upset : Nat) : State :=
  if upset = 1 then s.plnErr PLN_ERR_CORR 0 0 else s

/-- The first body row of the record in force. -/
def State.bodyRow (s : State) (type index : Nat) : List Nat :=
  match s.inForce type index with
  | none => []
  | some (slot, p, _) => (plnWindow type index slot).elim [] (fun w => [w.1 + (p + 1) % w.2])

/-- A read of the record in force met an error (R221, R236): a body row that cannot be corrected makes the record fail, and
the record of the other slot is then in force. -/
def State.recordUpset (s : State) (type index upset : Nat) : State :=
  if upset = 2 then (s.rowsLost (s.bodyRow type index)).setValid type index else s.plnUpset upset

/-- Steps 1 to 4 of R232 begin: the whole array is read, `upset` 1 where words were corrected and `lost` the rows that
could not be; the records in force are selected, and the CYCLE store is asked for. -/
def State.plinthStart (s : State) (upset : Nat) (lost : List Nat) : State :=
  let s1 := (s.rowsLost lost).plnUpset upset
  ((plnPairs.filter (fun e => decide (e.1 ≠ 0x10) || s1.hasChan e.2)).foldl State.startRecord s1).startCycle

/-- The CYCLE store of the start-up has ended, with the count `count` (R232 steps 4 and 5): READY, `PLN_CYCLE`, on which
`FATAL_PREV` rests, and the SEAL record. -/
def State.plinthReady (s : State) (count : Nat) : State :=
  ((s.setF PLN_CYCLE_COUNT 0 0 0 count).setBit PLN_STATUS_READY 0 0 0).startSeal

/-! Commands once they run (R234). -/

/-- The row buffer takes a row. -/
def State.setBuf (s : State) (r : BitVec 512) : State :=
  (List.range 8).foldl (fun t k => t.setF PLN_BUF_DATA k 0 0 (nfield r.toNat (64 * k) 64)) s

/-- The row that the buffer holds. -/
def State.bufRow (s : State) : BitVec 512 :=
  BitVec.ofNat 512 ((List.range 8).map (fun k => s.rawF PLN_BUF_DATA k 0 0 * 2 ^ (64 * k))).sum

/-- PLATFORM row `r` of the array (R222). -/
def platRow (r : Nat) : Nat := 0x1A60 + r

/-- READ_REC (R234). -/
def State.readRec (s : State) (type upset : Nat) : State :=
  let s1 := s.recordUpset type 0 upset
  s1.setBuf ((s1.plnRecord type 0).elim 0 (fun e => bytesLine e.2))

/-- RAW_READ (R234): what a row that cannot be corrected delivers is open. -/
def State.rawRead (s : State) (row upset : Nat) : State :=
  let s1 := if upset = 2 then s.rowsLost [platRow row] else s.plnUpset upset
  s1.setBuf (if s1.rowOk (platRow row) then s1.plnRow (platRow row) else Config.failedRow (platRow row) s1.uptime)

/-- A command of `PLN_CMD` begins: reads end at once, a write goes to its row. -/
def State.plnRun (s : State) (x : PlnCmd) : State :=
  match x.op with
  | 1 => (s.rawRead x.row x.upset).modPln (fun p => { p with cmd := none })
  | 3 => (s.readRec x.type x.upset).modPln (fun p => { p with cmd := none })
  | _ => s.modPln (fun p => { p with cmd := some { x with runs := true }, tries := 0 })

/-- Plinth is free for what waits (R233, R235): the FATAL record first, then a command that waited for the store;
other stores begin with PLINTH_STORE. -/
def State.plnNext (s : State) : State :=
  if s.pln.row.isSome ∨ s.cmdRuns then s
  else if (s.pln.stores.take 1).any (fun st => decide (st.type = 3)) then s.storeBegin
  else match s.pln.cmd with
    | some x => if s.rawF PLN_STATUS_READY 0 0 0 = 1 then s.plnRun x else s
    | none => s

/-! A store that is stopped (R233, R398). -/

/-- The store in progress is stopped at its next row boundary, unless its commit row is being written already. -/
def State.stopStore (s : State) : State :=
  match s.pln.row, s.pln.stores with
  | some k, st :: _ => if k ≤ st.bodyRows then s.modPln (fun p => { p with dropping := true }) else s
  | _, _ => s

/-- The store in progress is stopped even if its commit row is being written, which is then cut. -/
def State.killStore (s : State) : State :=
  match s.pln.row, s.pln.stores with
  | some k, st :: _ =>
    if k ≤ st.bodyRows then s.modPln (fun p => { p with dropping := true })
    else (match s.plnPlan st.type st.index with
      | some pl => ((s.tornRow (pl.base + (pl.start + k) % pl.size) st.type st.index).moveStart pl (k + 1)).storeGone.plnNext
      | none => s.storeGone.plnNext)
  | _, _ => s

/-- The queue of stores with the FATAL record `st`: behind the store in progress, else behind a CYCLE record that
waits, which precedes every other store (R232), and before all others. -/
def PlnSt.withFatal (p : PlnSt) (st : PlnStore) : List PlnStore :=
  let front := if p.row.isSome then p.stores.take 1 else p.stores.takeWhile (fun x => decide (x.type = 2))
  front ++ st :: p.stores.drop front.length

/-- The FATAL record of the first escalation (R233): the capture of Buttress. A store in progress is dropped. -/
def State.fatalStore (s : State) (body : List Nat) : State :=
  let s1 := s.modPln (fun p => { p with fatalDone := true })
  if s.pln.fatalDone ∨ s.sel 8 PLN_CTRL_PROFILE 0 = 1 then s1
  else (s1.modPln (fun p => { p with stores := p.withFatal (plnStoreOf 3 0 body s.uptime) })).stopStore.plnNext

end Sys2Proof.Machine
end

