-- ==== Sys2Proof/Machine/QuoOps.lean ====
section
/-! DEFINITION. What the Quoin shares among its commands (R385 to R399): outbound reads and their tags,
containment, and the end of image operations and drains. -/

namespace Sys2Proof.Machine

/-! Outbound reads (R385). -/

/-- Tags the Quoin may use at once. -/
def State.tagLimit (s : State) : Nat := if (s.cfgWord 30).testBit 8 then 64 else 32

/-- The lowest free tag below the limit; quarantined tags count against it (R401). -/
def State.freeQuoTag (s : State) : Option Nat :=
  if s.tagLimit ≤ s.quo.tags.length then none
  else (List.range s.tagLimit).find? (fun t => (Tbl.find s.quo.tags t).isNone)

/-- Image reads are issued while tags are free, `n` at most (R260, R385). -/
def State.issueReads (s : State) : Nat → State
  | 0 => s
  | n + 1 =>
    match s.quo.img, s.freeQuoTag with
    | some i, some t =>
      if s.quoOut ∧ 0 < i.left then
        State.issueReads (s.modQuo (fun q => { q with
          tags := Tbl.put q.tags t ⟨s.uptime + s.cplTimeout, false⟩,
          img := some { i with left := i.left - min i.left s.maxRead } })) n
      else s
    | _, _ => s

/-- Quarantined tags (`QUO_STATUS.QUAR`). -/
def State.quarTags (s : State) : Nat := (s.quo.tags.filter (fun e => e.2.quar)).length

/-- Every outstanding read quarantined. -/
def State.quarantine (s : State) : State :=
  s.modQuo (fun q => { q with tags := Tbl.mapVal (fun _ t => { t with quar := true }) q.tags })

/-! Image operations and drains. -/

/-- An image operation ends with a result and its vector (R260, R390). -/
def State.imgEnd (s : State) (kind result : Nat) : State :=
  (((s.modQuo (fun q => { q with img := none })).setF MAS_IMG_STATUS_BUSY kind 0 0 0).setF
    MAS_IMG_STATUS_RESULT kind 0 0 result).raiseVec 9

/-- The record type of an image. -/
def imgType (kind : Nat) : Nat := 0x20 + kind

/-- An image operation in progress ends FAILED_MASTER_OFF; what it had handed to Plinth is not stored (R396,
R398). -/
def State.imgAbort (s : State) : State :=
  match s.quo.img with
  | none => s
  | some i =>
    let ours (st : PlnStore) : Bool := decide (st.type = imgType i.kind)
    let s1 := if i.op ≠ 2 ∨ i.image.isNone then s
      else if s.pln.row.isSome ∧ (s.pln.stores.take 1).any ours then s.killStore
      else s.modPln (fun p => { p with stores := p.stores.filter (fun st => !ours st) })
    s1.imgEnd i.kind 7

/-- A drain in progress stops with a status, shown only in `QUO_DRAIN_STATUS` (R393, R396, R398). -/
def State.drainStop (s : State) (status : Nat) : State :=
  match s.quo.drain with
  | none => s
  | some d => s.modQuo (fun q => { q with drain := none, drainStatus := (status, d.done) })

/-! Containment (R396, R397). -/

/-- RELEASE_WAIT ends once no tag is quarantined. -/
def State.releaseCheck (s : State) : State :=
  if s.quo.st = 2 ∧ s.quarTags = 0 then s.modQuo (fun q => { q with st := 0, cause := 0 }) else s

/-- The Quoin enters CONTAINED from NORMAL. -/
def State.contain (s : State) (cause : Nat) : State :=
  if s.quo.st ≠ 0 then s
  else
    let out := (s.quo.tags.filter (fun e => !e.2.quar)).map Prod.fst
    let s1 := (s.modQuo (fun q => { q with st := 1, cause := cause, entry := some (s.uptime, out) })).raiseVec 10
    (((s1.drainStop 3).setF QUO_EXPORT_CTL_EN 0 0 0 0).imgAbort).quarantine

/-- A trigger in the MCLK cycle of the trigger that contained the Quoin (R401). -/
def State.coincides (s : State) (same : Bool) : Bool :=
  same && decide (s.quo.st = 1) && decide (s.quo.entry.map Prod.fst = some s.uptime)

/-- A trigger of containment: of two in one MCLK cycle the lower cause is recorded (R401). -/
def State.containWith (s : State) (cause : Nat) (same : Bool) : State :=
  if s.coincides same then s.modQuo (fun q => { q with cause := min q.cause cause }) else s.contain cause

/-- Tag `tag` is quarantined, and was so before a trigger of this MCLK cycle. -/
def State.tagQuar (s : State) (tag : Nat) (t : QuoTag) (same : Bool) : Bool :=
  t.quar && !(s.coincides same && s.quo.entry.any (fun e => e.2.contains tag))

/-- What Bus Master Enable cleared ends (R398). -/
def State.masterOff (s : State) : State := ((s.imgAbort).drainStop 2).quarantine

end Sys2Proof.Machine
end

