-- ==== Sys2Proof/Machine/Images.lean ====
section
/-! DEFINITION. Firmware images (R255 to R260): their format, checks and pairing, their selection at the cold
start, and what putting one in force does. -/

namespace Sys2Proof.Machine

/-- A little-endian field of an image. -/
def imgField (b : List Nat) (off n : Nat) : Nat := leNat ((b.drop off).take n)

/-- Bytes `[off, off + n)` are zero. -/
def zeroBytes (b : List Nat) (off n : Nat) : Bool := ((b.drop off).take n).all (· == 0)

/-- CODE_LEN of an image. -/
def codeLen (b : List Nat) : Nat := imgField b 0x1C 4

/-- DATA_LEN of an image. -/
def dataLen (b : List Nat) : Nat := imgField b 0x20 4

/-- The image carries FLAGS.SIGNED. -/
def imgSigned (b : List Nat) : Bool := decide (imgField b 6 2 = 1)

/-- Check 1 of R257: the format of R255. -/
def imgFormat (kind : Nat) (b : List Nat) : Bool :=
  decide (imgField b 0 4 = 0x414B4C54 ∧ imgField b 4 1 = kind + 1 ∧ imgField b 5 1 = 1 ∧ imgField b 6 2 ≤ 1) &&
  decide (codeLen b % 8 = 0 ∧ codeLen b ≤ 16384 ∧ dataLen b % 8 = 0 ∧
    dataLen b ≤ (if kind = 1 then 32768 else 16384)) &&
  decide (b.length = 0x180 + codeLen b + dataLen b ∧ b.length ≤ plnMaxBody (imgType kind)) &&
  zeroBytes b 0x24 12 && zeroBytes b 0xC1 63 && zeroBytes b 0x160 32 && (imgSigned b || zeroBytes b 0x60 97) &&
  decide (imgField b 0x30 48 = sha384 (b.drop 0x180))

/-- The checks of R257 in order: 1 OK, or the result of the first that fails. -/
def State.imgCheck (s : State) (kind : Nat) (fromHost : Bool) (b : List Nat) : Nat :=
  let fused := decide (s.straps.keyDigest ≠ 0)
  let key := (b.drop 0x60).take 97
  if ¬ imgFormat kind b then 2
  else if imgSigned b ∧ fused ∧ ¬ (sha384 key = s.straps.keyDigest ∧
      ecdsaVerifies key (b.take 0x100) ((b.drop 0x100).take 96)) then 3
  else if s.straps.programSeal ∧ fromHost ∧ ¬ (imgSigned b ∧ fused) then 4
  else if ¬ (imgField b 0x0C 4 ≤ 0x00040001 ∧ 0x00040001 ≤ imgField b 0x10 4) then 5
  else 1

/-- An image as it comes into force. -/
def imgOf (b : List Nat) (source : Nat) : Img :=
  let body := b.drop 0x180
  ⟨imgField b 8 4, imgField b 0x14 4, imgField b 0x18 4, source, body.take (codeLen b), body.drop (codeLen b)⟩

/-- A version of the tested matrix (R258). -/
def versionTested (v : Nat) : Bool := decide (0x00040000 ≤ v) && decide (v ≤ 0x0004FFFF)

/-- The pair check of R258: a training image is needed. -/
def pairOk (train mason : Option Img) : Bool :=
  match train, mason with
  | some t, some m =>
    versionTested t.version && versionTested m.version &&
    decide (m.otherMin ≤ t.version ∧ t.version ≤ m.otherMax ∧ t.otherMin ≤ m.version ∧ m.version ≤ t.otherMax)
  | some t, none => versionTested t.version
  | none, _ => false

/-- The 32-bit words of a list of bytes, by index, zeros not listed. -/
def wordsOf (b : List Nat) : Tbl (BitVec 32) :=
  (List.range (b.length / 4)).filterMap (fun i =>
    let w := BitVec.ofNat 32 (leNat ((b.drop (4 * i)).take 4))
    if w = 0 then none else some (i, w))

/-- The bytes of a list by offset, zeros not listed. -/
def cellsOf (b : List Nat) : List Host.Cell :=
  (List.range b.length).filterMap (fun i =>
    let x := BitVec.ofNat 8 (b.getD i 0)
    if x = 0 then none else some (i, x))

/-- A Mason runtime loaded into every Mason of the build (R258). -/
def State.loadRuntime (s : State) (i : Img) : State :=
  (List.range s.masonCount).foldl (fun t m => t.modMason m (fun x => { x with
    istore := wordsOf i.code, scratch := cellsOf i.data })) s

/-- The training image in force loaded into the sequencer of channel `c` (R258 step 5). -/
def State.seqLoad (s : State) (c : Nat) : State :=
  match Tbl.find s.imgs 0 with
  | some i => s.modMason (seqOf c) (fun x => { x with istore := wordsOf i.code, scratch := cellsOf i.data })
  | none => s

/-- An image put in force. -/
def State.putImage (s : State) (kind : Nat) (i : Img) : State :=
  let s1 := (({ s with imgs := Tbl.put s.imgs kind i }).setF MAS_IMG_STATUS_VERSION kind 0 0 i.version).setF
    MAS_IMG_STATUS_SOURCE kind 0 0 i.source
  if kind = 1 then s1.loadRuntime i else s1

/-! Selection at the cold start (R258). -/

/-- Valid records of one slot's window: SEQ and body. -/
def State.slotRecords (s : State) (type index slot : Nat) : List (Nat × List Nat) :=
  match plnWindow type index slot with
  | none => []
  | some (base, size) => (s.usedRows base size).filterMap (fun p =>
      (s.validAt type index slot base size p).map (fun q =>
        (q, s.bodyAt base size p (rowAt (s.plnRow (base + p)) 12 4))))

/-- The body of highest SEQ of a list of records. -/
def newestBody (l : List (Nat × List Nat)) : Option (List Nat) :=
  (l.foldl (fun (b : Option (Nat × List Nat)) e =>
    match b with | some x => if x.1 < e.1 then some e else b | none => some e) none).map Prod.snd

/-- The image chosen for a kind, and the last result: the record in force, then the other slot. -/
def State.chooseImage (s : State) (kind : Nat) : Option Img × Nat :=
  match s.inForce (imgType kind) 0 with
  | none => (none, 0)
  | some (slot, _, _) =>
    let try_ (k : Nat) : Option (Nat × List Nat) :=
      (newestBody (s.slotRecords (imgType kind) 0 k)).map (fun b => (s.imgCheck kind false b, b))
    match try_ slot with
    | some (1, b) => (some (imgOf b (1 + slot)), 1)
    | some (r, _) => (match try_ (1 - slot) with
      | some (1, b) => (some (imgOf b (2 - slot)), 1)
      | some (r', _) => (none, r')
      | none => (none, r))
    | none => (none, 0)

/-- The images selected from Plinth and loaded at step 4 of the cold start (R258). -/
def State.selectImages (s : State) : State :=
  let (t, rt) := s.chooseImage 0
  let (m, rm) := s.chooseImage 1
  let ok := pairOk t m
  let res (i : Option Img) (r : Nat) : Nat := if i.isSome ∧ ¬ ok then 5 else r
  let s1 := (s.setF MAS_IMG_STATUS_RESULT 0 0 0 (res t rt)).setF MAS_IMG_STATUS_RESULT 1 0 0 (res m rm)
  if ¬ ok then s1
  else
    let s2 := t.elim s1 (fun i => (List.range s.build).foldl State.seqLoad (s1.putImage 0 i))
    m.elim s2 (fun i => s2.putImage 1 i)

/-! Host loads (R260). -/

/-- Some Mason of the build is neither HALTED nor in FAULT. -/
def State.masonsBusy (s : State) : Bool :=
  (List.range s.masonCount).any (fun m => decide ((s.mason m).st ≠ 0 ∧ (s.mason m).st ≠ 2))

/-- `MAS_IMG_CMD.GO` (R260): refused loads end at once; no operation starts while a tag is outstanding (R398) or
another runs. -/
def State.imgStart (s : State) (op kind len : Nat) : State :=
  if s.quo.img.isSome ∨ s.quo.tags ≠ [] then s
  else if 2 < op then s.imgEnd kind 2
  else if kind = 1 ∧ op ≠ 0 ∧ s.masonsBusy then s.imgEnd kind 6
  else if ¬ s.quoOut then s.imgEnd kind 7
  else
    ((s.modQuo (fun q => { q with
      img := some ⟨op, kind, len, s.rawF MAS_IMG_ADDR_ADDR 0 0 0 * 64, len, none⟩ })).setBit
        MAS_IMG_STATUS_BUSY kind 0 0).issueReads 64

/-- An image that passed is put in force, and the Masons follow it. -/
def State.imgForce (s : State) (kind : Nat) (b : List Nat) : State :=
  ((s.putImage kind (imgOf b 3)).imgEnd kind 1).masonsApply

/-- The whole image has arrived (R257, R258, R260). -/
def State.imgArrived (s : State) (i : ImgOp) (b : List Nat) : State :=
  let r := s.imgCheck i.kind true b
  let mine := imgOf b 3
  let ok := if i.kind = 0 then pairOk (some mine) (Tbl.find s.imgs 1) else pairOk (Tbl.find s.imgs 0) (some mine)
  if r ≠ 1 then s.imgEnd i.kind r
  else if ¬ ok then s.imgEnd i.kind 5
  else if i.op = 0 then s.imgEnd i.kind 1
  else if i.kind = 1 ∧ s.masonsBusy then s.imgEnd i.kind 6
  else if i.op = 1 ∧ s.pln.row.isNone then s.imgForce i.kind b
  else
    (if i.op = 1 then s else s.askStore (imgType i.kind) 0 b).modQuo (fun q => { q with
      img := some { i with image := some b } })

/-- An image that waited for Plinth is put in force, but a runtime only while no Mason runs (R260). -/
def State.imgLate (s : State) (i : ImgOp) (b : List Nat) : State :=
  if i.kind = 1 ∧ s.masonsBusy then s.imgEnd i.kind 6 else s.imgForce i.kind b

/-- A LOAD that waited for a store in progress is done once none runs (R265). -/
def State.imgWaited (s : State) : State :=
  match s.quo.img with
  | some i => (match i.image with
    | some b => if i.op = 1 ∧ s.pln.row.isNone then s.imgLate i b else s
    | none => s)
  | none => s

/-- The end of the Plinth store of a LOAD_STORE (R260): of this operation's own store, which then waits no more. -/
def State.imgStored (s : State) (type : Nat) (good : Bool) : State :=
  match s.quo.img with
  | some i =>
    if type = imgType i.kind ∧ i.op = 2 ∧ ¬ s.pln.stores.any (fun st => decide (st.type = type)) then
      (match i.image with
       | some b => if good then s.imgLate i b else s.imgEnd i.kind 8
       | none => s)
    else s
  | none => s

end Sys2Proof.Machine
end

