-- ==== Sys2Proof/Machine/Operands.lean ====
section
/-! DEFINITION. The operand forms of memory requests: opcodes (R53), sizes (R54), partial reads (R56),
byte masks, and the atomic functions (R55). -/

namespace Sys2Proof

/-- The atomics AT_ADD to AT_UMAX. -/
def Op.isAtomic : Op → Bool
  | .atAdd | .atOr | .atAnd | .atXor | .atSwap | .atCas | .atMin | .atMax | .atUmin | .atUmax => true
  | _ => false

/-- RD_LINE and RD_PART. -/
def Op.isRead : Op → Bool
  | .rdLine | .rdPart => true | _ => false

/-- Followed by exactly one write-data slot (R53). -/
def Op.dataBearing (o : Op) : Bool := o.isAtomic || o == .wrLine || o == .wrPart || o == .setad

/-- One read-modify-write of its line (R85 rule 3). -/
def Op.isRmw (o : Op) : Bool := o.isAtomic || o == .wrPart || o == .setad

/-- The opcode value of R53. -/
def Op.code : Op → Nat
  | .rdLine => 1 | .rdPart => 2 | .wrLine => 3 | .wrPart => 4 | .wrZero => 5
  | .atAdd => 8 | .atOr => 9 | .atAnd => 10 | .atXor => 11 | .atSwap => 12 | .atCas => 13
  | .atMin => 14 | .atMax => 15 | .atUmin => 16 | .atUmax => 17 | .setad => 20 | .flush => 24

/-- The address must be a multiple of this many bytes (R53, R54). -/
def Op.align (o : Op) (size : Nat) : Nat :=
  match o with
  | .rdLine | .wrLine | .wrZero => 64
  | .wrPart | .flush => 1
  | _ => 2 ^ size

/-- A legal SIZE for the opcode (R54). -/
def Op.sizeOk (o : Op) (size : Nat) : Bool :=
  if o = .rdPart then decide (size ≤ 5)
  else if o.isAtomic || o == .setad then decide (size = 2) || decide (size = 3)
  else true

/-- WALK and NORET only where R57 admits them. -/
def Op.attrOk (o : Op) (attr : Nat) : Bool :=
  (!attr.testBit 1 || o.isRead) && !(attr.testBit 2 && o == .setad)

/-- The request is well formed under step 3 of R69, parity apart. -/
def Op.wellFormed (o : Op) (size addr attr : Nat) : Bool :=
  o.sizeOk size && decide (addr % o.align size = 0) && o.attrOk attr

/-! Parity (R51, R52). -/

/-- Ones among the low `w` bits of `n`. -/
def onesOf : Nat → Nat → Nat
  | 0, _ => 0
  | w + 1, n => n % 2 + onesOf w (n / 2)

/-- The odd-parity bit over covered bits with `ones` ones. -/
def oddPar (ones : Nat) : Bool := decide (ones % 2 = 0)

/-- The parity bit that covers a request slot's fields: opcode `code`, SIZE, address, tag, SID, QID, PRIV, NS,
ATTR and pre-colour. -/
def PReq.goodPar (p : PReq) (code : Nat) : Bool :=
  oddPar (onesOf 5 code + onesOf 3 p.size + onesOf 52 p.addr + onesOf 12 p.tag + onesOf 12 p.sid +
    onesOf 12 p.qid + onesOf 2 p.priv + b2n p.ns + onesOf 4 p.attr + onesOf 2 p.col)

/-- The parity check of a request slot fails. -/
def PReq.parBad (p : PReq) (code : Nat) : Bool := p.par != p.goodPar code

/-- Parity bits 15:0 over the groups of four data bytes, with the mask bits of each group where there are any. -/
def groupPar (data mask : Nat) : Nat :=
  ((List.range 16).map (fun k =>
    b2n (oddPar (onesOf 32 (data / 2 ^ (32 * k)) + onesOf 4 (mask / 2 ^ (4 * k)))) * 2 ^ k)).sum

/-- The 17 parity bits of a write-data slot. -/
def WSlot.goodPar (w : WSlot) : BitVec 17 :=
  BitVec.ofNat 17 (groupPar w.data.toNat w.mask.toNat + b2n (oddPar (onesOf 12 w.tag + b2n w.poison)) * 2 ^ 16)

/-- The parity check of a write-data slot fails. -/
def WSlot.parBad (w : WSlot) : Bool := w.par != w.goodPar

end Sys2Proof

namespace Sys2Proof.Machine

/-- Ones over `n` bytes from byte `off` of a line. -/
def bytesMask (off n : Nat) : BitVec 512 := BitVec.ofNat 512 ((2 ^ (8 * n) - 1) * 2 ^ (8 * off))

/-- The bytes an RD_PART returns, in place; all others zero (R56). -/
def partOf (line : BitVec 512) (addr size : Nat) : BitVec 512 := line &&& bytesMask (addr % 64) (2 ^ size)

/-- The bits that byte enables select. -/
def enableBits (m : BitVec 64) : BitVec 512 :=
  (List.range 64).foldl (fun a k => if m.getLsbD k then a ||| bytesMask k 1 else a) 0

/-- The line after a masked write (R53). -/
def mergeLine (old new : BitVec 512) (m : BitVec 64) : BitVec 512 :=
  (new &&& enableBits m) ||| (old &&& ~~~ enableBits m)

/-- Byte enables of `n` bytes from byte `off`. -/
def enables (off n : Nat) : BitVec 64 := BitVec.ofNat 64 ((2 ^ n - 1) * 2 ^ off)

/-- Bytes [off + n) of a line as a number. -/
def lineNat (line : BitVec 512) (off n : Nat) : Nat := nfield line.toNat (8 * off) (8 * n)

/-- A number of `b` bits as a signed integer. -/
def signedOf (b n : Nat) : Int := if 2 ^ (b - 1) ≤ n then (n : Int) - (2 ^ b : Nat) else n

/-- The new value of an atomic on `b` bits: old, A, B (R53, R55). -/
def atomicNew (o : Op) (b old a bb : Nat) : Nat :=
  match o with
  | .atAdd => (old + a) % 2 ^ b
  | .atOr | .setad => Nat.lor old a
  | .atAnd => Nat.land old a
  | .atXor => Nat.xor old a
  | .atSwap => a
  | .atCas => if old = a then bb else old
  | .atMin => if signedOf b a < signedOf b old then a else old
  | .atMax => if signedOf b old < signedOf b a then a else old
  | .atUmin => min old a
  | .atUmax => max old a
  | _ => old

/-- An atomic or SETAD on a line: the new line and the old value (R55). -/
def atomicLine (o : Op) (size addr : Nat) (line operand : BitVec 512) : BitVec 512 × BitVec 512 :=
  let n := 2 ^ size
  let off := addr % 64
  let old := lineNat line off n
  let new := atomicNew o (8 * n) old (lineNat operand 0 n) (lineNat operand 8 n)
  ((BitVec.ofNat 512 (new * 2 ^ (8 * off))) ||| (line &&& ~~~ bytesMask off n), BitVec.ofNat 512 old)

/-- The line a read-modify-write stores and what it returns. -/
def rmwLine (r : Req) (line data : BitVec 512) : BitVec 512 × BitVec 512 :=
  if r.op = .wrPart then (mergeLine line data r.mask, 0) else atomicLine r.op r.size r.addr line data

/-- What a read of a line returns. -/
def Req.readOf (r : Req) (line : BitVec 512) : BitVec 512 :=
  if r.op = .rdPart then partOf line r.addr r.size else line

/-- POISON as the request's class has it (R59). -/
def Req.poisonStatus (r : Req) : Status := if r.walk then .poisonWalk else .poison

/-- The completion travels on the read-data channel (R53, R57, R69). -/
def Req.onRead (r : Req) : Bool :=
  r.op.isRead || r.op == .setad || (r.op.isAtomic && !r.attr.testBit 2)

/-- A request of `src` with nothing else known. -/
def Req.blank (rid : Nat) (src : Src) (op : Op) : Req :=
  { rid := rid, src := src, op := op, size := 0, addr := 0, tag := 0, sid := 0, qid := 0, priv := 0,
    ns := false, attr := 0, col := .uncoloured, walk := false, dest := .flush, part := none,
    stage := .atPort, lines := [], run := none, indiv := false, data := none, mask := 0,
    wpoison := false, wparity := false, inBuf := false, inStore := false, performed := false, served := false,
    status := none, rdata := 0, corrected := false, colour := .uncoloured, queue := 0,
    charged := false, bypassed := 0, judged := false, fit := none, tAccept := 0, tAlloc := 0, tEnq := 0, waits := [],
    entryBad := false, ptrBad := false, rivals := [], staged := false, offered := 0, tagRec := none, peerTag := 0, peerNode := 0, peerHop := 0,
    via := 0 }

/-- One line of a request, nothing issued. -/
def LineJob.new (addr : Nat) (pos : Pos) : LineJob := ⟨addr, pos, .fresh, none, false, 0⟩

/-- The pre-colour of R58. -/
def colourOf (n : Nat) : Colour := match n with | 1 => .green | 2 => .yellow | 3 => .red | _ => .uncoloured

/-- The request's performance needs data that reaches the channel's write store as one line: a single write's, or the
line that a fill writes everywhere (R78, R245). -/
def Req.needsData (r : Req) : Bool := r.op.dataBearing && (r.run.isNone || r.data.isSome)

/-- Every line that a run writes has its data (R78): those of a copy as their sources are read. -/
def Req.fed (r : Req) : Bool :=
  r.run.isNone || !(r.op == .wrLine) || r.lines.all (fun l => l.wdata.isSome || decide (l.stage = .finished))

/-- A request that stands in the hazard chains: it holds a tracker entry (R81), or is a scrub line
(R188). -/
def Req.hasEntry (r : Req) : Bool :=
  r.part.isSome || (match r.src with | .scrub _ => true | _ => false)

/-- The channel a request goes to. -/
def Req.chan (r : Req) : Option Nat := match r.dest with | .local c => some c | _ => none

/-- The request is for DRAM of channel `c`. -/
def Req.onChan (r : Req) (c : Nat) : Bool := decide (r.dest = .local c)

/-- The lines whose order the hazard tables keep (R85): none for a remote request or a FLUSH. -/
def Req.hazardLines (r : Req) : List Nat :=
  match r.dest with
  | .local _ => r.lines.map (fun l => l.addr / 64)
  | .control _ => [r.addr / 64]
  | _ => []

/-- Two requests share a line. -/
def Req.sharesLine (a b : Req) : Bool := a.hazardLines.any (fun x => b.hazardLines.contains x)

/-- The status is fixed (R87). -/
def Req.fixed (r : Req) : Bool := r.performed || r.status.isSome

/-- The port a request came from. -/
def Req.port? (r : Req) : Option Nat := match r.src with | .port n => some n | _ => none

/-- The port a request came from, its completion awaited or not. -/
def Req.fromPort (r : Req) : Option Nat :=
  match r.src with | .port n => some n | .lost n => some n | _ => none

/-- In a Setter queue (R113). -/
def Req.inQueue (r : Req) (c : Nat) : Bool := r.onChan c && decide (r.stage = .queued)

end Sys2Proof.Machine
end

