-- ==== Sys2Proof/Machine/Reqs.lean ====
section
/-! DEFINITION. Requests in the Mortar: tracker partitions and reserves (R81 to R84), read-return lines
(R79), the sending of Bond messages under credits (R318), and the fixing of a request's status (R69,
R82, R87). -/

namespace Sys2Proof.Machine

/-! The tracker. -/

/-- Entries of partition `c` that are not FREE. -/
def State.occ (s : State) (c : Nat) : Nat :=
  (s.reqs.filter (fun r => decide (r.part = some c))).length

/-- The request counts against the Mason reserve. -/
def Req.ofMason (r : Req) : Bool := match r.src with | .mason _ => true | _ => false

/-- The request counts against the Bond reserve. -/
def Req.ofBond (r : Req) : Bool := match r.src with | .bond _ => true | _ => false

/-- The unused part of a reserve of partition `c` (R83): a field above 512 is used as 512. -/
def State.rsvLeft (s : State) (f : Field) (mine : Req → Bool) (c : Nat) : Nat :=
  min 512 (s.fld f c 0 0) -
    (s.reqs.filter (fun r => decide (r.part = some c) && mine r)).length

/-- Entries of partition `c` that a source may take (R83). DESIGN CHOICE (log 119): a spill of the hod path,
which R83 does not name, takes what a port request may take, outside both reserves. -/
def State.roomFor (s : State) (src : Src) (c : Nat) : Nat :=
  let free := 2048 - s.occ c
  let m := s.rsvLeft MOR_RSV_CFG_MASON_RSV Req.ofMason c
  let b := s.rsvLeft MOR_RSV_CFG_BOND_RSV Req.ofBond c
  match src with
  | .mason _ => free - b
  | .bond _ => free - m
  | _ => free - (m + b)

/-- The partition a request takes its entry in: its channel's, else the one with the most room, lowest
first (81's preamble). -/
def State.partFor (s : State) (src : Src) (d : Dest) : Option Nat :=
  let pick := match d with
    | .local c => c
    | _ => (List.range s.build).foldl
        (fun b c => if s.roomFor src b < s.roomFor src c then c else b) 0
  if 0 < s.roomFor src pick then some pick else none


/-- A fresh request number. -/
def State.newRid (s : State) : State × Nat := ({ s with nextRid := s.nextRid + 1 }, s.nextRid)

/-- A request added at the end of the acceptance order. -/
def State.addReq (s : State) (r : Req) : State := { s with reqs := s.reqs ++ [r] }

/-- A request moved to the end of the acceptance order: its order point (R66). -/
def State.toEnd (s : State) (rid : Nat) : State :=
  { s with reqs := s.reqs.filter (fun r => decide (r.rid ≠ rid)) ++
      s.reqs.filter (fun r => decide (r.rid = rid)) }

/-- The line holds its request in the Setter: commands for it are still to come. -/
def LineJob.open_ (r : Req) (l : LineJob) : Bool :=
  decide (l.stage ≠ .finished) && (decide (l.stage ≠ .reading) || r.op.isRmw)

/-- The requests accepted before `rid` (R66). -/
def State.before (s : State) (rid : Nat) : List Req :=
  s.reqs.takeWhile (fun r => decide (r.rid ≠ rid))

/-- Outstanding requests of port `n` (`HDR_STATUS.OUTSTANDING`). -/
def State.outstanding (s : State) (n : Nat) : Nat :=
  (s.reqs.filter (fun r => decide (r.src = .port n))).length

/-- Write-data slots of port `n` that have not moved into the Mortar (R61 rule 3). -/
def State.wdHeld (s : State) (n : Nat) : Nat :=
  (s.reqs.filter (fun r => decide (r.fromPort = some n) && r.inBuf)).length

/-- Free write-data credits of port `n` (`HDR_STATUS.WD_FREE`). -/
def State.wdFree (s : State) (n : Nat) : Nat := (s.port n).wdCredits - s.wdHeld n

/-- Write-data credits that `hdrn_wd_crd_rtn` has returned since the last entry of port `n` to OPEN (R61 rule 3). -/
def State.wdReturned (s : State) (n : Nat) : Nat := (s.port n).wdTaken - s.wdHeld n

/-- Lines in the write store of channel `c` (R77). -/
def State.storeUsed (s : State) (c : Nat) : Nat :=
  (s.reqs.filter (fun r => r.onChan c && r.inStore)).length

/-- The channel can work on requests: not fenced, trained, its timing live. -/
def State.chanServes (s : State) (c : Nat) : Bool :=
  s.hasChan c && !(s.chan c).fenced && !(s.chan c).scr.trainFence &&
  (decide (s.rawF SCR_STATUS_STATE c 0 0 = 2) || decide (s.rawF SCR_STATUS_STATE c 0 0 = 3)) &&
  decide (s.rawF TIM_STATUS_LIVE c 0 0 = 1)

/-- The channel serves requests (R69 step 11): it works, and is not under channel reset. -/
def State.chanUp (s : State) (c : Nat) : Bool := s.chanServes c && decide ((s.chan c).rstStep = 0)

/-- A channel reset lets what was issued complete (R410 step 1). -/
def State.drainsOut (s : State) (c : Nat) : Bool := s.chanServes c && decide ((s.chan c).rstStep = 1)

/-! Read-return lines (R79). -/

/-- A read-return line of channel `c` reserved for request `rid`. -/
def State.rrHold (s : State) (c rid : Nat) : State :=
  s.modChan c (fun x => { x with set := { x.set with rrHeld := x.set.rrHeld ++ [rid] } })

/-- A read-return line of channel `c` given back by request `rid`. -/
def State.rrDrop (s : State) (c rid : Nat) : State :=
  s.modChan c (fun x => { x with set := { x.set with rrHeld := x.set.rrHeld.erase rid } })

/-- Every read-return line of request `rid` given back. -/
def State.rrDropAll (s : State) (rid : Nat) : State :=
  (List.range s.build).foldl (fun t c =>
    if (t.chan c).set.rrHeld.contains rid then
      t.modChan c (fun x => { x with set :=
        { x.set with rrHeld := x.set.rrHeld.filter (fun k => decide (k ≠ rid)) } })
    else t) s

/-- A line of channel `c` can be reserved for request `r`: 256 lines, 32 for one port, whether the port still
awaits the completions or abandoned them. -/
def State.rrRoom (s : State) (c : Nat) (r : Req) : Bool :=
  let h := (s.chan c).set.rrHeld
  decide (h.length < 256) &&
  (match r.fromPort with
   | some n => decide ((h.filter (fun k =>
       s.reqs.any (fun q => decide (q.rid = k) && decide (q.fromPort = some n)))).length < 32)
   | none => true)

/-! Outbound tags (R330). -/

/-- The lowest free outbound tag. -/
def State.freeTag (s : State) : Option Nat :=
  if 4096 ≤ s.bnd.tags.length then none else (List.range 4096).find? (fun t => (Tbl.find s.bnd.tags t).isNone)

/-- The tag that request `rid`, not yet sent, has taken. -/
def State.tagOf (s : State) (rid : Nat) : Option Nat :=
  (s.bnd.tags.find? (fun e => decide (e.2.rid = rid) && !e.2.live && !e.2.quar)).map Prod.fst

/-- A request that ends unsent gives its tag back. -/
def State.untag (s : State) (rid : Nat) : State :=
  { s with bnd := { s.bnd with tags := s.bnd.tags.filter (fun e => decide (e.2.rid ≠ rid) || e.2.live || e.2.quar) } }

/-- A request's read-return line, where it needs one: room, and the state that holds it (R330). -/
def State.reserveReturn (s : State) (r : Req) : Option State :=
  match r.part with
  | some c =>
    if ¬ r.onRead ∨ (s.chan c).set.rrHeld.contains r.rid then some s
    else if s.rrRoom c r then some (s.rrHold c r.rid) else none
  | none => none

/-- A request for another node that takes its entry takes a tag, and a read-return line where there is one (R330). -/
def State.takeTag (s : State) (rid n : Nat) : State :=
  match s.freeTag with
  | none => s
  | some tag =>
    let s1 := { s with bnd := { s.bnd with tags := Tbl.put s.bnd.tags tag ⟨rid, n, 0, 0, false, false⟩ } }
    ((s1.req rid).bind s1.reserveReturn).getD s1

/-- A tracker entry of partition `c` leaves FREE for request `rid` (R81, R330, R368). -/
def State.alloc (s : State) (rid c : Nat) : State :=
  let s1 := s.modReq rid (fun r => { r with
    part := some c, tAlloc := s.uptime, stage := .held,
    tagRec := r.tagRec.map (fun t => { t with alloc := some s.uptime }) })
  let s2 := s1.setF MOR_PART_STATUS_PEAK c 0 0 (max (s1.rawF MOR_PART_STATUS_PEAK c 0 0) (s1.occ c))
  match (s2.req rid).map Req.dest with
  | some (.remote n) => s2.takeTag rid n
  | _ => s2

/-- A request for another node finds no outbound tag free (R84, R330). -/
def State.noTag (s : State) (d : Dest) : Bool := match d with | .remote _ => s.freeTag.isNone | _ => false

/-- Completions of port `n` in its completion stage on one channel (R77). -/
def State.stageUsed (s : State) (n : Nat) (onRead : Bool) : Nat :=
  (s.reqs.filter (fun r => decide (r.src = .port n) && r.staged && (r.onRead == onRead))).length

/-! The crossbar (R88). Its outputs are the channels (`c`), the ports (`24 + n`), the hod path (36), the peer ports
(`37 + p`) and the Masons (`39 + m`). Its inputs are the ports 0 to 11, the Aklet engines 12 to 227, the peer ports 228
and 229, the hod path 230 and the channels 240 to 263. -/

/-- The crossbar input that a request comes from; a scrub line (231), which Ashlar offers inside its channel, has none. -/
def Req.xbarFrom (r : Req) : Nat :=
  match r.src with
  | .port n => n
  | .lost n => n
  | .mason m => 12 + m
  | .bond p => 228 + p
  | .hod _ => 230
  | .scrub _ => 231

/-- The crossbar input that a completion comes from. A request answered at its port (264) does not cross; a FLUSH comes
from its partition. -/
def Req.xbarBack (r : Req) : Nat :=
  match r.part, r.dest with
  | none, _ => 264
  | _, .local c => 240 + c
  | _, .remote _ => 228 + r.via
  | _, .control _ => 230
  | some c, .flush => 240 + c

/-- The request that the round robin of output `out` grants next: of the first input with one, from the pointer on, the
oldest. -/
def State.xbarPick (s : State) (out : Nat) (from' : Req → Nat) (rs : List Req) : Option Req :=
  let rank (r : Req) : Nat := (from' r + 512 - Tbl.get s.xbar 0 out % 512) % 512
  rs.foldl (fun b r => match b with
    | none => some r
    | some x => if rank r < rank x then some r else b) none

/-- Output `out` granted request `r` from input `i`: the round robin goes on after it. -/
def State.xbarPass (s : State) (out i : Nat) : State := { s with xbar := Tbl.set s.xbar 0 out (i + 1) }

/-- Up to `k` grants of output `out`, one line each, to requests that meet `ready`; `move` takes one across. -/
def State.xbarGrants (out : Nat) (from' : Req → Nat) (ready : State → Req → Bool) (move : State → Req → State) :
    Nat → State → State
  | 0, s => s
  | k + 1, s => match s.xbarPick out from' (s.reqs.filter (ready s)) with
    | none => s
    | some r => State.xbarGrants out from' ready move k ((move s r).xbarPass out (from' r))

/-- Finished requests of port `n` move into its completion stage of 64 read-data lines and 64 response slots, where they
are offered and give their read-return lines back (R77), round robin among the crossbar's inputs (R88). -/
def State.stageMove (s : State) (n : Nat) : State :=
  State.xbarGrants (24 + n) Req.xbarBack
    (fun t r => decide (r.src = .port n) && r.status.isSome && !r.staged && decide (t.stageUsed n r.onRead < 64))
    (fun t r => (t.modReq r.rid (fun q => { q with staged := true, offered := t.uptime })).rrDropAll r.rid)
    s.reqs.length s

/-- An error in the storage of class `k` (R93): 1 corrected, 2 uncorrectable, under access type `access`. -/
def State.classUpset (s : State) (k upset access : Nat) (addr : Option Nat) : State :=
  if upset = 1 then (s.orF MOR_ERR_CORR 0 0 0 (2 ^ k)).reportUnit (86 + k) 0 access 1 k addr
  else if upset = 2 then (s.orF MOR_ERR_UNCORR 0 0 0 (2 ^ k)).reportUnit (86 + k) 2 access 1 (4 + k) addr
  else s

/-- An error in the storage of class `k` about request `r` (R93): 1 corrected, 2 uncorrectable. -/
def State.storageUpset (s : State) (k upset : Nat) (r : Req) : State :=
  if upset = 1 then (s.orF MOR_ERR_CORR 0 0 0 (2 ^ k)).reportReq (86 + k) 0 1 k r
  else if upset = 2 then (s.orF MOR_ERR_UNCORR 0 0 0 (2 ^ k)).reportReq (86 + k) 2 1 (4 + k) r
  else s

/-- A completion lost to an error in completion storage (R93): POISON without data. -/
def Req.spoil (r : Req) : Req := { r with status := some r.poisonStatus, rdata := 0 }

/-! Routes (R327, R330). -/

/-- Node `n` is an UP neighbour on port `p` (R323). -/
def State.nbrUp (s : State) (p n : Nat) : Bool := ((Tbl.find s.bnd.nbr (64 * p + n)).map Nbr.up).getD false

/-- The entry of node `n` is pinned (R327, R340). -/
def State.pinned (s : State) (n : Nat) : Bool := s.expert 13 && decide (s.fld BND_ROUTE_PIN n 0 0 = 1)

/-- The route in force to node `n` (R327, R338, R340): none to this node, none while Bond is OFF, none
through a pinned next hop that is not UP. -/
def State.routeTo (s : State) (n : Nat) : Option Route :=
  let p := s.sel 13 BND_CTRL_PROFILE 0
  if n = s.straps.node ∨ (p ≠ 1 ∧ p ≠ 2) then none
  else match Tbl.find s.bnd.routes n with
    | none => none
    | some r => if s.pinned n ∧ ¬ s.nbrUp r.port r.nh then none else some r

/-! Bond messages (R318, R320, R321). -/

/-- The flits of an opcode; 0 where it is reserved (R321). -/
def opcFlits (opc : Nat) : Nat :=
  if opc = 1 ∨ opc = 2 ∨ opc = 5 ∨ opc = 0x20 ∨ opc = 0x40 ∨ opc = 0x80 then 1
  else if opc = 3 ∨ opc = 4 ∨ opc = 0x41 then 3
  else if (8 ≤ opc ∧ opc ≤ 0x11) ∨ opc = 0x14 ∨ opc = 0x81 then 2 else 0

/-- The lane of an opcode: 0 request, 1 completion (R321). -/
def opcLane (opc : Nat) : Nat := if opc < 0x40 then 0 else 1

/-- A message with every field zero. -/
def Msg.blank : Msg :=
  ⟨0, 0, false, false, 0, 0, 0, false, 0, 0, 0, 0, false, false, 0, 0, 0, 0, 0, 0, 0, 0, 0, 0, 0, 0⟩

/-- Bits 223:0 of the header flit (R320). -/
def headerBits (m : Msg) : Nat :=
  let f (lo w v : Nat) : Nat := v % 2 ^ w * 2 ^ lo
  f 0 8 m.opc + f 8 6 m.nh + f 14 1 (b2n m.bc) + f 15 1 (b2n m.poison) + f 16 6 m.src + f 22 6 m.dst +
  f 28 3 m.hops + f 31 1 (b2n m.noret) + f 32 12 m.tag + f 44 4 m.status + f 48 3 m.size + f 51 2 m.priv +
  f 53 1 (b2n m.ns) + f 54 1 (b2n m.walk) + f 55 2 m.col + f 57 12 m.qid + f 69 2 m.mkind + f 71 16 m.mid +
  f 87 52 m.addr + f 139 64 m.value.toNat + f 203 6 m.lh + f 209 15 m.pseq

/-- The header flit (R320). -/
def headerFlit (m : Msg) : BitVec 256 := BitVec.ofNat 256 (headerBits m + m.crc % 2 ^ 32 * 2 ^ 224)

/-- The CRC of a message of `flits` flits (R320, R225): header bits 223:0, then its data flits, low byte first. A
message holds the data of two data flits; a longer one is malformed, whatever its CRC. -/
def msgCrc (m : Msg) (flits : Nat) : Nat :=
  crc32c (leBytes 28 (headerBits m) ++ leBytes (32 * min 2 (flits - 1)) m.data.toNat)

end Sys2Proof.Machine

namespace Sys2Proof

/-- The CRC of a received message of `flits` flits passes. -/
def Msg.crcOk (m : Msg) (flits : Nat) : Bool := decide (m.crc = Machine.msgCrc m flits)

/-- A message as this node sends it: its CRC computed, on its opcode's lane. -/
def Msg.sealed (m : Msg) : Msg :=
  { m with crc := Machine.msgCrc m (Machine.opcFlits m.opc), lane := Machine.opcLane m.opc }

/-- The receive credits that a message of port `p` takes: those of its lane and class (R318). -/
def Msg.rxKey (m : Msg) (p : Nat) : Nat := 16 * p + 8 * m.lane + m.hops

end Sys2Proof

namespace Sys2Proof.Machine

/-- The key of a port's (lane, class) credits. -/
def credKey (p lane cls : Nat) : Nat := 16 * p + 8 * lane + cls

/-- Messages sent while credits allow, each (lane, class) in order (R318): the credits left, the
messages still waiting, and the messages sent. -/
def drainQ (p : Nat) : List TxEnt → Tbl Nat → List Nat → Tbl Nat × List TxEnt × List TxEnt
  | [], cred, _ => (cred, [], [])
  | m :: q, cred, blocked =>
    let k := credKey p (opcLane m.msg.opc) m.msg.hops
    let n := opcFlits m.msg.opc
    if blocked.contains k ∨ Tbl.get cred 0 k < n then
      let (c1, wait, sent) := drainQ p q cred (k :: blocked)
      (c1, m :: wait, sent)
    else
      let (c1, wait, sent) := drainQ p q (Tbl.set cred 0 k (Tbl.get cred 0 k - n)) blocked
      (c1, wait, m :: sent)

/-- The link of peer port `p` is up, and Buttress does not hold it down (R351). -/
def State.linkUp (s : State) (p : Nat) : Bool := s.bnd.link.contains p && !s.bnd.held.contains p

/-- Bond is ON (`BND_CTRL.PROFILE` 01 or 10, R340), and not between steps 4 and 5 of a warm reset (R337). -/
def State.bondOn (s : State) : Bool :=
  (decide (s.sel 13 BND_CTRL_PROFILE 0 = 1) || decide (s.sel 13 BND_CTRL_PROFILE 0 = 2)) && decide (s.warm ≠ 3)

/-- `n` receive credits of key `k` returned to the link (R318). -/
def State.rxReturn (s : State) (k n : Nat) : State :=
  { s with bnd := { s.bnd with rxCred := Tbl.set s.bnd.rxCred 0 k (Tbl.get s.bnd.rxCred 0 k + n) } }

/-- A message leaves its queue, sent or discarded: the flits of one in transit leave their receive buffer (R318), and
the record of a completion ends with RESP, or ABORTED (R368, R369). -/
def State.txLeave (s : State) (sent : Bool) (e : TxEnt) : State :=
  let s1 := match e.origin with | some (k, n) => s.rxReturn k n | none => s
  match e.record with
  | some ws => s1.keepRecord (if sent then stampResp s.uptime ws else abortRecord ws)
  | none => s1

/-- What waits on port `p` is sent as far as credits go. -/
def State.bondDrain (s : State) (p : Nat) : State :=
  let (cred, wait, sent) := drainQ p (Tbl.get s.bnd.txq [] p) s.bnd.txCred []
  sent.foldl (fun t e => t.txLeave true e) { s with bnd := { s.bnd with
      txCred := cred, txq := Tbl.set s.bnd.txq [] p wait,
      sent := (match sent.getLast? with | some e => Tbl.put s.bnd.sent p e.msg | none => s.bnd.sent) } }

/-- A message queued on port `p` with its CRC; discarded while the link is down or Bond is OFF. -/
def State.bondPut (s : State) (p : Nat) (e : TxEnt) : State :=
  if ¬ s.linkUp p ∨ ¬ s.bondOn then s.txLeave false e
  else ({ s with bnd := { s.bnd with
      txq := Tbl.set s.bnd.txq [] p (Tbl.get s.bnd.txq [] p ++ [{ e with msg := e.msg.sealed }]) } }).bondDrain p

/-- A message of this node queued on port `p`. -/
def State.bondSend (s : State) (p : Nat) (m : Msg) : State := s.bondPut p ⟨m, none, none⟩

/-- Flits that wait in the completion lane of port `p`. -/
def State.cplQueued (s : State) (p : Nat) : Nat :=
  ((Tbl.get s.bnd.txq [] p).map (fun e => if opcLane e.msg.opc = 1 then opcFlits e.msg.opc else 0)).sum

/-- The completion-lane flits a request of Bond reserves (R80). -/
def Req.cplNeed (r : Req) : Nat := if r.op.isRead then 3 else 1

/-- Completion-lane flits of port `p` reserved by admitted inbound requests. -/
def State.cplReserved (s : State) (p : Nat) : Nat :=
  ((s.reqs.filter (fun r => decide (r.src = .bond p) && r.part.isSome)).map Req.cplNeed).sum

/-- The completion of an inbound request (R332). -/
def State.cplMsg (s : State) (r : Req) : Msg :=
  let good := (r.status.map Status.good).getD false
  { Msg.blank with
    opc := if r.op.isRead ∧ good then 0x41 else 0x40, nh := r.peerHop, src := s.straps.node,
    dst := r.peerNode, tag := r.peerTag, status := (r.status.map Status.code).getD 0,
    lh := s.straps.node, addr := r.addr,
    value := if r.op.isRead then 0 else r.rdata.setWidth 64,
    data := if r.op.isRead then r.rdata else 0 }

/-! Fixing a status. -/

/-- The write-conservation check of a release (R354): a mismatch is reported as LOST_WRITE, and the channel fences at
once. -/
def State.checkStore (s : State) (c : Nat) : State :=
  let x := (s.chan c).set
  if x.wsEntered = x.wsReleased + x.wsResident then s
  else (s.reportUnit c 2 2 15 0x42 none).modChan c (fun y => { y with fenced := true })

/-- The write-store line of a request given back, and the counts checked (R354). -/
def State.releaseStore (s : State) (r : Req) : State :=
  match r.dest with
  | .local c =>
    if r.inStore then (s.modChan c (fun x => { x with set :=
      { x.set with wsReleased := x.set.wsReleased + 1, wsResident := x.set.wsResident - 1 } })).checkStore c
    else s
  | _ => s

/-- A request that leaves the Setter with lines not commanded: their banks are wanted no longer from now on (R147,
R160). -/
def State.leaveBanks (s : State) (r : Req) : State :=
  match r.dest with
  | .local c =>
    if r.stage = .queued ∨ r.stage = .issued then
      s.modChan c (fun x => { x with tim := { x.tim with
        left := (r.lines.filter (fun l => l.open_ r)).foldl (fun t l =>
          Tbl.put t (s.spot c (s.lineOf c l.pos) l.pos).bank x.now) x.tim.left } })
    else s
  | _ => s

/-- A patrol line that a reset or fence drops before it is read stays due (R189): it is due again when the channel returns. -/
def State.patrolLost (s : State) (r : Req) : State :=
  match r.src, r.dest, r.lines with
  | .scrub 1, .local c, [l] =>
    if l.stage = .fresh ∨ l.stage = .opened then
      s.modChan c (fun x => { x with ash := { x.ash with again := x.ash.again ++ [s.lineOf c l.pos] } })
    else s
  | _, _, _ => s

/-- Request `rid` completes with status `st`, once: its completion is offered, or, for an inbound Bond
request, sent. Data is zero under every status but OK and OK_CORRECTED (R60). -/
def State.fix (s : State) (rid : Nat) (st : Status) (data : BitVec 512) : State :=
  match s.req rid with
  | none => s
  | some r =>
    if r.status.isSome then s
    else
      let st' := if st = .poison then r.poisonStatus else st
      let r' := { r with
        status := some st', rdata := if st'.good then data else 0, performed := true,
        inBuf := false, inStore := false,
        stage := if r.part.isSome then .done else .answeredAtPort }
      let s1 := (((s.leaveBanks r).releaseStore r).untag rid).modReq rid (fun _ => r')
      match r.src with
      | .bond p => (((s1.rrDropAll rid).dropReq rid).xbarPass (37 + p) r'.xbarBack).bondPut p ⟨s1.cplMsg r', none, s1.openRecord r'⟩
      | .lost _ => (s1.rrDropAll rid).dropReq rid
      | .scrub _ => ((s1.patrolLost r).rrDropAll rid).dropReq rid
      | .port n => s1.stageMove n
      | _ => s1.rrDropAll rid

/-- Every request that meets `p` answered with `st`. -/
def State.fixAll (s : State) (p : Req → Bool) (st : Status) : State :=
  ((s.reqs.filter p).map (fun r => r.rid)).foldl (fun t rid => t.fix rid st 0) s

/-- The column command of every line has issued, and no write half waits (R152). -/
def Req.colIssued (r : Req) : Bool :=
  r.lines.any (fun l => decide (l.stage = .reading)) &&
  r.lines.all (fun l => decide (l.stage = .reading ∨ l.stage = .finished))

/-- A fence of channel `c` (R69 step 11, R152): requests whose column commands had issued complete with
their own status; every other is answered FENCED. -/
def State.fenceReqs (s : State) (c : Nat) : State :=
  s.fixAll (fun r => r.onChan c && r.hasEntry && !r.status.isSome && !r.colIssued) .fenced

/-- Channel `c` fenced, by a cause other than TRAIN_FAIL. -/
def State.fenceChan (s : State) (c : Nat) : State :=
  (s.modChan c (fun x => { x with fenced := true })).fenceReqs c

/-- An entry into FENCED of port `n` (R65): issued requests, FLUSHes and writes whose data is complete in
the write store go on; every other unanswered request is answered FENCED, and its data is not awaited. DESIGN
CHOICE (log 120): a WR_ZERO that a read was already served from goes on too, as a write whose data is complete. -/
def State.fencePort (s : State) (n : Nat) : State :=
  let p := s.port n
  let s1 := s.setPort n { p with
    st := 3, awaits := if p.st = 3 then p.awaits else p.awaits.map (fun a => { a with dropped := true }) }
  s1.fixAll (fun r => decide (r.src = .port n) && !r.status.isSome && !(r.op == .flush) &&
    !decide (r.stage = .issued) && !r.inStore && !r.performed) .fenced

end Sys2Proof.Machine
end

