-- ==== Sys2Proof/Machine/HodOps.lean ====
section
/-! DEFINITION. The hod path (R295 to R303): pushes, pops and counts, the carve-out of NATIVE mode and
its spill traffic, and the change of configuration (R306). -/

namespace Sys2Proof.Machine

/-- Items held (R298, R300). -/
def Hod.count (x : Hod) : Nat :=
  if x.ring then (x.wp + 1024 - x.rp) % 1024
  else x.head.length + 2 * x.mid.length + x.tail.length

/-- The capacity C (R298). -/
def Hod.capacity (x : Hod) : Nat := if x.ring then 512 else 16 + 128 * x.pages

/-- FULL (R300). -/
def Hod.full (x : Hod) : Bool := decide (x.count = x.capacity)

/-- The idle item (R296). -/
def idleItem : BitVec 256 := 0

/-- A LOST item (R296). -/
def lostItem : BitVec 256 := 0xFE

/-- The host may push into `h` (R295). -/
def hostPush (h : Nat) : Bool := decide (h % 2 = 0) || decide (384 ≤ h)

/-- The host may pop `h` (R295). -/
def hostPop (h : Nat) : Bool := decide (h % 2 = 1) || decide (384 ≤ h)

/-- Mason `m` may push into `h` (R295). -/
def masonPush (m h : Nat) : Bool :=
  decide (m < 192) && (decide (384 ≤ h) || decide (h % 2 = 0) || decide (h = 2 * m + 1))

/-- Mason `m` may pop `h` (R295). -/
def masonPop (m h : Nat) : Bool := decide (m < 192) && (decide (384 ≤ h) || decide (h = 2 * m))

/-- MODE, CARVE_PAGES and BASE as the fields of hod `h` now select them (R298). -/
def State.hodCfg (s : State) (h : Nat) : Bool × Nat × Nat :=
  (decide (s.fld HOD_CFG_MODE h 0 0 = 1) && decide (384 ≤ h),
   min 256 (s.fld HOD_CFG_CARVE_PAGES h 0 0), s.fld HOD_CARVE_BASE h 0 0 * 4096)

/-- The hod holds no item and has no spill request in flight (R306). -/
def State.hodIdle (s : State) (h : Nat) : Bool :=
  decide ((s.hod h).count = 0) && !s.reqs.any (fun r => decide (r.src = .hod h))

/-- The configuration of an idle hod comes into force (R306). -/
def State.hodApply (s : State) (h : Nat) : State :=
  if s.hodIdle h then
    let x := s.hod h
    let (ring, pages, base) := s.hodCfg h
    if x.ring = ring ∧ x.pages = pages ∧ x.base = base then s
    else s.setHod h { x with
      ring := ring, pages := pages, base := base, nextLine := 0, slots := [], rp := 0, wp := 0 }
  else s

/-- The configuration applied to every idle hod, after a change of profile or expert bit (R306). -/
def State.hodApplyAll (s : State) : State :=
  (List.range 448).foldl (fun t h => if t.hasHod h then t.hodApply h else t) s

/-- A spill request of hod `h` for line `idx` of its carve-out (R299). -/
def State.spillReq (s : State) (h idx : Nat) (op : Op) (data : BitVec 512) : State × Nat :=
  let (s1, rid) := s.newRid
  let r := { Req.blank rid (.hod h) op with
    addr := (s.hod h).base + 64 * idx, qid := s.fld HOD_CTRL_SPILL_QID 0 0 0, priv := 3,
    ns := decide (s.fld HOD_CTRL_SPILL_NS 0 0 0 = 1), tAccept := s.uptime,
    data := if op = .wrLine then some data else none }
  (s1.addReq r, rid)

/-- Tail items move straight to the head while the carve-out holds none. -/
def Hod.shift (x : Hod) : Hod :=
  if x.ring ∨ x.mid ≠ [] then x
  else
    let n := 8 - x.head.length
    { x with head := x.head ++ x.tail.take n, tail := x.tail.drop n }

/-- A pair of items as one line. -/
def pairLine (a b : BitVec 256) : BitVec 512 := b ++ a

/-- A tail of eight items gives a pair to the carve-out while it has a free line (R299). -/
def State.hodSpill (s : State) (h : Nat) : State :=
  let x := s.hod h
  match x.tail with
  | a :: b :: rest =>
    if x.ring ∨ x.tail.length < 8 ∨ 64 * x.pages ≤ x.mid.length then s
    else
      let (s1, rid) := s.spillReq h x.nextLine .wrLine (pairLine a b)
      s1.setHod h { x with
        tail := rest, mid := x.mid ++ [⟨x.nextLine, 0, rid, false⟩],
        nextLine := (x.nextLine + 1) % (64 * x.pages) }
  | _ => s

/-- Lines of the carve-out whose read is in flight. -/
def Hod.reading (x : Hod) : Nat := (x.mid.filter (fun l => decide (l.st = 2))).length

/-- The line after those being read, where it is stored. -/
def Hod.nextStored (x : Hod) : Option HodLine :=
  match (x.mid.dropWhile (fun l => decide (l.st = 2))).head? with
  | some l => if l.st = 1 then some l else none
  | none => none

/-- The head starts a refill once 4 or fewer items remain and the carve-out holds items (R299). -/
def State.hodRefill (s : State) (h : Nat) : State :=
  let x := s.hod h
  if x.ring ∨ 4 < x.head.length + 2 * x.reading then s
  else match x.nextStored with
    | none => s
    | some l =>
      let (s1, rid) := s.spillReq h l.idx .rdLine 0
      s1.setHod h { x with mid := x.mid.map (fun k =>
        if k.idx = l.idx then { k with st := 2, rid := rid } else k) }

/-- The items of a hod take their places: at most two lines of traffic start at once. -/
def State.hodMove (s : State) (h : Nat) : State :=
  let s1 := s.setHod h (s.hod h).shift
  ((s1.hodSpill h).hodRefill h).hodRefill h

/-- A pointer mismatch (R303): the hod is emptied and stays in service, and a pending configuration is applied (R306). -/
def State.hodPtrFault (s : State) (h : Nat) : State :=
  let x := s.hod h
  let s1 := s.setHod h { x with
    head := [], mid := [], nextLine := 0, tail := [], slots := [], rp := 0, wp := 0, waits := [] }
  ((s1.setBit HOD_STATUS_PTR_FAULT h 0 0).report 91
    ⟨2, 0xA, 8, 18, 3, h, none, s.uptime, false, false⟩).hodApply h

/-- A push of `item` (R298, R300, R303): the new state, and whether it was accepted. -/
def State.hodPush (s : State) (h : Nat) (item : BitVec 256) (bad : Bool) : State × Bool :=
  let x := s.hod h
  if bad then (s.hodPtrFault h, false)
  else if x.full then
    let s1 := (s.setBit HOD_STATUS_OVERRUN h 0 0).count 0x53 0 Ev.nothing
    (if s1.fld DST_TRIG_HOD_EN 0 0 0 = 1 then s1.trigger 5 h else s1, false)
  else
    let s1 := if x.ring then
        s.setHod h { x with slots := Tbl.set x.slots 0 (x.wp % 512) item, wp := (x.wp + 1) % 1024 }
      else (s.setHod h { x with tail := x.tail ++ [item] }).hodMove h
    ((s1.count 0x50 0 Ev.nothing).hodDepth h (s1.hod h).count, true)

/-- Pops of the hod that wait for a refill and have not gone away since (R297): 0 to 191 a Mason whose instruction
waits, 192 the CONTROL path, 193 the Quoin. -/
def State.popWaits (s : State) (h : Nat) : List Nat :=
  (s.hod h).waits.filter (fun w =>
    if w < 192 then (s.mason w).stalled
    else if w = 192 then s.reqs.any (fun r => (match r.dest with | .control _ => true | _ => false) && !r.status.isSome)
    else true)

/-- The round robin gives the next item of hod `h` to requester `who` (R297): one pointer serves the pops of all hods.
DESIGN CHOICE (log 140): it turns among the pops that wait at the hod, from the requester after the last that popped. -/
def State.popTurn (s : State) (h who : Nat) : Bool :=
  let rank (w : Nat) : Nat := (w + 194 - s.popNext % 194) % 194
  (s.popWaits h).all (fun w => decide (rank who ≤ rank w))

/-- The pop of requester `who` waits for a refill (R299). -/
def State.hodWait (s : State) (h who : Nat) : State :=
  let x := s.hod h
  if x.waits.contains who then s else s.setHod h { x with waits := x.waits ++ [who] }

/-- The hod after requester `who` was given an item. -/
def Hod.popped (x : Hod) (who : Nat) : Hod := { x with waits := x.waits.filter (fun w => decide (w ≠ who)) }

/-- Requester `who` was granted a pop, of an item or the idle item: the round robin goes on after it (R297). -/
def State.popGrant (s : State) (who : Nat) : State := { s with popNext := who + 1 }

/-- The pops of requester `who` that wait at any hod are gone. -/
def State.hodsForget (s : State) (who : Nat) : State := 
  { s with hods := Tbl.mapSet (fun _ => Hod.init) (fun _ x => x.popped who) s.hods }

/-- A pop by requester `who` (R297 to R299, R303): `none` while it waits for a refill or for its turn, else the new state
and the item. A pop that waited never gets the idle item. -/
def State.hodPop (s : State) (h who : Nat) (bad : Bool) : Option (State × BitVec 256) :=
  let x := s.hod h
  if bad then some ((s.popGrant who).hodPtrFault h, idleItem)
  else if x.count = 0 then
    if x.waits.contains who then none else some ((s.popGrant who).count 0x52 0 Ev.nothing, idleItem)
  else if x.ring then
    some ((((s.popGrant who).setHod h { x.popped who with rp := (x.rp + 1) % 1024 }).hodApply h).count 0x51 0 Ev.nothing,
      Tbl.get x.slots 0 (x.rp % 512))
  else match x.head with
    | [] => none
    | i :: rest =>
      if s.popTurn h who then
        some (((((s.popGrant who).setHod h { x.popped who with head := rest }).hodMove h).hodApply h).count 0x51 0
          Ev.nothing, i)
      else none

/-- The Quoin's pops that waited for a refill are served where it is their turn (R297, R299): the item is what the read
returns. -/
def State.servePops (s : State) : State :=
  s.hods.foldl (fun t e =>
    if (t.hod e.1).waits.contains 193 then
      match t.hodPop e.1 193 false with
      | some (u, i) => { u with hodOut := i }
      | none => t
    else t) s

/-- The count read of R304: HOD_COUNT, FULL, OVERRUN, PTR_FAULT. -/
def State.hodCountRead (s : State) (h : Nat) : Nat :=
  let x := s.hod h
  x.count + 2 ^ 16 * (b2n x.full + 2 * s.rawF HOD_STATUS_OVERRUN h 0 0 +
    4 * s.rawF HOD_STATUS_PTR_FAULT h 0 0)

end Sys2Proof.Machine
end

