-- ==== Sys2Proof/Machine/BondOps.lean ====
section
/-! DEFINITION. What Bond's commands share (R317 to R340): errors, the receipt of messages, transit, neighbours,
link-state advertisements, routes, and pairs. -/

namespace Sys2Proof.Machine

/-- Bond's state changed. -/
def State.modBnd (s : State) (f : BndSt → BndSt) : State := { s with bnd := f s.bnd }

/-- The severity of each `BND_ERR` bit (R339). -/
def bndSev (bit : Nat) : Nat := if bit < 5 then 0 else 2

/-- A bit of `BND_ERR` set on peer port `p`, captured where no capture is held, and reported (R339). -/
def State.bndErr (s : State) (p bit node : Nat) (addr : Option Nat) (access mkind master : Nat) : State :=
  let s1 := s.orF BND_ERR_BITS p 0 0 (2 ^ bit)
  let s2 := if s1.rawF BND_ERR_CAP_VALID p 0 0 = 1 then s1
    else (((s1.setBit BND_ERR_CAP_VALID p 0 0).setF BND_ERR_CAP_KIND p 0 0 bit).setF BND_ERR_CAP_NODE p 0 0
      node).setF BND_ERR_CAP_ADDR p 0 0 (addr.getD 0)
  s2.report (84 + p) ⟨bndSev bit, access, 10, bit, mkind, master, addr, s.uptime, false, false⟩

/-- An error about a received message: a transit or control flit of R345. -/
def State.msgErr (s : State) (p bit : Nat) (m : Msg) : State :=
  s.bndErr p bit m.src (if m.opc < 0x80 then some m.addr else none) 0xC 3 0

/-! Receipt (R318, R321, R331, R340). -/

/-- The flits of a message leave their receive buffer: their credits return to the link. -/
def State.creditBack (s : State) (p : Nat) (m : Msg) (flits : Nat) : State := s.rxReturn (m.rxKey p) flits

/-- Flits that stand in the receive buffer of key `k`: requests that wait for their lane, messages in transit (R318,
R335). -/
def State.rxHeld (s : State) (k : Nat) : Nat :=
  (s.bnd.rxq.map (fun q => (q.2.map (fun e => if e.msg.rxKey q.1 = k then opcFlits e.msg.opc else 0)).sum)).sum +
  (s.bnd.txq.map (fun q => (q.2.map (fun e => e.origin.elim 0 (fun o => if o.1 = k then o.2 else 0))).sum)).sum

/-- The link holds credits for a message of `flits` flits: their receive buffer of 8 has room for them. -/
def State.rxRoom (s : State) (p : Nat) (m : Msg) (flits : Nat) : Bool := decide (s.rxHeld (m.rxKey p) + flits ≤ 8)

/-- Causes of R321 beside the CRC. -/
def msgMalformed (m : Msg) (flits : Nat) : Bool :=
  decide (opcFlits m.opc = 0) || decide (flits ≠ opcFlits m.opc) ||
  (decide (m.opc < 0x20) && decide (m.dst ≠ m.addr / 2 ^ 46))

/-- A malformed message discarded and counted (R321, R339). -/
def State.malformed (s : State) (p : Nat) (m : Msg) (flits : Nat) : State :=
  if m.crcOk flits then s.msgErr p 1 m else (s.bumpF BND_COUNT_CRC 0 0 0).msgErr p 0 m

/-- An error of the lane that receives a message (R93): a request's is of the Bond class, a completion's of the
completion class, under which its lane drains. -/
def State.laneUpset (s : State) (m : Msg) : State :=
  if 3 ≤ m.upset then s
  else s.classUpset (if 0x40 ≤ m.opc ∧ m.opc < 0x80 then 2 else 3) m.upset 0xC (some m.addr)

/-- A message of `flits` flits arrives on peer port `p`: one that is discarded returns its credits at once, and `f` is
what a good one does with its flits still in the receive buffer. DESIGN CHOICE (log 139): a SYNC, HELLO or LSA that an
uncorrectable error met, and a message for another node, are discarded. -/
def State.bondRx (s : State) (p : Nat) (m : Msg) (flits : Nat) (f : State → State) : State :=
  if 2 ≤ p ∨ ¬ s.linkUp p then s
  else if ¬ s.bondOn then s.creditBack p m flits
  else if ¬ m.crcOk flits ∨ msgMalformed m flits then (s.creditBack p m flits).malformed p m flits
  else if m.upset = 2 ∧ (m.opc = 0x20 ∨ 0x80 ≤ m.opc) then (s.creditBack p m flits).laneUpset m
  else if ¬ s.rxRoom p m flits then s
  else f (s.laneUpset m)

/-- A message for another node (R331): its flits keep their receive buffer until they are sent (R335). -/
def State.transit (s : State) (p : Nat) (m : Msg) (flits : Nat) : State :=
  match (if m.upset = 2 then none else s.routeTo m.dst) with
  | some r =>
    if 7 ≤ m.hops then (s.creditBack p m flits).msgErr p 2 m
    else (s.count 0x49 0 Ev.nothing).bondPut r.port
      ⟨{ m with upset := 0, hops := m.hops + 1, lh := s.straps.node, nh := r.nh }, some (m.rxKey p, flits), none⟩
  | none => if m.upset = 2 then s.creditBack p m flits else (s.creditBack p m flits).msgErr p 2 m

/-- A message that leaves the receive buffer at once where it is for this node, and is in transit elsewhere. -/
def State.bondIn (s : State) (p : Nat) (m : Msg) (flits : Nat) (f : State → State) : State :=
  s.bondRx p m flits (fun s =>
    if m.dst ≠ s.straps.node then s.transit p m flits else f (s.creditBack p m flits))

/-! Pairs and neighbours. -/

/-- Pairs whose route is not what it was in `old` are resyncing (R329). -/
def State.resync (s old : State) : State :=
  s.modBnd (fun b => { b with synced := b.synced.filter (fun n => decide (s.routeTo n = old.routeTo n)) })

/-- The pair of node `n` is resyncing. -/
def State.unsync (s : State) (n : Nat) : State :=
  s.modBnd (fun b => { b with synced := b.synced.filter (fun k => decide (k ≠ n)) })

/-- The pair of sender `n` is INIT at this home (R329). -/
def State.pairInit (s : State) (n : Nat) : State :=
  s.modBnd (fun b => { b with pairExp := Tbl.del b.pairExp n })

/-- The UP set or a stored LSA changed: routes are due (R327). -/
def State.routesDue (s : State) : State :=
  s.modBnd (fun b => { b with routeDue := some (b.routeDue.getD s.uptime) })

/-- The set of UP neighbours changed, or a link did: an LSA and routes are due (R325, R336). -/
def State.upChanged (s : State) : State := (s.modBnd (fun b => { b with lsaDue := true })).routesDue

/-- The UP neighbours of a port as a bitmap. -/
def State.upMap (s : State) (p : Nat) : Nat :=
  ((List.range 64).map (fun n => b2n (s.nbrUp p n) * 2 ^ n)).sum

/-- What is queued for port `p` is discarded (R336). -/
def State.discardTx (s : State) (p : Nat) : State :=
  (Tbl.get s.bnd.txq [] p).foldl (fun t e => t.txLeave false e) (s.modBnd (fun b => { b with txq := Tbl.del b.txq p }))

/-- A neighbour becomes DOWN (R323, R336): what is queued for the port is discarded. -/
def State.nbrDown (s : State) (p n : Nat) : State :=
  let s1 := (s.discardTx p).modBnd (fun b => { b with nbr := Tbl.del b.nbr (64 * p + n) })
  (s1.upChanged.bndErr p 6 n none 0xC 3 0).resync s

/-- The link of port `p` falls (R318, R336): `bndx_link_up` itself is sampled elsewhere. DESIGN CHOICE (log 149): the
requests that wait in the port's receive buffers are lost, and messages received on it that are in transit go on. -/
def State.linkFall (s : State) (p : Nat) : State :=
  let other (k : Nat) : Bool := decide (k / 16 ≠ p)
  let s1 := (s.discardTx p).modBnd (fun b => { b with
    nbr := Tbl.keep (fun k => decide (k / 64 ≠ p)) b.nbr,
    txq := Tbl.mapVal (fun _ q => q.map (fun e => { e with origin := e.origin.filter (fun o => other o.1) })) b.txq,
    rxq := Tbl.del b.rxq p, txCred := Tbl.keep other b.txCred, rxCred := Tbl.keep other b.rxCred,
    lastHello := Tbl.del b.lastHello p })
  (s1.upChanged.bndErr p 6 0 none 0xC 3 0).resync s

/-- The 8 receive credits of each of the 16 (lane, class) pairs returned as the link of `p` rises (R318). -/
def State.linkRise (s : State) (p : Nat) : State :=
  s.modBnd (fun b => { b with rxCred := (List.range 16).foldl (fun t k => Tbl.put t (16 * p + k) 8) b.rxCred })

/-- HELLO_US as used (R324). -/
def State.helloUs (s : State) : Nat := max 10 (min 1000 (s.fld BND_CFG_HELLO_US 0 0 0))

/-- TIMEOUT_US in ns. -/
def State.bondTimeoutNs (s : State) : Nat := 1000 * max 1 (s.fld BND_CFG_TIMEOUT_US 0 0 0)

/-! Routes (R327). -/

/-- Node `u` lists `v` as UP on port `p`: this node by its neighbours, another by its stored LSA. -/
def State.lists (s : State) (u v p : Nat) : Bool :=
  if u = s.straps.node then s.nbrUp p v
  else match Tbl.find s.bnd.lsa u with
    | some a => (if p = 0 then a.upA else a.upB).testBit v
    | none => false

/-- An edge from `u` to `v`. -/
def State.joined (s : State) (u v : Nat) : Bool :=
  (s.lists u v 0 || s.lists u v 1) && (decide (u = s.straps.node) || s.lists v u 0 || s.lists v u 1)

/-- Better of two routes of equal length: the lower next hop, then port A. -/
def betterRoute (a b : Route) : Bool := decide (a.nh < b.nh) || (decide (a.nh = b.nh) && decide (a.port < b.port))

/-- The best route of `k + 1` hops to `n` over the nodes reached in `k`. -/
def State.routeVia (s : State) (t : Tbl Route) (k n : Nat) : Option Route :=
  (List.range 64).foldl (fun (b : Option Route) u =>
    match Tbl.find t u with
    | some r =>
      if r.hops = k ∧ s.joined u n then
        let c : Route := ⟨r.port, r.nh, k + 1⟩
        (match b with | some x => if betterRoute c x then some c else b | none => some c)
      else b
    | none => b) none

/-- The direct neighbours. -/
def State.routeOne (s : State) : Tbl Route :=
  (List.range 64).filterMap (fun n =>
    if n = s.straps.node then none
    else if s.nbrUp 0 n then some (n, ⟨0, n, 1⟩)
    else if s.nbrUp 1 n then some (n, ⟨1, n, 1⟩) else none)

/-- One more level of the breadth-first search. -/
def State.routeMore (s : State) (t : Tbl Route) (k : Nat) : Tbl Route :=
  (List.range 64).foldl (fun acc n =>
    if n = s.straps.node ∨ (Tbl.find t n).isSome then acc
    else match s.routeVia t k n with | some r => Tbl.put acc n r | none => acc) t

/-- The computed table: paths of at most 8 hops. -/
def State.routeTable (s : State) : Tbl Route := (List.range 7).foldl (fun t k => s.routeMore t (k + 1)) s.routeOne

/-- The new table replaces the old in one instant; pinned entries stay (R327, R329). -/
def State.routesNew (s : State) : State :=
  let t := s.routeTable
  let mine := Tbl.keep s.pinned s.bnd.routes
  let new := mine.foldl (fun acc e => Tbl.put acc e.1 e.2) (Tbl.keep (fun n => !s.pinned n) t)
  let s1 := s.modBnd (fun b => { b with
    routes := new, routeDue := none,
    routeAt := if new = b.routes then b.routeAt else s.uptime,
    stable := b.stable && decide (new = b.routes) })
  s1.resync s

/-- A write of `BND_ROUTE` of node `n` (R327, R338, R340). -/
def State.routeWrite (s : State) (n : Nat) (w : RegW) : State :=
  if ¬ s.expert 13 then s
  else
    let put (t : State) (f : Field) : State := t.setX f n 0 0 (w.merge f (t.fld f n 0 0))
    let s1 := [BND_ROUTE_PIN, BND_ROUTE_ACCEPT, BND_ROUTE_NS_FORCE, BND_ROUTE_PRIV_MAX].foldl put s
    let old := Tbl.find s.bnd.routes n
    let port := w.merge BND_ROUTE_PORT (old.elim 0 Route.port)
    let nh := w.merge BND_ROUTE_NH (old.elim 0 Route.nh)
    if s1.pinned n then
      (s1.modBnd (fun b => { b with
        routes := Tbl.put b.routes n ⟨port, nh, max 1 (min 8 (Config.pinnedHops n port nh))⟩,
        routeAt := if old.elim true (fun r => decide (r.port ≠ port ∨ r.nh ≠ nh)) then s.uptime else b.routeAt,
        stable := b.stable && old.elim false (fun r => decide (r.port = port ∧ r.nh = nh)) })).resync s
    else if s.pinned n then s1.routesDue.resync s
    else s1

/-! Inbound requests (R329, R332). -/

/-- Flits that the inbound request lane of port `p` holds (R77). -/
def State.laneFlits (s : State) (p : Nat) : Nat :=
  ((s.reqs.filter (fun r => decide (r.src = .bond p) && decide (r.stage = .atPort))).map
    (fun r => opcFlits r.op.code)).sum

/-- The inbound lane and the inbound write stage of port `p` have room for a request (R77). -/
def State.laneRoom (s : State) (p : Nat) (op : Op) : Bool :=
  decide (s.laneFlits p + opcFlits op.code ≤ 512) &&
  (!op.dataBearing || decide ((s.reqs.filter (fun r => decide (r.src = .bond p) && r.inBuf)).length < 256))

/-- A request of port `p` leaves its receive buffer: its lane has room, and none of its class waits there before it. -/
def State.laneTakes (s : State) (p : Nat) (op : Op) (m : Msg) : Bool :=
  s.laneRoom p op && !(Tbl.get s.bnd.rxq [] p).any (fun e => decide (e.msg.rxKey p = m.rxKey p))

/-- An inbound request as it enters the lane, its identity still that of the message; its last flit came in at uptime
`since` (R368). -/
def inReq (since : Nat) (op : Op) (p : Nat) (m : Msg) (rid : Nat) : Req :=
  { Req.blank rid (.bond p) op with
    size := m.size, addr := m.addr, sid := m.mid, qid := m.qid, priv := m.priv, ns := m.ns,
    attr := 2 * b2n m.walk + 4 * b2n m.noret, col := colourOf m.col,
    walk := (op.isRead && m.walk) || op == .setad, tAccept := since,
    data := if op.dataBearing then some m.data else none, mask := m.value, wpoison := m.poison,
    wparity := op.dataBearing && decide (m.upset = 4), entryBad := decide (m.upset = 2), inBuf := op.dataBearing,
    peerTag := m.tag, peerNode := m.src, peerHop := m.lh }

/-- A request not performed, answered REMOTE_TIMEOUT (R329). -/
def State.answerTimeout (s : State) (p : Nat) (m : Msg) : State :=
  s.bondSend p { Msg.blank with
    opc := 0x40, nh := m.lh, src := s.straps.node, dst := m.src, tag := m.tag,
    status := Status.remoteTimeout.code, lh := s.straps.node, addr := m.addr }

/-- The request carries its pair's expected number (R329). -/
def State.inSeq (s : State) (m : Msg) : Bool := (Tbl.find s.bnd.pairExp m.src).any (fun e => decide (m.pseq = e.1))

/-- A request in sequence, whose last flit came in at uptime `since`, joins the inbound lane (R329, R332, R368). -/
def State.acceptIn (s : State) (op : Op) (p : Nat) (m : Msg) (since : Nat) : State :=
  let s0 := s.modBnd (fun b => { b with
    pairExp := Tbl.mapVal (fun n e => if n = m.src then ((m.pseq + 1) % 2 ^ 15, e.2) else e) b.pairExp })
  let (s1, rid) := s0.newRid
  let r := inReq since op p m rid
  let (s2, tg) := (if op.dataBearing then s1.storageUpset 1 (m.upset - 2) r else s1).sampleTag (13 + p) r.ev
  s2.addReq { r with tagRec := tg.map (fun t => { t with tAccept := since }) }

/-- A request out of sequence (R329): answered REMOTE_TIMEOUT, or, behind its number, discarded. -/
def State.seqRefuse (s : State) (op : Op) (p : Nat) (m : Msg) : State :=
  match Tbl.find s.bnd.pairExp m.src with
  | none => s.answerTimeout p m
  | some (e, _) =>
    if (m.pseq + 2 ^ 15 - e) % 2 ^ 15 < 2 ^ 14 then s.answerTimeout p m
    else s.bndErr p 3 m.src (some m.addr) (inReq 0 op p m 0).access 2 m.mid

/-- One request leaves the receive buffer of port `p` (R318). DESIGN CHOICE (log 149): it is held against its pair's
number as it leaves the buffer. -/
def State.leaveRx (s : State) (p : Nat) (e : RxEnt) : State :=
  let s1 := s.creditBack p e.msg (opcFlits e.msg.opc)
  if s1.inSeq e.msg then s1.acceptIn e.op p e.msg e.since else s1.seqRefuse e.op p e.msg

/-- Requests that wait in the receive buffers of port `p` enter their lane while it has room, each class in order. -/
def State.admitRx (s : State) (p : Nat) : State :=
  (Tbl.get s.bnd.rxq [] p).foldl (fun t e =>
    let first := (Tbl.get t.bnd.rxq [] p).find? (fun x => decide (x.msg.rxKey p = e.msg.rxKey p))
    if t.laneRoom p e.op ∧ first = some e then
      (t.modBnd (fun b => { b with rxq := Tbl.set b.rxq [] p ((Tbl.get b.rxq [] p).erase e) })).leaveRx p e
    else t) s

end Sys2Proof.Machine
end

