-- ==== Sys2Proof/Machine/LockOps.lean ====
section
/-! DEFINITION. The Keystone's lock table (R307 to R312): ranking, grants, losses and backoff, releases, and
the lock mailboxes. -/

namespace Sys2Proof.Machine

/-- A lock request: requester index of R307, owner kind (0 Mason, 1 port, 2 Quoin, 3 debug) and number,
base address and line count. -/
structure KeyReq where
  idx : Nat
  kind : Nat
  owner : Nat
  base : Nat
  count : Nat
  deriving DecidableEq, Repr

/-- Two line ranges share a line (R309). -/
def rangesMeet (a n b m : Nat) : Bool := decide (a < b + m) && decide (b < a + n)

/-- A slot's range meets a request's. -/
def KeyReq.meets (q : KeyReq) (k : KeySlot) : Bool := rangesMeet (q.base / 64) q.count k.line k.count

/-- The lowest FREE slot of 1,024. -/
def State.keyFree (s : State) : Option Nat :=
  (List.range 1024).find? (fun i => (Tbl.find s.key.slots i).isNone)

/-- What a Keystone answer's occurrence carries (M, A). -/
def KeyReq.ev (q : KeyReq) : Ev :=
  match q.kind with
  | 0 => ⟨none, some (2, q.owner, 0, 0), some q.base, none, none⟩
  | 1 => ⟨none, some (1, q.owner % 4096, q.owner / 4096, 0), some q.base, none, none⟩
  | _ => Ev.ofAddr q.base

/-- A loss: the backoff in units of 64 ns (R308). -/
def State.keyLose (s : State) (idx : Nat) : State × Nat :=
  let n := Tbl.get s.key.losses 0 idx
  ({ s with key := { s.key with losses := Tbl.set s.key.losses 0 idx (min (n + 1) 12) } },
   2 ^ min n 12)

/-- After a grant: the round robin of the class moves on and the losses clear (R308). -/
def State.keyWon (s : State) (res cls idx : Nat) : State :=
  { s with key := { s.key with
      rr := Tbl.set s.key.rr 0 (4 * res + cls) (idx + 1), losses := Tbl.set s.key.losses 0 idx 0 } }

/-- The layout of R288. -/
def lockResult (outcome slot backoff : Nat) : Nat := outcome + slot * 2 ^ 16 + backoff * 2 ^ 32

/-- The class of requester `idx` (R307). -/
def State.keyClass (s : State) (idx : Nat) : Nat := s.fld KEY_CLASS_CLASS idx 0 0

/-- One lock request judged (R308): the new state and the answer. -/
def State.keyLock (s : State) (q : KeyReq) : State × Nat :=
  let mine := s.key.slots.any (fun e => !e.2.torn && decide (e.2.kind = q.kind) &&
    decide (e.2.owner = q.owner) && q.meets e.2)
  if q.base / 2 ^ 46 ≠ s.straps.node ∨ mine then (s, lockResult 3 0 0)
  else if s.key.slots.any (fun e => !e.2.torn && q.meets e.2) then
    let (s1, b) := s.keyLose q.idx
    (s1.count 0x55 0 q.ev, lockResult 1 0 b)
  else
    let torn := s.key.slots.any (fun e => e.2.torn && q.meets e.2)
    let s1 := { s with key := { s.key with slots := s.key.slots.filter (fun e => !(e.2.torn && q.meets e.2)) } }
    match s1.keyFree with
    | none => (s1, lockResult 3 0 0)
    | some i =>
      let slot : KeySlot := ⟨false, q.base / 64, q.count, q.kind, q.owner, s.uptime, false⟩
      let s2 := { s1 with key := { s1.key with slots := Tbl.put s1.key.slots i slot } }
      let s3 := s2.keyWon 0 (s.keyClass q.idx) q.idx
      (s3.count (if torn then 0x56 else 0x54) 0 q.ev, lockResult (if torn then 2 else 0) i 0)

/-- Where a request stands in the order of R308: class descending, then round robin by index. -/
def State.keyRank (s : State) (res idx : Nat) : Nat :=
  let c := s.keyClass idx
  (3 - c) * 256 + (idx + 256 - Tbl.get s.key.rr 0 (4 * res + c) % 256) % 256

/-- A request put before the first of higher rank. -/
def keyInsert (rank : Nat → Nat) (q : KeyReq) : List KeyReq → List KeyReq
  | [] => [q]
  | x :: l => if rank q.idx < rank x.idx then q :: x :: l else x :: keyInsert rank q l

/-- All lock requests of one MCLK cycle, each judged in rank order (R308): the answers by requester
index. -/
def State.keyCycle (s : State) (qs : List KeyReq) : State × Tbl Nat :=
  let order := qs.foldl (fun l q => keyInsert (s.keyRank 0) q l) []
  order.foldl (fun (a : State × Tbl Nat) q =>
    let (t, res) := a.1.keyLock q
    (t, Tbl.put a.2 q.idx res)) (s, [])

/-- A rival's request for the lock table. -/
def lockRival (k : KeyAsk) : Option KeyReq :=
  if k.chan.isNone ∧ k.idx < 205 then
    some ⟨k.idx, if k.idx < 192 then 0 else if k.idx < 204 then 1 else 2, k.owner, k.base, k.count⟩
  else none

/-- The answer that request `q` was given in the cycle of a command before its own (R308). -/
def State.keyGiven (s : State) (q : KeyReq) : Option Nat :=
  (s.key.given.find? (fun e => decide (lockRival e.1 = some q))).map Prod.snd

/-- The requests `qs` of one cycle judged in rank order with `rivals`, whose own commands follow (R308). DESIGN CHOICE
(log 151): a rival is granted in its turn, and collects the answer at its own command. -/
def State.keyAmong (s : State) (qs : List KeyReq) (rivals : List KeyAsk) : State × Tbl Nat :=
  let fresh := qs.filter (fun q => (s.keyGiven q).isNone)
  let asks := rivals.filter (fun k => (lockRival k).any (fun q =>
    (s.keyGiven q).isNone && !qs.any (fun p => decide (p.idx = q.idx))))
  let (t, ans) := s.keyCycle (fresh ++ asks.filterMap lockRival)
  let kept := s.key.given.filter (fun e => !qs.any (fun q => decide (lockRival e.1 = some q)))
  ({ t with key := { t.key with given := kept ++ asks.map (fun k => (k, Tbl.get ans 3 k.idx)) } },
    qs.foldl (fun a q => (s.keyGiven q).elim a (Tbl.put a q.idx)) ans)

/-- One request judged with its rivals. -/
def State.keyAsked (s : State) (q : KeyReq) (rivals : List KeyAsk) : State × Nat :=
  let (t, ans) := s.keyAmong [q] rivals
  (t, Tbl.get ans 3 q.idx)

/-- UNLOCK by an owner (R288, R310): 0 when the slot was released, 1 when it was not held. -/
def State.keyUnlock (s : State) (kind owner slot : Nat) : State × Nat :=
  match Tbl.find s.key.slots slot with
  | some k =>
    if ¬ k.torn ∧ k.kind = kind ∧ k.owner = owner then
      ({ s with key := { s.key with slots := Tbl.del s.key.slots slot } }, 0)
    else (s, 1)
  | none => (s, 1)

/-- A HELD slot becomes TORN: nobody holds it, its range is kept (R310). -/
def State.keyTear (s : State) (slot : Nat) : State :=
  match Tbl.find s.key.slots slot with
  | some k =>
    { s with key := { s.key with slots := Tbl.put s.key.slots slot { k with torn := true, taken := false } } }
  | none => s

/-- The first report's slot, and a sticky bit of `KEY_ERR`, with its Keystone report (R311, R315). -/
def State.keyErr (s : State) (bit : Field) (kind sev slot : Nat) (addr : Option Nat) : State :=
  let clear := s.rawF KEY_ERR_PARITY 0 0 0 = 0 ∧ s.rawF KEY_ERR_WDOG_MNT 0 0 0 = 0 ∧
    s.rawF KEY_ERR_WDOG_LOCK 0 0 0 = 0
  let s1 := if clear then s.setF KEY_ERR_SLOT 0 0 0 slot else s
  (s1.setBit bit 0 0 0).reportUnit 90 sev 0xB 9 kind addr

/-- A parity error in a HELD slot (R315): TORN, UCNA. -/
def State.keyParity (s : State) (slot : Nat) : State :=
  match Tbl.find s.key.slots slot with
  | some k => if k.torn then s else (s.keyTear slot).keyErr KEY_ERR_PARITY 2 2 slot (some (k.line * 64))
  | none => s

/-- The operation of lock mailbox `k` for a port and SID (R312): the new state and bytes 7:0. -/
def State.mailOp (s : State) (k port sid : Nat) (rivals : List KeyAsk) : State × Nat :=
  let d := (Tbl.get s.key.mail 0 k).toNat
  let op := nfield d 0 8
  let base := nfield d 64 64
  let count := nfield d 128 16
  let owner := port * 4096 + sid
  if op = 1 then
    if base % 64 ≠ 0 ∨ count = 0 ∨ 1024 < count then (s, lockResult 3 0 0)
    else s.keyAsked ⟨192 + port, 1, owner, base, count⟩ rivals
  else if op = 2 then s.keyUnlock 1 owner (nfield d 144 16)
  else (s, lockResult 3 0 0)

end Sys2Proof.Machine
end

