-- ==== Sys2Proof/Machine/Settle.lean ====
section
/-! DEFINITION. What the Mortar does by itself once it can: write data moves into the channel write stores
(R78), hazards and orders hold or release entries (R85 to R87), reads are served from the write store
(R85 rule 2), and the hod path performs CONTROL requests (R304). -/

namespace Sys2Proof.Machine

/-- The request carries ORDERED (R57). -/
def Req.ordered (r : Req) : Bool := r.attr.testBit 0 && r.fromPort.isSome

/-- `r` lies in the scope of FLUSH `f` (R66 rule 3). -/
def flushScope (f r : Req) : Bool :=
  f.fromPort.isSome && decide (f.fromPort = r.fromPort) && (f.attr.testBit 3 || decide (f.sid = r.sid))

/-- An earlier ORDERED entry of the chain or an earlier FLUSH entry in scope holds `r` (R86, R87). A request still at
its port holds nobody (R94 step 5). -/
def orderHeld (r : Req) (before : List Req) : Bool :=
  before.any (fun e => e.hasEntry && !e.fixed &&
    ((r.ordered && e.ordered && decide (e.fromPort = r.fromPort) && decide (e.sid = r.sid)) ||
     (e.op == .flush && flushScope e r)))

/-- An earlier entry for one of its lines is not yet performed (R85 rule 1). -/
def lineHeld (r : Req) (before : List Req) : Bool :=
  before.any (fun e => e.hasEntry && !e.fixed && e.sharesLine r)

/-- An earlier entry for one of its lines still owes DRAM its write (R85 rule 3, R66). -/
def writeOwed (r : Req) (before : List Req) : Bool :=
  before.any (fun e => e.hasEntry && !e.status.isSome && e.sharesLine r)

/-- The write whose data a read takes from the write store (R85 rule 2): its nearest earlier same-line
entry, a WR_LINE or WR_ZERO with complete data and nothing before it unperformed. -/
def servedBy (r : Req) (before : List Req) : Option Req :=
  match (before.filter (fun e => e.hasEntry && !e.status.isSome && e.sharesLine r)).getLast? with
  | none => none
  | some e =>
    let older := before.takeWhile (fun x => decide (x.rid ≠ e.rid))
    if e.run.isNone ∧ ((e.op = .wrLine ∧ e.inStore) ∨ e.op = .wrZero) ∧ ¬ orderHeld e older ∧
        ¬ lineHeld e older then some e else none

/-- The write data of a WR_LINE or WR_ZERO. -/
def Req.storedLine (r : Req) : BitVec 512 := if r.op = .wrZero then 0 else r.data.getD 0

/-- The data is poisoned, or treated so (R67, R68). -/
def Req.dataPoison (r : Req) : Bool := r.wpoison || r.wparity

/-- The write data of a request can move into the write store of channel `c`. -/
def State.dataReady (s : State) (c : Nat) (r : Req) : Bool :=
  r.onChan c && r.inBuf && !r.status.isSome && r.hasEntry && decide (s.storeUsed c < 512)

/-- A line of write data enters the write store of channel `c` (R78, R354). -/
def State.dataMove (s : State) (c : Nat) (r : Req) : State :=
  (s.modReq r.rid (fun q => { q with inBuf := false, inStore := true })).modChan c (fun x => { x with set :=
    { x.set with wsEntered := x.set.wsEntered + 1, wsResident := x.set.wsResident + 1 } })

/-- The request uses the direct lane of channel `c`: a Mason of the channel (R88). -/
def Req.direct (r : Req) (c : Nat) : Bool := match r.src with | .mason m => decide (m / 8 = c) | _ => false

/-- Write data of local requests moves into the channel write stores (R78): that of a channel's own Masons over their
direct lanes, the rest round robin among the crossbar's inputs (R88). DESIGN CHOICE (log 150): where both wait for room,
the direct lanes go first. -/
def State.moveData (s : State) : State :=
  (List.range s.build).foldl (fun t c =>
    let u := t.reqs.foldl (fun a r => if r.direct c ∧ a.dataReady c r then a.dataMove c r else a) t
    State.xbarGrants c Req.xbarFrom (fun a r => a.dataReady c r && !r.direct c) (fun a r => a.dataMove c r)
      u.reqs.length u) s

/-- Where a request goes, by the decode of R104 and the route lookup of R330: refused with a status, or
the request with its destination. -/
def State.locate (s : State) (r : Req) : Option Status × Req :=
  if r.op = .flush then (none, { r with dest := .flush })
  else match s.decode r.addr r.walk r.priv r.ns with
    | .refused st => (some st, r)
    | .control off =>
      match r.fromPort, r.src with
      | some _, _ =>
        if (r.op = .rdPart ∧ r.size = 5) ∨ r.op = .wrPart then (none, { r with dest := .control off })
        else (some .decodeErr, r)
      | _, .bond _ => (some (if r.walk then .nonmem else .unmapped), r)
      | _, _ => (some .decodeErr, r)
    | .remote n => ((if (s.routeTo n).isSome then none else some .remoteTimeout), { r with dest := .remote n })
    | .place c p =>
      (none, { r with dest := .local c, lines := [LineJob.new (r.addr / 64 * 64) p] })

/-- Spill requests of the hod path take their entries, oldest first (R299). -/
def State.admitSpills (s : State) : State :=
  s.reqs.foldl (fun t r =>
    match r.src with
    | .hod _ =>
      if r.stage = .atPort ∧ s.warm = 0 then
        match t.locate r with
        | (some st, _) => t.fix r.rid st 0
        | (none, r') =>
          match (if t.noTag r'.dest then none else t.partFor r.src r'.dest) with
          | none => t
          | some c => ((t.modReq r.rid (fun _ => { r' with inBuf := r'.data.isSome })).toEnd r.rid).alloc r.rid c
      else t
    | _ => t) s

/-- The identity under which an inbound request is judged (R332). -/
def State.bondIdent (s : State) (r : Req) : Req :=
  { r with
    priv := min r.priv (s.fld BND_ROUTE_PRIV_MAX r.peerNode 0 0),
    ns := r.ns || decide (s.fld BND_ROUTE_NS_FORCE r.peerNode 0 0 = 1) }

/-- What an inbound request comes to once it holds its entry (R109, R332): a status at once, and whether it counts as
a refused decode; or the request with its destination. DESIGN CHOICE (log 139): one that an uncorrectable error of the
inbound lane met is answered POISON, as from a bad tracker entry. DEDUCED (log 59): an ill-formed one is answered
DECODE_ERR and does not count. -/
def State.judgeBond (s : State) (r : Req) : Option (Status × Bool) × Req :=
  let r1 := s.bondIdent r
  if r.entryBad then (some (.poison, false), r1)
  else if s.fld BND_ROUTE_ACCEPT r.peerNode 0 0 = 0 then (some (if r.walk then .nonmem else .unmapped, false), r1)
  else if ¬ r.op.wellFormed r.size r.addr r.attr then (some (.decodeErr, false), r1)
  else match s.locate r1 with
    | (some st, r2) => (some (st, true), r2)
    | (none, r2) => (none, r2)

/-- Request `r` of the inbound lane of peer port `p` takes its entry and is judged (R80, R82, R83, R332): `none` while
it finds no completion-lane space or no entry, and during a warm reset. A request that targets no channel takes its
entry in the partition with the most room. -/
def State.admitBondOne (s : State) (p : Nat) (r : Req) : Option State :=
  if s.warm ≠ 0 ∨ 512 < s.cplQueued p + s.cplReserved p + r.cplNeed then none
  else
    let (answer, r2) := s.judgeBond r
    (s.partFor r2.src r2.dest).map (fun c =>
      let t := (((s.modReq r.rid (fun _ => r2)).toEnd r.rid).alloc r.rid c).count 0x46 0 r2.ev
      match answer with
      | none => t
      | some (st, counted) => (if counted then t.count 0x44 0 r2.ev else t).fix r.rid st 0)

/-- The requests of the inbound lanes admitted in order, each lane up to the first that must wait. -/
def State.admitBond (s : State) : State :=
  (s.reqs.foldl (fun (a : State × List Nat) r =>
    match r.src with
    | .bond p =>
      if r.stage ≠ .atPort ∨ a.2.contains p then a
      else match a.1.admitBondOne p r with
        | none => (a.1, p :: a.2)
        | some t => (t, a.2)
    | _ => a) (s, [])).1

/-- Which half of its line a WR_PART of the hod path enables (R69 step 7). -/
def maskHalf (m : BitVec 64) : Option Nat :=
  if m = enables 0 32 then some 0 else if m = enables 32 32 then some 1 else none

/-- A 32-byte value in its half of a line. -/
def inHalf (v : BitVec 256) (half : Nat) : BitVec 512 := (v.setWidth 512) <<< (256 * half)

/-- A CONTROL request at the hod path, at offset `o` (R304). A pop that waits for a refill leaves the
request QUEUED. DESIGN CHOICE (log 147): a lock mailbox takes poisoned data, and not data with a parity error. -/
def State.control (s : State) (r : Req) (off : Nat) : State :=
  let n := r.fromPort.getD 0
  let refuse (t : State) : State := t.fix r.rid .decodeErr 0
  if r.op = .rdPart then
    let half := off % 64 / 32
    if off < 0x1C0000 then
      let h := off / 0x1000
      if ¬ s.hasHod h then refuse s
      else if off % 0x1000 = 0 ∧ hostPop h then
        match s.hodPop h 192 r.ptrBad with
        | none => s.hodWait h 192
        | some (t, i) => t.fix r.rid .ok (inHalf i half)
      else if off % 0x1000 = 0x20 then
        s.fix r.rid .ok (inHalf (BitVec.ofNat 256 (s.hodCountRead h)) half)
      else refuse s
    else if off < 0x1C0000 + 256 * 0x40 ∧ off % 0x40 = 0x20 then
      let (t, v) := s.mailOp ((off - 0x1C0000) / 0x40) n r.sid r.rivals
      t.fix r.rid .ok (inHalf (BitVec.ofNat 256 v) half)
    else refuse s
  else
    match maskHalf r.mask with
    | none => refuse s
    | some half =>
      let o := off / 64 * 64 + 32 * half
      let item : BitVec 256 := ((r.data.getD 0) >>> (256 * half)).setWidth 256
      if o < 0x1C0000 then
        let h := o / 0x1000
        if ¬ s.hasHod h ∨ o % 0x1000 ≠ 0 ∨ ¬ hostPush h then refuse s
        else if r.dataPoison then s.fix r.rid .poison 0
        else ((s.hodPush h item r.ptrBad).1).fix r.rid .ok 0
      else if o < 0x1C0000 + 256 * 0x40 ∧ o % 0x40 = 0 then
        if r.wparity then s.fix r.rid .poison 0
        else
          ({ s with key := { s.key with
              mail := Tbl.set s.key.mail 0 ((o - 0x1C0000) / 0x40) item } }).fix r.rid .ok 0
      else refuse s

/-- Serving a read from the write store (R85 rule 2). -/
def State.serve (s : State) (r e : Req) (c : Nat) : State :=
  let s1 := (s.modReq e.rid (fun q => { q with performed := true, served := true })).modReq r.rid (fun q => { q with
    tagRec := q.tagRec.map (fun t => { t with wstore := true }) })
  (s1.count 0x0C c r.ev).fix r.rid (if e.dataPoison then .poison else .ok) (r.readOf e.storedLine)

/-- The stage of a request set. -/
def State.setStage (s : State) (rid : Nat) (st : Stage) : State :=
  s.modReq rid (fun q => { q with stage := st })

/-- An entry that waits for the hod path (R81). -/
def Req.atHodPath (r : Req) : Bool :=
  decide (r.stage = .queued) && (match r.dest with | .control _ => true | _ => false)

/-- The write data that a request needs before it is performed is there (R78). -/
def Req.hasData (r : Req) : Bool := !r.needsData || r.inStore || (r.data.isSome && r.chan.isNone)

/-- A CONTROL entry can cross to the hod path (R81, R88): its data is there, and nothing holds it. -/
def State.crosses (s : State) (r : Req) : Bool :=
  (match r.dest with | .control _ => true | _ => false) && r.hasEntry && !r.status.isSome &&
  (decide (r.stage = .waitData) || decide (r.stage = .held)) && r.hasData &&
  !orderHeld r (s.before r.rid) && !lineHeld r (s.before r.rid)

/-- A CONTROL request crosses to the hod path. -/
def State.crossOver (s : State) (r : Req) : State :=
  match r.dest with
  | .control off => (s.setStage r.rid .queued).control r off
  | _ => s

/-- Requests cross to the hod path, round robin among the crossbar's inputs (R88). -/
def State.hodGrants (s : State) : State :=
  State.xbarGrants 36 Req.xbarFrom State.crosses State.crossOver s.reqs.length s

/-- An entry in WAIT_DATA or HELD, or at the hod path, judged again. A channel that does not serve performs nothing
(R69 step 11). DESIGN CHOICE (log 171): an entry that awaits its data and is held as well shows WAIT_DATA. -/
def State.settleOne (s : State) (rid : Nat) : State :=
  match s.req rid with
  | none => s
  | some r =>
    if r.status.isSome ∨ ¬ r.hasEntry ∨ (r.stage ≠ .waitData ∧ r.stage ≠ .held ∧ ¬ r.atHodPath) then s
    else
      let before := s.before rid
      if ¬ r.hasData then s.setStage rid .waitData
      else if orderHeld r before then s.setStage rid .held
      else match r.dest with
        | .flush => s.setStage rid .held
        | .remote _ => s.setStage rid .queued
        | .control off =>
          if r.atHodPath then s.control r off
          else if lineHeld r before then s.setStage rid .held else s.hodGrants
        | .local c =>
          match (if r.op.isRead ∧ r.run.isNone ∧ s.chanUp c then servedBy r before else none) with
          | some e => s.serve r e c
          | none =>
            if ¬ lineHeld r before ∧ r.op = .wrLine ∧ r.run.isNone ∧ s.chanUp c then
              s.modReq rid (fun q => { q with stage := .held, performed := true })
            else s.setStage rid .held

/-- The fence of a channel whose write-store counts disagreed at a release (R354): its requests are answered as under
R152. -/
def State.checkStores (s : State) : State :=
  s.chans.foldl (fun t e =>
    if e.2.set.wsEntered ≠ e.2.set.wsReleased + e.2.set.wsResident ∧ e.2.fenced then t.fenceReqs e.1 else t) s

/-! The end of a port's DRAIN (R64). -/

/-- Port `n` enters OPEN and presents its credits (R61, R64). -/
def State.enterOpen (s : State) (n : Nat) : State :=
  s.setPort n { s.port n with
    st := 1, reqCredits := s.fld HDR_CREDIT_CFG_REQ_CREDITS n 0 0,
    wdCredits := s.fld HDR_CREDIT_CFG_WD_CREDITS n 0 0, wdTaken := 0 }

/-- DRAIN ends at an outstanding count of 0 with no write data held; with OPEN = 1 the port then opens anew (R64). -/
def State.drainCheck (s : State) (n : Nat) : State :=
  if (s.port n).st = 2 ∧ s.outstanding n = 0 ∧ s.wdHeld n = 0 then
    let s1 := s.setPort n { s.port n with st := 0 }
    if s1.rawF HDR_CTRL_OPEN n 0 0 = 1 then s1.enterOpen n else s1
  else s

/-- A pop through hod `h`'s aperture that waits at the hod path (R299, R304). -/
def Req.popsAt (r : Req) (h : Nat) : Bool :=
  r.atHodPath && !r.status.isSome && (match r.dest with | .control off => decide (off / 0x1000 = h) | _ => false)

/-- A pop that its port's fence or loss of clock ended waits at its hod no longer (R65, R73, R299). -/
def State.trimWaits (s : State) : State :=
  { s with hods := Tbl.mapSet (fun _ => Hod.init) (fun h x =>
      if x.waits.contains 192 ∧ ¬ s.reqs.any (fun r => r.popsAt h) then x.popped 192 else x) s.hods }

/-- The Mortar at rest: every movement that a command made possible is made, in acceptance order. -/
def State.settle (s : State) : State :=
  let s1 := ((((s.trimWaits.admitSpills.admitBond).admitRx 0).admitRx 1).admitBond.moveData).servePops
  let s2 := ((s1.reqs.foldl (fun t r => t.settleOne r.rid) s1).servePops).checkStores
  (List.range 12).foldl State.drainCheck s2

/-- Something holds the entry: it is HELD under R81. An entry that nothing holds stands in its stage until
SETTER_ENQUEUE, and a FLUSH until FLUSH_COMPLETE, and is not counted. -/
def State.isHeld (s : State) (r : Req) : Bool :=
  let before := s.before r.rid
  decide (r.stage = .held) && r.hasEntry && !r.status.isSome &&
  (orderHeld r before || lineHeld r before || writeOwed r before ||
   r.waits.any (fun k => !(((s.req k).map Req.fixed).getD true)))

/-- Entries of partition `c` that are HELD (`MOR_PART_STATUS.HELD`). -/
def State.heldCount (s : State) (c : Nat) : Nat :=
  (s.reqs.filter (fun r => decide (r.part = some c) && s.isHeld r)).length

/-- The entry may enter its Setter (R78, R85, R113): its data complete, that of a copy's writes too, for which DESIGN
CHOICE (log 105) no line of the write store is counted. -/
def State.enqueueReady (s : State) (r : Req) : Bool :=
  let before := s.before r.rid
  !r.status.isSome && r.hasEntry && (decide (r.stage = .held) || decide (r.stage = .waitData)) &&
  (!r.needsData || r.inStore) && r.fed && !orderHeld r before && !lineHeld r before && !writeOwed r before

end Sys2Proof.Machine
end

