-- ==== Sys2Proof/Machine/MasOps.lean ====
section
/-! DEFINITION. What the Aklet instructions share (R240 to R253, R267 to R283, R291, R292): registers, legal
words, traps, translation, and the issue and delivery of requests. -/

namespace Sys2Proof.Machine

/-! Registers. -/

/-- Scalar register `r`; s0 reads zero (R238). -/
def Mason.reg (x : Mason) (r : Nat) : BitVec 64 := if r = 0 then 0 else Tbl.get x.regs 0 r

/-- Scalar register `r` written; writes of s0 are discarded (R238). -/
def Mason.setReg (x : Mason) (r : Nat) (v : BitVec 64) : Mason :=
  if r = 0 then x else { x with regs := Tbl.set x.regs 0 r v }

/-- A line register never filled. -/
def LReg.zero : LReg := ⟨0, false, 0⟩

/-- Line register `l`. -/
def Mason.line (x : Mason) (l : Nat) : LReg := Tbl.get x.lregs LReg.zero l

/-- Line register `l` written. -/
def Mason.setLine (x : Mason) (l : Nat) (v : LReg) : Mason :=
  { x with lregs := Tbl.set x.lregs LReg.zero l v }

/-- A sign-extended immediate of `b` bits as a 64-bit word (R269). -/
def sext (b n : Nat) : BitVec 64 := BitVec.ofInt 64 (signedOf b n)

/-- Requests outstanding (`MAS_STATUS.OUTSTANDING`): A/D updates and runs do not count (R282). -/
def Mason.outstanding (x : Mason) : Nat :=
  (x.outs.filter (fun o => decide (o.kind ≠ .run) && decide (o.kind ≠ .adUpdate))).length

/-- Runs outstanding. -/
def Mason.runs (x : Mason) : Nat := (x.outs.filter (fun o => decide (o.kind = .run))).length

/-- A register field of engine `m`: a Screed sequencer has none, and works as a Mason whose registers are as at reset
(DESIGN CHOICE, log 142). -/
def State.masFld (s : State) (f : Field) (m : Nat) : Nat := if m < 192 then s.fld f m 0 0 else f.reset

/-- OUT_MAX in force (R240). -/
def State.outMax (s : State) (m : Nat) : Nat := max 1 (min 16 (s.masFld MAS_CTRL_OUT_MAX m))

/-- A scalar register that awaits a result (R240, R282). -/
def Mason.awaitsReg (x : Mason) (r : Nat) : Bool :=
  decide (r ≠ 0) && x.outs.any (fun o => decide (o.dst = .scalar r) || decide (o.rt = r))

/-- A line register that awaits a result. -/
def Mason.awaitsLine (x : Mason) (l : Nat) : Bool := x.outs.any (fun o => decide (o.dst = .line l))

/-! Legal words (R270, R271). -/

/-- A word that no row of R270 makes ILLEGAL in handler mode. -/
def akLegal (w : Nat) : Bool :=
  let op := nfield w 26 6
  let a := nfield w 21 5
  let b := nfield w 16 5
  let c := nfield w 11 5
  let fn := nfield w 0 11
  let imm := nfield w 0 16
  let xRt := decide (nfield w 10 1 = 1 ∨ c = 0)
  let mRt := nfield w 6 5
  let mP := nfield w 5 1
  let mFn := nfield w 0 5
  let mOk := decide (mP = 1 ∨ mRt = 0) && !(decide (a = mRt) && decide (a ≠ 0))
  if op = 0x01 then
    decide (fn ≤ 0xD) || decide (fn = 0x10) || decide (fn = 0x11) ||
    ((decide (fn = 0x18) || decide (fn = 0x19) || decide (fn = 0x1A)) && decide (c = 0))
  else if op = 0x08 ∨ op = 0x09 ∨ op = 0x0A then decide (imm < 64)
  else if 2 ≤ op ∧ op ≤ 0x0B then true
  else if 0x10 ≤ op ∧ op ≤ 0x1F then true
  else if op = 0x20 ∨ op = 0x21 then decide (a < 8)
  else if op = 0x22 then
    let k := nfield fn 0 3
    decide (nfield fn 3 5 = 0) &&
    (match nfield fn 8 3 with
     | 0 => decide (b < 8)
     | 1 => decide (a < 8)
     | 2 => decide (a < 8) && decide (b < 8) && decide (k = 0)
     | 3 => decide (a < 8) && decide (k = 0)
     | 4 => decide (c < 8) && decide (k = 0)
     | 5 => decide (c < 8) && decide (k = 0)
     | 6 => decide (b < 8) && decide (k = 0)
     | _ => false)
  else if op = 0x28 then
    xRt && !(decide (a = c) && decide (a ≠ 0)) && !(decide (nfield w 7 1 = 1) && decide (nfield w 8 2 = 3))
  else if op = 0x29 then xRt && decide (nfield w 7 1 = 0)
  else if op = 0x2A ∨ op = 0x2B then xRt && decide (nfield w 21 2 = 0)
  else if op = 0x2C then xRt && decide (nfield w 21 2 = 0) && decide (nfield w 0 5 = 0)
  else if op = 0x2D then
    mOk && decide (nfield mFn 0 4 ≤ 10) &&
    !(decide (nfield mFn 0 4 = 10) && (decide (nfield mFn 4 1 = 0) || decide (a = 0)))
  else if op = 0x2E then true
  else if op = 0x2F then
    mOk && decide (nfield mFn 3 2 = 0) &&
    (match nfield mFn 0 2 with
     | 0 => decide (c = 0)
     | 1 => decide (c < 8)
     | 2 => true
     | _ => false)
  else if op = 0x30 then
    decide (mP = 0) &&
    (if mFn = 0 ∨ mFn = 4 then decide (mRt = 0) && decide (c < 8)
     else if mFn = 1 ∨ mFn = 5 then decide (a < 8)
     else if mFn = 2 then decide (mRt = 0) else false)
  else if op = 0x31 then decide (fn ≤ 1)
  else if op = 0x38 then
    decide (fn ≤ 5) || ((decide (fn = 8) || decide (fn = 9)) && decide (c ≤ 0x0C)) ||
    (decide (fn = 0x10) && decide (b < 8)) || (decide (0x11 ≤ fn) && decide (fn ≤ 0x13))
  else false

/-- The word is handler-only (R271, R289, R290). -/
def akPriv (w : Nat) : Bool :=
  let op := nfield w 26 6
  let fn := nfield w 0 11
  let c := nfield w 11 5
  (decide (op = 0x2D) && decide (nfield w 0 4 = 10)) || decide (op = 0x2E) || decide (op = 0x30) ||
  (decide (op = 0x38) && (decide (fn = 1) || decide (fn = 5) || (decide (fn = 8) && decide (c ≤ 8)) ||
    decide (fn = 9) || (decide (0x10 ≤ fn) && decide (fn ≤ 0x13))))

/-! Errors and traps. -/

/-- The Buttress source of Mason `m` (R266, R359). -/
def State.masSource (s : State) (m : Nat) : Nat := 92 + m / max 1 (s.build / 2)

/-- A bit of `MAS_ERR` with its report (R266); a Screed sequencer has no such register. -/
def State.masErr (s : State) (m bit sev : Nat) : State :=
  if 192 ≤ m then s else (s.orF MAS_ERR_BITS m 0 0 (2 ^ bit)).report (s.masSource m)
    ⟨sev, 0xE, 7, bit, 1, m, none, s.uptime, false, false⟩

/-- An instruction of a Mason ends: a debug step is spent, a halt that was due happens (R262, R294). -/
def Mason.finish (x : Mason) : Mason :=
  let y := { x with dbgStep := false, haltDue := false, dbgDue := false, stalled := false }
  if x.haltDue ∧ x.st = 1 then
    (if x.dbgDue then { y with st := 4, dbgFrom := 0 } else { y with st := 0 })
  else if x.dbgDue ∧ x.st = 1 then { y with st := 4, dbgFrom := 1 }
  else y

/-- The instruction ends and the next one is at `pc`. -/
def Mason.goto (x : Mason) (pc : Nat) : Mason := ({ x with pc := pc }).finish

/-- Mason `m` stops in FAULT (R242, R266). -/
def State.masFault (s : State) (m bit : Nat) : State :=
  (s.masErr m bit 2).modMason m (fun x => { x with
    st := 2, dbgStep := false, haltDue := false, dbgDue := false, stalled := false })

/-- A trap (R242, R291): cause, sub-cause, trap value and saved PC. -/
def State.akTrap (s : State) (m cause sub tval epc : Nat) : State :=
  let x := s.mason m
  let s1 := if m < 192 then s.count 0x4D 0 (Ev.ofMason m) else s
  let s2 := if cause = 4 ∧ m < 192 then s1.count 0x4E 0 (Ev.ofMason m) else s1
  let save (base : Nat) : Tbl (BitVec 64) :=
    Tbl.set (Tbl.set (Tbl.set x.csr 0 base (BitVec.ofNat 64 (epc % 4096))) 0 (base + 1)
      (BitVec.ofNat 64 (cause + 256 * sub))) 0 (base + 2) (BitVec.ofNat 64 tval)
  if ¬ x.handler then
    s2.modMason m (fun y => ({ y with csr := save 0, handler := true }).goto (8 * cause))
  else if ¬ x.nested then
    s2.modMason m (fun y => ({ y with csr := save 3, nested := true }).goto (8 * cause))
  else s2.masFault m 5

/-- A trap that saves the trapping instruction. -/
def State.akTrapHere (s : State) (m cause sub tval : Nat) : State := s.akTrap m cause sub tval (s.mason m).pc

/-- The next instruction. -/
def State.akNext (s : State) (m : Nat) : State := s.modMason m (fun x => x.goto (x.pc + 1))

/-- The instruction at the PC goes on waiting (R282, R283, R294). -/
def State.akStall (s : State) (m : Nat) : State := s.modMason m (fun x => { x with stalled := true })

/-- A scalar result, and the next instruction. -/
def State.akPut (s : State) (m rd : Nat) (v : BitVec 64) : State :=
  s.modMason m (fun x => (x.setReg rd v).goto (x.pc + 1))

/-! Presenting an instruction. -/

/-- The address `rs1` plus an offset of Mason `m` (R277). -/
def State.vaOf (s : State) (m rs1 : Nat) (off : BitVec 64) : Nat := ((s.mason m).reg rs1 + off).toNat

/-- Where a scalar result goes; s0 receives none. -/
def dstOf (r : Nat) : ResDst := if r = 0 then .none else .scalar r

/-- Mason `m` may execute an instruction: RUNNING, or stepped in DEBUG, with nothing it waits for. -/
def Mason.ready (x : Mason) : Bool :=
  (decide (x.st = 1) || (decide (x.st = 4) && x.dbgStep)) && !x.waits

/-- The word at the PC; beyond the store there is none. -/
def Mason.word (x : Mason) : Nat := (Tbl.get x.istore 0 x.pc).toNat

/-- The registers an instruction names. -/
structure Names where
  scalars : List Nat
  lines : List Nat
  deriving DecidableEq, Repr

/-- No named register awaits a result (R282). -/
def Mason.free (x : Mason) (n : Names) : Bool :=
  !n.scalars.any x.awaitsReg && !n.lines.any x.awaitsLine

/-! Templates (R247, R248). -/

/-- The page bits of an entry. -/
def TplEnt.bits (e : TplEnt) : Nat := match nfield e.w0.toNat 61 2 with | 1 => 21 | 2 => 30 | _ => 12

/-- VALID. -/
def TplEnt.valid (e : TplEnt) : Bool := e.w0.getLsbD 63

/-- The entry maps virtual address `v`. -/
def TplEnt.hits (e : TplEnt) (v : Nat) : Bool :=
  e.valid && decide (nfield e.w0.toNat e.bits (48 - e.bits) = nfield v e.bits (48 - e.bits))

/-- The global address of `v` through the entry. -/
def TplEnt.global (e : TplEnt) (v : Nat) : Nat :=
  nfield e.w1.toNat e.bits (52 - e.bits) * 2 ^ e.bits + v % 2 ^ e.bits

/-- The address of the tenant's table entry. -/
def TplEnt.tea (e : TplEnt) : Nat := nfield e.w2.toNat 3 49 * 8

/-- The entry that a virtual address hits. -/
def Mason.lookup (x : Mason) (v : Nat) : Option (Nat × TplEnt) := x.tpl.find? (fun e => e.2.hits v)

/-- A bit of an entry's word 0 set. -/
def TplEnt.setBit (e : TplEnt) (k : Nat) : TplEnt := { e with w0 := e.w0 ||| BitVec.ofNat 64 (2 ^ k) }

/-- An entry of a template changed. -/
def Mason.modTpl (x : Mason) (slot : Nat) (f : TplEnt → TplEnt) : Mason :=
  { x with tpl := Tbl.mapVal (fun k e => if k = slot then f e else e) x.tpl }

/-- An entry of no use. -/
def TplEnt.none : TplEnt := ⟨0, 0, 0⟩

/-- Template slots invalidated: what was translated through them is stale (R253). -/
def Mason.dropTpl (x : Mason) (p : TplEnt → Bool) : Mason :=
  let gone := (x.tpl.filter (fun e => e.2.valid && p e.2)).map Prod.fst
  { x with
    tpl := Tbl.keep (fun k => !gone.contains k) x.tpl,
    outs := x.outs.map (fun o => if o.slots.any gone.contains then { o with stale := true } else o) }

/-- Template slot `k` invalidated. -/
def Mason.dropTplAt (x : Mason) (k : Nat) : Mason :=
  { x with
    tpl := Tbl.keep (fun j => decide (j ≠ k)) x.tpl,
    outs := x.outs.map (fun o => if o.slots.contains k then { o with stale := true } else o) }

/-- AUE and DUE of an entry as used (`TPL_CTRL.PROFILE` 10). -/
def State.keepBits (s : State) (e : TplEnt) : Bool × Bool :=
  if ¬ s.expert 10 ∧ s.rawF TPL_CTRL_PROFILE 0 0 0 = 2 then (false, false)
  else (e.w0.getLsbD 58, e.w0.getLsbD 57)

/-- The A and D bits an access sets first (R251). -/
def State.adNeeds (s : State) (e : TplEnt) (write : Bool) : Bool × Bool :=
  let (aue, due) := s.keepBits e
  (aue && !e.w0.getLsbD 56, write && due && !e.w0.getLsbD 55)

/-- What a translation comes to. -/
inductive Xlate where
  | go (gaddr : Nat) (slots : List Nat)
  | update (slot : Nat) (tea : Nat) (setA setD : Bool)
  | miss
  | perm
  deriving DecidableEq, Repr

/-- An address translated in the mode in force (R241, R248, R251). -/
def State.translate (s : State) (m v : Nat) (read write : Bool) : Xlate :=
  let x := s.mason m
  if x.handler then .go v []
  else match x.lookup v with
    | none => .miss
    | some (slot, e) =>
      if (read ∧ ¬ e.w0.getLsbD 60) ∨ (write ∧ ¬ e.w0.getLsbD 59) then .perm
      else
        let (a, d) := s.adNeeds e write
        if a ∨ d then .update slot e.tea a d else .go (e.global v) [slot]

/-- REF of the entries that an access used (R247). -/
def State.touch (s : State) (m : Nat) (slots : List Nat) : State :=
  if slots = [] then s
  else s.modMason m (fun x => slots.foldl (fun y k => y.modTpl k (fun e => e.setBit 54)) x)

/-! Requests. -/

/-- The identity of a Mason's request (R241): privilege, non-secure, QID. -/
def State.masIdent (s : State) (m : Nat) (handler : Bool) : Nat × Bool × Nat :=
  if handler then (3, decide (s.masFld MAS_CTRL_HNS m = 1), s.masFld MAS_CTRL_HQID m)
  else
    let t := (s.mason m).task
    (nfield t 14 2, t.testBit 16, nfield t 0 12)

/-- A request of Mason `m` with its identity. -/
def State.masReq (s : State) (m rid : Nat) (handler : Bool) (op : Op) (size gaddr : Nat) (walk : Bool) : Req :=
  let (p, ns, q) := s.masIdent m handler
  { Req.blank rid (.mason m) op with
    size := size, addr := gaddr, qid := q, priv := p, ns := ns, walk := walk, tAccept := s.uptime }

/-- The write stage of a Mason has room for a request: 4 lines (R77). DESIGN CHOICE (log 105): the line of a fill takes
none of them. -/
def State.masStage (s : State) (r : Req) : Bool :=
  r.data.isNone || r.run.isSome ||
  decide ((s.reqs.filter (fun q => decide (q.src = r.src) && q.run.isNone && q.inBuf)).length < 4)

/-- The Mortar can take a located request of a Mason now (R77, R80, R84). -/
def State.masRoom (s : State) (r : Req) : Bool :=
  decide (s.warm = 0) && (s.partFor r.src r.dest).isSome && s.masStage r &&
  !s.noTag r.dest

/-- A located request of a Mason enters the Mortar (R80, R84). -/
def State.masEnter (s : State) (r : Req) : State :=
  match s.partFor r.src r.dest with
  | none => s
  | some c => ((s.addReq { r with inBuf := r.data.isSome }).alloc r.rid c).settle

/-- A request answered where it stands, without an entry: no route to its node (R330). -/
def State.masRefused (s : State) (r : Req) (st : Status) : State := (s.addReq r).fix r.rid st 0

/-- A request issued: counted, sampled, and sent on its way with what awaits it (R240, R281). An A/D update is a request
accepted at the Masons' entry point like any other (R367; DEDUCED, log 166). -/
def State.masIssue (s : State) (m code : Nat) (r : Req) (o : MasOut) : State :=
  let (s1, tg) := (s.count code 0 r.ev).sampleTag 12 r.ev
  let r1 := { r with tagRec := tg }
  let s2 := s1.modMason m (fun x => { x with outs := x.outs ++ [o] })
  match s2.locate r1 with
  | (some st, r2) => s2.masRefused r2 st
  | (none, r2) => s2.masEnter r2

/-- The sub-cause of a walk-class failure (R251). -/
def walkSub (st : Status) : Nat := match st with | .poisonWalk => 1 | .nonmem => 2 | _ => 3

/-- What awaits a request that keeps its Mason waiting. -/
def MasOut.plain (rid : Nat) (kind : OutKind) (addr gaddr : Nat) : MasOut :=
  ⟨rid, kind, [rid], true, .none, 0, addr, gaddr, 0, false, [], [], none, [], false, false, false⟩

/-- A run of the Mason covers the line (R283 rule 2). -/
def Mason.runCovers (x : Mason) (gaddr : Nat) : Bool :=
  x.outs.any (fun o => o.cover.any (fun e => decide (e.1 ≤ gaddr / 64) && decide (gaddr / 64 < e.1 + e.2)))

/-- The A/D update of R251 before an access: the instruction is presented again once it is done. -/
def State.adUpdate (s : State) (m slot tea : Nat) (setA setD : Bool) : State :=
  let (s1, rid) := s.newRid
  let bits := Nat.lor (if setA then 2 ^ s.masFld TPL_CFG_A_BIT m else 0) (if setD then 2 ^ s.masFld TPL_CFG_D_BIT m else 0)
  let r := { s.masReq m rid true .setad 3 tea true with data := some (BitVec.ofNat 512 bits) }
  let o := { MasOut.plain rid .adUpdate tea tea with slots := [slot], setA := setA, setD := setD }
  match s.locate r with
  | (some .remoteTimeout, _) => s.akTrapHere m 8 3 tea
  | (some st, _) => (s.count 0x44 0 r.ev).akTrapHere m 8 (walkSub st) tea
  | (none, r') =>
    if s.masRoom r' ∧ ¬ (s.mason m).runCovers tea then s1.masIssue m 0x4F r o else s.akStall m

/-- A memory instruction past its encoding checks (R277 to R280). `upset`: 1 a corrected, 2 an uncorrectable error of its
data in the Mason's write stage (R93). -/
structure Ask where
  op : Op
  size : Nat
  va : Nat
  read : Bool
  write : Bool
  walk : Bool
  data : Option (BitVec 512)
  mask : BitVec 64
  poison : Bool
  upset : Nat
  noret : Bool
  kind : OutKind
  dst : ResDst
  rt : Nat
  posted : Bool
  sign : Bool
  deriving DecidableEq, Repr

/-- The error met in the Mason's write stage by the data of an access (R93). -/
def stageUpset (upset : Nat) : Nat := if upset = 7 then 1 else if upset = 8 then 2 else 0

/-- A read of nothing. -/
def Ask.blank (op : Op) (size va : Nat) : Ask :=
  ⟨op, size, va, false, false, false, none, 0, false, 0, false, .load, .none, 0, false, false⟩

/-- A refused decode of Mason `m` (R281 stage 5). -/
def State.masMapTrap (s : State) (m : Nat) (r : Req) (d : Decoded) : State :=
  let s1 := s.count 0x44 0 r.ev
  match d with
  | .refused .nonmem => s1.akTrapHere m 9 3 r.addr
  | .control _ => s1.akTrapHere m 9 2 r.addr
  | _ => s1.akTrapHere m 9 1 r.addr

/-- A request instruction issued, its access translated to `ga` (R281 stages 5 and 6). -/
def State.memGo (s : State) (m : Nat) (q : Ask) (ga : Nat) (slots : List Nat) : State :=
  let x := s.mason m
  let (s1, rid) := s.newRid
  let r := { s.masReq m rid x.handler q.op q.size ga q.walk with
    data := q.data, mask := q.mask, wpoison := q.poison, wparity := decide (q.upset = 2),
    attr := if q.noret then 4 else 0 }
  let d := s.decode ga q.walk r.priv r.ns
  match d with
  | .refused st =>
    if q.kind = .walkLoad then (s.count 0x44 0 r.ev).akTrapHere m 8 (walkSub st) q.va
    else s.masMapTrap m r d
  | .control _ => s.masMapTrap m r d
  | _ =>
    let room : Bool := match s.locate r with | (some _, _) => true | (none, r') => s.masRoom r'
    if s.outMax m ≤ x.outstanding ∨ x.runCovers ga ∨ ¬ room then s.akStall m
    else
      let o : MasOut := ⟨rid, q.kind, [rid], !q.posted, q.dst, q.rt, q.va, ga, q.size, q.sign, [], [], none, slots,
        false, false, false⟩
      let s2 := ((s1.touch m slots).storageUpset 1 q.upset r).masIssue m 0x4C r o
      if q.posted then s2.akNext m else s2

/-- The address checks of R281 stage 2: the OPERAND trap's sub-cause. -/
def addrFault (handler : Bool) (va align : Nat) : Option Nat :=
  if va % align ≠ 0 then some 1
  else if va / 2 ^ (if handler then 52 else 48) ≠ 0 then some 2 else none

/-- A request instruction whose address is aligned to `align` bytes (R281). -/
def State.memAsk (s : State) (m align : Nat) (q : Ask) : State :=
  match addrFault (s.mason m).handler q.va align with
  | some sub => s.akTrapHere m 3 sub q.va
  | none => match s.translate m q.va q.read q.write with
    | .miss => s.akTrapHere m 4 0 q.va
    | .perm => s.akTrapHere m 5 0 q.va
    | .update slot tea a d => s.adUpdate m slot tea a d
    | .go ga slots => s.memGo m q ga slots

/-! Words and their operands. -/

/-- A word whose operands fit their fields; other operands spell no word. -/
def fits (l : List (Nat × Nat)) (w : Nat) : Nat := if l.all (fun e => decide (e.1 < e.2)) then w else 2 ^ 32

/-- Format R (R269). -/
def encR (op rd rs1 rs2 fn : Nat) : Nat :=
  fits [(rd, 32), (rs1, 32), (rs2, 32), (fn, 2048)] (op * 2 ^ 26 + rd * 2 ^ 21 + rs1 * 2 ^ 16 + rs2 * 2 ^ 11 + fn)

/-- Formats I, S and B (R269). -/
def encI (op a b imm : Nat) : Nat :=
  fits [(a, 32), (b, 32), (imm, 65536)] (op * 2 ^ 26 + a * 2 ^ 21 + b * 2 ^ 16 + imm)

/-- Format U (R269). -/
def encU (op rd imm : Nat) : Nat := fits [(rd, 32), (imm, 2 ^ 21)] (op * 2 ^ 26 + rd * 2 ^ 21 + imm)

/-- Format X (R269). -/
def encX (op a rs1 rt : Nat) (p : Bool) (size : Nat) (sign : Bool) (off : Nat) : Nat :=
  fits [(size, 4), (off, 128)] (encR op a rs1 rt (b2n p * 2 ^ 10 + size * 2 ^ 8 + b2n sign * 2 ^ 7 + off))

/-- Format M (R269). -/
def encM (op rd rs1 rs2 rt : Nat) (p : Bool) (fn : Nat) : Nat :=
  fits [(rt, 32), (fn, 32)] (encR op rd rs1 rs2 (rt * 2 ^ 6 + b2n p * 2 ^ 5 + fn))

/-- Format L (R269). -/
def encL (op l rs1 rt : Nat) (p : Bool) (off : Nat) : Nat :=
  fits [(l, 8), (off, 1024)] (encR op (4 * l) rs1 rt (b2n p * 2 ^ 10 + off))

/-- The bits of rs1. -/
def ignB : Nat := 0x1F0000

/-- The bits of rs2. -/
def ignC : Nat := 0xF800

/-- The bits of rd. -/
def ignA : Nat := 0x3E00000

/-- The sequencer of a channel whose Screed runs under a training image is engine `m` (R258). -/
def State.seqRuns (s : State) (m : Nat) : Bool :=
  decide (192 ≤ m) && s.hasChan (m - 192) && !s.romFloor && decide ((s.chan (m - 192)).scr.run ≠ 0)

/-- Engine `m` executes Aklet (R267): a Mason, or the sequencer of a Screed that runs. -/
def State.hasEngine (s : State) (m : Nat) : Bool := s.hasMason m || s.seqRuns m

/-- A corrected store word met by Mason `m` (R266). -/
def State.wordCorr (s : State) (m upset : Nat) : State := if upset = 1 then s.masErr m 0 0 else s

/-- The template entry whose parity fails in the lookups of `vas` (R265): a lookup past the first page without an entry is
not made. -/
def Mason.tplStruck (x : Mason) (upset : Nat) (vas : List Nat) : Option Nat :=
  if x.handler then none
  else if upset = 5 then (vas.head?.bind x.lookup).map Prod.fst
  else if 16 ≤ upset then
    let lost := vas.filter (fun v => (x.lookup v).isNone)
    let k := upset - 16
    let e := Tbl.get x.tpl TplEnt.none k
    if vas.any (fun v => e.hits v && lost.all (fun u => decide (v < u))) then some k else none
  else none

/-- The template of Mason `m` where an entry's parity fails in a lookup: the entry is invalidated (R265, R266). -/
def State.tplUpset (s : State) (m upset : Nat) (vas : List Nat) : State :=
  match (s.mason m).tplStruck upset vas with
  | some k => (s.masErr m 4 0).modMason m (fun y => y.dropTplAt k)
  | none => s

/-- An instruction presented to Mason `m`: it acts where the engine is ready and the word at its PC is this one,
bits in `ign` apart, which the instruction does not use. `upset`: 1 a corrected store word, 2 an uncorrectable
instruction word, 3 an uncorrectable scratch word (acted on by scratch reads), 4 register parity, 5 parity of the
template entry that the first of the addresses `vas` hits (R265, R266), 6 an error of the hod or lock slot reached, 7 a
corrected and 8 an uncorrectable error in the Mason's write stage (R93), 16 + k parity of template entry k, where one of
`vas` hits it. -/
def State.akRun (s : State) (m upset word ign : Nat) (n : Names) (vas : List Nat) (f : State → State) : State :=
  let x := s.mason m
  if ¬ s.hasEngine m ∨ ¬ x.ready ∨ 4096 ≤ x.pc ∨ Nat.lor x.word ign ≠ Nat.lor word ign then s
  else if upset = 2 then s.masFault m 1
  else
    let s1 := s.wordCorr m upset
    if ¬ akLegal x.word then s1.akTrapHere m 1 0 x.word
    else if akPriv x.word ∧ ¬ x.handler then s1.akTrapHere m 2 0 x.word
    else if ¬ x.free n then s1.akStall m
    else if upset = 4 then s1.masFault m 3
    else f (s1.tplUpset m upset vas)

end Sys2Proof.Machine
end

