-- ==== Sys2Proof/Machine/AkletAlu.lean ====
section
/-! DEFINITION. Aklet: arithmetic, branches, scratch, and line-register operations (R271 to R276). -/

namespace Sys2Proof.Machine

/-! Shared forms. -/

/-- An ALU instruction (R272). -/
def State.alu (s : State) (m upset rd rs1 rs2 fn : Nat) (g : BitVec 64 → BitVec 64 → BitVec 64) : State :=
  s.akRun m upset (encR 1 rd rs1 rs2 fn) 0 ⟨[rd, rs1, rs2], []⟩ []
    (fun t => t.akPut m rd (g ((t.mason m).reg rs1) ((t.mason m).reg rs2)))

/-- An immediate instruction (R271). -/
def State.aluImm (s : State) (m upset op rd rs1 imm : Nat) (g : BitVec 64 → BitVec 64) : State :=
  s.akRun m upset (encI op rd rs1 imm) 0 ⟨[rd, rs1], []⟩ []
    (fun t => t.akPut m rd (g ((t.mason m).reg rs1)))

/-- A transfer to `target`, which traps outside the instruction store (R271): `rd` gets PC + 1. -/
def State.jumpTo (s : State) (m rd : Nat) (target : BitVec 64) : State :=
  if target.toNat < 4096 then
    s.modMason m (fun x => (x.setReg rd (BitVec.ofNat 64 (x.pc + 1))).goto target.toNat)
  else s.akTrapHere m 3 5 target.toNat

/-- A branch (R271). -/
def State.branch (s : State) (m upset op rs1 rs2 off : Nat) (g : BitVec 64 → BitVec 64 → Bool) : State :=
  s.akRun m upset (encI op rs1 rs2 off) 0 ⟨[rs1, rs2], []⟩ [] (fun t =>
    let x := t.mason m
    if g (x.reg rs1) (x.reg rs2) then t.jumpTo m 0 (BitVec.ofNat 64 x.pc + sext 16 off) else t.akNext m)

/-- The leading zeros of a word (R272). -/
def clz (x : BitVec 64) : Nat :=
  ((List.range 64).find? (fun i => x.getLsbD (63 - i))).getD 64

/-- The set bits of a word (R272). -/
def popc (x : BitVec 64) : Nat := ((List.range 64).filter (fun i => x.getLsbD i)).length

/-- The bytes of a word reversed (R272). -/
def bswap (x : BitVec 64) : BitVec 64 :=
  BitVec.ofNat 64 ((List.range 8).map (fun i => nfield x.toNat (8 * i) 8 * 2 ^ (8 * (7 - i)))).sum

/-- The smaller or the larger by an order. -/
def pick (c : Bool) (a b : BitVec 64) : BitVec 64 := if c then a else b

/-- `n` scratch bytes from offset `a`, little-endian (R267, R276). -/
def Mason.scratchGet (x : Mason) (a n : Nat) : Nat :=
  ((List.range n).map (fun i => (Tbl.get x.scratch 0 (a + i)).toNat * 2 ^ (8 * i))).sum

/-- The `n` low bytes of `v` put at scratch offset `a` (R276). -/
def Mason.scratchPut (x : Mason) (a n v : Nat) : Mason :=
  { x with
    scratch := (List.range n).foldl (fun c i => Tbl.set c 0 (a + i) (BitVec.ofNat 8 (nfield v (8 * i) 8))) x.scratch }

/-- A scratch access of `n` bytes at `a`: it traps misaligned or beyond the scratch (R276; 16 KiB for a sequencer); `upset` 3 is an
uncorrectable word read (R266). -/
def State.scratchAt (s : State) (m n : Nat) (a : BitVec 64) (bad : Bool) (f : State → State) : State :=
  if a.toNat % n ≠ 0 then s.akTrapHere m 3 1 a.toNat
  else if (if m < 192 then 32768 else 16384) < a.toNat + n then s.akTrapHere m 3 2 a.toNat
  else if bad then s.masFault m 2 else f s

/-- A scratch load of `n` bytes (R271). -/
def State.scratchLoad (s : State) (m upset op n rd rs1 imm : Nat) : State :=
  s.akRun m upset (encI op rd rs1 imm) 0 ⟨[rd, rs1], []⟩ [] (fun t =>
    let a := (t.mason m).reg rs1 + sext 16 imm
    t.scratchAt m n a (decide (upset = 3)) (fun u =>
      u.akPut m rd (BitVec.ofNat 64 ((u.mason m).scratchGet a.toNat n))))

/-- A scratch store of `n` bytes (R271). -/
def State.scratchStore (s : State) (m upset op n rs2 rs1 imm : Nat) : State :=
  s.akRun m upset (encI op rs2 rs1 imm) 0 ⟨[rs2, rs1], []⟩ [] (fun t =>
    let a := (t.mason m).reg rs1 + sext 16 imm
    t.scratchAt m n a false (fun u => u.modMason m (fun x =>
      (x.scratchPut a.toNat n (x.reg rs2).toNat).goto (x.pc + 1))))

/-- Line `l` read by `f`; a poisoned one traps POISON_USE (R275, R291). -/
def State.useLine (s : State) (m l : Nat) (f : LReg → State) : State :=
  let r := (s.mason m).line l
  if r.poison then s.akTrapHere m 0xB l r.fill else f r

/-- The function word of a LINE operation (R273). -/
def lineFn (f k : Nat) : Nat := f * 256 + k

/-! Meanings. -/

/-- ADD (R272). -/
def execAdd (m upset rd rs1 rs2 : Nat) (s : State) : Host.Outcome State Fault Refusal :=
  done (s.live fun s => s.alu m upset rd rs1 rs2 0x00 (fun a b => a + b))

/-- SUB (R272). -/
def execSub (m upset rd rs1 rs2 : Nat) (s : State) : Host.Outcome State Fault Refusal :=
  done (s.live fun s => s.alu m upset rd rs1 rs2 0x01 (fun a b => a - b))

/-- AND (R272). -/
def execAnd (m upset rd rs1 rs2 : Nat) (s : State) : Host.Outcome State Fault Refusal :=
  done (s.live fun s => s.alu m upset rd rs1 rs2 0x02 (fun a b => a &&& b))

/-- OR (R272). -/
def execOr (m upset rd rs1 rs2 : Nat) (s : State) : Host.Outcome State Fault Refusal :=
  done (s.live fun s => s.alu m upset rd rs1 rs2 0x03 (fun a b => a ||| b))

/-- XOR (R272). -/
def execXor (m upset rd rs1 rs2 : Nat) (s : State) : Host.Outcome State Fault Refusal :=
  done (s.live fun s => s.alu m upset rd rs1 rs2 0x04 (fun a b => a ^^^ b))

/-- SLL (R272). -/
def execSll (m upset rd rs1 rs2 : Nat) (s : State) : Host.Outcome State Fault Refusal :=
  done (s.live fun s => s.alu m upset rd rs1 rs2 0x05 (fun a b => a <<< (b.toNat % 64)))

/-- SRL (R272). -/
def execSrl (m upset rd rs1 rs2 : Nat) (s : State) : Host.Outcome State Fault Refusal :=
  done (s.live fun s => s.alu m upset rd rs1 rs2 0x06 (fun a b => a >>> (b.toNat % 64)))

/-- SRA (R272). -/
def execSra (m upset rd rs1 rs2 : Nat) (s : State) : Host.Outcome State Fault Refusal :=
  done (s.live fun s => s.alu m upset rd rs1 rs2 0x07 (fun a b => a.sshiftRight (b.toNat % 64)))

/-- SLT (R272). -/
def execSlt (m upset rd rs1 rs2 : Nat) (s : State) : Host.Outcome State Fault Refusal :=
  done (s.live fun s => s.alu m upset rd rs1 rs2 0x08 (fun a b => BitVec.ofNat 64 (b2n (a.slt b))))

/-- SLTU (R272). -/
def execSltu (m upset rd rs1 rs2 : Nat) (s : State) : Host.Outcome State Fault Refusal :=
  done (s.live fun s => s.alu m upset rd rs1 rs2 0x09 (fun a b => BitVec.ofNat 64 (b2n (a.ult b))))

/-- MIN (R272). -/
def execMin (m upset rd rs1 rs2 : Nat) (s : State) : Host.Outcome State Fault Refusal :=
  done (s.live fun s => s.alu m upset rd rs1 rs2 0x0A (fun a b => pick (a.slt b) a b))

/-- MAX (R272). -/
def execMax (m upset rd rs1 rs2 : Nat) (s : State) : Host.Outcome State Fault Refusal :=
  done (s.live fun s => s.alu m upset rd rs1 rs2 0x0B (fun a b => pick (b.slt a) a b))

/-- MINU (R272). -/
def execMinu (m upset rd rs1 rs2 : Nat) (s : State) : Host.Outcome State Fault Refusal :=
  done (s.live fun s => s.alu m upset rd rs1 rs2 0x0C (fun a b => pick (a.ult b) a b))

/-- MAXU (R272). -/
def execMaxu (m upset rd rs1 rs2 : Nat) (s : State) : Host.Outcome State Fault Refusal :=
  done (s.live fun s => s.alu m upset rd rs1 rs2 0x0D (fun a b => pick (b.ult a) a b))

/-- MUL (R272). -/
def execMul (m upset rd rs1 rs2 : Nat) (s : State) : Host.Outcome State Fault Refusal :=
  done (s.live fun s => s.alu m upset rd rs1 rs2 0x10 (fun a b => a * b))

/-- MULHU (R272). -/
def execMulhu (m upset rd rs1 rs2 : Nat) (s : State) : Host.Outcome State Fault Refusal :=
  done (s.live fun s => s.alu m upset rd rs1 rs2 0x11 (fun a b => BitVec.ofNat 64 (a.toNat * b.toNat / 2 ^ 64)))

/-- CLZ (R272). -/
def execClz (m upset rd rs1 : Nat) (s : State) : Host.Outcome State Fault Refusal :=
  done (s.live fun s => s.alu m upset rd rs1 0 0x18 (fun a _ => BitVec.ofNat 64 (clz a)))

/-- POPC (R272). -/
def execPopc (m upset rd rs1 : Nat) (s : State) : Host.Outcome State Fault Refusal :=
  done (s.live fun s => s.alu m upset rd rs1 0 0x19 (fun a _ => BitVec.ofNat 64 (popc a)))

/-- BSWAP (R272). -/
def execBswap (m upset rd rs1 : Nat) (s : State) : Host.Outcome State Fault Refusal :=
  done (s.live fun s => s.alu m upset rd rs1 0 0x1A (fun a _ => bswap a))

/-- ADDI (R271). -/
def execAddi (m upset rd rs1 imm : Nat) (s : State) : Host.Outcome State Fault Refusal :=
  done (s.live fun s => s.aluImm m upset 0x02 rd rs1 imm (fun a => a + sext 16 imm))

/-- ANDI (R271). -/
def execAndi (m upset rd rs1 imm : Nat) (s : State) : Host.Outcome State Fault Refusal :=
  done (s.live fun s => s.aluImm m upset 0x03 rd rs1 imm (fun a => a &&& BitVec.ofNat 64 imm))

/-- ORI (R271). -/
def execOri (m upset rd rs1 imm : Nat) (s : State) : Host.Outcome State Fault Refusal :=
  done (s.live fun s => s.aluImm m upset 0x04 rd rs1 imm (fun a => a ||| BitVec.ofNat 64 imm))

/-- XORI (R271). -/
def execXori (m upset rd rs1 imm : Nat) (s : State) : Host.Outcome State Fault Refusal :=
  done (s.live fun s => s.aluImm m upset 0x05 rd rs1 imm (fun a => a ^^^ BitVec.ofNat 64 imm))

/-- SLTI (R271). -/
def execSlti (m upset rd rs1 imm : Nat) (s : State) : Host.Outcome State Fault Refusal :=
  done (s.live fun s => s.aluImm m upset 0x06 rd rs1 imm (fun a => BitVec.ofNat 64 (b2n (a.slt (sext 16 imm)))))

/-- SLTIU (R271). -/
def execSltiu (m upset rd rs1 imm : Nat) (s : State) : Host.Outcome State Fault Refusal :=
  done (s.live fun s => s.aluImm m upset 0x07 rd rs1 imm (fun a => BitVec.ofNat 64 (b2n (a.ult (sext 16 imm)))))

/-- SLLI (R271). -/
def execSlli (m upset rd rs1 imm : Nat) (s : State) : Host.Outcome State Fault Refusal :=
  done (s.live fun s => s.aluImm m upset 0x08 rd rs1 imm (fun a => a <<< (imm % 64)))

/-- SRLI (R271). -/
def execSrli (m upset rd rs1 imm : Nat) (s : State) : Host.Outcome State Fault Refusal :=
  done (s.live fun s => s.aluImm m upset 0x09 rd rs1 imm (fun a => a >>> (imm % 64)))

/-- SRAI (R271). -/
def execSrai (m upset rd rs1 imm : Nat) (s : State) : Host.Outcome State Fault Refusal :=
  done (s.live fun s => s.aluImm m upset 0x0A rd rs1 imm (fun a => a.sshiftRight (imm % 64)))

/-- SHI16 (R271). -/
def execShi16 (m upset rd rs1 imm : Nat) (s : State) : Host.Outcome State Fault Refusal :=
  done (s.live fun s => s.aluImm m upset 0x0B rd rs1 imm (fun a => (a <<< 16) ||| BitVec.ofNat 64 imm))

/-- BEQ (R271). -/
def execBeq (m upset rs1 rs2 off : Nat) (s : State) : Host.Outcome State Fault Refusal :=
  done (s.live fun s => s.branch m upset 0x10 rs1 rs2 off (fun a b => a == b))

/-- BNE (R271). -/
def execBne (m upset rs1 rs2 off : Nat) (s : State) : Host.Outcome State Fault Refusal :=
  done (s.live fun s => s.branch m upset 0x11 rs1 rs2 off (fun a b => a != b))

/-- BLT (R271). -/
def execBlt (m upset rs1 rs2 off : Nat) (s : State) : Host.Outcome State Fault Refusal :=
  done (s.live fun s => s.branch m upset 0x12 rs1 rs2 off (fun a b => a.slt b))

/-- BGE (R271). -/
def execBge (m upset rs1 rs2 off : Nat) (s : State) : Host.Outcome State Fault Refusal :=
  done (s.live fun s => s.branch m upset 0x13 rs1 rs2 off (fun a b => !a.slt b))

/-- BLTU (R271). -/
def execBltu (m upset rs1 rs2 off : Nat) (s : State) : Host.Outcome State Fault Refusal :=
  done (s.live fun s => s.branch m upset 0x14 rs1 rs2 off (fun a b => a.ult b))

/-- BGEU (R271). -/
def execBgeu (m upset rs1 rs2 off : Nat) (s : State) : Host.Outcome State Fault Refusal :=
  done (s.live fun s => s.branch m upset 0x15 rs1 rs2 off (fun a b => !a.ult b))

/-- JAL (R271). -/
def execJal (m upset rd imm : Nat) (s : State) : Host.Outcome State Fault Refusal :=
  done (s.live fun s => s.akRun m upset (encU 0x16 rd imm) 0 ⟨[rd], []⟩ []
    (fun t => t.jumpTo m rd (BitVec.ofNat 64 (t.mason m).pc + sext 21 imm)))

/-- JALR (R271). -/
def execJalr (m upset rd rs1 imm : Nat) (s : State) : Host.Outcome State Fault Refusal :=
  done (s.live fun s => s.akRun m upset (encI 0x17 rd rs1 imm) 0 ⟨[rd, rs1], []⟩ []
    (fun t => t.jumpTo m rd ((t.mason m).reg rs1 + sext 16 imm)))

/-- LDS8 (R271, R276). -/
def execLds8 (m upset rd rs1 imm : Nat) (s : State) : Host.Outcome State Fault Refusal :=
  done (s.live fun s => s.scratchLoad m upset 0x18 8 rd rs1 imm)

/-- LDS4 (R271, R276). -/
def execLds4 (m upset rd rs1 imm : Nat) (s : State) : Host.Outcome State Fault Refusal :=
  done (s.live fun s => s.scratchLoad m upset 0x19 4 rd rs1 imm)

/-- LDS2 (R271, R276). -/
def execLds2 (m upset rd rs1 imm : Nat) (s : State) : Host.Outcome State Fault Refusal :=
  done (s.live fun s => s.scratchLoad m upset 0x1A 2 rd rs1 imm)

/-- LDS1 (R271, R276). -/
def execLds1 (m upset rd rs1 imm : Nat) (s : State) : Host.Outcome State Fault Refusal :=
  done (s.live fun s => s.scratchLoad m upset 0x1B 1 rd rs1 imm)

/-- STS8 (R271, R276). -/
def execSts8 (m upset rs2 rs1 imm : Nat) (s : State) : Host.Outcome State Fault Refusal :=
  done (s.live fun s => s.scratchStore m upset 0x1C 8 rs2 rs1 imm)

/-- STS4 (R271, R276). -/
def execSts4 (m upset rs2 rs1 imm : Nat) (s : State) : Host.Outcome State Fault Refusal :=
  done (s.live fun s => s.scratchStore m upset 0x1D 4 rs2 rs1 imm)

/-- STS2 (R271, R276). -/
def execSts2 (m upset rs2 rs1 imm : Nat) (s : State) : Host.Outcome State Fault Refusal :=
  done (s.live fun s => s.scratchStore m upset 0x1E 2 rs2 rs1 imm)

/-- STS1 (R271, R276). -/
def execSts1 (m upset rs2 rs1 imm : Nat) (s : State) : Host.Outcome State Fault Refusal :=
  done (s.live fun s => s.scratchStore m upset 0x1F 1 rs2 rs1 imm)

/-- LLS (R271, R276): the mark is cleared, and the scratch offset is the fill address. -/
def execLls (m upset rd rs1 imm : Nat) (s : State) : Host.Outcome State Fault Refusal :=
  done (s.live fun s => s.akRun m upset (encI 0x20 rd rs1 imm) 0 ⟨[rs1], [rd]⟩ [] (fun t =>
    let a := (t.mason m).reg rs1 + sext 16 imm
    t.scratchAt m 64 a (decide (upset = 3)) (fun u => u.modMason m (fun x =>
      (x.setLine rd ⟨BitVec.ofNat 512 (x.scratchGet a.toNat 64), false, a.toNat⟩).goto (x.pc + 1)))))

/-- SLS (R271, R275, R276). -/
def execSls (m upset rs2 rs1 imm : Nat) (s : State) : Host.Outcome State Fault Refusal :=
  done (s.live fun s => s.akRun m upset (encI 0x21 rs2 rs1 imm) 0 ⟨[rs1], [rs2]⟩ [] (fun t =>
    let a := (t.mason m).reg rs1 + sext 16 imm
    t.scratchAt m 64 a false (fun u => u.useLine m rs2 (fun v => u.modMason m (fun x =>
      (x.scratchPut a.toNat 64 v.data.toNat).goto (x.pc + 1))))))

/-- LGET (R273, R275). -/
def execLget (m upset rd rs1 k : Nat) (s : State) : Host.Outcome State Fault Refusal :=
  done (s.live fun s => s.akRun m upset (fits [(k, 8)] (encR 0x22 rd rs1 0 (lineFn 0 k))) ignC ⟨[rd], [rs1]⟩ []
    (fun t => t.useLine m rs1 (fun v => t.akPut m rd (BitVec.ofNat 64 (nfield v.data.toNat (64 * k) 64)))))

/-- LPUT (R273). -/
def execLput (m upset rd rs1 k : Nat) (s : State) : Host.Outcome State Fault Refusal :=
  done (s.live fun s => s.akRun m upset (fits [(k, 8)] (encR 0x22 rd rs1 0 (lineFn 1 k))) ignC ⟨[rs1], [rd]⟩ []
    (fun t => t.modMason m (fun x =>
      let v := x.line rd
      let w := (v.data &&& ~~~ bytesMask (8 * k) 8) ||| BitVec.ofNat 512 ((x.reg rs1).toNat * 2 ^ (64 * k))
      (x.setLine rd { v with data := w }).goto (x.pc + 1))))

/-- LMOV (R273). -/
def execLmov (m upset rd rs1 : Nat) (s : State) : Host.Outcome State Fault Refusal :=
  done (s.live fun s => s.akRun m upset (encR 0x22 rd rs1 0 (lineFn 2 0)) ignC ⟨[], [rd, rs1]⟩ []
    (fun t => t.modMason m (fun x => (x.setLine rd (x.line rs1)).goto (x.pc + 1))))

/-- LCLR (R273): the fill address stays. -/
def execLclr (m upset rd : Nat) (s : State) : Host.Outcome State Fault Refusal :=
  done (s.live fun s => s.akRun m upset (encR 0x22 rd 0 0 (lineFn 3 0)) (ignB + ignC) ⟨[], [rd]⟩ []
    (fun t => t.modMason m (fun x => (x.setLine rd ⟨0, false, (x.line rd).fill⟩).goto (x.pc + 1))))

/-- LCRC (R273 to R275). -/
def execLcrc (m upset rd rs1 rs2 : Nat) (s : State) : Host.Outcome State Fault Refusal :=
  done (s.live fun s => s.akRun m upset (encR 0x22 rd rs1 rs2 (lineFn 4 0)) 0 ⟨[rd, rs1], [rs2]⟩ []
    (fun t => t.useLine m rs2 (fun v => t.akPut m rd (BitVec.ofNat 64
      (crcRun (nfield ((t.mason m).reg rs1).toNat 0 32) ((List.range 64).map (fun i => lineNat v.data i 1)))))))

/-- LSUM32 (R273, R275). -/
def execLsum32 (m upset rd rs1 rs2 : Nat) (s : State) : Host.Outcome State Fault Refusal :=
  done (s.live fun s => s.akRun m upset (encR 0x22 rd rs1 rs2 (lineFn 5 0)) 0 ⟨[rd, rs1], [rs2]⟩ []
    (fun t => t.useLine m rs2 (fun v => t.akPut m rd ((t.mason m).reg rs1 + BitVec.ofNat 64
      ((List.range 16).map (fun i => lineNat v.data (4 * i) 4)).sum))))

/-- LPSN (R273). -/
def execLpsn (m upset rd rs1 : Nat) (s : State) : Host.Outcome State Fault Refusal :=
  done (s.live fun s => s.akRun m upset (encR 0x22 rd rs1 0 (lineFn 6 0)) ignC ⟨[rd], [rs1]⟩ []
    (fun t => t.akPut m rd (BitVec.ofNat 64 (b2n ((t.mason m).line rs1).poison))))

end Sys2Proof.Machine
end

