-- ==== Sys2Proof/Machine/AkletMem.lean ====
section
/-! DEFINITION. Aklet: memory requests and runs (R245, R277 to R285). -/

namespace Sys2Proof.Machine

/-! Shared forms. -/

/-- An AMO (R279): `fn` is the operation. -/
def State.amo (s : State) (m upset rd rs1 rs2 rt : Nat) (posted wide : Bool) (fn : Nat) (op : Op) : State :=
  let va := s.vaOf m rs1 0
  let size := if wide then 3 else 2
  s.akRun m upset (encM 0x2D rd rs1 rs2 rt posted (16 * b2n wide + fn)) 0 ⟨[rd, rs1, rs2, rt], []⟩ [va] (fun t =>
    let x := t.mason m
    let b := if op = .atCas then (x.reg rd).toNat else 0
    t.memAsk m (2 ^ size) { Ask.blank op size va with
      read := true, write := true, data := some (BitVec.ofNat 512 ((x.reg rs2).toNat + b * 2 ^ 64)),
      noret := decide (rd = 0), upset := stageUpset upset, kind := .atomic, dst := dstOf rd, rt := rt, posted := posted,
      walk := decide (op = .setad) })

/-- One line of a run: its address as given, and whether it is written. -/
structure RunLine where
  va : Nat
  write : Bool
  deriving DecidableEq, Repr

/-- The lines of a range. -/
def runRange (base count : Nat) (write : Bool) : List RunLine :=
  (List.range count).map (fun i => ⟨base + 64 * i, write⟩)

/-- Of two lists of rising addresses, the lowest line that meets `p` (R292). -/
def lowest (p : RunLine → Bool) (a b : List RunLine) : Option RunLine :=
  match a.find? p, b.find? p with
  | some x, some y => if y.va < x.va then some y else some x
  | some x, none => some x
  | none, y => y

/-- The addresses that a run of `rd` lines looks up: those of its lines at the bases in `bases` (R245). -/
def State.runVas (s : State) (m rd : Nat) (bases : List Nat) : List Nat :=
  let n := ((s.mason m).reg rd).toNat
  if 1024 < n then [] else bases.flatMap (fun r => (runRange (s.vaOf m r 0) n false).map RunLine.va)

/-- What a run carries: its kind (R285), bases, count, and the line that a FILL writes. -/
structure RunAsk where
  kind : Nat
  dst : Nat
  src : Nat
  count : Nat
  fill : BitVec 512
  poison : Bool
  indiv : Bool
  rt : Nat
  posted : Bool
  deriving DecidableEq, Repr

/-- The OPERAND trap of a run: sub-cause and trap value (R285, R292). -/
def RunAsk.fault (q : RunAsk) (handler : Bool) : Option (Nat × Nat) :=
  let lim := 2 ^ (if handler then 52 else 48)
  let bases := if q.kind = 2 then [min q.dst q.src, max q.dst q.src] else [q.dst]
  match bases.find? (fun b => decide (b % 64 ≠ 0)) with
  | some b => some (1, b)
  | none =>
    if q.count = 0 ∨ 1024 < q.count then some (3, q.count)
    else match bases.find? (fun b => decide (lim < b + 64 * q.count)) with
      | some b => some (2, max b lim)
      | none => none

/-- A line of a run translated to its global address; only called once every line translates. -/
def State.runGlobal (s : State) (m : Nat) (l : RunLine) : Nat :=
  match s.translate m l.va (!l.write) l.write with | .go ga _ => ga | _ => 0

/-- The template slots a run's lines use. -/
def State.runSlots (s : State) (m : Nat) (ls : List RunLine) : List Nat :=
  (ls.flatMap (fun l => match s.translate m l.va (!l.write) l.write with | .go _ k => k | _ => [])).eraseDups

/-- Rising line numbers as ranges. -/
def packLines (ls : List Nat) : List (Nat × Nat) :=
  ls.foldr (fun n acc => match acc with
    | (a, k) :: rest => if n + 1 = a then (n, k + 1) :: rest else (n, 1) :: (a, k) :: rest
    | [] => [(n, 1)]) []

/-- The line lies in a range that the Mason holds locked (R245). -/
def State.lockedBy (s : State) (m ga : Nat) : Bool :=
  s.key.slots.any (fun e => !e.2.torn && decide (e.2.kind = 0 ∧ e.2.owner = m) && decide (e.2.line ≤ ga / 64) &&
    decide (ga / 64 < e.2.line + e.2.count))

/-- One line of a run with its decode: global address, destination or place, and its source line's address. -/
structure RunPart where
  ga : Nat
  write : Bool
  dec : Decoded
  source : Nat
  deriving DecidableEq, Repr

/-- The line job of a run's line (R245). -/
def RunPart.job (q : RunAsk) (p : RunPart) : LineJob :=
  let pos := match p.dec with | .place _ x => x | _ => ⟨0, 0, 0, 0, 0, 0⟩
  { LineJob.new p.ga pos with
    wdata := if p.write ∧ q.kind = 1 then some q.fill else none, wpoison := q.poison && p.write, source := p.source }

/-- The opcode of a run's lines: the zero run writes zeros; others write lines; a copy also reads lines. -/
def RunAsk.op (q : RunAsk) (write : Bool) : Op :=
  if ¬ write then .rdLine else if q.kind = 0 then .wrZero else .wrLine

/-- The sub-runs of one direction (R245): one request for each channel, one for each remote line. Request numbers
are given later. -/
def State.subRuns (s : State) (m run : Nat) (q : RunAsk) (write indiv : Bool) (ps : List RunPart) : List Req :=
  let base (addr : Nat) (d : Dest) (ls : List LineJob) : Req :=
    { s.masReq m 0 (s.mason m).handler (q.op write) 0 addr false with
      dest := d, lines := ls, run := some run, indiv := indiv,
      data := if write ∧ q.kind = 1 then some q.fill else none, inBuf := write && decide (q.kind = 1) }
  (List.range s.build).filterMap (fun c =>
    match (ps.filter (fun p => match p.dec with | .place k _ => decide (k = c) | _ => false)).map (RunPart.job q) with
    | [] => none
    | l :: ls => some (base l.addr (.local c) (l :: ls))) ++
  ps.filterMap (fun p => match p.dec with
    | .remote n => some (base p.ga (.remote n) [p.job q])
    | _ => none)

/-- A run's requests given their numbers and their entries; `none` while one finds no room (R80, R330). -/
def State.enterRun : State → List Req → Option (State × List Nat)
  | s, [] => some (s, [])
  | s, r :: rs =>
    let (s1, rid) := s.newRid
    let r1 := { r with rid := rid }
    let refused : Bool := match r.dest with | .remote n => (s.routeTo n).isNone | _ => false
    let next : Option State :=
      if refused then some (s1.masRefused r1 .remoteTimeout)
      else if s1.masRoom r1 then
        (s1.partFor r1.src r1.dest).map (fun c => (s1.addReq r1).alloc rid c)
      else none
    next.bind (fun t => (t.enterRun rs).map (fun e => (e.1, rid :: e.2)))

/-- The requests of a run, before they have numbers, in the state that counted and sampled the run; with them the
run's own number (R245, R363, R368). The first of them carries the run's tag from point to point (R368; DEDUCED, log
167). -/
def State.runReqs (s : State) (m : Nat) (q : RunAsk) (indiv : Bool) (parts : List RunPart) (slots : List Nat) :
    State × Nat × List Req :=
  let (s1, id) := s.newRid
  let ga := ((parts.find? (fun p => p.write)).map RunPart.ga).getD 0
  let ev := (s.masReq m id (s.mason m).handler (q.op true) 0 ga false).ev
  let (s2, tg) := ((s1.touch m slots).count 0x4C 0 ev).sampleTag 12 ev
  let reqs := s2.subRuns m id q false indiv (parts.filter (fun p => !p.write)) ++
    s2.subRuns m id q true indiv (parts.filter (fun p => p.write))
  (s2, id, match reqs with | r :: rs => { r with tagRec := tg } :: rs | [] => [])

/-- A run whose lines all translate and decode: issued once it need not wait (R283, R285). -/
def State.runIssue (s : State) (m : Nat) (q : RunAsk) (indiv : Bool) (parts : List RunPart) (slots : List Nat) : State :=
  let x := s.mason m
  if 2 ≤ x.runs ∨ parts.any (fun p => x.runCovers p.ga) then s.akStall m
  else
    let ga := ((parts.find? (fun p => p.write)).map RunPart.ga).getD 0
    let (s2, id, reqs) := s.runReqs m q indiv parts slots
    match s2.enterRun reqs with
    | none => s.akStall m
    | some (s3, rids) =>
      let o : MasOut := ⟨id, .run, rids, !q.posted, .none, q.rt, q.dst, ga, 0, false,
        packLines ((parts.filter (fun p => p.write)).map (fun p => p.ga / 64)) ++
          packLines ((parts.filter (fun p => !p.write)).map (fun p => p.ga / 64)),
        [], none, slots, false, false, false⟩
      let s4 := s3.modMason m (fun y => { y with outs := y.outs ++ [o] })
      (if q.posted then s4.akNext m else s4).settle

/-- A part whose decode is refused (R245 step 2). -/
def RunPart.refused (p : RunPart) : Bool :=
  match p.dec with | .refused _ => true | .control _ => true | _ => false

/-- The one local channel of a run's lines, if there is one (R245). -/
def oneChannel (ps : List RunPart) : Bool :=
  match ps with
  | [] => true
  | p :: _ => match p.dec with
    | .place c _ => ps.all (fun e => match e.dec with | .place k _ => decide (k = c) | _ => false)
    | _ => false

/-- The lines of a run with their decode: those written, each with its source, then those read. -/
def State.runParts (s : State) (m : Nat) (dests srcs : List RunLine) : List RunPart :=
  let (p, ns, _) := s.masIdent m (s.mason m).handler
  let gas := srcs.map (s.runGlobal m)
  let part (w : Bool) (ga src : Nat) : RunPart := ⟨ga, w, s.decode ga false p ns, src⟩
  (dests.map (s.runGlobal m)).zipIdx.map (fun e => part true e.1 (gas.getD e.2 0)) ++ gas.map (fun g => part false g 0)

/-- A run past translation (R245 steps 1 and 2): decoded, checked, issued. -/
def State.runGo (s : State) (m : Nat) (q : RunAsk) (dests srcs : List RunLine) : State :=
  let parts := s.runParts m dests srcs
  let indiv := q.indiv || parts.any (fun e => s.lockedBy m e.ga)
  if indiv ∧ ¬ oneChannel parts then s.akTrapHere m 0xC 0 q.dst
  else
    let bad := parts.filter RunPart.refused
    match bad with
    | b :: _ =>
      let low := bad.foldl (fun a e => if e.ga < a.ga then e else a) b
      s.masMapTrap m (s.masReq m 0 (s.mason m).handler (q.op low.write) 0 low.ga false) low.dec
    | [] => s.runIssue m q indiv parts (s.runSlots m (dests ++ srcs))

/-- RUN (R245, R285): operand checks, then translation line by line from the lowest address, each A/D update made
before the run goes on; a missing page comes before a refused permission (R292, R294). -/
def State.runAsk (s : State) (m : Nat) (q : RunAsk) : State :=
  match q.fault (s.mason m).handler with
  | some (sub, v) => s.akTrapHere m 3 sub v
  | none =>
    let dests := runRange q.dst q.count true
    let srcs := if q.kind = 2 then runRange q.src q.count false else []
    let tr (l : RunLine) : Xlate := s.translate m l.va (!l.write) l.write
    let miss (l : RunLine) : Bool := decide (tr l = .miss)
    let perm (l : RunLine) : Bool := decide (tr l = .perm)
    let upd (l : RunLine) : Bool := match tr l with | .update _ _ _ _ => true | _ => false
    let firstBad := lowest (fun l => miss l || perm l) dests srcs
    let first := lowest upd dests srcs
    let trap : State := match lowest miss dests srcs with
      | some l => s.akTrapHere m 4 0 l.va
      | none => match lowest perm dests srcs with
        | some l => s.akTrapHere m 5 0 l.va
        | none => s.runGo m q dests srcs
    match first with
    | some l =>
      if firstBad.all (fun b => decide (l.va < b.va)) then
        (match tr l with | .update slot tea a d => s.adUpdate m slot tea a d | _ => s)
      else trap
    | none => trap

/-! Meanings. -/

/-- LD (R277). -/
def execLd (m upset rd rs1 rt : Nat) (posted : Bool) (size : Nat) (sign : Bool) (off : Nat) (s : State) :
    Host.Outcome State Fault Refusal :=
  done (s.live fun s =>
    let va := s.vaOf m rs1 (sext 7 off <<< size)
    s.akRun m upset (encX 0x28 rd rs1 rt posted size sign off) 0 ⟨[rd, rs1, rt], []⟩ [va] (fun t =>
      t.memAsk m (2 ^ size) { Ask.blank .rdPart size va with
        read := true, kind := .load, dst := dstOf rd, rt := rt, posted := posted, sign := sign }))

/-- ST (R277). -/
def execSt (m upset rs2 rs1 rt : Nat) (posted : Bool) (size off : Nat) (s : State) :
    Host.Outcome State Fault Refusal :=
  done (s.live fun s =>
    let va := s.vaOf m rs1 (sext 7 off <<< size)
    s.akRun m upset (encX 0x29 rs2 rs1 rt posted size false off) 0 ⟨[rs2, rs1, rt], []⟩ [va] (fun t =>
      let o := va % 64
      let v := ((t.mason m).reg rs2).toNat % 2 ^ (8 * 2 ^ size)
      t.memAsk m (2 ^ size) { Ask.blank .wrPart size va with
        write := true, data := some (BitVec.ofNat 512 (v * 2 ^ (8 * o))), mask := enables o (2 ^ size), upset := stageUpset upset,
        kind := .store, rt := rt, posted := posted }))

/-- LL (R278). -/
def execLl (m upset l rs1 rt : Nat) (posted : Bool) (off : Nat) (s : State) : Host.Outcome State Fault Refusal :=
  done (s.live fun s =>
    let va := s.vaOf m rs1 (sext 10 off <<< 6)
    s.akRun m upset (encL 0x2A l rs1 rt posted off) 0 ⟨[rs1, rt], [l]⟩ [va] (fun t =>
      t.memAsk m 64 { Ask.blank .rdLine 0 va with
        read := true, kind := .load, dst := .line l, rt := rt, posted := posted }))

/-- SL (R278). -/
def execSl (m upset l rs1 rt : Nat) (posted : Bool) (off : Nat) (s : State) : Host.Outcome State Fault Refusal :=
  done (s.live fun s =>
    let va := s.vaOf m rs1 (sext 10 off <<< 6)
    s.akRun m upset (encL 0x2B l rs1 rt posted off) 0 ⟨[rs1, rt], [l]⟩ [va] (fun t =>
      let v := (t.mason m).line l
      t.memAsk m 64 { Ask.blank .wrLine 0 va with
        write := true, data := some v.data, poison := v.poison, upset := stageUpset upset, kind := .store, rt := rt,
        posted := posted }))

/-- SLM (R278). -/
def execSlm (m upset l rs1 rt : Nat) (posted : Bool) (rm : Nat) (s : State) : Host.Outcome State Fault Refusal :=
  done (s.live fun s =>
    let va := s.vaOf m rs1 0
    s.akRun m upset (fits [(rm, 32)] (encL 0x2C l rs1 rt posted (32 * rm))) 0 ⟨[rs1, rt, rm], [l]⟩ [va] (fun t =>
      let v := (t.mason m).line l
      t.memAsk m 64 { Ask.blank .wrPart 0 va with
        write := true, data := some v.data, mask := (t.mason m).reg rm, poison := v.poison, upset := stageUpset upset,
        kind := .store, rt := rt, posted := posted }))

/-- AMO_ADD (R279). -/
def execAmoAdd (m upset rd rs1 rs2 rt : Nat) (posted wide : Bool) (s : State) : Host.Outcome State Fault Refusal :=
  done (s.live fun s => s.amo m upset rd rs1 rs2 rt posted wide 0 .atAdd)

/-- AMO_OR (R279). -/
def execAmoOr (m upset rd rs1 rs2 rt : Nat) (posted wide : Bool) (s : State) : Host.Outcome State Fault Refusal :=
  done (s.live fun s => s.amo m upset rd rs1 rs2 rt posted wide 1 .atOr)

/-- AMO_AND (R279). -/
def execAmoAnd (m upset rd rs1 rs2 rt : Nat) (posted wide : Bool) (s : State) : Host.Outcome State Fault Refusal :=
  done (s.live fun s => s.amo m upset rd rs1 rs2 rt posted wide 2 .atAnd)

/-- AMO_XOR (R279). -/
def execAmoXor (m upset rd rs1 rs2 rt : Nat) (posted wide : Bool) (s : State) : Host.Outcome State Fault Refusal :=
  done (s.live fun s => s.amo m upset rd rs1 rs2 rt posted wide 3 .atXor)

/-- AMO_SWAP (R279). -/
def execAmoSwap (m upset rd rs1 rs2 rt : Nat) (posted wide : Bool) (s : State) : Host.Outcome State Fault Refusal :=
  done (s.live fun s => s.amo m upset rd rs1 rs2 rt posted wide 4 .atSwap)

/-- AMO_CAS (R279). -/
def execAmoCas (m upset rd rs1 rs2 rt : Nat) (posted wide : Bool) (s : State) : Host.Outcome State Fault Refusal :=
  done (s.live fun s => s.amo m upset rd rs1 rs2 rt posted wide 5 .atCas)

/-- AMO_MIN (R279). -/
def execAmoMin (m upset rd rs1 rs2 rt : Nat) (posted wide : Bool) (s : State) : Host.Outcome State Fault Refusal :=
  done (s.live fun s => s.amo m upset rd rs1 rs2 rt posted wide 6 .atMin)

/-- AMO_MAX (R279). -/
def execAmoMax (m upset rd rs1 rs2 rt : Nat) (posted wide : Bool) (s : State) : Host.Outcome State Fault Refusal :=
  done (s.live fun s => s.amo m upset rd rs1 rs2 rt posted wide 7 .atMax)

/-- AMO_UMIN (R279). -/
def execAmoUmin (m upset rd rs1 rs2 rt : Nat) (posted wide : Bool) (s : State) : Host.Outcome State Fault Refusal :=
  done (s.live fun s => s.amo m upset rd rs1 rs2 rt posted wide 8 .atUmin)

/-- AMO_UMAX (R279). -/
def execAmoUmax (m upset rd rs1 rs2 rt : Nat) (posted wide : Bool) (s : State) : Host.Outcome State Fault Refusal :=
  done (s.live fun s => s.amo m upset rd rs1 rs2 rt posted wide 9 .atUmax)

/-- AMO_SETAD (R279): handler-only, 64 bits, walk-class. -/
def execAmoSetad (m upset rd rs1 rs2 rt : Nat) (posted : Bool) (s : State) : Host.Outcome State Fault Refusal :=
  done (s.live fun s => s.amo m upset rd rs1 rs2 rt posted true 10 .setad)

/-- WLD (R280): always waiting. -/
def execWld (m upset rd rs1 imm : Nat) (s : State) : Host.Outcome State Fault Refusal :=
  done (s.live fun s =>
    let va := s.vaOf m rs1 (sext 16 imm)
    s.akRun m upset (encI 0x2E rd rs1 imm) 0 ⟨[rd, rs1], []⟩ [va] (fun t =>
      t.memAsk m 8 { Ask.blank .rdPart 3 va with
        read := true, walk := true, kind := .walkLoad, dst := dstOf rd }))

/-- RUN ZERO (R285). -/
def execRunZero (m upset rd rs1 rt : Nat) (posted indiv : Bool) (s : State) : Host.Outcome State Fault Refusal :=
  done (s.live fun s =>
    s.akRun m upset (encM 0x2F rd rs1 0 rt posted (4 * b2n indiv)) 0 ⟨[rd, rs1, rt], []⟩ (s.runVas m rd [rs1])
      (fun t =>
        let x := t.mason m
        t.runAsk m ⟨0, (x.reg rs1).toNat, 0, (x.reg rd).toNat, 0, false, indiv, rt, posted⟩))

/-- RUN FILL (R285): `rs2` names a line register. -/
def execRunFill (m upset rd rs1 rs2 rt : Nat) (posted indiv : Bool) (s : State) : Host.Outcome State Fault Refusal :=
  done (s.live fun s =>
    s.akRun m upset (encM 0x2F rd rs1 rs2 rt posted (4 * b2n indiv + 1)) 0 ⟨[rd, rs1, rt], [rs2]⟩
      (s.runVas m rd [rs1]) (fun t =>
        let x := t.mason m
        let v := x.line rs2
        t.runAsk m ⟨1, (x.reg rs1).toNat, 0, (x.reg rd).toNat, v.data, v.poison, indiv, rt, posted⟩))

/-- RUN COPY (R285): `rs2` holds the source base. -/
def execRunCopy (m upset rd rs1 rs2 rt : Nat) (posted indiv : Bool) (s : State) : Host.Outcome State Fault Refusal :=
  done (s.live fun s =>
    s.akRun m upset (encM 0x2F rd rs1 rs2 rt posted (4 * b2n indiv + 2)) 0 ⟨[rd, rs1, rs2, rt], []⟩
      (s.runVas m rd [rs1, rs2]) (fun t =>
        let x := t.mason m
        t.runAsk m ⟨2, (x.reg rs1).toNat, (x.reg rs2).toNat, (x.reg rd).toNat, 0, false, indiv, rt, posted⟩))

end Sys2Proof.Machine
end

