-- ==== Sys2Proof/Machine/AkletSys.lean ====
section
/-! DEFINITION. Aklet: hods, locks, fences, modes, system registers and template instructions (R242, R247 to
R253, R283, R286 to R291). -/

namespace Sys2Proof.Machine

/-! Hods (R286). -/

/-- Half `k` of a line (R286). -/
def halfOf (d : BitVec 512) (k : Nat) : BitVec 256 := (d >>> (256 * k)).setWidth 256

/-- A line with half `k` replaced. -/
def withHalf (d : BitVec 512) (k : Nat) (v : BitVec 256) : BitVec 512 :=
  (d &&& ~~~ bytesMask (32 * k) 32) ||| inHalf v k

/-- HPUSH of half `k`: a refused hod number, then a poisoned half, traps; `upset` 6 is a pointer mismatch (R303). -/
def State.hpush (s : State) (m upset rd rs1 rs2 k : Nat) : State :=
  s.akRun m upset (encM 0x30 rd rs1 rs2 0 false (4 * k)) 0 ⟨[rd, rs1], [rs2]⟩ [] (fun t =>
    let x := t.mason m
    let h := (x.reg rs1).toNat
    let v := x.line rs2
    if ¬ t.hasHod h ∨ ¬ masonPush m h then t.akTrapHere m 0xF 0 h
    else if v.poison then t.akTrapHere m 0xB rs2 v.fill
    else
      let (u, ok) := t.hodPush h (halfOf v.data k) (decide (upset = 6))
      (u.akPut m rd (BitVec.ofNat 64 (b2n ok))).settle)

/-- HPOP into half `k`; it waits while the hod refills (R299). -/
def State.hpop (s : State) (m upset rd rs1 rt k : Nat) : State :=
  s.akRun m upset (encM 0x30 rd rs1 0 rt false (4 * k + 1)) ignC ⟨[rs1, rt], [rd]⟩ [] (fun t =>
    let h := ((t.mason m).reg rs1).toNat
    if ¬ t.hasHod h ∨ ¬ masonPop m h then t.akTrapHere m 0xF 0 h
    else match t.hodPop h m (decide (upset = 6)) with
      | none => (t.hodWait h m).akStall m
      | some (u, i) => (u.modMason m (fun x =>
          let v := x.line rd
          ((x.setLine rd { v with data := withHalf v.data k i }).setReg rt (BitVec.ofNat 64 (i.toNat % 256))).goto
            (x.pc + 1))).settle)

/-! Locks (R287, R288). -/

/-- A range translated for LOCK: it must lie in one template page (R287). -/
inductive LockAt where
  | go (ga : Nat) (slots : List Nat)
  | trap (cause sub tval : Nat)
  deriving DecidableEq, Repr

/-- The checks and the translation of a LOCK of `count` lines at `va` (R287, R292). -/
def Mason.lockAt (x : Mason) (va count : Nat) : LockAt :=
  let lim := 2 ^ (if x.handler then 52 else 48)
  if va % 64 ≠ 0 then .trap 3 1 va
  else if count = 0 ∨ 1024 < count then .trap 3 3 count
  else if lim < va + 64 * count then .trap 3 2 (max va lim)
  else if x.handler then .go va []
  else match x.lookup va with
    | none => .trap 4 0 va
    | some (slot, e) =>
      let pageEnd := (va / 2 ^ e.bits + 1) * 2 ^ e.bits
      if pageEnd < va + 64 * count then .trap 3 4 pageEnd else .go (e.global va) [slot]

/-- The lock request that Mason `k` presents, where its next instruction is a LOCK that asks. -/
def State.lockAsk (s : State) (k : Nat) : Option (KeyReq × Nat × List Nat) :=
  let x := s.mason k
  let w := x.word
  let (rd, rs1, rs2) := (nfield w 21 5, nfield w 16 5, nfield w 11 5)
  if ¬ s.hasMason k ∨ ¬ x.ready ∨ 4096 ≤ x.pc ∨ nfield w 26 6 ≠ 0x31 ∨ nfield w 0 11 ≠ 0 ∨
      ¬ x.free ⟨[rd, rs1, rs2], []⟩ then none
  else match x.lockAt (x.reg rs1).toNat (x.reg rs2).toNat with
    | .go ga slots => some (⟨k, 0, k, ga, (x.reg rs2).toNat⟩, rd, slots)
    | .trap _ _ _ => none

/-- The LOCKs of Masons `ms` that reach the Keystone in one cycle, with the requests of others in it (R308). -/
def State.lockAll (s : State) (ms : List Nat) (rivals : List KeyAsk) : State :=
  let asks := ms.eraseDups.filterMap s.lockAsk
  let s1 := asks.foldl (fun t a => t.touch a.1.owner a.2.2) s
  let (s2, ans) := s1.keyAmong (asks.map Prod.fst) rivals
  asks.foldl (fun t a => t.akPut a.1.owner a.2.1 (BitVec.ofNat 64 (Tbl.get ans 0 a.1.idx))) s2

/-- A Keystone parity error met by a lock operation (R315): the first HELD slot on the range. -/
def State.lockUpset (s : State) (ga count : Nat) : State :=
  match s.key.slots.find? (fun e => !e.2.torn && rangesMeet (ga / 64) count e.2.line e.2.count) with
  | some (i, _) => s.keyParity i
  | none => s

/-- An earlier request of the Mason into a slot's range is not yet performed (R283 rule 7). -/
def State.lockBusy (s : State) (m : Nat) (k : KeySlot) : Bool :=
  (s.mason m).outs.any (fun o =>
    (if o.kind = .run then o.cover.any (fun e => rangesMeet e.1 e.2 k.line k.count)
      else rangesMeet (o.gaddr / 64) 1 k.line k.count) &&
    o.rids.any (fun rid => match s.req rid with | some r => !r.fixed | none => false))

/-! System registers (R289). -/

/-- The status a FENCE would return now (R283). -/
def Mason.fenceCode (x : Mason) : Nat := x.fence.elim 0 (fun e => e.1.code)

/-- CSRR of register `n` (R289). -/
def State.csrGet (s : State) (m n : Nat) : BitVec 64 :=
  let x := s.mason m
  if n < 6 then Tbl.get x.csr 0 n
  else BitVec.ofNat 64 (match n with
    | 6 => x.task
    | 7 => x.fenceCode + (if x.fenceCode = 0 then 0 else 16)
    | 8 => x.faddr
    | 9 => s.uptime
    | 10 => s.straps.node
    | 11 => if m < 192 then m else 0xFF
    | _ => x.outstanding + 32 * x.runs)

/-- CSRW of register `n` (R289): fields as wide as the table gives them; read-only registers ignore it. -/
def Mason.csrPut (x : Mason) (n : Nat) (v : BitVec 64) : Mason :=
  let k := v.toNat
  match n with
  | 0 | 3 => { x with csr := Tbl.set x.csr 0 n (BitVec.ofNat 64 (k % 2 ^ 12)) }
  | 1 | 4 => { x with csr := Tbl.set x.csr 0 n (BitVec.ofNat 64 (k % 2 ^ 16)) }
  | 2 | 5 => { x with csr := Tbl.set x.csr 0 n v }
  | 6 => { x with task := Nat.land k 0x1CFFF }
  | _ => x

/-! Templates (R249, R250). -/

/-- The clock of R249: from the pointer, REF bits cleared, to the first entry with REF = 0. -/
def clockScan : Nat → Mason → Nat → Mason × Nat
  | 0, x, p => (x, p)
  | n + 1, x, p =>
    if (Tbl.get x.tpl TplEnt.none p).w0.getLsbD 54 then
      clockScan n (x.modTpl p (fun e => { e with w0 := e.w0 &&& ~~~ BitVec.ofNat 64 (2 ^ 54) })) ((p + 1) % 64)
    else (x, p)

/-- The entry put in a slot: what was translated through the slot's old entry keeps no name of it. -/
def Mason.putTpl (x : Mason) (slot : Nat) (e : TplEnt) : Mason :=
  { x with
    tpl := Tbl.put x.tpl slot e,
    outs := x.outs.map (fun o => { o with slots := o.slots.filter (fun k => decide (k ≠ slot)) }) }

/-- An entry placed (R249): the lowest invalid slot, else the clock's. -/
def Mason.placeTpl (x : Mason) (e : TplEnt) : Mason :=
  match (List.range 64).find? (fun k => !(Tbl.get x.tpl TplEnt.none k).valid) with
  | some k => x.putTpl k e
  | none =>
    let (y, p) := clockScan 64 x x.clock
    { y.putTpl p e with clock := (p + 1) % 64 }

/-- The words of an entry that TPL_WRITE takes (R290): VALID, a legal SIZE, reserved bits 0. -/
def tplGood (e : TplEnt) : Bool :=
  e.valid && decide (nfield e.w0.toNat 61 2 ≠ 3) && decide (nfield e.w0.toNat 48 6 = 0) &&
  decide (nfield e.w0.toNat 0 12 = 0) && decide (nfield e.w1.toNat 52 12 = 0) &&
  decide (nfield e.w1.toNat 0 12 = 0) && decide (nfield e.w2.toNat 52 12 = 0) && decide (nfield e.w2.toNat 0 3 = 0)

/-- Two entries' virtual ranges overlap (R250). -/
def tplMeets (a b : TplEnt) : Bool :=
  let k := max a.bits b.bits
  b.valid && decide (nfield a.w0.toNat k (48 - k) = nfield b.w0.toNat k (48 - k))

/-! Meanings. -/

/-- HPUSH.LO (R286). -/
def execHpushLo (m upset rd rs1 rs2 : Nat) (s : State) : Host.Outcome State Fault Refusal :=
  done (s.live fun s => s.hpush m upset rd rs1 rs2 0)

/-- HPUSH.HI (R286). -/
def execHpushHi (m upset rd rs1 rs2 : Nat) (s : State) : Host.Outcome State Fault Refusal :=
  done (s.live fun s => s.hpush m upset rd rs1 rs2 1)

/-- HPOP.LO (R286). -/
def execHpopLo (m upset rd rs1 rt : Nat) (s : State) : Host.Outcome State Fault Refusal :=
  done (s.live fun s => s.hpop m upset rd rs1 rt 0)

/-- HPOP.HI (R286). -/
def execHpopHi (m upset rd rs1 rt : Nat) (s : State) : Host.Outcome State Fault Refusal :=
  done (s.live fun s => s.hpop m upset rd rs1 rt 1)

/-- HCOUNT (R286): of any hod the build has. -/
def execHcount (m upset rd rs1 : Nat) (s : State) : Host.Outcome State Fault Refusal :=
  done (s.live fun s =>
    s.akRun m upset (encM 0x30 rd rs1 0 0 false 2) ignC ⟨[rd, rs1], []⟩ [] (fun t =>
      let h := ((t.mason m).reg rs1).toNat
      if ¬ t.hasHod h then t.akTrapHere m 0xF 0 h
      else t.akPut m rd (BitVec.ofNat 64 (t.hod h).count)))

/-- LOCK (R287, R288, R308); `upset` 6 is a parity error in a slot on the range (R315). DESIGN CHOICE (log 142): the
Keystone serves no Screed sequencer (R307), whose good LOCK is answered as one that it cannot grant. -/
def execLock (m upset rd rs1 rs2 : Nat) (also : List Nat) (s : State) (rivals : List KeyAsk := []) :
    Host.Outcome State Fault Refusal :=
  done (s.live fun s =>
    s.akRun m upset (encR 0x31 rd rs1 rs2 0) 0 ⟨[rd, rs1, rs2], []⟩ [s.vaOf m rs1 0] (fun t =>
      let x := t.mason m
      match x.lockAt (x.reg rs1).toNat (x.reg rs2).toNat with
      | .trap c sub v => t.akTrapHere m c sub v
      | .go ga _ =>
        if 192 ≤ m then t.akPut m rd (BitVec.ofNat 64 (lockResult 3 0 0)) else
        let u := if upset = 6 then t.lockUpset ga (x.reg rs2).toNat else t
        u.lockAll (m :: also) rivals))

/-- UNLOCK (R283 rule 7, R287, R288); `upset` 6 is a parity error in the slot (R315). -/
def execUnlock (m upset rd rs1 : Nat) (s : State) : Host.Outcome State Fault Refusal :=
  done (s.live fun s =>
    s.akRun m upset (encR 0x31 rd rs1 0 1) ignC ⟨[rd, rs1], []⟩ [] (fun t =>
      let slot := ((t.mason m).reg rs1).toNat
      let u := if upset = 6 then t.keyParity slot else t
      let busy : Bool := match Tbl.find u.key.slots slot with
        | some k => !k.torn && decide (k.kind = 0 ∧ k.owner = m) && u.lockBusy m k
        | none => false
      if busy then u.akStall m
      else
        let (v, ans) := u.keyUnlock 0 m slot
        v.akPut m rd (BitVec.ofNat 64 ans)))

/-- FENCE (R283 rule 5). -/
def execFence (m upset rd : Nat) (s : State) : Host.Outcome State Fault Refusal :=
  done (s.live fun s =>
    s.akRun m upset (encR 0x38 rd 0 0 0) (ignB + ignC) ⟨[rd], []⟩ [] (fun t =>
      if (t.mason m).outs ≠ [] then t.akStall m
      else t.modMason m (fun x =>
        let y := x.setReg rd (BitVec.ofNat 64 x.fenceCode)
        ({ y with faddr := (x.fence.map Prod.snd).getD x.faddr, fence := none }).goto (x.pc + 1))))

/-- ERET (R242). -/
def execEret (m upset : Nat) (s : State) : Host.Outcome State Fault Refusal :=
  done (s.live fun s =>
    s.akRun m upset (encR 0x38 0 0 0 1) (ignA + ignB + ignC) ⟨[], []⟩ [] (fun t => t.modMason m (fun x =>
      if x.nested then ({ x with nested := false }).goto (Tbl.get x.csr 0 3).toNat
      else ({ x with handler := false }).goto (Tbl.get x.csr 0 0).toNat)))

/-- TEND (R290, R291). -/
def execTend (m upset : Nat) (s : State) : Host.Outcome State Fault Refusal :=
  done (s.live fun s =>
    s.akRun m upset (encR 0x38 0 0 0 2) (ignA + ignB + ignC) ⟨[], []⟩ [] (fun t =>
      let x := t.mason m
      if x.handler then t.akTrapHere m 1 0 x.word else t.akTrap m 0xD 0 0 (x.pc + 1)))

/-- TRAP (R290, R291). -/
def execTrap (m upset rs1 : Nat) (s : State) : Host.Outcome State Fault Refusal :=
  done (s.live fun s =>
    s.akRun m upset (encR 0x38 0 rs1 0 3) (ignA + ignC) ⟨[rs1], []⟩ [] (fun t =>
      let x := t.mason m
      t.akTrap m 0xE 0 (x.reg rs1).toNat (x.pc + 1)))

/-- WAIT (R290): it ends by WAIT_EXPIRY, or at once where a halt is due (R294). -/
def execWait (m upset rs1 : Nat) (s : State) : Host.Outcome State Fault Refusal :=
  done (s.live fun s =>
    s.akRun m upset (encR 0x38 0 rs1 0 4) (ignA + ignC) ⟨[rs1], []⟩ [] (fun t => t.modMason m (fun x =>
      if x.haltDue ∨ x.dbgDue then x.goto (x.pc + 1)
      else { x with waitEnd := some (t.uptime + 64 * min 65535 (x.reg rs1).toNat), stalled := false })))

/-- WAIT_EXPIRY (R290). -/
def execWaitExpiry (m : Nat) (s : State) : Host.Outcome State Fault Refusal :=
  done (s.live fun s =>
    match (s.mason m).waitEnd with
    | some e => if e ≤ s.uptime then s.modMason m (fun x => (x.endWait).finish) else s
    | none => s)

/-- HALT (R290). -/
def execHalt (m upset : Nat) (s : State) : Host.Outcome State Fault Refusal :=
  done (s.live fun s =>
    s.akRun m upset (encR 0x38 0 0 0 5) (ignA + ignB + ignC) ⟨[], []⟩ [] (fun t => t.modMason m (fun x =>
      { x.goto (x.pc + 1) with st := 0 })))

/-- CSRR (R289). -/
def execCsrr (m upset rd n : Nat) (s : State) : Host.Outcome State Fault Refusal :=
  done (s.live fun s =>
    s.akRun m upset (encR 0x38 rd 0 n 8) ignB ⟨[rd], []⟩ [] (fun t => t.akPut m rd (t.csrGet m n)))

/-- CSRW (R289). -/
def execCsrw (m upset n rs1 : Nat) (s : State) : Host.Outcome State Fault Refusal :=
  done (s.live fun s =>
    s.akRun m upset (encR 0x38 0 rs1 n 9) ignA ⟨[rs1], []⟩ [] (fun t => t.modMason m (fun x =>
      (x.csrPut n (x.reg rs1)).goto (x.pc + 1))))

/-- TPL_WRITE (R247, R249, R250, R290). -/
def execTplWrite (m upset rs1 : Nat) (s : State) : Host.Outcome State Fault Refusal :=
  done (s.live fun s =>
    s.akRun m upset (encR 0x38 0 rs1 0 0x10) (ignA + ignC) ⟨[], [rs1]⟩ [] (fun t =>
      let x := t.mason m
      let v := x.line rs1
      let word (k : Nat) : BitVec 64 := BitVec.ofNat 64 (lineNat v.data (8 * k) 8)
      let e : TplEnt := ⟨word 0, word 1, word 2⟩
      if v.poison ∨ ¬ tplGood e then t.akTrapHere m 7 0 e.w0.toNat
      else if x.tpl.any (fun b => tplMeets e b.2) then t.akTrapHere m 6 0 e.w0.toNat
      else t.modMason m (fun y => (y.placeTpl (e.setBit 54)).goto (y.pc + 1))))

/-- TPL_INV (R253). -/
def execTplInv (m upset rs1 : Nat) (s : State) : Host.Outcome State Fault Refusal :=
  done (s.live fun s =>
    s.akRun m upset (encR 0x38 0 rs1 0 0x11) (ignA + ignC) ⟨[rs1], []⟩ [] (fun t => t.modMason m (fun x =>
      (x.dropTpl (fun e => e.hits (x.reg rs1).toNat)).goto (x.pc + 1))))

/-- TPL_INVALL (R253). -/
def execTplInvall (m upset : Nat) (s : State) : Host.Outcome State Fault Refusal :=
  done (s.live fun s =>
    s.akRun m upset (encR 0x38 0 0 0 0x12) (ignA + ignB + ignC) ⟨[], []⟩ [] (fun t => t.modMason m (fun x =>
      (x.dropTpl (fun _ => true)).goto (x.pc + 1))))

/-- TPL_SYNC (R253): it waits while a request translated through an invalidated entry is not yet answered. -/
def execTplSync (m upset : Nat) (s : State) : Host.Outcome State Fault Refusal :=
  done (s.live fun s =>
    s.akRun m upset (encR 0x38 0 0 0 0x13) (ignA + ignB + ignC) ⟨[], []⟩ [] (fun t =>
      if (t.mason m).outs.any (fun o => o.stale) then t.akStall m else t.akNext m))

/-- ILLEGAL_INSTRUCTION (R270): the word at the PC traps, or the PC has run past the store. -/
def execIllegalInstruction (m upset : Nat) (s : State) : Host.Outcome State Fault Refusal :=
  done (s.live fun s =>
    let x := s.mason m
    if ¬ s.hasEngine m ∨ ¬ x.ready then s
    else if 4096 ≤ x.pc then s.akTrapHere m 3 5 x.pc
    else if upset = 2 then s.masFault m 1
    else if akLegal x.word then s
    else (s.wordCorr m upset).akTrapHere m 1 0 x.word)

end Sys2Proof.Machine
end

