-- ==== Sys2Proof/Machine/Ports.lean ====
section
/-! DEFINITION. The Header ports (R49 to R76): request and write-data handshakes, completions, port states
and port faults. -/

namespace Sys2Proof.Machine

/-- The bits of `HDR_ERR`, by number. -/
def hdrErrBit (k : Nat) : Field :=
  match k with
  | 0 => HDR_ERR_TAG_DUP | 1 => HDR_ERR_REQ_PARITY | 2 => HDR_ERR_WD_PARITY | 3 => HDR_ERR_WD_ORDER
  | 4 => HDR_ERR_WD_EARLY | 5 => HDR_ERR_WD_TIMEOUT | 6 => HDR_ERR_CPL_STALL | _ => HDR_ERR_ABANDON

/-- The severity of a `HDR_ERR` bit (R71). -/
def hdrErrSev (k : Nat) : Nat := if k = 0 ∨ k = 6 then 0 else 2

/-- A command of port `n` lies in an HCLKn cycle of its own, or in that of the command before it (R70, R76). -/
def State.hclkCycle (s : State) (n : Nat) (same : Bool) : State :=
  if same then s else s.setPort n { s.port n with cycTags := [], capFresh := false }

/-- `HDR_ERR_CAP` takes error `k` of slot `slot` (R76): the first, or, among errors of one cycle, the lower bit,
and for one bit slot 0. -/
def State.hdrCapTakes (s : State) (n k slot : Nat) : Bool :=
  decide (s.rawF HDR_ERR_CAP_VALID n 0 0 ≠ 1) ||
  ((s.port n).capFresh && (decide (k < s.rawF HDR_ERR_CAP_KIND n 0 0) ||
    (decide (k = s.rawF HDR_ERR_CAP_KIND n 0 0) && decide (slot < s.rawF HDR_ERR_CAP_SLOT n 0 0))))

/-- A port error: its sticky bit, the capture (R76) and its report (R71). DESIGN CHOICE (log 121): the errors that
are no slot's own are captured with SLOT and TAG 0 (ABANDON), SLOT 0 and the completion's tag (CPL_STALL), and the
awaited request's slot and tag (WD_TIMEOUT); R76 does not say. -/
def State.hdrErr (s : State) (n k slot tag : Nat) (r : Option Req) : State :=
  let s1 := s.setBit (hdrErrBit k) n 0 0
  let s2 := if s1.hdrCapTakes n k slot then
      ((((s1.setBit HDR_ERR_CAP_VALID n 0 0).setF HDR_ERR_CAP_KIND n 0 0 k).setF HDR_ERR_CAP_SLOT n 0 0
        slot).setF HDR_ERR_CAP_TAG n 0 0 tag).setPort n { s1.port n with capFresh := true }
    else s1
  match r with
  | some q => s2.reportReq (72 + n) (hdrErrSev k) 0 k q
  | none => s2.reportUnit (72 + n) (hdrErrSev k) 0 0 k none

/-- ORDERED chains of port `n` that are open: their SIDs (R86). -/
def State.openChains (s : State) (n : Nat) : List Nat :=
  ((s.reqs.filter (fun r => decide (r.fromPort = some n) && r.ordered && r.hasEntry && !r.fixed)).map
    (fun r => r.sid)).dedup

/-- Incomplete FLUSHes of port `n` that the Mortar accepted (R84). -/
def State.openFlushes (s : State) (n : Nat) : Nat :=
  (s.reqs.filter (fun r => decide (r.fromPort = some n) && r.op == .flush && r.hasEntry && !r.status.isSome)).length

/-- Request `r` of port `n` carries ORDERED, its chain is not open, and all 512 chain heads are (R84). -/
def State.chainsFull (s : State) (n : Nat) (r : Req) : Bool :=
  r.ordered && !(s.openChains n).contains r.sid && decide (512 ≤ (s.openChains n).length)

/-- The Mortar cannot take the located request `r` of port `n` (R84). -/
def State.blockedBy (s : State) (n : Nat) (r : Req) : Bool :=
  decide (s.warm ≠ 0) || (s.partFor r.src r.dest).isNone || s.chainsFull n r ||
  (r.op == .flush && decide (64 ≤ s.openFlushes n)) ||
  s.noTag r.dest

/-- The request at the head of port `n`; a write that the port abandoned still goes on (R73). -/
def State.headOf (s : State) (n : Nat) : Option Req :=
  s.reqs.find? (fun r => decide (r.fromPort = some n) && decide (r.stage = .atPort))

/-- The head of port `n` blocks the port (R61, R84): of a request that is answered without an entry, the row of the
entries does not hold. -/
def State.headBlocked (s : State) (n : Nat) : Bool :=
  match s.headOf n with
  | none => false
  | some r => match s.locate r with
    | (some _, _) => decide (s.warm ≠ 0) || s.chainsFull n r
    | (none, r') => s.blockedBy n r'

/-- `hdrn_req_ready` (R61, R64, R84). -/
def State.reqReady (s : State) (n : Nat) : Bool :=
  let p := s.port n
  !p.stopped && (decide (p.st = 1) || decide (p.st = 3)) && decide (s.outstanding n < p.reqCredits) &&
  !s.headBlocked n && decide (s.warm = 0)

/-- The request a slot carries. -/
def State.slotReq (s : State) (p : PReq) (op : Op) (rid : Nat) : Req :=
  { Req.blank rid (.port p.port) op with
    size := p.size, addr := p.addr, tag := p.tag, sid := p.sid, qid := p.qid, priv := p.priv,
    ns := p.ns, attr := p.attr, col := colourOf p.col,
    walk := (op.isRead && p.attr.testBit 1) || op == .setad, tAccept := s.uptime }

/-- A request answered at its port: it takes no tracker entry (R69, R82). -/
def Req.answered (r : Req) (st : Status) : Req :=
  { r with status := some st, performed := true, stage := .answeredAtPort }

/-- A new request of port `n` that is answered at once: its completion takes its turn for the stage. -/
def State.answerAtPort (s : State) (n : Nat) (r : Req) (st : Status) : State := (s.addReq (r.answered st)).stageMove n

/-- One request slot at the handshake (R61, R69 steps 1 to 3, R70). `op` is none for a reserved opcode
`code`. -/
def State.acceptSlot (s : State) (p : PReq) (op : Option Op) (code : Nat) : State :=
  let n := p.port
  let (s0, rid) := s.newRid
  let r0 := { s0.slotReq p (op.getD .flush) rid with peerTag := code }
  let (s1, tg) := (s0.count 0x40 0 r0.ev).sampleTag n r0.ev
  let r := { r0 with tagRec := tg }
  let dup := s.reqs.any (fun q => decide (q.src = .port n) && decide (q.tag = p.tag)) ||
    (s.port n).cycTags.contains p.tag
  let fenced := decide ((s.port n).st = 3)
  let parErr := p.parBad ((op.map Op.code).getD code)
  let malformed := parErr || (match op with
    | none => true | some o => !o.wellFormed p.size p.addr p.attr)
  let s2 := if dup then s1.hdrErr n 0 p.slot p.tag (some r) else s1
  let s3 := if parErr then s2.hdrErr n 1 p.slot p.tag (some r) else s2
  let q := s3.port n
  let data := (op.map Op.dataBearing).getD false
  let s4 := s3.setPort n { q with
    pairOpen := p.two && decide (p.slot = 0),
    awaits := if data then q.awaits ++ [⟨rid, p.tag, p.slot, s.uptime, false⟩] else q.awaits }
  if dup then s4.answerAtPort n r .retiredTag
  else if fenced then s4.answerAtPort n r .fenced
  else if malformed then s4.answerAtPort n r .decodeErr
  else s4.addReq r

/-- A request transfer's slot: slot 1 of a transfer whose slot 0 was accepted follows it (R49, R61). -/
def State.portReq (s : State) (p : PReq) (op : Option Op) (code : Nat) : State :=
  let follows := (s.port p.port).pairOpen && decide (p.slot = 1)
  s.whenTrue (decide (p.port < 12) && (follows || (!(s.port p.port).pairOpen && s.reqReady p.port)))
    (fun s => (s.hclkCycle p.port (p.same || follows)).acceptSlot p op code)

/-- A write-data slot that joins its request (R63, R68, R93). -/
def State.joinData (s : State) (w : WSlot) (rid : Nat) : State :=
  ((s.req rid).elim s (fun r => s.storageUpset 1 w.upset r)).modReq rid (fun r => if r.status.isSome then r else { r with
    data := some w.data, mask := w.mask, wpoison := w.poison,
    wparity := w.parBad || decide (w.upset = 2), inBuf := true })

/-- A write-data slot (R61, R63, R68): while the port is FENCED discarded unchecked, else checked for parity and
against the oldest request that awaits data. DESIGN CHOICE (log 153): a slot discarded while FENCED is taken for the
oldest one awaited, whatever its tag, and UNFENCE forgets what the fence stopped awaiting. -/
def State.writeSlot (s : State) (w : WSlot) : State :=
  let n := w.port
  let q := s.port n
  let r := (q.awaits.head?).elim none (fun a => s.req a.rid)
  let s1 := (s.count 0x42 0 ((r.map Req.ev).getD Ev.nothing)).setPort n { q with
    wdPair := w.two && decide (w.slot = 0), wdTaken := q.wdTaken + 1,
    awaits := if q.st = 3 ∨ (q.awaits.head?).any (fun a => decide (a.tag = w.tag)) then q.awaits.drop 1 else q.awaits }
  if q.st = 3 then s1
  else
    let known := if (q.awaits.head?).any (fun a => decide (a.tag = w.tag)) then r else none
    let s2 := if w.parBad then s1.hdrErr n 2 w.slot w.tag known else s1
    match q.awaits with
    | [] => ((s2.hdrErr n 4 w.slot w.tag none).fencePort n).settle
    | a :: _ =>
      if a.tag = w.tag then (s2.joinData w a.rid).settle
      else ((s2.hdrErr n 3 w.slot w.tag none).fencePort n).settle

/-- `hdrn_wd_ready` (R61 rule 4). -/
def State.wdReady (s : State) (n : Nat) : Bool := !(s.port n).stopped && decide (0 < s.wdFree n)

/-- WRITE_DATA_SLOT (R63): slot 1 of a transfer whose slot 0 was accepted follows it (R49). -/
def execWriteDataSlot (w : WSlot) (s : State) : Host.Outcome State Fault Refusal :=
  done (s.live (fun s =>
    let follows := (s.port w.port).wdPair && decide (w.slot = 1)
    s.whenTrue (decide (w.port < 12) && (follows || (!(s.port w.port).wdPair && s.wdReady w.port)))
      (fun s => (s.hclkCycle w.port (w.same || follows)).writeSlot w)))

/-- A limit of `HDR_CREDIT_CFG` in ns. -/
def usOf (n : Nat) : Nat := n * 1000

/-- WD_TIMEOUT (R63, R71): the oldest awaited data is overdue; the port checks while it is not FENCED. -/
def execWdTimeout (port : Nat) (s : State) : Host.Outcome State Fault Refusal :=
  done (s.live (fun s =>
    match (s.port port).awaits with
    | a :: _ =>
      s.whenTrue (decide ((s.port port).st ≠ 3) &&
          decide (a.since + usOf (max 1 (s.fld HDR_CREDIT_CFG_WD_LIMIT port 0 0)) ≤ s.uptime))
        (fun s => ((((s.hclkCycle port false).hdrErr port 5 a.slot a.tag (s.req a.rid)).fix a.rid .fenced 0).fencePort
          port).settle)
    | [] => s))

/-- The parity bits of a completion slot (R51, R52). -/
def cplPar (onRead : Bool) (tag status data : Nat) : Nat :=
  let p := b2n (oddPar (onesOf 12 tag + onesOf 4 status))
  if onRead then groupPar data 0 + p * 2 ^ 16 else p

/-- The completion slot of a request. -/
def Req.completion (r : Req) : CplSlot :=
  let st := (r.status.map Status.code).getD 0
  let d : BitVec 512 := if r.onRead then r.rdata else 0
  ⟨b2n r.onRead, r.tag, st, d, cplPar r.onRead r.tag st d.toNat⟩

/-- The fabric takes the completion of request `r` of port `n` (R61, R82). -/
def State.accepted (s : State) (n : Nat) (r : Req) (upset : Nat) : State :=
  let s1 := s.storageUpset 2 upset r
  let r' := if upset = 2 then r.spoil else r
  let s2 := if r'.onRead then s1.count 0x41 0 r'.ev else s1
  let s3 := if (r'.status.map Status.good).getD true then s2 else s2.count 0x43 0 r'.ev
  let p := s3.port n
  let s4 := s3.setPort n { p with
    lastCpl := r'.completion, cycTags := p.cycTags ++ [r.tag],
    stalled := p.stalled.filter (fun k => decide (k ≠ r.rid)) }
  (((s4.tagDone r' false).dropReq r.rid).stageMove n).settle

/-- The completion is offered on its channel: it stands in the completion stage. -/
def State.offering (s : State) (n rid : Nat) : Option Req :=
  (s.req rid).filter (fun r => decide (r.src = .port n) && r.status.isSome && r.staged)

/-- COMPLETION_ACCEPTED (R61, R82). -/
def execCompletionAccepted (port rid upset : Nat) (s : State) (same : Bool := false) : Host.Outcome State Fault Refusal :=
  done (s.live (fun s =>
    match s.offering port rid with
    | some r => s.whenTrue (!(s.port port).stopped) (fun s => (s.hclkCycle port same).accepted port r upset)
    | none => s))

/-- CPL_STALL (R71): reported once for a completion. -/
def execCplStall (port rid : Nat) (s : State) : Host.Outcome State Fault Refusal :=
  done (s.live (fun s =>
    let lim := s.fld HDR_CREDIT_CFG_STALL_LIMIT port 0 0
    match s.offering port rid with
    | some r =>
      s.whenTrue (decide (lim ≠ 0 ∧ r.offered + usOf lim ≤ s.uptime) && !(s.port port).stalled.contains rid)
        (fun s => ((s.hclkCycle port false).setPort port
          { (s.hclkCycle port false).port port with stalled := rid :: (s.port port).stalled }).hdrErr port 6 0 r.tag
            (some r))
    | none => s))

/-- `HDR_CTRL.OPEN` written (R64, R72); the first write of 1 in boot step 0111 ends the bring-up (R405). -/
def State.portOpen (s : State) (n : Nat) (v : Nat) : State :=
  let s0 := if v = 1 ∧ s.rawF BLK_BOOT_STEP 0 0 0 = 7 then s.setF BLK_BOOT_STEP 0 0 0 8 else s
  let s1 := s0.setF HDR_CTRL_OPEN n 0 0 v
  let p := s1.port n
  if v = 1 ∧ p.st = 0 then s1.enterOpen n
  else if v = 0 ∧ p.st = 1 then (s1.setPort n { p with st := 2 }).drainCheck n
  else s1

/-- `HDR_CTRL.FENCE` written 1, or a port fault (R64, R65). -/
def State.portFence (s : State) (n : Nat) : State := (s.fencePort n).settle

/-- `HDR_CTRL.UNFENCE` written 1 (R64); after a stop of HCLKn, once it has run within range for 1 µs (R73), and,
DEDUCED (log 65), once the port holds no write data, as CLOSED implies. Data that the fence stopped awaiting is forgotten
(DESIGN CHOICE, log 153). -/
def State.portUnfence (s : State) (n : Nat) : State :=
  let p := s.port n
  if p.st = 3 ∧ s.outstanding n = 0 ∧ s.wdHeld n = 0 ∧ ¬ p.stopped then
    (s.setPort n { p with st := 0, awaits := p.awaits.filter (fun a => !a.dropped) }).setF HDR_CTRL_OPEN n 0 0 0
  else s

/-- A write that is performed though its port abandoned it (R73): accepted, with no data still to come. -/
def Req.goesOn (r : Req) : Bool :=
  r.op == .wrZero || (r.op.dataBearing && r.data.isSome) || (r.hasEntry && !(r.op == .flush) && !r.op.dataBearing)

/-- HCLKn stops on an open port (R73): completions are discarded, requests that await data dropped, writes
whose data has arrived performed, and nothing stays outstanding. -/
def State.abandon (s : State) (n : Nat) : State :=
  let p := s.port n
  let mine := s.reqs.filter (fun r => decide (r.src = .port n))
  let s1 := s.setPort n { p with
    st := 3, clkOk := false, stopped := true, abandoned := true, clkSince := s.uptime, awaits := [], pairOpen := false,
    wdPair := false, stalled := [], cycTags := [], capFresh := false }
  let s2 := mine.foldl (fun t r =>
    let t1 := t.tagDone r true
    if r.status.isNone ∧ r.goesOn then t1.modReq r.rid (fun q => { q with src := .lost n, tagRec := none })
    else ((t1.untag r.rid).rrDropAll r.rid).dropReq r.rid) s1
  (s2.hdrErr n 7 0 0 none).settle

/-- PORT_OPEN (R64). -/
def execPortOpen (port : Nat) (s : State) : Host.Outcome State Fault Refusal :=
  done (s.host (fun s => s.whenTrue (decide (port < 12)) (fun s => s.portOpen port 1)))

/-- PORT_DRAIN (R64). -/
def execPortDrain (port : Nat) (s : State) : Host.Outcome State Fault Refusal :=
  done (s.host (fun s => s.whenTrue (decide (port < 12)) (fun s => s.portOpen port 0)))

/-- PORT_FENCE (R65). -/
def execPortFence (port : Nat) (s : State) : Host.Outcome State Fault Refusal :=
  done (s.host (fun s => s.whenTrue (decide (port < 12)) (fun s => s.portFence port)))

/-- PORT_UNFENCE (R64, R73). -/
def execPortUnfence (port : Nat) (s : State) : Host.Outcome State Fault Refusal :=
  done (s.host (fun s => s.whenTrue (decide (port < 12)) (fun s => s.portUnfence port)))

/-- A port request of opcode `op`. -/
def portRow (op : Op) (p : PReq) (s : State) : Host.Outcome State Fault Refusal :=
  done (s.live (fun s => s.portReq p (some op) 0))

/-- RD_LINE at a port (R53). -/
def execRdLine (p : PReq) (s : State) : Host.Outcome State Fault Refusal := portRow .rdLine p s

/-- RD_PART at a port (R53, R56). -/
def execRdPart (p : PReq) (s : State) : Host.Outcome State Fault Refusal := portRow .rdPart p s

/-- WR_LINE at a port (R53). -/
def execWrLine (p : PReq) (s : State) : Host.Outcome State Fault Refusal := portRow .wrLine p s

/-- WR_PART at a port (R53). -/
def execWrPart (p : PReq) (s : State) : Host.Outcome State Fault Refusal := portRow .wrPart p s

/-- WR_ZERO at a port (R53). -/
def execWrZero (p : PReq) (s : State) : Host.Outcome State Fault Refusal := portRow .wrZero p s

/-- AT_ADD at a port (R55). -/
def execAtAdd (p : PReq) (s : State) : Host.Outcome State Fault Refusal := portRow .atAdd p s

/-- AT_OR at a port (R55). -/
def execAtOr (p : PReq) (s : State) : Host.Outcome State Fault Refusal := portRow .atOr p s

/-- AT_AND at a port (R55). -/
def execAtAnd (p : PReq) (s : State) : Host.Outcome State Fault Refusal := portRow .atAnd p s

/-- AT_XOR at a port (R55). -/
def execAtXor (p : PReq) (s : State) : Host.Outcome State Fault Refusal := portRow .atXor p s

/-- AT_SWAP at a port (R55). -/
def execAtSwap (p : PReq) (s : State) : Host.Outcome State Fault Refusal := portRow .atSwap p s

/-- AT_CAS at a port (R55). -/
def execAtCas (p : PReq) (s : State) : Host.Outcome State Fault Refusal := portRow .atCas p s

/-- AT_MIN at a port (R55). -/
def execAtMin (p : PReq) (s : State) : Host.Outcome State Fault Refusal := portRow .atMin p s

/-- AT_MAX at a port (R55). -/
def execAtMax (p : PReq) (s : State) : Host.Outcome State Fault Refusal := portRow .atMax p s

/-- AT_UMIN at a port (R55). -/
def execAtUmin (p : PReq) (s : State) : Host.Outcome State Fault Refusal := portRow .atUmin p s

/-- AT_UMAX at a port (R55). -/
def execAtUmax (p : PReq) (s : State) : Host.Outcome State Fault Refusal := portRow .atUmax p s

/-- SETAD at a port (R53). -/
def execSetad (p : PReq) (s : State) : Host.Outcome State Fault Refusal := portRow .setad p s

/-- FLUSH at a port (R53, R87). -/
def execFlush (p : PReq) (s : State) : Host.Outcome State Fault Refusal := portRow .flush p s

/-- RESERVED_OPCODE (R53): answered DECODE_ERR on the response channel, no data awaited. -/
def execReservedOpcode (p : PReq) (code : Nat) (s : State) : Host.Outcome State Fault Refusal :=
  done (s.live (fun s => s.portReq p none code))

end Sys2Proof.Machine
end

