-- ==== Sys2Proof/Machine/Mortar.lean ====
section
/-! DEFINITION. The Mortar's own commands (R81 to R97): admission, FLUSH completion, handshake stalls and
derating. -/

namespace Sys2Proof.Machine

/-- The requests a FLUSH waits for: earlier, in scope, status not fixed (R87). -/
def State.flushWaits (s : State) (f : Req) : List Nat :=
  ((s.before f.rid).filter (fun e => flushScope f e && !e.fixed && e.hasEntry)).map (fun e => e.rid)

/-- A located request takes an entry of partition `c`. A bad entry is answered POISON; a FLUSH in one
completes so once its count is zero (R87, R93, R95). `upset` 3: the hod it reaches has a pointer
mismatch (R303). `rivals` are the lock requests that reach the Keystone with its own (R308). -/
def State.enter (s : State) (r : Req) (c upset : Nat) (rivals : List KeyAsk) : State :=
  let r' := { r with entryBad := decide (upset = 2), ptrBad := decide (upset = 3), rivals := rivals }
  let s1 := ((s.modReq r.rid (fun _ => r')).toEnd r.rid).alloc r.rid c
  let s2 := s1.modReq r.rid (fun q => { q with waits := if q.op = .flush then s1.flushWaits q else [] })
  let s3 := s2.storageUpset 0 upset r'
  (if upset = 2 ∧ r.op ≠ .flush then s3.fix r.rid .poison 0 else s3).settle

/-- The head of port `n` judged (R82, R84): none is accepted from step 1 of a warm reset on, and one that is answered
without an entry is held by a full set of ORDERED chains too. DESIGN CHOICE (log 152): a
head that waits under R84 is decoded afresh at each MORTAR_ADMIT. -/
def State.admitHead (s : State) (n upset : Nat) (rivals : List KeyAsk) : State :=
  match (if s.warm = 0 then s.headOf n else none) with
  | none => s
  | some r =>
    match s.locate r with
    | (some st, _) =>
      if s.chainsFull n r then s
      else
      let s1 := if st = .remoteTimeout then s else s.count 0x44 0 r.ev
      (s1.fix r.rid st 0).settle
    | (none, r') =>
      if s.blockedBy n r' then s
      else match s.partFor r'.src r'.dest with
        | none => s
        | some c => s.enter r' c upset rivals

/-- MORTAR_ADMIT (R84). -/
def execMortarAdmit (port upset : Nat) (s : State) (rivals : List KeyAsk := []) : Host.Outcome State Fault Refusal :=
  done (s.live (fun s => s.whenTrue (decide (port < 12)) (fun s => s.admitHead port upset rivals)))

/-- The FLUSH's count is zero, and earlier FLUSHes of overlapping scope are complete (R87). -/
def State.flushReady (s : State) (f : Req) : Bool :=
  f.op == .flush && !f.status.isSome && f.hasEntry &&
  f.waits.all (fun k => ((s.req k).map Req.fixed).getD true) &&
  !(s.before f.rid).any (fun e => e.op == .flush && !e.status.isSome && e.hasEntry &&
    decide (e.fromPort = f.fromPort) &&
    (e.attr.testBit 3 || f.attr.testBit 3 || decide (e.sid = f.sid)))

/-- FLUSH_COMPLETE (R87, R95). -/
def execFlushComplete (rid : Nat) (s : State) : Host.Outcome State Fault Refusal :=
  done (s.live (fun s =>
    match s.req rid with
    | none => s
    | some f => s.whenTrue (s.flushReady f)
        (fun s => (s.fix rid (if f.entryBad then .poison else .ok) 0).settle)))

/-- The handshake class in which a request stands (R77). DESIGN CHOICE (log 122): the spec does not say how a stalled
transaction's place picks the class; it is read off the request's stage and the place of its data. -/
def Req.handshakeClass (r : Req) : Nat :=
  if r.status.isSome then 2
  else match r.dest with
    | .remote _ => if r.stage = .issued then 3 else if r.inBuf then 1 else 0
    | _ => if r.inBuf ∨ r.inStore then 1 else 0

/-- HANDSHAKE_STALL (R93): the transaction is lost, and a FATAL report is made. -/
def execHandshakeStall (rid : Nat) (s : State) : Host.Outcome State Fault Refusal :=
  done (s.live (fun s =>
    match s.req rid with
    | none => s
    | some r =>
      let k := r.handshakeClass
      let s1 := (s.orF MOR_ERR_STALL 0 0 0 (2 ^ k)).reportReq (86 + k) 3 1 (8 + k) r
      (((((s1.releaseStore r).untag rid).rrDropAll rid).tagDone r true).dropReq rid).settle))

/-- VDD_CORE as the core senses it, in mV (`MOR_STATUS.VCORE_MV`). -/
def State.senseVdd (s : State) (mv : Nat) : State := s.setF MOR_STATUS_VCORE_MV 0 0 0 mv

/-- DERATE_SET (R91): at VDD_CORE `vdd` mV, sensed as `mv`, the measured capacity fell below 3,379.2 GB/s; never from
720 mV up. -/
def execDerateSet (s : State) (vdd : Nat := 700) (mv : Nat := 700) : Host.Outcome State Fault Refusal :=
  done (s.live (fun s => s.whenTrue (decide (vdd < 720)) (fun s =>
    ((s.senseVdd mv).setBit MOR_STATUS_DERATE 0 0 0).setBit MOR_STATUS_DERATE_SEEN 0 0 0)))

/-- DERATE_CLEAR (R91), VDD_CORE sensed as `mv` mV. -/
def execDerateClear (s : State) (mv : Nat := 700) : Host.Outcome State Fault Refusal :=
  done (s.live (fun s => (s.senseVdd mv).setF MOR_STATUS_DERATE 0 0 0 0))

/-- The first measurement after a reset (R96): VDD_CORE `vdd` mV, sensed as `mv`; `low` says that the capacity fell below
the limit of R91, which it never does from 720 mV up. -/
def State.firstMeasure (s : State) (low : Bool) (vdd mv : Nat) : State :=
  let s1 := s.senseVdd mv
  if low ∧ vdd < 720 then (s1.setBit MOR_STATUS_DERATE 0 0 0).setBit MOR_STATUS_DERATE_SEEN 0 0 0
  else s1.setF MOR_STATUS_DERATE 0 0 0 0

/-- `MOR_CTRL.PEAK_CLR` written 1 (R96): the highest occupancy since is the present one. -/
def State.peakClr (s : State) : State :=
  (List.range s.build).foldl (fun t c => t.setF MOR_PART_STATUS_PEAK c 0 0 (s.occ c)) s

/-- PEAK_CLR (R96). -/
def execPeakClr (s : State) : Host.Outcome State Fault Refusal := done (s.host State.peakClr)

end Sys2Proof.Machine
end

