-- ==== Sys2Proof/Machine/Setter.lean ====
section
/-! DEFINITION. The Setter of a channel (R113 to R135): costs, gauge meters and colours, queues, the choice
among queues, refresh windows, and latency sampling. -/

namespace Sys2Proof.Machine

/-! Meters. -/

/-- The cost of a request in bytes (R114). -/
def Req.cost (r : Req) : Nat := (if r.op.isRmw then 128 else 64) * max 1 r.lines.length

/-- CIR, or PIR raised to CIR (R115). -/
def Meter.peak (m : Meter) : Nat := max m.pir m.cir

/-- CBS in 1/256 bytes; 0 is used as 1 (R115). -/
def Meter.cbsB (m : Meter) : Int := max 1 m.cbs * 16384

/-- PBS in 1/256 bytes, at least CBS (R115). -/
def Meter.pbsB (m : Meter) : Int := max m.cbsB (max 1 m.pbs * 16384)

/-- A meter at reset parameters with full buckets (R134). -/
def Meter.init : Meter := ⟨0xFFFFFF, 0xFFFFFF, 0xFFFFF, 0xFFFFF, 0, 0xFFFFF * 16384, 0xFFFFF * 16384⟩

/-- Both buckets full (R120). -/
def Meter.fill (m : Meter) : Meter := { m with tc := m.cbsB, tp := m.pbsB }

/-- `n` refill ticks (R116). -/
def Meter.tick (m : Meter) (n : Nat) : Meter :=
  { m with tc := min (m.tc + n * m.cir) m.cbsB, tp := min (m.tp + n * m.peak) m.pbsB }

/-- Balances and debts cut to the sizes in force (R121). -/
def Meter.cut (m : Meter) : Meter :=
  { m with tc := max (min m.tc m.cbsB) (-m.pbsB), tp := max (min m.tp m.pbsB) (-m.pbsB) }

/-- The mode a meter runs in: 0 OFF, 1 BLIND, 2 AWARE (R117). -/
def State.meterMode (s : State) (c : Nat) (m : Meter) : Nat :=
  let p := s.sel 4 GAU_CTRL_PROFILE c
  let prof := if p = 1 then 1 else if p = 2 then 2 else 0
  if s.expert 4 then (match m.mode with | 0 => prof | k => k - 1) else prof

/-- The colour of a request of cost `b` bytes, and the meter after it (R116, R118). -/
def Meter.colour (m : Meter) (mode b : Nat) (pre : Colour) : Meter × Colour :=
  if mode = 0 then (m, .green)
  else
    let pc := if mode = 2 then pre else .uncoloured
    let b' : Int := b * 256
    let tp' := max (m.tp - b') (-m.pbsB)
    if pc = .red ∨ m.tp ≤ 0 then (m, .red)
    else if pc = .yellow ∨ m.tc ≤ 0 then ({ m with tp := tp' }, .yellow)
    else ({ m with tp := tp', tc := max (m.tc - b') (-m.pbsB) }, .green)

/-- Meter `q` of channel `c`. -/
def State.meter (s : State) (c q : Nat) : Meter := Tbl.get (s.chan c).set.meters Meter.init q

/-- Meter `q` of channel `c` set. -/
def State.setMeter (s : State) (c q : Nat) (m : Meter) : State :=
  s.modChan c (fun x => { x with set := { x.set with meters := Tbl.set x.set.meters Meter.init q m } })

/-- REFILL_TICK (R115, R116): one tick for each multiple of 100 ns of uptime since the last, in every meter. -/
def execRefillTick (s : State) : Host.Outcome State Fault Refusal :=
  done (s.live (fun s =>
    (List.range s.build).foldl (fun t c =>
      if t.uptime / 100 ≤ (t.chan c).set.lastTick then t
      else t.modChan c (fun x => { x with set := { x.set with
        lastTick := t.uptime / 100,
        meters := Tbl.mapSet (fun _ => Meter.init) (fun _ m => m.tick (t.uptime / 100 - x.set.lastTick)) x.set.meters } })) s))

/-- A fill of meter `q` of channel `c` (R120). -/
def State.gauRefill (s : State) (c : Nat) : State :=
  let q := s.rawF GAU_SEL_QID c 0 0
  s.setMeter c q (s.meter c q).fill

/-- A fill of every meter of channel `c` (R120). -/
def State.gauRefillAll (s : State) (c : Nat) : State :=
  s.modChan c (fun x => { x with set := { x.set with
    meters := Tbl.mapSet (fun _ => Meter.init) (fun _ m => m.fill) x.set.meters } })

/-- GAU_REFILL (R120). -/
def execGauRefill (chan : Nat) (s : State) : Host.Outcome State Fault Refusal :=
  done (s.host (fun s => s.whenTrue (s.hasChan chan) (fun s => s.gauRefill chan)))

/-- GAU_REFILL_ALL (R120). -/
def execGauRefillAll (chan : Nat) (s : State) : Host.Outcome State Fault Refusal :=
  done (s.host (fun s => s.whenTrue (s.hasChan chan) (fun s => s.gauRefillAll chan)))

/-- The clamp bits after a meter write, and the first clamp's meter (R115). -/
def State.gauErr (s : State) (c q : Nat) (m : Meter) : State :=
  let rate := decide (m.pir < m.cir)
  let burst := decide (m.pbs < m.cbs) || decide (m.cbs = 0) || decide (m.pbs = 0)
  let clear := s.rawF GAU_ERR_RATE_CLAMP c 0 0 = 0 ∧ s.rawF GAU_ERR_BURST_CLAMP c 0 0 = 0
  let s1 := if (rate || burst) ∧ clear then s.setF GAU_ERR_QID c 0 0 q else s
  let s2 := if rate then s1.setBit GAU_ERR_RATE_CLAMP c 0 0 else s1
  if burst then s2.setBit GAU_ERR_BURST_CLAMP c 0 0 else s2

/-- A write of `GAU_RATE` for the selected meter (R121, R135). -/
def State.gauRate (s : State) (c : Nat) (w : RegW) : State :=
  let q := s.rawF GAU_SEL_QID c 0 0
  let m := s.meter c q
  let m' := { m with
    cir := w.merge GAU_RATE_CIR m.cir, pir := w.merge GAU_RATE_PIR m.pir,
    mode := if s.expert 4 then w.merge GAU_RATE_MODE m.mode else 0 }
  (s.setMeter c q m').gauErr c q m'

/-- A write of `GAU_BURST` for the selected meter (R121, R135). -/
def State.gauBurst (s : State) (c : Nat) (w : RegW) : State :=
  let q := s.rawF GAU_SEL_QID c 0 0
  let m := s.meter c q
  let m' := ({ m with
    cbs := w.merge GAU_BURST_CBS m.cbs, pbs := w.merge GAU_BURST_PBS m.pbs }).cut
  (s.setMeter c q m').gauErr c q m'

/-- GAU_RATE_WRITE (R121). -/
def execGauRateWrite (chan : Nat) (w : RegW) (s : State) : Host.Outcome State Fault Refusal :=
  done (s.host (fun s => s.whenTrue (s.hasChan chan) (fun s => s.gauRate chan w)))

/-- GAU_BURST_WRITE (R121). -/
def execGauBurstWrite (chan : Nat) (w : RegW) (s : State) : Host.Outcome State Fault Refusal :=
  done (s.host (fun s => s.whenTrue (s.hasChan chan) (fun s => s.gauBurst chan w)))

/-- `GAU_STATE` of the selected meter: whole bytes, two's complement, fraction dropped. -/
def balance32 (x : Int) : Nat := ((x / 256) % (2 ^ 32 : Int)).toNat

/-! Queues. -/

/-- The queue of a colour (R122), from the green queue of the QID. -/
def queueOf (green : Nat) : Colour → Nat
  | .red => 16
  | .yellow => if green < 4 then 4 else min 15 (green + 1)
  | _ => green

/-- A request enters the Setter of channel `c` (R113): coloured, charged to its meter and queued. -/
def State.enqueue (s : State) (r : Req) (c : Nat) : State :=
  let m := s.meter c r.qid
  let (m', col) := m.colour (s.meterMode c m) r.cost r.col
  let q := queueOf (Tbl.get (s.chan c).set.qidClass 4 r.qid) col
  let s1 := if m' = m then s else s.setMeter c r.qid m'
  let r' := { r with
    colour := col, queue := q, stage := .queued, tEnq := s.uptime, charged := false, bypassed := 0,
    tagRec := r.tagRec.map (fun t => { t with enq := some s.uptime }) }
  let code := match col with | .green => 2 | .yellow => 3 | .red => 4 | .uncoloured => 0
  (((s1.modReq r.rid (fun _ => r')).count 1 c r'.ev).count code c r'.ev)

/-- SETTER_ENQUEUE (R113): at a channel that does not serve, FENCED (R69 step 11); in a bad entry, POISON
(R93). `upset` 1 and 2 are errors of the tracker entry, 3 and 4 of the write-data storage its data came through, from
any source: Mason and Bond write stages and the channel write store among them. -/
def execSetterEnqueue (rid upset : Nat) (s : State) : Host.Outcome State Fault Refusal :=
  done (s.live (fun s =>
    match s.req rid with
    | none => s
    | some r =>
      match r.dest with
      | .local c =>
        s.whenTrue (s.enqueueReady r) (fun s =>
          let bad := decide (upset = 4) && r.data.isSome
          let s1 := if upset < 3 then s.storageUpset 0 upset r
            else if r.data.isSome then s.storageUpset 1 (upset - 2) r else s
          if upset = 2 then (s1.fix rid .poison 0).settle
          else if ¬ s1.chanUp c ∧ ¬ (s1.drainsOut c ∧ r.served) then (s1.fix rid .fenced 0).settle
          else s1.enqueue { r with wparity := r.wparity || bad } c)
      | _ => s))

/-- The request stands in a Setter queue of channel `c`. DEDUCED (log 123): it leaves the queue with its last command,
so a read-modify-write between its halves is still there: its write half is issued when its queue is next chosen
(R125). -/
def Req.inSetter (r : Req) (c : Nat) : Bool :=
  r.onChan c && (decide (r.stage = .queued) || decide (r.stage = .issued)) &&
  !(r.colour == .uncoloured) && !r.status.isSome && r.lines.any (fun l => l.open_ r)

/-- Requests in queue `q` of channel `c`, oldest entry first. -/
def State.inQ (s : State) (c q : Nat) : List Req :=
  s.reqs.filter (fun r => r.inSetter c && decide (r.queue = q))

/-- DEPTH of queue `q` (`SET_CLASS_TABLE`). -/
def State.qDepth (s : State) (c q : Nat) : Nat := (s.inQ c q).length

/-- The age in ns of the oldest request of a queue; 0 when empty (R132). -/
def State.qAge (s : State) (c q : Nat) : Nat :=
  (s.inQ c q).foldl (fun a r => max a (s.uptime - r.tEnq)) 0

/-- The weight of W `i` (R126): 0 is used as 1. -/
def State.weight (s : State) (c i : Nat) : Nat := max 1 (s.fld SET_CLASS_TABLE_WEIGHT c (4 + i) 0)

/-- QUEUE_SAMPLE (R132): depth and age of every queue to the Datestone. -/
def State.sampleQueues (s : State) (c : Nat) : State :=
  let s1 := (List.range 17).foldl (fun t q =>
    (t.extreme (4 * (10 * c + 1) + 2 * q) false (t.qDepth c q)).extreme
      (4 * (10 * c + 1) + 2 * q + 1) false (t.qAge c q)) s
  s1.histAdd c (128 + depthBin (s1.dstUnit DST_HIST_CFG_DEPTH_UNIT)
    ((List.range 17).map (s1.qDepth c)).sum)

/-- QUEUE_SAMPLE (R132): at the first RCLK edge at or past each multiple of 256 ns. -/
def execQueueSample (s : State) : Host.Outcome State Fault Refusal :=
  done (s.live (fun s =>
    (List.range s.build).foldl (fun t c =>
      if t.uptime / 256 ≤ (t.chan c).set.lastSample then t
      else (t.modChan c (fun x => { x with set := { x.set with lastSample := t.uptime / 256 } })).sampleQueues c)
      s))

/-! The choice among queues. -/

/-- The state of the deficit round robin: deficits, `added` marks, pointer (R125). -/
structure Drr where
  deficit : Tbl Nat
  added : List Nat
  ptr : Nat
  deriving DecidableEq, Repr

/-- `advance()` of R125. -/
def Drr.advance (d : Drr) : Drr :=
  { d with added := d.added.filter (fun i => decide (i ≠ d.ptr)), ptr := (d.ptr + 1) % 12 }

/-- `drr_choose()` of R125 over what each queue holds: `has i`, `ready i`, and the charge of its next
request. `fuel` bounds the visits. -/
def Drr.choose (has ready : Nat → Bool) (charge weight : Nat → Nat) : Nat → Drr → Drr × Option Nat
  | 0, d => (d, none)
  | fuel + 1, d =>
    let i := d.ptr
    if ¬ has i then Drr.choose has ready charge weight fuel ({ d with deficit := Tbl.set d.deficit 0 i 0 }).advance
    else if ¬ ready i then Drr.choose has ready charge weight fuel d.advance
    else
      let c := charge i
      let d1 := if Tbl.get d.deficit 0 i < c ∧ ¬ d.added.contains i then
          { d with deficit := Tbl.set d.deficit 0 i (Tbl.get d.deficit 0 i + weight i), added := i :: d.added }
        else d
      if Tbl.get d1.deficit 0 i < c then Drr.choose has ready charge weight fuel d1.advance
      else ({ d1 with deficit := Tbl.set d1.deficit 0 i (Tbl.get d1.deficit 0 i - c) }, some i)

/-- The deficit round robin of channel `c`. -/
def State.drr (s : State) (c : Nat) : Drr :=
  let x := (s.chan c).set
  ⟨x.deficit, x.added, x.drr⟩

/-- The deficit round robin of channel `c` set. -/
def State.setDrr (s : State) (c : Nat) (d : Drr) : State :=
  s.modChan c (fun x => { x with set := { x.set with deficit := d.deficit, added := d.added, drr := d.ptr } })

/-- `choose()` of R124 over the queues of a subchannel: `holds q` (a request for either subchannel, R125),
`has q` (a request for this one), `ready q`, the charge of the next request of each queue. A pass adds at
least a quantum of 1, so the largest charge bounds the passes. -/
def State.chooseQueue (s : State) (c : Nat) (holds has ready : Nat → Bool) (charge : Nat → Nat) :
    State × Option Nat :=
  match (List.range 4).find? ready with
  | some k => (s, some k)
  | none =>
    if (List.range 12).any (fun i => ready (4 + i)) then
      let (d, q) := Drr.choose (fun i => holds (4 + i)) (fun i => ready (4 + i)) (fun i => charge (4 + i))
        (s.weight c) (12 * ((List.range 12).foldl (fun a i => max a (charge (4 + i))) 0 + 2)) (s.drr c)
      (s.setDrr c d, q.map (4 + ·))
    else if (List.range 16).any has then (s, none)
    else (s, if ready 16 then some 16 else none)

/-- Deficits cut after a change of the weights of the queues that meet `hit` (R133): at most WEIGHT plus the cost of
the queue's next request, less 1. DESIGN CHOICE (log 154): that is its oldest request on either subchannel, at its whole
cost though it was charged already, and one of cost 0 where the queue is empty. -/
def State.cutDeficits (s : State) (c : Nat) (hit : Nat → Bool) : State :=
  s.modChan c (fun x => { x with set := { x.set with
    deficit := Tbl.mapSet (fun _ => 0) (fun i d =>
      if hit i then min d (s.weight c i + (((s.inQ c (4 + i)).head?).elim 0 Req.cost) - 1) else d)
      x.set.deficit } })

/-- The deficits of channel `c` after a write that may have changed weights: `old` is the state before it. -/
def State.weightsFrom (s old : State) (c : Nat) : State :=
  s.cutDeficits c (fun i => decide (s.weight c i ≠ old.weight c i))

/-! Runs and refresh windows. -/

/-- The distinct rows a list of lines touches (R129). -/
def rowsTouched (ls : List LineJob) : Nat :=
  ((ls.map (fun l => { l.pos with col := 0 })).dedup).length

/-- The lines on whichever subchannel holds more (R129). -/
def busier (ls : List LineJob) : Nat :=
  max (ls.filter (fun l => decide (l.pos.sub = 0))).length (ls.filter (fun l => decide (l.pos.sub = 1))).length

/-- D of R129, from tRP + tRCD and tCCD_L. -/
def runTime (rpRcd ccdL : Nat) (ls : List LineJob) : Nat := rowsTouched ls * rpRcd + busier ls * ccdL

/-- The largest prefix of a run that fits `room` cycles (R131). -/
def fitPrefix (rpRcd ccdL room : Nat) (ls : List LineJob) : Nat :=
  ((List.range (ls.length + 1)).filter (fun k => decide (runTime rpRcd ccdL (ls.take k) ≤ room))).foldl max 0

end Sys2Proof.Machine
end

