-- ==== Sys2Proof/Machine/Checker.lean ====
section
/-! DEFINITION. The timing table of R138 as gaps between commands, and the shadow checker of R151: what each
command must wait for, and which rule it misses. -/

namespace Sys2Proof.Machine

/-- Row `k` of a table copy. -/
def tabRow (t : List Nat) (k : Nat) : Nat := nth t (k - 1)

/-- tRTW and tRTW_R (rows 19 and 22): CL - CWL + BURST + the row's addend. -/
def turnRW (t : List Nat) (k : Nat) : Nat := tabRow t 14 + tabRow t 16 + tabRow t k - tabRow t 15

/-- tWTR_R (row 23): CWL - CL + BURST + the addend, at least 1. -/
def turnWR (t : List Nat) : Nat := max 1 (tabRow t 15 + tabRow t 16 + tabRow t 23 - tabRow t 14)

/-- Cycles from a WR to the end of its write data (R137). -/
def writeEnd (t : List Nat) : Nat := tabRow t 15 + tabRow t 16

/-- RD or RDA. -/
def CmdKind.isRd (k : CmdKind) : Bool := k == .rd || k == .rda

/-- WR or WRA. -/
def CmdKind.isWr (k : CmdKind) : Bool := k == .wr || k == .wra

/-- A column command. -/
def CmdKind.isCol (k : CmdKind) : Bool := k.isRd || k.isWr

/-- PRE, PREsb or PREab. -/
def CmdKind.isPre (k : CmdKind) : Bool := k == .pre || k == .presb || k == .preab

/-- Commands addressed to a physical rank. -/
def CmdKind.isPhys (k : CmdKind) : Bool := k == .sre || k == .srx || k == .pde || k == .pdx

/-- REFab, REFsb, RFMab or RFMsb. -/
def CmdKind.isRef (k : CmdKind) : Bool := k == .refab || k == .refsb || k == .rfmab || k == .rfmsb

/-- The MPC opcodes of ZQCal Latch and ZQCal Start, held in `row` of a passed MPC (PRESUMED: JESD79-5). -/
def zqLatchOp : Nat := 4

/-- See `zqLatchOp`. -/
def zqStartOp : Nat := 5

/-- The MPC opcode that starts the DQS interval oscillator (R210; PRESUMED, log 138: JESD79-5). -/
def oscStartOp : Nat := 6

/-- The physical rank of logical rank `k`: `k mod P` (R107), `g` holding P and the stack height H. A spare
of a planar DIMM programmed with one rank is its physical rank 1 (R193). -/
def physRank (g : Nat × Nat) (k : Nat) : Nat := if g.1 ≤ 1 ∧ g.2 ≤ 1 then k % 2 else k % max 1 g.1

/-- The physical rank a command goes to (R107, R138). -/
def Passed.phys (h : Nat × Nat) (p : Passed) : Nat := if p.kind.isPhys then p.rank else physRank h p.rank

/-- Both go to one logical rank; a command to a physical rank goes to all of its logical ranks. -/
def sameLR (h : Nat × Nat) (p n : Passed) : Bool :=
  decide (p.sub = n.sub) &&
  (if p.kind.isPhys || n.kind.isPhys then decide (p.phys h = n.phys h) else decide (p.rank = n.rank))

/-- Both go to one bank group of one logical rank. -/
def sameBG (h : Nat × Nat) (p n : Passed) : Bool := sameLR h p n && decide (p.bg = n.bg)

/-- The precharge `p` closes the bank that `n` names. -/
def closesBank (h : Nat × Nat) (p n : Passed) : Bool :=
  sameLR h p n && (match p.kind with
    | .preab => true
    | .presb => decide (p.ba = n.ba)
    | _ => decide (p.bg = n.bg) && decide (p.ba = n.ba))

/-- The precharge `p` closed a bank that `n` needs closed (row 2). -/
def closesNeeded (h : Nat × Nat) (p n : Passed) : Bool :=
  sameLR h p n && (match n.kind with
    | .refab | .rfmab | .sre => true
    | .refsb | .rfmsb => decide (p.kind = .preab) || decide (p.ba = n.ba)
    | _ => closesBank h p n)

/-- Which commands row 2 holds back: ACT, refresh, RFM and SRE. -/
def needsClosed (k : CmdKind) : Bool := k == .act || k.isRef || k == .sre

/-- The gaps, with their rows, that a passed command `p` asks of a new command `n` (R138, R142 to R144):
`h` physical ranks and stack height, `mr` MRDIMM. DESIGN CHOICE (log 157): rows 38 to 40, 42 and 45, which name no scope,
hold within one logical rank. -/
def gaps (t : List Nat) (h : Nat × Nat) (mr : Bool) (p n : Passed) : List (Nat × Nat) :=
  let v := tabRow t
  let lr := sameLR h p n
  let bg := sameBG h p n
  let bank := bg && decide (p.ba = n.ba)
  let sub := decide (p.sub = n.sub)
  let pr := sub && decide (p.phys h = n.phys h)
  let otherPR := sub && decide (p.phys h ≠ n.phys h)
  let otherLR := pr && decide (p.rank ≠ n.rank) && !p.kind.isPhys && !n.kind.isPhys
  let g (c : Bool) (k x : Nat) : List (Nat × Nat) := if c then [(k, x)] else []
  let bothRd := p.kind.isRd && n.kind.isRd
  let bothWr := p.kind.isWr && n.kind.isWr
  g (p.kind == .act && n.kind.isCol && bank) 1 (v 1) ++
  g (p.kind.isPre && needsClosed n.kind && closesNeeded h p n) 2 (v 2) ++
  g (p.kind == .rda && needsClosed n.kind && closesNeeded h p n) 2 (v 8 + v 2) ++
  g (p.kind == .wra && needsClosed n.kind && closesNeeded h p n) 2 (writeEnd t + v 9 + v 2) ++
  g (p.kind == .act && n.kind.isPre && closesBank h n p) 3 (v 3) ++
  g (p.kind == .act && n.kind == .act && bank) 4 (v 4) ++
  g (p.kind == .act && n.kind == .act && lr && !bg) 5 (v 5) ++
  g (p.kind == .act && n.kind == .act && bg) 6 (v 6) ++
  g (p.kind == .rd && n.kind.isPre && closesBank h n p) 8 (v 8) ++
  g (p.kind == .wr && n.kind.isPre && closesBank h n p) 9 (writeEnd t + v 9) ++
  g (p.kind.isPre && n.kind.isPre && lr) 10 (v 10) ++
  g ((bothRd || bothWr) && lr && !bg) 11 (v 11) ++
  g (bothRd && bg) 12 (v 12) ++
  g (bothWr && bg) 13 (v 13) ++
  g (p.kind.isWr && n.kind.isRd && lr && !bg) 17 (writeEnd t + v 17) ++
  g (p.kind.isWr && n.kind.isRd && bg) 18 (writeEnd t + v 18) ++
  g (p.kind.isRd && n.kind.isWr && pr) 19 (turnRW t 19) ++
  g (bothRd && otherPR && !mr) 20 (v 20) ++
  g (bothWr && otherPR && !mr) 21 (v 21) ++
  g (p.kind.isRd && n.kind.isWr && otherPR) 22 (turnRW t 22) ++
  g (p.kind.isWr && n.kind.isRd && otherPR) 23 (turnWR t) ++
  g (p.kind == .act && n.kind == .act && otherLR) 24 (v 24) ++
  g (p.kind.isCol && n.kind.isCol && otherLR) 26 (v 26) ++
  g (p.kind == .refab && n.kind == .refab && otherLR) 27 (v 27) ++
  g (p.kind == .refab && !p.fine && lr) 29 (v 29) ++
  g (p.kind == .refab && p.fine && lr) 30 (v 30) ++
  g (p.kind == .refsb && n.kind == .act && lr && decide (p.ba = n.ba)) 31 (v 31) ++
  g (p.kind == .refsb && n.kind == .act && lr && decide (p.ba ≠ n.ba)) 32 (v 32) ++
  g (p.kind == .rfmab && lr) 33 (v 33) ++
  g (p.kind == .rfmsb && n.kind == .act && lr && decide (p.ba = n.ba)) 34 (v 34) ++
  g (p.kind == .mrr && lr) 37 (v 37) ++
  g (p.kind == .mrw && lr && (n.kind == .mrw || n.kind == .mpc)) 38 (v 38) ++
  g (p.kind == .mrw && lr && !(n.kind == .mrw || n.kind == .mpc)) 39 (v 39) ++
  g (p.kind == .mpc && lr) 40 (v 40) ++
  g (p.kind == .mpc && decide (p.row = zqStartOp) && n.kind == .mpc && decide (n.row = zqLatchOp) && lr)
    41 (v 41) ++
  g (p.kind == .mpc && decide (p.row = zqLatchOp) && lr) 42 (v 42) ++
  g (p.kind == .pde && n.kind == .pdx && pr) 44 (v 44) ++
  g (p.kind == .pdx && lr) 45 (v 45) ++
  g (p.kind == .srx && lr) 46 (v 46) ++
  g (p.kind == .srx && lr && !(n.kind == .refab || n.kind == .refsb || n.kind == .mrr || n.kind == .mpc))
    47 (v 47)

/-- The key of a physical rank of a subchannel. -/
def physKey (sub pr : Nat) : Nat := 2 * sub + pr

/-- The bank a command names, numbered as `Pos.bank`. -/
def Passed.bankKey (p : Passed) : Nat := ((p.sub * 4 + p.rank) * 8 + p.bg) * 4 + p.ba

/-- RDA or WRA. -/
def CmdKind.isAuto (k : CmdKind) : Bool := k == .rda || k == .wra

/-- The precharge inside an RDA or WRA starts no sooner than tRAS after the bank's ACT (row 3), and row 2
counts from it. -/
def autoShort (t : List Nat) (h : Nat × Nat) (hist : List Passed) (n : Passed) : List (Nat × Nat) :=
  hist.filterMap (fun p =>
    if p.kind == .act && needsClosed n.kind && closesNeeded h { p with kind := .pre } n &&
      hist.any (fun q => q.kind.isAuto && decide (q.bankKey = p.bankKey) && decide (p.cyc ≤ q.cyc)) &&
      decide (n.cyc < p.cyc + (tabRow t 3 + tabRow t 2))
    then some (2, p.cyc + (tabRow t 3 + tabRow t 2) - n.cyc) else none)

/-- Two bursts of one direction to the two ranks of an MRDIMM share no slot (R143, R154, row 16). -/
def burstShort (t : List Nat) (h : Nat × Nat) (mr : Bool) (hist : List Passed) (n : Passed) : Bool :=
  mr && hist.any (fun p => decide (p.sub = n.sub ∧ p.phys h ≠ n.phys h) &&
    ((p.kind.isRd && n.kind.isRd) || (p.kind.isWr && n.kind.isWr)) &&
    decide (n.cyc < p.cyc + tabRow t 16))

/-- The shortfalls of `n` against every passed command. -/
def shortfalls (t : List Nat) (h : Nat × Nat) (mr : Bool) (hist : List Passed) (n : Passed) : List (Nat × Nat) :=
  hist.flatMap (fun p => (gaps t h mr p n).filterMap (fun e =>
    if n.cyc < p.cyc + e.2 then some (e.1, p.cyc + e.2 - n.cyc) else none)) ++ autoShort t h hist n

/-- The four-activate windows (rows 7 and 25): the fourth ACT back must lie a window away. -/
def fawShort (t : List Nat) (h : Nat × Nat) (hist : List Passed) (n : Passed) : List (Nat × Nat) :=
  if n.kind ≠ .act then []
  else
    let back (f : Passed → Bool) : Option Passed :=
      ((hist.filter (fun p => decide (p.kind = .act ∧ p.sub = n.sub) && f p))[3]?)
    let miss (k : Nat) (p : Option Passed) : List (Nat × Nat) := match p with
      | some q => if n.cyc < q.cyc + tabRow t k then [(k, q.cyc + tabRow t k - n.cyc)] else []
      | none => []
    miss 7 (back (fun p => decide (p.rank = n.rank))) ++
    (if 1 < h.2 then miss 25 (back (fun p => decide (p.phys h = n.phys h))) else [])

/-- Two numbers of a violation: the RULE code and SHORT. -/
def minRule (l : List (Nat × Nat)) : Option (Nat × Nat) :=
  l.foldl (fun b e => match b with
    | none => some e
    | some x => if e.1 < x.1 ∨ (e.1 = x.1 ∧ x.2 < e.2) then some e else some x) none

/-- The most refresh commands a unit may owe while it postpones (R161). -/
def owedLimit : Int := 9

/-- The onset of the back-off that a physical rank is in at `cyc` (R149, R168): it lasts until tRFM1 after its last
RFMab. -/
def TimSt.backLive (t : TimSt) (key cyc : Nat) : Option Nat :=
  (Tbl.find t.backoff key).filter (fun o =>
    (Tbl.find t.backoffEnd key).all (fun e => decide (e ≤ o) || decide (cyc < e)))

/-- Some physical rank is in a back-off at `cyc`. -/
def TimSt.anyBackoff (t : TimSt) (cyc : Nat) : Bool := t.backoff.any (fun e => (t.backLive e.1 cyc).isSome)

/-- The state rules of R151: bank state 0x3F, refresh credit 0x3E, PRAC window 0x3D, rank asleep 0x3C. -/
def Chan.stateRules (x : Chan) (h : Nat × Nat) (limit : Int) (n : Passed) : List (Nat × Nat) :=
  let key := physKey n.sub (n.phys h)
  let isOpen := (Tbl.find x.tim.chkOpen n.bankKey).isSome
  let asleep := (x.pnt.sr.contains key && n.kind != .srx) ||
    ((Tbl.find x.pnt.pd key).isSome && n.kind != .pdx)
  let late := (x.tim.backLive key n.cyc).any (fun o => decide (o + tabRow x.tim.tabC 35 < n.cyc))
  (if (n.kind == .act && isOpen) || ((n.kind.isCol || n.kind == .pre) && !isOpen) then [(0x3F, 0)] else []) ++
  (if decide (limit < Tbl.get x.pnt.owed 0 (4 * n.sub + n.rank)) && !n.kind.isPhys && !n.kind.isRef &&
      !n.kind.isPre then [(0x3E, 0)] else []) ++
  (if n.kind == .act && late then [(0x3D, 0)] else []) ++
  (if asleep then [(0x3C, 0)] else [])

/-- What the checker finds wrong with a command (R151): the lowest RULE and its SHORT, or `none`. -/
def Chan.violation (x : Chan) (h : Nat × Nat) (mr : Bool) (limit : Int) (n : Passed) : Option (Nat × Nat) :=
  minRule (shortfalls x.tim.tabC h mr x.tim.hist n ++ fawShort x.tim.tabC h x.tim.hist n ++
    x.stateRules h limit n)

/-- The issuer's own view of whether a command is allowed by the timing rules (R124, R138). -/
def Chan.allowed (x : Chan) (h : Nat × Nat) (mr : Bool) (n : Passed) : Bool :=
  (shortfalls x.tim.tabI h mr x.tim.hist n).isEmpty && (fawShort x.tim.tabI h x.tim.hist n).isEmpty &&
  !burstShort x.tim.tabI h mr x.tim.hist n

/-- The earliest instant from `n.cyc` on at which table `t` admits a command: its slot free and every gap met. Each
round moves past the longest wait still found. -/
def earliest (t : List Nat) (h : Nat × Nat) (mr : Bool) (hist : List Passed) : Nat → Passed → Nat
  | 0, n => n.cyc
  | fuel + 1, n =>
    let miss := ((shortfalls t h mr hist n ++ fawShort t h hist n).map Prod.snd).foldl max 0
    let taken := burstShort t h mr hist n || hist.any (fun p => decide (p.sub = n.sub ∧ p.cyc = n.cyc))
    if miss = 0 ∧ ¬ taken then n.cyc else earliest t h mr hist fuel { n with cyc := n.cyc + max 1 miss }

/-- How far back a rule looks, in cycles. -/
def histSpan : Nat := 0x20000

/-- A passed command recorded, and what no rule can look back to forgotten. -/
def TimSt.record (x : TimSt) (p : Passed) : TimSt :=
  { x with hist := p :: x.hist.filter (fun q => decide (p.cyc < q.cyc + histSpan)) }

end Sys2Proof.Machine
end

