-- ==== Sys2Proof/Machine/PntOps.lean ====
section
/-! DEFINITION. What Pointing knows (R159 to R172): refresh modes, intervals and limits, the row protection in
force, idle units, deadlines and refresh windows, and the counts an ACT or a refresh moves. -/

namespace Sys2Proof.Machine

/-- Row `k` of the issuer's in-force table of channel `c`. -/
def State.row (s : State) (c k : Nat) : Nat := tabRow (s.chan c).tim.tabI k

/-- MRDIMM population (R143). -/
def State.mrdimm (s : State) (c : Nat) : Bool := decide (s.rawF TIM_RATE_DIMM c 0 0 = 1)

/-- The refresh mode in force: 0 NORMAL, 1 FINE, 2 SAME_BANK (R159). -/
def State.refMode (s : State) (c : Nat) : Nat := s.rawF PNT_STATUS_MODE_IN c 0 0

/-- The mode a value of `PNT_CTRL.MODE` selects on the channel's DIMM (R159). -/
def State.modeOf (s : State) (c m : Nat) : Nat :=
  if m = 3 then 0 else if m = 2 ∧ ¬ (s.chan c).dimm.sameBank then 1 else m

/-- I of R159 for a mode, at the rate in force for a unit. -/
def State.interval (s : State) (c mode : Nat) (twice : Bool) : Nat :=
  let i := if mode = 0 then s.row c 28 else s.row c 28 / 2
  if twice then (if mode = 0 then s.row c 28 / 2 else s.row c 28 / 4) else i

/-- The doubled rate is in force (R163). -/
def State.rate2x (s : State) (c : Nat) : Bool := decide (s.rawF PNT_STATUS_RATE2X c 0 0 = 1)

/-- The rate of refresh unit `u`: the one asked for, once the unit has ticked at it (R163). -/
def State.unitTwice (s : State) (c u : Nat) : Bool :=
  let x := (s.chan c).pnt
  if x.rateUnits.contains u then x.want2x else s.rate2x c

/-- tRFC of a mode (R130). -/
def State.rfc (s : State) (c mode : Nat) : Nat :=
  if mode = 0 then s.row c 29 else if mode = 1 then s.row c 30 else s.row c 31

/-- The whole window of R130; 0 until the channel is trained. -/
def State.wholeWindow (s : State) (c : Nat) : Nat :=
  let st := s.rawF SCR_STATUS_STATE c 0 0
  if st = 2 ∨ st = 3 then
    s.interval c (s.refMode c) (s.rate2x c) - s.rfc c (s.refMode c)
  else 0

/-- post_lim and pull_lim (R160). -/
def State.postLim (s : State) (c : Nat) : Int :=
  let p := min 4 (s.fld PNT_CFG_POST_MAX c 0 0)
  if s.refMode c = 2 then 4 * p else p

/-- See `postLim`. -/
def State.pullLim (s : State) (c : Nat) : Int :=
  let p := min 4 (s.fld PNT_CFG_PULL_MAX c 0 0)
  if s.refMode c = 2 then 4 * p else p

/-- owed of unit `u` (R160). -/
def State.owed (s : State) (c u : Nat) : Int := Tbl.get (s.chan c).pnt.owed 0 u

/-- owed of unit `u` set. -/
def State.setOwed (s : State) (c u : Nat) (v : Int) : State :=
  s.modChan c (fun x => { x with pnt := { x.pnt with owed := Tbl.set x.pnt.owed 0 u v } })

/-- The refresh units of the channel, 4 x subchannel + logical rank: the addressed ranks, and, DESIGN CHOICE (log
129), from the start of a sparing on, the spare (R193). -/
def State.units (s : State) (c : Nat) : List Nat :=
  (List.range 8).filter (fun u => decide (u % 4 < s.ranks c) ||
    (decide (s.rawF ASH_SPARE_STATE c 0 0 ≠ 0) && decide (u % 4 = (s.chan c).ash.spareTo)))

/-- The physical rank key of a refresh unit. -/
def State.unitPhys (s : State) (c u : Nat) : Nat := physKey (u / 4) (physRank (s.stack c) (u % 4))

/-- The physical ranks of both subchannels, 2 x subchannel + physical rank. -/
def State.physUnits (s : State) (c : Nat) : List Nat :=
  (List.range 4).filter (fun u => decide (u % 2 < s.physRanks c) || (s.units c).any (fun v => decide (s.unitPhys c v = u)))

/-- Requests of the Setter for a subchannel with lines still to command. -/
def State.waiting (s : State) (c : Nat) : List Req := s.reqs.filter (fun r => r.inSetter c)

/-- The refresh unit that a line's commands go to (R193). -/
def State.unitOf (s : State) (c : Nat) (l : LineJob) : Nat := 4 * l.pos.sub + (s.spot c (s.lineOf c l.pos) l.pos).rank

/-- A queued request goes to logical rank `u % 4` of subchannel `u / 4`. -/
def State.unitWanted (s : State) (c u : Nat) : Bool :=
  (s.waiting c).any (fun r => r.lines.any (fun l => l.open_ r && decide (s.unitOf c l = u)))

/-- The instant from which a unit that no queued request wants is idle (R160). -/
def State.idleFrom (s : State) (c u : Nat) : Nat :=
  (s.chan c).tim.left.foldl (fun a e => if e.1 / 32 = u then max a e.2 else a)
    (Tbl.get (s.chan c).pnt.lastCol 0 u + 16)

/-- A unit has been idle for `n` cycles at `cyc` (R160). -/
def State.unitIdle (s : State) (c u cyc n : Nat) : Bool :=
  !s.unitWanted c u && decide (s.idleFrom c u + n ≤ cyc)

/-- LPSTATE of `PNT_STATUS`. -/
def State.lpState (s : State) (c : Nat) : Nat := s.rawF PNT_STATUS_LPSTATE c 0 0

/-- An indivisible run of which some lines are issued (R131, R209 step 2). -/
def State.halfRun (s : State) (r : Req) : Bool :=
  r.indiv && s.reqs.any (fun q => decide (q.run = r.run) && q.charged)

/-- An indivisible run judged to wait waits on unit `u` (R131, R160, R161). -/
def State.runWaits (s : State) (c u : Nat) : Bool :=
  (s.waiting c).any (fun r => r.indiv && !s.halfRun r && r.fit.any (fun f => decide (f.2 ≠ [])) &&
    r.lines.any (fun l => decide (s.unitOf c l = u)))

/-- Step 5 of a self-refresh entry (R173): the path is held and every bank is closed. -/
def State.srRefresh (s : State) (c : Nat) : Bool :=
  decide (s.lpState c = 1) && decide ((s.chan c).pnt.srStep = 3) && (s.chan c).tim.chkOpen.isEmpty

/-- Unit `u` refreshes urgently (R160, R164, R173, R176). -/
def State.urgent (s : State) (c u : Nat) : Bool :=
  let o := s.owed c u
  decide (s.postLim c + 1 ≤ o) ||
  (decide (1 ≤ o) && (s.runWaits c u || (s.chan c).pnt.modePend.isSome || s.srRefresh c ||
    (s.chan c).pnt.pauseDue.contains u))

/-- Pointing may refresh unit `u` at `cyc` (R160). -/
def State.mayRefresh (s : State) (c u cyc : Nat) : Bool :=
  let x := (s.chan c).pnt
  let asleep := (Tbl.find x.pd (s.unitPhys c u)).isSome
  s.urgent c u || x.extraDue.any (fun e => decide (e / 4 = u)) ||
  (decide (1 ≤ s.owed c u) && s.unitIdle c u cyc 0 && !asleep) ||
  (decide (-s.pullLim c < s.owed c u) && s.unitIdle c u cyc (s.fld PNT_CFG_PULL_IDLE c 0 0) && !asleep)

/-- The tick after one at `cyc`, the `j`-th of its interval `i`: its instant and number (R162); `same` in
SAME_BANK. -/
def tickNext (same : Bool) (i cyc j : Nat) : Nat × Nat :=
  if same then
    let start := cyc - j * i / 4
    if j + 1 < 4 then (start + (j + 1) * i / 4, j + 1) else (start + i, 0)
  else (cyc + i, 0)

/-- The instant of the `n`-th tick after one at `cyc`. -/
def tickIter (same : Bool) (i : Nat) : Nat → Nat → Nat → Nat
  | 0, cyc, _ => cyc
  | n + 1, cyc, j => tickIter same i n (tickNext same i cyc j).1 (tickNext same i cyc j).2

/-- The tick that raises owed of unit `u` to `target` (R161): the rate asked for holds from the next tick on (R163). -/
def State.tickReaching (s : State) (c u : Nat) (target : Int) : Nat :=
  tickIter (decide (s.refMode c = 2)) (s.interval c (s.refMode c) (s.chan c).pnt.want2x)
    ((target - s.owed c u).toNat - 1) (Tbl.get (s.chan c).pnt.nextTick 0 u) (Tbl.get (s.chan c).pnt.tickNo 0 u)

/-- The credit deadline of unit `u` (R161). -/
def State.creditDeadline (s : State) (c u cyc : Nat) : Nat :=
  if s.postLim c + 1 ≤ s.owed c u then cyc else s.tickReaching c u (s.postLim c + 1)

/-- The plain deadline of unit `u` (R161). -/
def State.plainDeadline (s : State) (c u cyc : Nat) : Nat :=
  if 1 ≤ s.owed c u then cyc else s.tickReaching c u 1

/-- The earliest deadline among the units that lines touch (R130). -/
def State.runDeadline (s : State) (c cyc : Nat) (plain : Bool) (ls : List LineJob) : Nat :=
  let us := (ls.map (s.unitOf c)).dedup
  (us.map (fun u => if plain then s.plainDeadline c u cyc else s.creditDeadline c u cyc)).foldl min (cyc + 0x7FFFFFFF)

/-- Cycles before that deadline. -/
def State.roomBefore (s : State) (c cyc : Nat) (plain : Bool) (ls : List LineJob) : Nat :=
  s.runDeadline c cyc plain ls - cyc

/-! Row protection. -/

/-- The method of R165: 0 PRAC, 1 RFM, 2 TRACK, 3 none. -/
def State.method (s : State) (c : Nat) : Nat :=
  let d := (s.chan c).dimm
  if d.prac ∧ s.fld PNT_PROT_PRAC_EN c 0 0 = 1 then 0
  else if d.rfm ∧ s.fld PNT_PROT_RFM_EN c 0 0 = 1 then 1
  else if s.fld PNT_PROT_TRACK_EN c 0 0 = 1 then 2 else 3

/-- Cold-start mode (R169). -/
def State.coldMode (s : State) (c : Nat) : Bool := decide (s.rawF PNT_STATUS_COLD c 0 0 = 1)

/-- A threshold halved, rounding up, under STRICT, and again in cold-start mode (R165, R169). -/
def State.halved (s : State) (c n : Nat) : Nat :=
  let a := if s.rawF PNT_CTRL_PROT c 0 0 = 1 then (n + 1) / 2 else n
  if s.coldMode c then (a + 1) / 2 else a

/-- ACT_TH in force (R165, R167, R169). -/
def State.actTh (s : State) (c : Nat) : Nat := s.halved c (max 16 (s.fld PNT_PROT_ACT_TH c 0 0))

/-- IMT in force (R165, R166, R169). -/
def State.imt (s : State) (c : Nat) : Nat :=
  let f := s.fld PNT_PROT_RAA_IMT c 0 0
  s.halved c (if f = 0 then (s.chan c).dimm.imt else f)

/-- MMT in force (R166). -/
def State.mmt (s : State) (c : Nat) : Nat :=
  let f := s.fld PNT_PROT_RAA_MMT c 0 0
  if f = 0 then (s.chan c).dimm.mmt else f

/-- RFMab commands per logical rank of a back-off (R168). -/
def State.aboRfm (s : State) (c : Nat) : Nat :=
  match s.fld PNT_PROT_ABO_RFM c 0 0 with
  | 1 => 1 | 2 => 2 | 3 => 4 | _ => (s.chan c).dimm.aboRfm

/-- The smallest count of a tracker of 16 entries; 0 while one is free. -/
def trackMin (es : List (Nat × Nat)) : Nat :=
  if es.length < 16 then 0 else es.foldl (fun a e => min a e.2) ((es.headD (0, 0)).2)

/-- The tracker of a bank after an ACT to `row`: its entries, and the row's new count (R167). DESIGN CHOICE (log 130):
of several entries with the smallest count, the first one listed is replaced. -/
def trackAct (es : List (Nat × Nat)) (row : Nat) : List (Nat × Nat) × Nat :=
  match es.find? (fun e => decide (e.1 = row)) with
  | some e => (es.map (fun x => if x.1 = row then (row, x.2 + 1) else x), e.2 + 1)
  | none =>
    if es.length < 16 then (es ++ [(row, 1)], 1)
    else
      let m := trackMin es
      let gone := (es.find? (fun e => decide (e.2 = m))).getD (0, 0)
      ((es.filter (fun e => decide (e ≠ gone))) ++ [(row, m + 1)], m + 1)

/-- `PNT` of a channel changed. -/
def State.modPnt (s : State) (c : Nat) (f : PntSt → PntSt) : State :=
  s.modChan c (fun x => { x with pnt := f x.pnt })

/-- A Pointing error bit with its report (R177). -/
def State.pntErr (s : State) (c : Nat) (f : Field) (kind sev : Nat) : State :=
  (s.setBit f c 0 0).reportUnit c sev 8 3 kind none

/-- What an ACT to bank `b` of unit `u` adds to the protection counts (R166, R167). Each count that reaches ACT_TH has
an extra refresh of its own; DESIGN CHOICE (log 130): in SAME_BANK it is due until the turn of R162 comes to the bank's
index. -/
def State.protectAct (s : State) (c b u row : Nat) : State :=
  let m := s.method c
  if m = 0 ∨ m = 3 then s
  else
    let s1 := if m = 1 then
        let n := Tbl.get (s.chan c).pnt.raa 0 b + 1
        s.modPnt c (fun p => { p with
          raa := Tbl.set p.raa 0 b n,
          rfmDue := if s.imt c ≤ n ∧ ¬ p.rfmDue.contains b then b :: p.rfmDue else p.rfmDue })
      else s
    let (es, n) := trackAct (Tbl.get (s1.chan c).pnt.track [] b) row
    if n < s1.actTh c then s1.modPnt c (fun p => { p with track := Tbl.set p.track [] b es })
    else
      s1.modPnt c (fun p => { p with
        track := Tbl.set p.track [] b (es.map (fun e => if e.1 = row then (row, 0) else e)),
        rfmDue := if m = 1 ∧ ¬ p.rfmDue.contains b then b :: p.rfmDue else p.rfmDue,
        extraDue := if m = 2 then p.extraDue ++ [4 * u + b % 4] else p.extraDue })

/-- RAA counts of the banks that meet `p` lowered by IMT (R166). -/
def State.raaDrop (s : State) (c : Nat) (p : Nat → Bool) : State :=
  let imt := s.imt c
  s.modPnt c (fun q => { q with
    raa := Tbl.mapSet (fun _ => 0) (fun b n => if p b then n - imt else n) q.raa })

/-- The banks of unit `u`, by bank number. -/
def unitHas (u b : Nat) : Bool := decide (b / 32 = u)

/-- RAA at or above MMT blocks ACTs to bank `b` (R166). -/
def State.raaBlocked (s : State) (c b : Nat) : Bool :=
  decide (s.method c = 1) && decide (0 < s.mmt c) && decide (s.mmt c ≤ Tbl.get (s.chan c).pnt.raa 0 b)

/-- RAA_BLOCK (R166): a bank that was not blocked in `old` is blocked now. -/
def State.raaCheck (s old : State) (c : Nat) : State :=
  if (s.chan c).pnt.raa.any (fun e => s.raaBlocked c e.1 && !old.raaBlocked c e.1) then
    s.pntErr c PNT_ERR_RAA_BLOCK 0 0
  else s

end Sys2Proof.Machine
end

