-- ==== Sys2Proof/Machine/AshOps.lean ====
section
/-! DEFINITION. What Ashlar shares among its commands (R188 to R195): the walk over mapped lines, scrub
lines offered to the issuer, error bits with their capture, device counters, marks and sparing. -/

namespace Sys2Proof.Machine

/-- Ashlar's state of a channel changed. -/
def State.modAsh (s : State) (c : Nat) (f : AshSt → AshSt) : State :=
  s.modChan c (fun x => { x with ash := f x.ash })

/-- The population of channel `c` is x8 (R107). -/
def State.x8 (s : State) (c : Nat) : Bool := decide (s.rawF MAP_GEOM_WIDTH c 0 0 = 1)

/-! The walk (R189, R190, R193). -/

/-- The ranges of lines of channel `c` that enabled local DRAM regions map. -/
def State.chanSegs (s : State) (c : Nat) : List (Nat × Nat) := (List.range 64).flatMap (s.rgnSegs c)

/-- The first mapped line of channel `c` at or after `L`, in ascending channel offset. -/
def State.nextMapped (s : State) (c L : Nat) : Option Nat :=
  (s.chanSegs c).foldl (fun b e =>
    if max e.1 L < e.2 then
      (match b with | some x => some (min x (max e.1 L)) | none => some (max e.1 L))
    else b) none

/-- Lines of channel `c` that enabled local DRAM regions map. -/
def State.mappedLines (s : State) (c : Nat) : Nat := ((s.chanSegs c).map (fun e => e.2 - e.1)).sum

/-- The global address of a mapped line (R189). -/
def State.lineAddr (s : State) (c L : Nat) : Nat :=
  (s.rgnOfLine c L).elim 0 (fun r => s.globalOf c r (L * 64))

/-- The first line at or after `L` that lies in logical rank `rank` (R108). -/
def State.inRank (s : State) (c rank L : Nat) : Nat :=
  let blk := 2 ^ (s.colW c + 6)
  let n := max 1 (s.ranks c)
  if L / blk % n = rank then L else (L / blk + 1 + (rank + n - (L / blk + 1) % n) % n) * blk

/-- The first mapped line of logical rank `rank` at or after `L`. -/
def State.nextInRank (s : State) (c rank : Nat) : Nat → Nat → Option Nat
  | 0, _ => none
  | fuel + 1, L =>
    match s.nextMapped c L with
    | none => none
    | some x =>
      if s.inRank c rank x = x then some x else State.nextInRank s c rank fuel (s.inRank c rank x)

/-! Scrub lines (R188). -/

/-- A scrub line of kind `k` for the line at address `a` and place `p` of channel `c`. -/
def scrubReq (rid now k c a : Nat) (p : Pos) (op : Op) (data : Option (BitVec 512)) : Req :=
  { Req.blank rid (.scrub k) op with
    addr := a, dest := .local c, stage := .queued, tAccept := now, tEnq := now,
    lines := [{ LineJob.new a p with wdata := data }] }

/-- A scrub line of kind `k` for line `L` of channel `c` becomes due. -/
def State.offer (s : State) (k c L : Nat) (op : Op) : State :=
  let (s1, rid) := s.newRid
  s1.addReq (scrubReq rid s.uptime k c (s.lineAddr c L) (s.position c L) op none)

/-- The scrub lines of kind `k` that channel `c` holds, oldest first. -/
def State.scrubs (s : State) (c k : Nat) : List Req :=
  s.reqs.filter (fun r => r.onChan c && decide (r.src = .scrub k))

/-- Initialisation goes on at its cursor, one line at a time, and stops at the end of its range (R190). -/
def State.initNext (s : State) (c : Nat) : State :=
  match (s.chan c).ash.initRun with
  | none => s
  | some (at_, last) =>
    if s.scrubs c 3 ≠ [] then s
    else match s.nextMapped c at_ with
      | none => s.modAsh c (fun a => { a with initRun := some (last, last) })
      | some L =>
        if last ≤ L then s.modAsh c (fun a => { a with initRun := some (last, last) })
        else (s.modAsh c (fun a => { a with initRun := some (L, last) })).offer 3 c L .wrZero

/-- Sparing goes on at its cursor, one line at a time (R193). -/
def State.spareNext (s : State) (c : Nat) : State :=
  if s.rawF ASH_SPARE_STATE c 0 0 ≠ 1 ∨ s.scrubs c 2 ≠ [] then s
  else match s.nextInRank c (s.rawF ASH_SPARE_FROM c 0 0) 256 (s.chan c).ash.spareAt with
    | none => s.modAsh c (fun a => { a with spareAt := s.chanLines c })
    | some L => (s.modAsh c (fun a => { a with spareAt := L })).offer 2 c L .rdLine

/-! Patrol (R189). -/

/-- The patrol period in ns. -/
def State.patrolNs (s : State) (c : Nat) : Nat := s.fld ASH_SCRUB_PERIOD c 0 0 * 3600000000000

/-- A patrol line that is due and not read yet. -/
def Req.unread (r : Req) : Bool :=
  decide (r.src = .scrub 1) && r.lines.any (fun l => decide (l.stage = .fresh ∨ l.stage = .opened))

/-- A pass of the walk is through (R189): counted, and `PATROL_LATE` clears where it kept its period. The next one is under
way already where a line of it is due. -/
def State.passEnd (s : State) (c : Nat) : State :=
  let s1 := s.bumpF ASH_STATUS_PASSES c 0 0
  (if s.patrolNs c * 101 < (s.uptime - (s.chan c).ash.passStart) * 100 then s1
    else s1.setF ASH_STATUS_PATROL_LATE c 0 0 0).modAsh c (fun a => { a with
      passOn := (s.scrubs c 1).any Req.unread || !a.again.isEmpty, passStart := s.uptime })

/-- A patrol line is read: with the last line of the walk the pass is through. -/
def State.patrolRead (s : State) (c L : Nat) : State :=
  if (s.nextMapped c (L + 1)).isNone then s.passEnd c else s

/-- The walks of a channel that returns go on at their cursors (R189, R190, R193): patrol lines that were due are due
again. -/
def State.walksResume (s : State) (c : Nat) : State :=
  let ls := (s.chan c).ash.again.filter (fun L => (s.rgnOfLine c L).isSome)
  ls.foldl (fun t L => t.offer 1 c L .rdLine) ((((s.initNext c).spareNext c).modAsh c (fun a => { a with again := [] })))

/-! Errors (R195). -/

/-- Severity of each bit of `ASH_ERR`: 0 CE, 1 DEFERRED, 2 UCNA. -/
def ashSev (bit : Nat) : Nat := nth [0, 0, 2, 2, 1, 2, 2, 2, 2, 0] bit

/-- A bit of `ASH_ERR` set, captured where no capture is held, and reported (R195). `r` is the request or
scrub line concerned. -/
def State.ashErr (s : State) (c sub bit dev rank : Nat) (addr : Option Nat) (r : Option Req) : State :=
  let s1 := s.orF ASH_ERR_BITS c sub 0 (2 ^ bit)
  let s2 := if s1.rawF ASH_ERR_CAP_VALID c sub 0 = 1 then s1
    else ((((s1.setBit ASH_ERR_CAP_VALID c sub 0).setF ASH_ERR_CAP_KIND c sub 0 bit).setF
      ASH_ERR_CAP_DEV c sub 0 dev).setF ASH_ERR_CAP_RANK c sub 0 rank).setF
      ASH_ERR_CAP_LINE c sub 0 (addr.getD 0 / 64)
  let (acc, kd, m) : Nat × Nat × Nat := match r with
    | some q => (match q.src with
      | .scrub _ => (7, 3, 0)
      | _ => (q.access, q.master.1, q.master.2))
    | none => (7, 3, 0)
  s2.report (24 + c) ⟨ashSev bit, acc, 4, bit, kd, m, addr, s.uptime, false, false⟩

/-! Marks and sparing (R191 to R193). -/

/-- The marked device of a rank. -/
def State.markOf (s : State) (c sub rank : Nat) : Option Nat :=
  let f := nfield (s.rawF ASH_MARK_MARKS c sub 0) (5 * rank) 5
  if f.testBit 4 then some (f % 16) else none

/-- The five mark bits of a rank set to `v`. -/
def State.setMark (s : State) (c sub rank v : Nat) : State :=
  let old := s.rawF ASH_MARK_MARKS c sub 0
  s.setF ASH_MARK_MARKS c sub 0 (old - nfield old (5 * rank) 5 * 2 ^ (5 * rank) + v * 2 ^ (5 * rank))

/-- The counter of a device. -/
def State.devCnt (s : State) (c sub rank d : Nat) : Nat := nfield (s.rawF ASH_DEV_CNT_CNT c sub rank) (6 * d) 6

/-- The counter of a device set. -/
def State.setDevCnt (s : State) (c sub rank d v : Nat) : State :=
  let old := s.rawF ASH_DEV_CNT_CNT c sub rank
  s.setF ASH_DEV_CNT_CNT c sub rank (old - nfield old (6 * d) 6 * 2 ^ (6 * d) + v * 2 ^ (6 * d))

/-- Whether the population and `X8_ERASE` let a device be marked. -/
def State.markable (s : State) (c : Nat) : Bool :=
  !s.x8 c || decide (s.fld ASH_CTRL_X8_ERASE c 0 0 = 1)

/-- Device `d` of a rank marked, with `UNGUARDED` for an x8 device (R191, R192). -/
def State.markDev (s : State) (c sub rank d : Nat) (addr : Option Nat) (r : Option Req) : State :=
  let s1 := (s.setMark c sub rank (16 + d)).ashErr c sub 1 d rank addr r
  if s1.x8 c then s1.ashErr c sub 8 0 rank addr r else s1

/-- `ASH_STATUS.UNGUARDED`: the ranks with an erased x8 device (R192). -/
def State.unguarded (s : State) (c : Nat) : Nat :=
  (List.range 4).foldl (fun a k =>
    if s.x8 c ∧ ((s.markOf c 0 k).isSome ∨ (s.markOf c 1 k).isSome) then a + 2 ^ k else a) 0

/-- Sparing of `rank` starts if a spare is armed and none was used (R193). -/
def State.spareStart (s : State) (c rank : Nat) : State :=
  if s.fld ASH_SPARE_EN c 0 0 = 1 ∧ s.rawF ASH_SPARE_STATE c 0 0 = 0 then
    let to_ := s.fld ASH_SPARE_TO c 0 0
    let s1 := ((s.setF ASH_SPARE_STATE c 0 0 1).setF ASH_SPARE_FROM c 0 0 rank).modAsh c
      (fun a => { a with spareAt := 0, spared := 0, spareTo := to_ })
    ([to_, 4 + to_].foldl (fun t u =>
      if s.rawF TIM_STATUS_LIVE c 0 0 = 0 ∨ (Tbl.find (t.chan c).pnt.nextTick u).isSome then t
      else (t.setOwed c u 1).modPnt c (fun p => { p with
        nextTick := Tbl.put p.nextTick u ((t.chan c).now + t.interval c (t.refMode c) (t.rate2x c)) })) s1).spareNext c
  else s

/-- A device counter judged (R191, R192): marked, or a second device that starts sparing. -/
def State.judgeDev (s : State) (c sub rank d : Nat) (addr : Option Nat) (r : Option Req) : State :=
  let t := s.fld ASH_THRESH_MARK c sub 0
  if t = 0 ∨ s.devCnt c sub rank d < t ∨ s.markOf c sub rank = some d then s
  else if (s.markOf c sub rank).isNone ∧ s.markable c then s.markDev c sub rank d addr r
  else (s.ashErr c sub 7 d rank addr r).spareStart c rank

/-- Every counter of a rank judged, lowest device first. -/
def State.judgeRank (s : State) (c sub rank : Nat) : State :=
  (List.range (deviceCount (s.x8 c))).foldl (fun t d => t.judgeDev c sub rank d none none) s

/-- Column commands of scrub lines took fewer than BUDGET percent of the subchannel's last 4,096 slots
(R188). -/
def State.scrubRoom (s : State) (c sub cyc : Nat) : Bool :=
  let b := max 1 (min 50 (s.fld ASH_SCRUB_BUDGET c 0 0))
  decide ((((s.chan c).ash.scrubSlots.filter (fun e => decide (e.1 = sub ∧ cyc < e.2 + 8192))).length) * 100 <
    b * 4096)

/-- The DRAM key of a place in channel `c`. -/
def dramKey (c : Nat) (p : Pos) : Nat := c * 2 ^ 48 + p.key

/-- A codeword stored (R182). -/
def State.dramPut (s : State) (c : Nat) (p : Pos) (w : List Nat) : State :=
  { s with dram := Tbl.put s.dram (dramKey c p) w }

end Sys2Proof.Machine
end

