-- ==== Sys2Proof/Machine/Issue.lean ====
section
/-! DEFINITION. The issuer of a channel (R124, R131, R136 to R152, R188): what each request asks for next,
which command takes an opportunity, and what an ACT, a column command or a precharge changes. -/

namespace Sys2Proof.Machine

/-- The issuer's and checker's state of a channel changed. -/
def State.modTim (s : State) (c : Nat) (f : TimSt → TimSt) : State :=
  s.modChan c (fun x => { x with tim := f x.tim })

/-- A slot that a column command at `p` fills, starting at `start` (R137). DESIGN CHOICE (log 175): data that starts on an odd
cycle is credited to the slot whose decision cycle is the next one, the last that its command could have filled. -/
def fills (t : List Nat) (start : Nat) (p : Passed) : Bool :=
  let d := p.cyc + (if p.kind.isRd then tabRow t 14 else tabRow t 15)
  p.kind.isCol && decide (d ≤ start) && decide (start < d + tabRow t 16)

/-- Slots whose decision cycle fell in a replay with no request queued are counted at its end: wasted where reissued data
fills them, else front-starved (R155). -/
def State.slotsDue (s : State) (c : Nat) : State :=
  let x := (s.chan c).tim
  let redone (e : Nat × Nat) : Bool := x.hist.any (fun p => decide (p.sub = e.1) && fills x.tabI e.2 p &&
    x.redone.contains (p.sub, p.cyc))
  (x.slotWait.foldl (fun t e => t.count (if redone e then 0x21 else 0x22) c Ev.nothing) s).modTim c (fun t =>
    { t with slotWait := [] })

/-- The replay under way is over, complete or abandoned. -/
def State.endReplay (s : State) (c : Nat) : State := (s.slotsDue c).modTim c TimSt.noReplay

/-- A bank never used (R158). -/
def Bank.init : Bank := ⟨none, none, 2, 0⟩

/-- Bank `b` of channel `c`, numbered as `Pos.bank`. -/
def State.bank (s : State) (c b : Nat) : Bank := Tbl.get (s.chan c).tim.banks Bank.init b

/-- Bank `b` of channel `c` set. -/
def State.setBank (s : State) (c b : Nat) (x : Bank) : State :=
  s.modTim c (fun t => { t with banks := Tbl.set t.banks Bank.init b x })

/-- N of R28 that the channel runs at: what its last training run latched. -/
def State.mult (s : State) (c : Nat) : Nat := ((s.chan c).scr.latched[3]?).getD (s.rawF TIM_RATE_MULT c 0 0)

/-- CCLK cycles in ns: CCLK is 50 N MHz (R28). -/
def State.nsOf (s : State) (c n : Nat) : Nat := n * 20 / max 1 (s.mult c)

/-- The phase of a subchannel (R141): 0 read, 1 write. -/
def State.phase (s : State) (c sub : Nat) : Nat :=
  if sub = 0 then s.rawF TIM_STATUS_PHASE_A c 0 0 else s.rawF TIM_STATUS_PHASE_B c 0 0

/-! What a request asks for next. -/

/-- The data of a line's write: `none` while it is still to come. -/
def Req.lineData (r : Req) (l : LineJob) : Option (BitVec 512) :=
  match l.wdata with
  | some d => some d
  | none =>
    if l.stage = .writeHalf then none
    else if r.op = .wrZero then some 0 else if r.op = .wrLine then r.data else none

/-- What a line asks for next: `some true` a write, `some false` a read, `none` nothing. -/
def LineJob.wants (r : Req) (l : LineJob) : Option Bool :=
  match l.stage with
  | .fresh | .opened =>
    if r.op = .wrLine ∨ r.op = .wrZero then (if (r.lineData l).isSome then some true else none)
    else some false
  | .writeHalf => some true
  | _ => none

/-- A scrub line of kind 2 (R193). -/
def Req.isSpare (r : Req) : Bool := decide (r.src = .scrub 2)

/-- A scrub line. -/
def Req.isScrub (r : Req) : Bool := match r.src with | .scrub _ => true | _ => false

/-- Where the next command of a line goes (R193): a sparing copy writes to the spare rank. -/
def State.target (s : State) (c : Nat) (r : Req) (l : LineJob) : Pos :=
  if r.isSpare then
    (if l.stage = .writeHalf then { l.pos with rank := (s.chan c).ash.spareTo } else l.pos)
  else s.spot c (s.lineOf c l.pos) l.pos

/-- The next line of a request on a subchannel, in run order. -/
def Req.nextLine (r : Req) (sub : Nat) : Option LineJob :=
  r.lines.find? (fun l => decide (l.pos.sub = sub) && (l.wants r).isSome)

/-- A command at a place. -/
def passedAt (cyc : Nat) (k : CmdKind) (p : Pos) : Passed :=
  ⟨cyc, k, p.sub, p.rank, p.bg, p.ba, p.row, false⟩

/-- tRP + tRCD of the table in force (R129). -/
def State.rpRcd (s : State) (c : Nat) : Nat := s.row c 2 + s.row c 1

/-- D of a list of lines (R129). -/
def State.runD (s : State) (c : Nat) (ls : List LineJob) : Nat := runTime (s.rpRcd c) (s.row c 12) ls

/-- The whole window for a run (R130): in same-bank mode tRFCsb counts only for a run that touches the bank
index about to be refreshed. -/
def State.runWindow (s : State) (c : Nat) (r : Req) : Nat :=
  if s.refMode c = 2 ∧ ¬ r.lines.any (fun l =>
      decide (l.pos.ba = Tbl.get (s.chan c).pnt.nextSb 0 (s.unitOf c l)))
  then s.interval c 2 (s.rate2x c) else s.wholeWindow c

/-- The lines a run is judged by: an indivisible copy's reads and writes are one run (R245). -/
def State.runLines (s : State) (r : Req) : List LineJob :=
  if r.indiv then
    (s.reqs.filter (fun q => decide (q.run = r.run))).flatMap (fun q =>
      q.lines.filter (fun l => decide (l.stage = .fresh)))
  else r.lines

/-- An indivisible run that no window holds (R131). -/
def State.runTooLong (s : State) (c : Nat) (r : Req) : Bool :=
  r.indiv && decide (s.runWindow c r < s.runD c (s.runLines r))

/-- The column command of a line is still to come: it is fresh, or only its row was opened. -/
def LineJob.uncommanded (l : LineJob) : Bool := decide (l.stage = .fresh ∨ l.stage = .opened)

/-- R131 at `cyc`: the deadline a run is judged against, and the lines held back before it: the whole of an indivisible
run that does not fit, and of a divisible one all beyond the largest prefix of the lines not yet issued that fits. -/
def State.fitNow (s : State) (c cyc : Nat) (r : Req) : Nat × List Nat :=
  let dl := s.runDeadline c cyc r.indiv r.lines
  if r.indiv then (dl, if s.runD c (s.runLines r) ≤ dl - cyc then [] else r.lines.map LineJob.addr)
  else
    let rest := r.lines.filter LineJob.uncommanded
    (dl, (rest.drop (fitPrefix (s.rpRcd c) (s.row c 12) (dl - cyc) rest)).map LineJob.addr)

/-- The lines of a run that are held back as it was judged, while its deadline stands; `none` where it is to be judged when
its queue's service comes to it. -/
def State.heldBack (s : State) (c cyc : Nat) (r : Req) : Option (List Nat) :=
  (r.fit.filter (fun f => decide (f.1 = s.runDeadline c cyc r.indiv r.lines))).map Prod.snd

/-- How the run was judged does not hold a line back (R131). -/
def State.lineFits (s : State) (c cyc : Nat) (r : Req) (l : LineJob) : Bool :=
  r.isScrub || !l.uncommanded ||
  (s.heldBack c cyc r).all (fun b => if r.indiv then s.halfRun r || decide (b = []) else !b.contains l.addr)

/-- Screed's run has a subchannel quiesced (R207): from step 2 of R209 on, once Pointing has issued the refreshes that
come first. -/
def State.quiesced (s : State) (c sub : Nat) : Bool :=
  (s.chan c).scr.quiet.testBit sub && !(s.chan c).pnt.pauseDue.any (fun u => decide (u / 4 = sub))

/-- A half-issued run still has lines for a subchannel. -/
def State.runOwes (s : State) (c sub : Nat) : Bool :=
  (s.waiting c).any (fun r => s.halfRun r && r.lines.any (fun l => decide (l.pos.sub = sub) && (l.wants r).isSome))

/-- Only Screed's commands go to a subchannel (R209, steps 3 to 7): it is quiesced, no half-issued run has lines for it, and
its read bursts are home. -/
def State.screedOnly (s : State) (c sub : Nat) : Bool :=
  s.quiesced c sub && !s.runOwes c sub && (s.chan c).tim.bursts.all (fun b => decide (b.pos.sub ≠ sub))

/-- A request's next command on a subchannel: its line, kind before auto-precharge, place, and whether it is
allowed now (R124); `free` leaves the timing rows out. -/
structure Cand where
  req : Req
  line : LineJob
  kind : CmdKind
  pos : Pos
  free : Bool
  ok : Bool
  deriving DecidableEq, Repr

/-- An ACT to a place is not held back by Pointing (R149, R160, R166). -/
def State.actOpen (s : State) (c cyc : Nat) (p : Pos) : Bool :=
  let key := physKey p.sub (physRank (s.stack c) p.rank)
  !s.urgent c (4 * p.sub + p.rank) && !s.raaBlocked c p.bank &&
  !((s.chan c).tim.backLive key cyc).any (fun o => decide (o + s.row c 35 < cyc))

/-- The next command of a request on a subchannel (R124); `ph` is the phase it is judged under, or `none`
to leave the phase out. -/
def State.candAt (s : State) (c sub cyc : Nat) (ph : Option Nat) (r : Req) : Option Cand :=
  match r.nextLine sub with
  | none => none
  | some l =>
    let p := s.target c r l
    let wr := (l.wants r).getD false
    let kind : CmdKind := match (s.bank c p.bank).openRow with
      | none => .act
      | some row => if row = p.row then (if wr then .wr else .rd) else .pre
    let awake := (Tbl.find (s.chan c).pnt.pd (physKey sub (physRank (s.stack c) p.rank))).isNone
    let own := match kind with
      | .act => s.actOpen c cyc p
      | .rd => ph.all (· == 0) && s.rrRoom c r
      | .wr => ph.all (· == 1)
      | _ => true
    let free := awake && own && s.lineFits c cyc r l && (!s.quiesced c sub || s.halfRun r)
    some ⟨r, l, kind, p, free, free && (s.chan c).allowed (s.stack c) (s.mrdimm c) (passedAt cyc kind p)⟩

/-- The next command of a request on a subchannel, under the phase in force. -/
def State.cand (s : State) (c sub cyc : Nat) (r : Req) : Option Cand :=
  s.candAt c sub cyc (some (s.phase c sub)) r

/-- Requests put in order of entry into the Setter, ties in acceptance order. -/
def byAge (rs : List Req) : List Req :=
  rs.foldr (fun r l => (l.takeWhile (fun x => decide (x.tEnq < r.tEnq))) ++ r ::
    (l.dropWhile (fun x => decide (x.tEnq < r.tEnq)))) []

/-- The next commands of a queue on a subchannel, oldest request first. -/
def State.queueCands (s : State) (c sub cyc q : Nat) : List Cand :=
  (byAge (s.inQ c q)).filterMap (s.cand c sub cyc)

/-- A request of queue `q` for the subchannel, whose commands are not all issued. -/
def State.queueHas (s : State) (c sub q : Nat) : Bool :=
  s.reqs.any (fun r => r.onChan c && (decide (r.stage = .queued) || decide (r.stage = .issued)) &&
    !(r.colour == .uncoloured) && decide (r.queue = q) && !r.status.isSome &&
    r.lines.any (fun l => decide (l.pos.sub = sub) && l.open_ r))

/-- A column command to an open row. -/
def Cand.isCol (k : Cand) : Bool := k.kind.isCol

/-- The requests of a queue, oldest first, that R148 lets an opportunity choose from. -/
def eligible (bypassMax : Nat) (rs : List Req) : List Req :=
  if bypassMax = 0 then rs.take 1
  else match rs.find? (fun r => decide (bypassMax ≤ r.bypassed) && !r.charged) with
    | some r => [r]
    | none => rs

/-- R148: the request a queue gives the opportunity to. -/
def pickCand (bypassMax : Nat) (cs : List Cand) : Option Cand :=
  let elig := eligible bypassMax (cs.map Cand.req)
  let ok := cs.filter (fun k => k.ok && elig.any (fun r => decide (r.rid = k.req.rid)))
  match ok.find? Cand.isCol with
  | some k => some k
  | none => ok.head?

/-- A scrub line is due: nothing earlier stands on its line. -/
def State.scrubDue (s : State) (r : Req) : Bool :=
  let b := s.before r.rid
  !lineHeld r b && !writeOwed r b

/-- Requests in the order of their numbers: scrub lines as they fell due. -/
def byRid (rs : List Req) : List Req :=
  rs.foldr (fun r l => (l.takeWhile (fun x => decide (x.rid < r.rid))) ++ r ::
    (l.dropWhile (fun x => decide (x.rid < r.rid)))) []

/-- The scrub lines offered before R124 on a subchannel, in the order of R188: of each kind the oldest due first. -/
def State.dueScrubs (s : State) (c sub : Nat) : List Req :=
  (byRid (s.scrubs c 0) ++ byRid (s.scrubs c 1) ++ byRid (s.scrubs c 2)).filter (fun r =>
    s.scrubDue r && (r.nextLine sub).isSome)

/-- The channel's issuer works on a subchannel: serving and awake, or completing what a channel reset found
issued (R410), not in a replay, not quiesced but for a half-issued run (R209). -/
def State.issuerOn (s : State) (c sub : Nat) : Bool :=
  ((s.chanUp c && decide (s.lpState c = 0)) || (s.drainsOut c && decide (s.lpState c = 1))) &&
  !(s.chan c).tim.replaying && (!s.quiesced c sub || s.runOwes c sub)

/-- The candidate of queue `q` of a subchannel (R123). -/
def State.pickOf (s : State) (c sub cyc q : Nat) : Option Cand :=
  pickCand (s.fld TIM_ISSUE_BYPASS_MAX c 0 0) (s.queueCands c sub cyc q)

/-- The queue of R124 for an opportunity of a subchannel, with the deficits as the visits leave them. -/
def State.queueFor (s : State) (c sub cyc : Nat) : State × Option Nat :=
  s.chooseQueue c (fun q => s.queueHas c 0 q || s.queueHas c 1 q) (s.queueHas c sub) (fun q => (s.pickOf c sub cyc q).isSome)
    (fun q => (s.pickOf c sub cyc q).elim 0 (fun k => if k.req.charged then 0 else k.req.cost))

/-- The due scrub line that takes an opportunity within its budget (R188). DESIGN CHOICE (log 180): the oldest due line
alone is looked at; where it is not allowed, one behind it is not offered, though it counts as ready. -/
def State.scrubFor (s : State) (c sub cyc : Nat) : Option Cand :=
  if s.scrubRoom c sub cyc then
    ((s.dueScrubs c sub).head?.bind (s.cand c sub cyc)).filter (fun k => k.ok)
  else none

/-- What takes an opportunity of a subchannel (R124, R188): a due scrub line within its budget, else the
choice of R124, else an initialisation write. -/
def State.choice (s : State) (c sub cyc : Nat) : State × Option Cand :=
  if ¬ s.issuerOn c sub then (s, none)
  else match s.scrubFor c sub cyc with
    | some k => (s, some k)
    | none =>
      match (s.queueFor c sub cyc).2.bind (s.pickOf c sub cyc) with
      | some k => ((s.queueFor c sub cyc).1, some k)
      | none =>
        (s, (((s.scrubs c 3).filter s.scrubDue).head?.bind (s.cand c sub cyc)).filter (fun k => k.ok))

/-! The shadow checker at work. -/

/-- A command passes the shadow checker (R151). -/
def State.violation (s : State) (c : Nat) (n : Passed) : Option (Nat × Nat) :=
  (s.chan c).violation (s.stack c) (s.mrdimm c) (s.postLim c + 1) n

/-- A Setter error bit of `TIM_ERR` with its report (R156), about request `who` where a command of it is concerned
(R343). -/
def State.timErr (s : State) (c : Nat) (f : Field) (kind sev : Nat) (who : Option Req := none) : State :=
  match who with
  | some r => (s.setBit f c 0 0).reportReq c sev 2 kind r
  | none => (s.setBit f c 0 0).reportUnit c sev 8 2 kind none

/-- The violation of R152: captured, reported, the channel fenced. A parity alert of the same cycle leads to no replay
(R157). -/
def State.violate (s : State) (c : Nat) (n : Passed) (rule short : Nat) (who : Option Req := none) : State :=
  let s1 := if s.rawF TIM_CHK_CAP_VALID c 0 0 = 1 then s
    else (((((((s.setBit TIM_CHK_CAP_VALID c 0 0).setF TIM_CHK_CAP_RULE c 0 0 rule).setF
      TIM_CHK_CAP_SUB c 0 0 n.sub).setF TIM_CHK_CAP_RANK c 0 0 n.rank).setF
      TIM_CHK_CAP_BG c 0 0 n.bg).setF TIM_CHK_CAP_BANK c 0 0 n.ba).setF
      TIM_CHK_CAP_CMD c 0 0 n.kind.code).setF TIM_CHK_CAP_SHORT c 0 0 (min short 0xFFFF)
  let s2 := if (s1.chan c).tim.replaying ∧ (s1.chan c).tim.alertAt = n.cyc then s1.endReplay c else s1
  ((s2.timErr c TIM_ERR_CHK_VIOLATION 6 2 who).fenceChan c).settle

/-- A command that the checker stops: a deselect takes its slot (R152). -/
def State.block (s : State) (c : Nat) (n : Passed) (rule short : Nat) (who : Option Req := none) : State :=
  (s.violate c n rule short who).modChan c (fun x => { x with
    now := max x.now n.cyc,
    tim := { x.tim with desel := (n.sub, n.cyc) :: x.tim.desel.filter (fun e => decide (e.2 = n.cyc)) } })

/-- The slot of a command is free and not in the past (R136), nor before the last command of its subchannel, Screed's
among them. -/
def State.slotFree (s : State) (c sub cyc : Nat) : Bool :=
  decide ((s.chan c).now ≤ cyc) && !(s.chan c).tim.desel.contains (sub, cyc) &&
  !(s.chan c).tim.hist.any (fun p => decide (p.sub = sub ∧ cyc ≤ p.cyc))

/-- A command takes its slot: checked, recorded, and its effect made (R136, R151); none goes to a subchannel that is
Screed's (R209). `f` is the effect of a
command that the issuer or Pointing makes, and whether the command was issued; where it has none the slot
stays empty. `who` is the request it serves. -/
def State.issue (s : State) (c : Nat) (n : Passed) (f : State → Option (State × Bool)) (who : Option Req := none) :
    State :=
  if ¬ s.hasChan c ∨ s.rawF TIM_STATUS_LIVE c 0 0 = 0 ∨ ¬ s.slotFree c n.sub n.cyc ∨ s.screedOnly c n.sub
  then s
  else match s.violation c n with
    | some (rule, short) => s.block c n rule short who
    | none =>
      match f s with
      | none => s
      | some (t, true) => t.modChan c (fun x => { x with tim := x.tim.record n, now := n.cyc })
      | some (t, false) => t

/-! Banks. -/

/-- An ACT at a place (R145, R146, R166, R167): the bank opens in both bank models, the predictor and the
protection counts move. -/
def State.actBank (s : State) (c : Nat) (p : Pos) (cyc : Nat) : State :=
  let b := s.bank c p.bank
  let pred := match b.lastRow with
    | none => b.pred
    | some r => if r = p.row then min 3 (b.pred + 1) else b.pred - 1
  let s1 := (s.setBank c p.bank ⟨some p.row, some p.row, pred, cyc⟩).modTim c (fun t =>
    { t with chkOpen := Tbl.put t.chkOpen p.bank p.row })
  (s1.protectAct c p.bank (4 * p.sub + p.rank) p.row).raaCheck s c

/-- The banks that meet `p` close in both bank models; last rows and predictors stay (R146). -/
def State.closeBanks (s : State) (c : Nat) (p : Nat → Bool) : State :=
  s.modTim c (fun t => { t with
    banks := Tbl.mapSet (fun _ => Bank.init) (fun b x => if p b then { x with openRow := none } else x) t.banks,
    chkOpen := Tbl.keep (fun b => !p b) t.chkOpen })

/-- Bank `b` is open. -/
def State.bankOpen (s : State) (c b : Nat) : Bool := (s.bank c b).openRow.isSome

/-- Some bank that meets `p` is open. -/
def State.anyOpen (s : State) (c : Nat) (p : Nat → Bool) : Bool :=
  (s.chan c).tim.chkOpen.any (fun e => p e.1)

/-- A queued request (its command still to come), or a further line of this one, targets the row of a place;
and one targets another row of its bank (R145). The write half of the same line is no other request's. -/
def State.rowWanted (s : State) (c : Nat) (k : Cand) : Bool × Bool :=
  let hits (same : Bool) (q : Req) (l : LineJob) : Bool :=
    let p := s.target c q l
    decide (p.bank = k.pos.bank) && (if same then decide (p.row = k.pos.row) else decide (p.row ≠ k.pos.row))
  let others := s.reqs.filter (fun r => r.onChan c && !(r.colour == .uncoloured) &&
    (decide (r.stage = .queued) || decide (r.stage = .issued)) && !r.status.isSome && decide (r.rid ≠ k.req.rid))
  let mine := k.req.lines.filter (fun l => decide (l ≠ k.line) && l.open_ k.req)
  let any (same : Bool) : Bool :=
    others.any (fun r => r.lines.any (fun l => l.open_ r && hits same r l)) || mine.any (hits same k.req)
  (any true, any false)

/-- The issuer uses auto-precharge for a column command (R145, R147). -/
def State.autoPre (s : State) (c : Nat) (k : Cand) : Bool :=
  let (same, other) := s.rowWanted c k
  if same then false
  else if other then true
  else match s.fld TIM_ISSUE_POLICY c 0 0 with
    | 1 => true
    | 2 => false
    | _ => decide ((s.bank c k.pos.bank).pred < 2)

/-- The command a choice issues (R145). -/
def State.cmdOf (s : State) (c : Nat) (k : Cand) : CmdKind :=
  if k.kind = .rd then (if s.autoPre c k then .rda else .rd)
  else if k.kind = .wr then (if s.autoPre c k then .wra else .wr)
  else k.kind

/-! Runs. -/

/-- An indivisible run refused (R131). -/
def State.refuseRun (s : State) (c : Nat) (r : Req) : State :=
  let m := match r.src with | .mason m => m | _ => 0
  let s1 := if s.rawF SET_ERR_RTL c 0 0 = 1 then s else s.setF SET_ERR_FIRST_MASON c 0 0 m
  (((s1.setBit SET_ERR_RTL c 0 0).bumpF SET_ERR_RTL_COUNT c 0 0).count 0x14 c r.ev).fixAll (fun q => decide (q.run = r.run)) .runTooLong

/-- A run that its queue's service has come to judged (R131, R133): refused, or held to the lines that fit until its
deadline moves; a Mason's run is counted once as split or made to wait. -/
def State.judge (s : State) (c cyc : Nat) (r : Req) : State :=
  if s.runTooLong c r then s.refuseRun c r
  else
    let f := s.fitNow c cyc r
    let s1 := s.modReq r.rid (fun q => { q with fit := some f })
    if f.2 = [] ∨ r.judged ∨ r.run.isNone then s1
    else (s1.modReq r.rid (fun q => { q with judged := true })).count (if r.indiv then 0x13 else 0x12) c r.ev

/-- The run needs no judgement: none is made of a scrub line or of a run half issued, nor, while its deadline stands, of one
that was judged and begun. -/
def State.judgedRun (s : State) (c cyc : Nat) (r : Req) : Bool :=
  r.isScrub || s.halfRun r || (r.charged && (s.heldBack c cyc r).isSome)

/-- The run that an opportunity of a subchannel comes to is judged (R131); where it is refused or must wait, or its next
line must, so is the one that comes after it. -/
def State.judgeNext (c sub cyc : Nat) : Nat → State → State
  | 0, s => s
  | k + 1, s => match (s.choice c sub cyc).2 with
    | none => s
    | some x =>
      if s.judgedRun c cyc x.req then s
      else
        let t := s.judge c cyc x.req
        if (t.req x.req.rid).any (fun r => !r.status.isSome && t.lineFits c cyc r x.line) then t
        else State.judgeNext c sub cyc k t

/-- The requests of a queue that an opportunity of a subchannel chooses from (R148). -/
def State.heads (s : State) (c sub q : Nat) : List Req :=
  eligible (s.fld TIM_ISSUE_BYPASS_MAX c 0 0) ((byAge (s.inQ c q)).filter (fun r => (r.nextLine sub).isSome))

/-- The runs that an opportunity of a subchannel comes to, judged (R131). -/
def State.judgeHeads (s : State) (c sub cyc : Nat) : State := State.judgeNext c sub cyc (s.reqs.length + 1) s

/-- An indivisible run was judged to wait (R131). -/
def State.runHeld (s : State) (c : Nat) (r : Req) : Bool :=
  r.inSetter c && r.indiv && !s.halfRun r && r.fit.any (fun f => decide (f.2 ≠ []))

/-- The indivisible runs that wait are judged again, a refresh being complete or the window changed (R131, R133): one that
no window holds any more is refused at once, any other judged when its service comes. -/
def State.rejudge (s : State) (c : Nat) : State :=
  (s.reqs.filter (s.runHeld c)).foldl (fun t r =>
    if t.runTooLong c r then t.refuseRun c r else t.modReq r.rid (fun q => { q with fit := none })) s

/-! Effects of the Setter's commands. -/

/-- One line of a request changed. -/
def State.modLine (s : State) (rid : Nat) (l : LineJob) (f : LineJob → LineJob) : State :=
  s.modReq rid (fun q => { q with lines := q.lines.map (fun x => if x = l then f x else x) })

/-- Older requests of its queue that wait for their first command are passed over once more (R148). -/
def State.passOver (s : State) (c sub : Nat) (r : Req) : State :=
  let older := ((byAge (s.inQ c r.queue)).takeWhile (fun q => decide (q.rid ≠ r.rid))).map (fun q => q.rid)
  { s with reqs := s.reqs.map (fun q =>
      if older.contains q.rid ∧ ¬ q.charged ∧ q.lines.any (fun l => decide (l.pos.sub = sub)) then
        { q with bypassed := q.bypassed + 1 }
      else q) }

/-- The first command of a request (R125, R132, R363, R368): charged, its row outcome counted, its delay
delivered. -/
def State.firstCmd (s : State) (c sub : Nat) (k : Cand) : State :=
  let r := k.req
  let s0 := if r.isScrub then s else s.passOver c sub r
  if r.isScrub ∨ r.charged then s0
  else
    let (code, row) : Nat × Nat := match k.kind with
      | .act => (0xA, 2) | .pre => (0xB, 3) | _ => (9, 1)
    let s1 := s0.modReq r.rid (fun q => { q with
      charged := true, stage := .issued,
      tagRec := q.tagRec.map (fun t => { t with cmd := some s.uptime, row := row }) })
    (s1.count code c r.ev).queueDelay c r.queue (s.uptime - r.tEnq)

/-- The last column command to a unit, for idleness (R160), and the use of its bank (R147). -/
def State.colUsed (s : State) (c : Nat) (p : Pos) (cyc : Nat) : State :=
  let s1 := s.setBank c p.bank { s.bank c p.bank with used := cyc }
  s1.modPnt c (fun x => { x with lastCol := Tbl.set x.lastCol 0 (4 * p.sub + p.rank) cyc })

/-- A row hit at a request's first column command (R146). DESIGN CHOICE (log 156): that command moves no predictor where
an ACT or PRE for another line of the request came before it. -/
def State.hitUp (s : State) (c : Nat) (k : Cand) : State :=
  if k.line.stage = .fresh ∧ ¬ k.req.charged then
    let b := s.bank c k.pos.bank
    s.setBank c k.pos.bank { b with pred := min 3 (b.pred + 1) }
  else s

/-- A scrub column command counted against the budget, and as SCRUB_LINE (R188, R363). -/
def State.scrubUsed (s : State) (c sub cyc : Nat) (r : Req) : State :=
  (s.modAsh c (fun a => { a with
    scrubSlots := (sub, cyc) :: a.scrubSlots.filter (fun e => decide (cyc < e.2 + 8192)) })).count 0x19 c r.ev

/-- DATA of R368: the first beat, `n` cycles after the command. -/
def State.tagData (s : State) (c rid n : Nat) : State :=
  s.modReq rid (fun q => { q with tagRec := q.tagRec.map (fun t =>
    { t with dat := if t.dat.isSome then t.dat else some (s.uptime + s.nsOf c n) }) })

/-- The effect of an ACT for a choice. -/
def State.doAct (s : State) (c cyc : Nat) (k : Cand) : State :=
  let s1 := (s.firstCmd c k.pos.sub k).modLine k.req.rid k.line (fun l =>
    if l.stage = .fresh then { l with stage := .opened } else l)
  let s2 := s1.actBank c k.pos cyc
  if k.req.isScrub then s2 else s2.count 7 c k.req.ev

/-- The effect of a PRE for a choice. -/
def State.doPre (s : State) (c : Nat) (k : Cand) : State :=
  let s1 := (s.firstCmd c k.pos.sub k).modLine k.req.rid k.line (fun l =>
    if l.stage = .fresh then { l with stage := .opened } else l)
  (s1.closeBanks c (fun b => decide (b = k.pos.bank))).count 8 c Ev.nothing

/-- The effect of a read column command for a choice (R79, R183). -/
def State.doRead (s : State) (c cyc : Nat) (k : Cand) (auto : Bool) : State :=
  let r := k.req
  let s1 := ((s.hitUp c k).firstCmd c k.pos.sub k).modLine r.rid k.line (fun l => { l with stage := .reading })
  let s2 := (s1.colUsed c k.pos cyc).tagData c r.rid (s.row c 14)
  let s2' := s2.rrHold c r.rid
  let s3 := if r.isScrub then s2'.scrubUsed c k.pos.sub cyc r else s2'.count 5 c r.ev
  let s4 := s3.modTim c (fun t => { t with bursts := t.bursts ++ [⟨r.rid, k.line.addr, k.pos, cyc⟩] })
  let s5 := if r.src = .scrub 1 then s4.patrolRead c (s.lineOf c k.line.pos) else s4
  if auto then s5.closeBanks c (fun b => decide (b = k.pos.bank)) else s5

/-- The status of a finished write (R67, R68). -/
def Req.writeStatus (r : Req) : Status :=
  if r.op.isRmw then
    if r.op = .wrPart ∧ r.wparity then .poison else if r.corrected then .okCorrected else .ok
  else if r.wparity then .poison else .ok

/-- The end of a scrub write: the line leaves, and the work goes on at its cursor (R190, R193). -/
def State.scrubEnd (s : State) (c : Nat) (r : Req) : State :=
  let L := (r.lines.head?).elim 0 (fun l => s.lineOf c l.pos)
  let s1 := (s.rrDropAll r.rid).dropReq r.rid
  match r.src with
  | .scrub 2 => (s1.modAsh c (fun a => { a with
      spareAt := max a.spareAt (L + 1), spared := a.spared + 1, rawCopy := none })).spareNext c
  | .scrub 3 => (s1.modAsh c (fun a => { a with
      initRun := a.initRun.map (fun e => (max e.1 (L + 1), e.2)) })).initNext c
  | _ => s1

/-- The effect of a write column command for a choice (R67, R182, R190, R193). -/
def State.doWrite (s : State) (c cyc : Nat) (k : Cand) (auto : Bool) : State :=
  let r := k.req
  let poison := if k.line.stage = .writeHalf ∨ k.line.wdata.isSome then k.line.wpoison else r.dataPoison
  let s1 := ((s.hitUp c k).firstCmd c k.pos.sub k).modLine r.rid k.line (fun l => { l with stage := .finished })
  let s2 := ((s1.colUsed c k.pos cyc).tagData c r.rid (s.row c 15)).dramPut c k.pos
    (match (if r.isSpare then (s.chan c).ash.rawCopy else none) with
     | some w => w
     | none => rsEncode (s.x8 c) ((r.lineData k.line).getD 0) k.line.addr poison)
  let s3 := s2.modTim c (fun t => { t with
    drained := if k.pos.sub = 0 then (t.drained.1 + 1, t.drained.2) else (t.drained.1, t.drained.2 + 1) })
  let s4 := if auto then s3.closeBanks c (fun b => decide (b = k.pos.bank)) else s3
  if r.isScrub then (s4.scrubUsed c k.pos.sub cyc r).scrubEnd c r
  else
    let s5 := s4.count 6 c r.ev
    match s5.req r.rid with
    | none => s5
    | some q =>
      if q.lines.all (fun l => decide (l.stage = .finished)) then
        ((s5.writeLatency c (s.uptime - r.tAlloc + s.nsOf c (s.row c 15 + s.row c 16))).fix r.rid
          q.writeStatus q.rdata).settle
      else s5

/-- The place a command names. -/
def cmdPos (cmd : Cmd) : Pos := ⟨cmd.sub, cmd.rank, cmd.bg, cmd.ba, cmd.row, cmd.col⟩

/-- The request a command is issued for: none for a scrub line. -/
def Cand.rid? (k : Cand) : Option Nat := if k.req.isScrub then none else some k.req.rid

/-- The write whose place fails the position check (R194): a write column command goes to another place than its
entry's. DEDUCED (log 128): Ashlar's recomputation uses the tables as they stood when the entry was decoded. -/
def State.posFault (s : State) (cmd : Cmd) (kind : CmdKind) : Option Cand :=
  if ¬ kind.isWr ∨ ¬ s.slotFree cmd.chan cmd.sub cmd.cyc then none
  else (s.choice cmd.chan cmd.sub cmd.cyc).2.filter (fun k =>
    k.kind.isWr && decide (cmd.rid = k.rid?) && decide (k.pos.sub = cmd.sub) && decide (k.pos ≠ cmdPos cmd))

/-- The Setter's part of a command (R124, R145): its effect where it is the issuer's choice at its instant, and
whether it was issued. -/
def State.setterEffect (cmd : Cmd) (kind : CmdKind) (s : State) : Option (State × Bool) :=
  let c := cmd.chan
  let s1 := (s.choice c cmd.sub cmd.cyc).1
  match (s.choice c cmd.sub cmd.cyc).2 with
  | none => none
  | some k =>
    if s.cmdOf c k ≠ kind ∨ k.pos.sub ≠ cmd.sub ∨ k.pos.rank ≠ cmd.rank ∨ k.pos.bg ≠ cmd.bg ∨
        k.pos.ba ≠ cmd.ba ∨ (kind ≠ .pre ∧ k.pos.row ≠ cmd.row) ∨
        (kind.isCol ∧ k.pos.col ≠ cmd.col) ∨
        cmd.rid ≠ k.rid? then none
    else match kind with
      | .act => some (s1.doAct c cmd.cyc k, true)
      | .pre => some (s1.doPre c k, true)
      | .rd => some (s1.doRead c cmd.cyc k false, true)
      | .rda => some (s1.doRead c cmd.cyc k true, true)
      | .wr | .wra => some (s1.doWrite c cmd.cyc k (decide (kind = .wra)), true)
      | _ => none

/-- A command as the shadow checker sees it. -/
def Cmd.passed (cmd : Cmd) (kind : CmdKind) : Passed :=
  ⟨cmd.cyc, kind, cmd.sub, cmd.rank, cmd.bg, cmd.ba, cmd.row, cmd.fine⟩

/-- The request that a command of the Setter is for: the one it names, else the scrub line that the opportunity would give
the same bank (R343). -/
def State.servedReq (s : State) (cmd : Cmd) (kind : CmdKind) : Option Req :=
  match cmd.rid with
  | some k => s.req k
  | none => ((s.choice cmd.chan cmd.sub cmd.cyc).2.filter (fun k =>
      k.req.isScrub && decide (k.pos.bank = (Cmd.passed cmd kind).bankKey))).map Cand.req

/-- A Setter command (R136): the runs that its opportunity comes to are judged first (R131). -/
def State.setterCmd (s : State) (cmd : Cmd) (kind : CmdKind) : State :=
  let s0 := if s.hasChan cmd.chan ∧ s.issuerOn cmd.chan cmd.sub then s.judgeHeads cmd.chan cmd.sub cmd.cyc else s
  match (if s0.hasChan cmd.chan ∧ s0.rawF TIM_STATUS_LIVE cmd.chan 0 0 = 1 then s0.posFault cmd kind else none) with
  | some k =>
    (s0.ashErr cmd.chan cmd.sub 6 0 k.line.pos.rank (some k.line.addr) (some k.req)).block cmd.chan
      (Cmd.passed cmd kind) (Config.posCheckRule % 64) 0 (some k.req)
  | none => s0.issue cmd.chan (Cmd.passed cmd kind) (State.setterEffect cmd kind) (s0.servedReq cmd kind)

end Sys2Proof.Machine
end

