-- ==== Sys2Proof/Machine/Ashlar.lean ====
section
/-! DEFINITION. The commands of Ashlar (R183 to R197): the verdict on a burst and what follows from it, patrol,
counters, initialisation, sparing, and the writes of its registers with an effect of their own. -/

namespace Sys2Proof.Machine

/-! Verdicts. -/

/-- The Plumb event of a verdict (R363). -/
def Verdict.event : Verdict → Nat
  | .clean => 0 | .corrected => 0x15 | .poisonStored => 0x16 | .uncorrectable => 0x17 | .addressMismatch => 0x18

/-- A burst as it returns: the stored codeword with the errors met on the way; a line never written holds
random symbols (R190), and is read as an uncorrectable one. -/
def State.burstWord (s : State) (c : Nat) (b : Burst) (errs : List (Nat × Nat)) : Option (List Nat) :=
  (Tbl.find s.dram (dramKey c b.pos)).map (fun w => applyChange w errs)

/-- The verdict on a burst (R183); `split` says that the syndrome generators differ. -/
def State.judgeBurst (s : State) (c : Nat) (b : Burst) (errs : List (Nat × Nat)) (split : Bool) : Judged :=
  match s.burstWord c b errs with
  | none => ⟨.uncorrectable, 0, [], split⟩
  | some w =>
    rsDecode (s.x8 c) (decide (s.fld ASH_CTRL_ACCEPT c 0 0 = 1))
      (if s.markable c then s.markOf c b.pos.sub b.pos.rank else none) w b.addr split

/-- The one device that holds every located symbol (R191). -/
def State.soleDevice (s : State) (c : Nat) (located : List Nat) : Option Nat :=
  match located with
  | [] => none
  | p :: _ =>
    let d := deviceOf (s.x8 c) p
    if located.all (fun q => decide (deviceOf (s.x8 c) q = d)) then some d else none

/-- A verdict counted: Plumb, `ASH_COUNT`, and the latency of a demand read (R363, R372). -/
def State.countVerdict (s : State) (c : Nat) (b : Burst) (r : Req) (j : Judged) : State :=
  let e := if r.isScrub then Ev.nothing else { r.ev with addr := some b.addr }
  let s1 := s.count j.verdict.event c e
  match j.verdict with
  | .corrected => s1.bumpF ASH_COUNT_CE c b.pos.sub 0
  | .uncorrectable => s1.bumpF ASH_COUNT_UE c b.pos.sub 0
  | .addressMismatch => s1.bumpF ASH_COUNT_AMM c b.pos.sub 0
  | _ => s1

/-- A verdict reported (R183, R195): a recheck or generator failure as DEC_CHK, an uncorrectable burst by who
read it, a sparing copy's under no bit. -/
def State.reportVerdict (s : State) (c : Nat) (b : Burst) (r : Req) (j : Judged) : State :=
  let e (bit dev : Nat) (t : State) : State := t.ashErr c b.pos.sub bit dev b.pos.rank (some b.addr) (some r)
  match j.verdict with
  | .corrected => e 0 ((j.located.head?).elim 0 (deviceOf (s.x8 c))) s
  | .uncorrectable =>
    if j.decChk then e 5 0 s
    else (match r.src with
      | .scrub 1 => e 4 0 s
      | .scrub _ => s
      | _ => e 2 0 s)
  | .addressMismatch => (match r.src with | .scrub 2 => s | _ => e 3 0 s)
  | _ => s

/-- Counters, marks and sparing after a verdict (R191, R192). -/
def State.repair (s : State) (c : Nat) (b : Burst) (r : Req) (j : Judged) : State :=
  let (sub, rank) := (b.pos.sub, b.pos.rank)
  match j.verdict with
  | .corrected =>
    (match s.soleDevice c j.located with
     | some d =>
       (s.setDevCnt c sub rank d (min 63 (s.devCnt c sub rank d + 1))).judgeDev c sub rank d (some b.addr) (some r)
     | none => s)
  | .uncorrectable => if (s.markOf c sub rank).isSome then s.spareStart c rank else s
  | _ => s

/-! What a verdict makes of the read. -/

/-- The line a burst belongs to, in its request. -/
def Req.lineOfBurst (r : Req) (b : Burst) : Option LineJob :=
  r.lines.find? (fun l => decide (l.addr = b.addr) && decide (l.stage = .reading))

/-- Another entry that is not FREE stands on the line (R189). -/
def State.lineBusy (s : State) (rid addr : Nat) : Bool :=
  s.reqs.any (fun r => decide (r.rid ≠ rid) && r.part.isSome && r.hazardLines.contains (addr / 64))

/-- The demand write-back of a corrected line (R189), unless one of its exceptions holds: it takes the read's place in
the hazard chain of the line (R196). -/
def State.writeBack (s : State) (c : Nat) (r : Req) (l : LineJob) (j : Judged) : State :=
  if j.verdict = .corrected ∧ j.located ≠ [] ∧ ¬ s.lineBusy r.rid l.addr then
    let (s1, rid) := s.newRid
    let w := scrubReq rid s.uptime 0 c l.addr l.pos .wrLine (some j.line)
    { s1 with reqs := s1.reqs.flatMap (fun q => if q.rid = r.rid then [q, w] else [q]) }
  else s

/-- A verdict that delivers no data. -/
def Judged.bad (j : Judged) : Bool := j.verdict != .clean && j.verdict != .corrected

/-- The status of a read with data. -/
def Judged.status (j : Judged) : Status := if j.verdict = .corrected then .okCorrected else .ok

/-- A plain read answered (R67, R183); `lost` says that its data was lost in completion storage (R93). -/
def State.endRead (s : State) (c : Nat) (r : Req) (l : LineJob) (j : Judged) (lost : Bool) : State :=
  let s1 := (s.modLine r.rid l (fun x => { x with stage := .finished })).writeBack c r l j
  if j.bad ∨ lost then s1.fix r.rid .poison 0 else s1.fix r.rid j.status (r.readOf j.line)

/-- The source line of a copy handed to the lines that wait for it (R187, R245, R246). -/
def State.feedCopy (s : State) (run src : Nat) (line : BitVec 512) (poison : Bool) : State :=
  { s with reqs := s.reqs.map (fun q =>
      if q.run = some run ∧ q.op = .wrLine then
        { q with lines := q.lines.map (fun x =>
            if x.source = src ∧ x.wdata.isNone ∧ x.stage ≠ .finished then
              { x with wdata := some line, wpoison := poison } else x) }
      else q) }

/-- A line of a run's read sub-run (R245, R246): the last one gives the sub-run its status. A line lost in completion
storage is read as poison (R93). -/
def State.endRunRead (s : State) (c run : Nat) (r : Req) (l : LineJob) (j : Judged) (lost : Bool) : State :=
  let bad := j.bad || lost
  let s1 := (s.modLine r.rid l (fun x => { x with stage := .finished })).rrDrop c r.rid
  let s2 := s1.modReq r.rid (fun q => { q with
    wpoison := q.wpoison || bad, corrected := q.corrected || decide (j.verdict = .corrected) })
  let s3 := (s2.feedCopy run l.addr j.line bad).writeBack c r l j
  match s3.req r.rid with
  | none => s3
  | some q =>
    if q.lines.all (fun x => decide (x.stage = .finished)) then
      s3.fix r.rid (if q.wpoison then .poison else if q.corrected then .okCorrected else .ok) 0
    else s3

/-- The channel is fenced. -/
def State.chanFenced (s : State) (c : Nat) : Bool := (s.chan c).fenced || (s.chan c).scr.trainFence

/-- The write half of a read-modify-write is due; on a fenced channel the request is answered FENCED. -/
def State.toWrite (s : State) (c : Nat) (r : Req) (l : LineJob) (line old : BitVec 512) (poison corrected : Bool) :
    State :=
  if s.chanFenced c then s.fix r.rid .fenced 0
  else (s.modLine r.rid l (fun x => { x with
    stage := .writeHalf, wdata := some line, wpoison := poison })).modReq r.rid (fun q => { q with
      corrected := corrected, rdata := old })

/-- The read half of a read-modify-write judged (R55, R67, R68, R187, R189); one whose data was lost in completion storage
counts as poison (R93, DEDUCED, log 172). DESIGN CHOICE (log 155): a WR_PART of poisoned data over a line that Ashlar
corrected completes OK_CORRECTED, the row of R67 for WR_PART, and not OK, the row for any line state. DESIGN CHOICE (log
173): a WR_PART of poisoned data, or with a parity error, stores the line poisoned though its mask enables no byte. DESIGN
CHOICE (log 174): an atomic or SETAD with a poisoned operand writes nothing, where Ashlar corrected the line too. -/
def State.endRmw (s : State) (c : Nat) (r : Req) (l : LineJob) (j : Judged) (lost : Bool) : State :=
  if r.dataPoison ∧ r.op = .wrPart then s.toWrite c r l 0 0 true (decide (j.verdict = .corrected))
  else if j.bad ∨ lost ∨ r.dataPoison then s.fix r.rid .poison 0
  else
    let (new, old) := rmwLine r j.line (r.data.getD 0)
    let corrected := decide (j.verdict = .corrected)
    let still := if r.op = .wrPart then decide (r.mask = 0) else decide (new = j.line)
    if still ∧ ¬ corrected then s.fix r.rid .ok old
    else s.toWrite c r l new old false corrected

/-- A patrol read judged (R189). DESIGN CHOICE (log 172): a corrected line that was lost in completion storage is not
rewritten. -/
def State.endPatrol (s : State) (r : Req) (l : LineJob) (j : Judged) (lost : Bool) : State :=
  let rewrite (line : BitVec 512) (poison : Bool) : State :=
    s.modLine r.rid l (fun x => { x with stage := .writeHalf, wdata := some line, wpoison := poison })
  match j.verdict with
  | .corrected => if j.located = [] ∨ lost ∨ s.lineBusy r.rid l.addr then (s.rrDropAll r.rid).dropReq r.rid else rewrite j.line false
  | .uncorrectable => rewrite 0 true
  | _ => (s.rrDropAll r.rid).dropReq r.rid

/-- A sparing read judged (R193): every verdict leads to a write to the spare rank. DESIGN CHOICE (log 172): a line lost
in completion storage is written poisoned. -/
def State.endSpare (s : State) (c : Nat) (r : Req) (l : LineJob) (j : Judged) (word : Option (List Nat)) (lost : Bool) :
    State :=
  let bad := decide (j.verdict = .uncorrectable) || decide (j.verdict = .poisonStored) || lost
  (s.modLine r.rid l (fun x => { x with stage := .writeHalf, wdata := some j.line, wpoison := bad })).modAsh c
    (fun a => { a with rawCopy := if j.verdict = .addressMismatch ∧ ¬ lost then word else none })

/-- VERDICT of R368, and the read latency once no read of the request is left. -/
def State.verdictTime (s : State) (c : Nat) (r : Req) : State :=
  if r.isScrub then s
  else
    let s1 := s.modReq r.rid (fun q => { q with
      tagRec := q.tagRec.map (fun t => { t with verdict := some s.uptime }) })
    if (r.lines.filter (fun l => decide (l.stage = .reading ∨ l.stage = .fresh ∨ l.stage = .opened))).length ≤ 1 then
      s1.readLatency c (s.uptime - r.tAlloc)
    else s1

/-- The verdict on the oldest burst of a channel, and everything that follows from it; `upset` 1 and 2 are errors of the
read-return store that its line met (R93). -/
def State.decodeBurst (s : State) (c : Nat) (errs : List (Nat × Nat)) (upset : Nat) : State :=
  match (s.chan c).tim.bursts with
  | [] => s
  | b :: rest =>
    let s0 := s.modTim c (fun t => { t with bursts := rest })
    match s0.req b.rid with
    | none => s0
    | some r =>
      match r.lineOfBurst b with
      | none => s0
      | some l =>
        let j := s0.judgeBurst c b errs (decide (upset = 3))
        let lost := decide (upset = 2)
        let s1 := ((((s0.verdictTime c r).countVerdict c b r j).reportVerdict c b r j).repair c b r j).storageUpset 2 upset r
        let s2 := match r.src with
          | .scrub 2 => s1.endSpare c r l j (s0.burstWord c b errs) lost
          | .scrub _ => s1.endPatrol r l j lost
          | _ =>
            if r.op.isRmw then s1.endRmw c r l j lost
            else match r.run with
              | some n => s1.endRunRead c n r l j lost
              | none => s1.endRead c r l j lost
        s2.settle

/-- The channel's oldest burst belongs to a command that a replay under way will reissue: what was received for it is
discarded (R150 step 4). -/
def State.burstStale (s : State) (c : Nat) : Bool :=
  let t := (s.chan c).tim
  t.replaying && (t.bursts.head?).any (fun b => t.replayBuf.any (fun p =>
    p.kind.isRd && decide (p.cyc = b.cyc ∧ p.sub = b.pos.sub)))

/-- BURST_DECODE (R183). -/
def execBurstDecode (chan : Nat) (errs : List (Nat × Nat)) (upset : Nat) (s : State) :
    Host.Outcome State Fault Refusal :=
  done (s.live (fun s => s.whenTrue (s.hasChan chan && !s.burstStale chan) (fun s => s.decodeBurst chan errs upset)))

/-! Sparing and patrol. -/

/-- The copy of a rank ends (R193): STATE DONE, the marks and counters of FROM cleared. -/
def State.spareDone (s : State) (c : Nat) : State :=
  let from_ := s.rawF ASH_SPARE_FROM c 0 0
  let s1 := s.setF ASH_SPARE_STATE c 0 0 2
  [0, 1].foldl (fun t sub => (t.setMark c sub from_ 0).setF ASH_DEV_CNT_CNT c sub from_ 0) s1

/-- SPARING_DONE (R193): no line of the rank is left to copy. -/
def execSparingDone (chan : Nat) (s : State) : Host.Outcome State Fault Refusal :=
  done (s.live (fun s => s.whenTrue (s.hasChan chan && decide (s.rawF ASH_SPARE_STATE chan 0 0 = 1) &&
    decide (s.scrubs chan 2 = []) && decide (s.chanLines chan ≤ (s.chan chan).ash.spareAt))
    (fun s => s.spareDone chan)))

/-- Patrol runs (R189): PERIOD is set, lines are mapped, and the channel is neither in self-refresh, nor paused
for training, nor under reset. -/
def State.patrolOn (s : State) (c : Nat) : Bool :=
  decide (0 < s.fld ASH_SCRUB_PERIOD c 0 0) && decide (0 < s.mappedLines c) && s.chanUp c &&
  decide (s.lpState c = 0) && decide ((s.chan c).scr.quiet = 0)

/-- The instant `t` and fraction `r` moved on by one pace interval, `p` ns over `n` lines (R189). -/
def paceOn (p n : Nat) (t : Nat × Nat) : Nat × Nat := (t.1 + (t.2 + p) / max 1 n, (t.2 + p) % max 1 n)

/-- The walk moves past line `L`, which becomes due; the next one is due one pace interval later. DESIGN CHOICE (log 168):
a pass begins with its first line due, or where that came earlier, with the end of the pass before. -/
def State.patrolLine (s : State) (c L : Nat) : State :=
  (s.modAsh c (fun a => { a with
    patrol := L + 1, passOn := true, passStart := if a.passOn then a.passStart else s.uptime,
    dueAt := paceOn (s.patrolNs c) (s.mappedLines c) a.dueAt })).offer 1 c L .rdLine

/-- The walk starts again: a pass whose last line no region maps any more is through. -/
def State.walkOver (s : State) (c : Nat) : State :=
  let s1 := s.modAsh c (fun a => { a with patrol := 0 })
  if (s.chan c).ash.passOn ∧ ¬ (s.scrubs c 1).any Req.unread ∧ (s.chan c).ash.again = [] then s1.passEnd c else s1

/-- The next line of the walk becomes due (R189): a walk that is at its end starts again. -/
def State.patrolNext (s : State) (c : Nat) : State :=
  match s.nextMapped c (s.chan c).ash.patrol with
  | some L => s.patrolLine c L
  | none => ((s.walkOver c).nextMapped c 0).elim (s.walkOver c) ((s.walkOver c).patrolLine c)

/-- PATROL_LINE_DUE (R189): one pace interval after the last line became due. -/
def execPatrolLineDue (chan : Nat) (s : State) : Host.Outcome State Fault Refusal :=
  done (s.live (fun s =>
    s.whenTrue (s.hasChan chan && s.patrolOn chan && decide ((s.chan chan).ash.dueAt.1 ≤ s.uptime))
      (fun s => s.patrolNext chan)))

/-- `dt` ns pass: where patrol pauses, the next line is put off by as much (R189). -/
def State.patrolPause (s : State) (c dt : Nat) : State :=
  if s.patrolOn c then s else s.modAsh c (fun a => { a with dueAt := (a.dueAt.1 + dt, a.dueAt.2) })

/-- PATROL_LATE (R189): a pass runs more than 1 % beyond PERIOD. DESIGN CHOICE (log 160): the channel's patrol has its bit and
its capture in subchannel A's registers. -/
def execPatrolLate (chan : Nat) (s : State) : Host.Outcome State Fault Refusal :=
  done (s.live (fun s => s.whenTrue (s.hasChan chan && decide (0 < s.fld ASH_SCRUB_PERIOD chan 0 0) &&
      decide (0 < s.mappedLines chan) && decide (s.rawF ASH_STATUS_PATROL_LATE chan 0 0 = 0) &&
      (s.chan chan).ash.passOn &&
      decide (s.patrolNs chan * 101 < (s.uptime - (s.chan chan).ash.passStart) * 100))
    (fun s => (s.setBit ASH_STATUS_PATROL_LATE chan 0 0).ashErr chan 0 9 0 0 none none)))

/-- Every packed 6-bit counter above 0 loses 1. -/
def leakCounters (n : Nat) : Nat → Nat
  | 0 => 0
  | k + 1 => leakCounters n k + (nfield n (6 * k) 6 - 1) * 2 ^ (6 * k)

/-- One leak step of a subchannel (R191). -/
def State.leakStep (s : State) (c sub : Nat) : State :=
  let s1 := (List.range 4).foldl (fun t k =>
    t.setF ASH_DEV_CNT_CNT c sub k (leakCounters (t.rawF ASH_DEV_CNT_CNT c sub k) 10)) s
  let s2 := s1.modAsh c (fun a => { a with
    lastLeak := if sub = 0 then (s.uptime, a.lastLeak.2) else (a.lastLeak.1, s.uptime) })
  (List.range 4).foldl (fun t k => t.judgeRank c sub k) s2

/-- COUNTER_LEAK (R191): every LEAK seconds. -/
def execCounterLeak (chan sub : Nat) (s : State) : Host.Outcome State Fault Refusal :=
  done (s.live (fun s =>
    let last := if sub = 0 then (s.chan chan).ash.lastLeak.1 else (s.chan chan).ash.lastLeak.2
    s.whenTrue (s.hasChan chan && decide (sub < 2) &&
      decide (last + max 1 (s.fld ASH_THRESH_LEAK chan sub 0) * 1000000000 ≤ s.uptime))
      (fun s => s.leakStep chan sub)))

/-! Initialisation. -/

/-- `ASH_INIT.START` written 1 (R190, R196). -/
def State.initStart (s : State) (c : Nat) : State :=
  if s.rawF ASH_INIT_BUSY c 0 0 = 1 then s
  else
    let first := s.rawF ASH_INIT_START_OFF c 0 0 * 2 ^ 15
    let n := s.rawF ASH_INIT_COUNT c 0 0
    let last := if n = 0 then s.chanLines c else min (s.chanLines c) (first + n * 2 ^ 15)
    match s.nextMapped c first with
    | some L =>
      if first < s.chanLines c ∧ L < last then
        (((s.setF ASH_INIT_DONE c 0 0 0).setBit ASH_INIT_BUSY c 0 0).modAsh c (fun a => { a with
          initRun := some (first, last) })).initNext c
      else s.setBit ASH_INIT_DONE c 0 0
    | none => s.setBit ASH_INIT_DONE c 0 0

/-- ASH_INIT_START (R190). -/
def execAshInitStart (chan : Nat) (s : State) : Host.Outcome State Fault Refusal :=
  done (s.host (fun s => s.whenTrue (s.hasChan chan) (fun s => s.initStart chan)))

/-- ASH_INIT_DONE (R190): the cursor is at the end of its range. -/
def execAshInitDone (chan : Nat) (s : State) : Host.Outcome State Fault Refusal :=
  done (s.live (fun s => s.whenTrue (s.hasChan chan &&
      (match (s.chan chan).ash.initRun with | some (a, b) => decide (b ≤ a) | none => false) &&
      decide (s.scrubs chan 3 = []))
    (fun s => ((s.setBit ASH_INIT_DONE chan 0 0).setF ASH_INIT_BUSY chan 0 0 0).modAsh chan
      (fun a => { a with initRun := none }))))

/-! Register writes with an effect of their own. -/

/-- A walk line of channel `c` that is not begun, under the tables as they now are (R196): its address is derived anew,
and it goes where no region maps it any more. -/
def State.refoldReq (s : State) (c : Nat) (r : Req) : Option Req :=
  match r.src, r.lines with
  | .scrub k, [l] =>
    if k = 0 ∨ ¬ r.onChan c ∨ (l.stage ≠ .fresh ∧ l.stage ≠ .opened) then some r
    else (s.rgnOfLine c (s.lineOf c l.pos)).map (fun g =>
      let a := s.globalOf c g (s.lineOf c l.pos * 64)
      { r with addr := a, lines := [{ l with addr := a }] })
  | _, _ => some r

/-- The walks of every channel go on under new tables (R196). -/
def State.walksOn (s : State) : State :=
  (List.range s.build).foldl (fun t c =>
    (({ t with reqs := t.reqs.filterMap (t.refoldReq c) } : State).initNext c).spareNext c) s

/-- MAP_RGN_CTL_WRITE (R103). -/
def execMapRgnCtlWrite (entry : Nat) (w : RegW) (s : State) : Host.Outcome State Fault Refusal :=
  done (s.host (fun s => (s.writeRgnCtl entry w).walksOn))

/-- A rank's field of `ASH_MARK` may take the value `v` (R191). -/
def State.markFits (s : State) (c v : Nat) : Bool :=
  decide (v / 16 = 0) || (decide (v % 16 < deviceCount (s.x8 c)) && s.markable c)

/-- A host write of `ASH_MARK` (R191): under the expert bit, each rank's field taken or refused by itself. -/
def State.markWrite (s : State) (c sub : Nat) (w : RegW) : State :=
  if ¬ s.expert 6 then s
  else
    let v := w.merge ASH_MARK_MARKS (s.rawF ASH_MARK_MARKS c sub 0)
    (List.range 4).foldl (fun t k =>
      let f := nfield v (5 * k) 5
      if ¬ t.markFits c f then t
      else
        let t1 := t.setMark c sub k f
        if t.x8 c ∧ 16 ≤ f ∧ f ≠ nfield (t.rawF ASH_MARK_MARKS c sub 0) (5 * k) 5 then
          t1.ashErr c sub 8 0 k none none
        else t1) s

/-- ASH_MARK_WRITE (R191). -/
def execAshMarkWrite (chan sub : Nat) (w : RegW) (s : State) : Host.Outcome State Fault Refusal :=
  done (s.host (fun s => s.whenTrue (s.hasChan chan && decide (sub < 2)) (fun s => s.markWrite chan sub w)))

/-- A host write of `ASH_THRESH` (R191): counters are judged at each write of MARK. -/
def State.threshWrite (s : State) (c sub : Nat) (w : RegW) : State :=
  if ¬ s.expert 6 then s
  else
    let s1 := s.setX ASH_THRESH_LEAK c sub 0 (w.merge ASH_THRESH_LEAK (s.fld ASH_THRESH_LEAK c sub 0))
    let s2 := s1.setX ASH_THRESH_MARK c sub 0 (w.merge ASH_THRESH_MARK (s.fld ASH_THRESH_MARK c sub 0))
    if w.covers ASH_THRESH_MARK then (List.range 4).foldl (fun t k => t.judgeRank c sub k) s2 else s2

/-- ASH_THRESH_WRITE (R191). -/
def execAshThreshWrite (chan sub : Nat) (w : RegW) (s : State) : Host.Outcome State Fault Refusal :=
  done (s.host (fun s => s.whenTrue (s.hasChan chan && decide (sub < 2)) (fun s => s.threshWrite chan sub w)))

end Sys2Proof.Machine
end

