-- ==== Sys2Proof/Machine/Bond.lean ====
section
/-! DEFINITION. The commands of Bond (R317 to R339): links and credits, inbound requests, completions, discovery,
routes, and the requests this node sends. -/

namespace Sys2Proof.Machine

/-! Links (R318). -/

/-- LINK_UP (R318): the 8 credits of each of the 16 (lane, class) pairs are returned. -/
def execLinkUp (port : Nat) (s : State) : Host.Outcome State Fault Refusal :=
  done (s.live fun s => s.whenTrue (decide (port < 2) && !s.bnd.link.contains port) (fun s =>
    let s1 := s.modBnd (fun b => { b with link := port :: b.link })
    if s.bnd.held.contains port then s1 else s1.linkRise port))

/-- `bndx_link_up` sampled low on a port where it was high (R32, R336). -/
def State.linkLow (s : State) (p : Nat) : State :=
  let t := s.modBnd (fun b => { b with link := b.link.filter (fun k => decide (k ≠ p)) })
  if s.linkUp p then t.linkFall p else t

/-- LINK_DOWN (R336). -/
def execLinkDown (port : Nat) (s : State) : Host.Outcome State Fault Refusal :=
  done (s.live fun s => s.whenTrue (s.bnd.link.contains port) (fun s => s.linkLow port))

/-- TX_CREDIT_RETURN (R318): what waits is sent as far as credits go. -/
def execTxCreditReturn (port lane cls : Nat) (s : State) : Host.Outcome State Fault Refusal :=
  done (s.live fun s => s.whenTrue (decide (port < 2) && s.linkUp port) (fun s =>
    let k := credKey port lane cls
    let s1 := s.modBnd (fun b => { b with txCred := Tbl.set b.txCred 0 k (Tbl.get b.txCred 0 k + 1) })
    if s1.bondOn then s1.bondDrain port else s1))

/-! Inbound requests (R329, R332). -/

/-- A request-lane message of opcode `op` on port `p`: one that finds no room in its lane, or one of its class before
it, waits in the receive buffer (R318, R335). -/
def State.bondReq (s : State) (op : Op) (p : Nat) (m0 : Msg) : State :=
  let m := { m0 with opc := op.code }
  let n := opcFlits m.opc
  s.bondRx p m n (fun s =>
    if m.dst ≠ s.straps.node then s.transit p m n
    else if ¬ s.laneTakes p op m then s.modBnd (fun b => { b with rxq := Tbl.set b.rxq [] p (Tbl.get b.rxq [] p ++ [⟨op, m, s.uptime⟩]) })
    else if s.inSeq m then ((s.creditBack p m n).acceptIn op p m s.uptime).settle
    else (s.creditBack p m n).seqRefuse op p m)

/-- An inbound request row. -/
def bondRow (op : Op) (port : Nat) (m : Msg) (s : State) : Host.Outcome State Fault Refusal :=
  done (s.live fun s => s.bondReq op port m)

/-- BOND_RD_LINE (R332). -/
def execBondRdLine (port : Nat) (msg : Msg) (s : State) : Host.Outcome State Fault Refusal := bondRow .rdLine port msg s

/-- BOND_RD_PART (R332). -/
def execBondRdPart (port : Nat) (msg : Msg) (s : State) : Host.Outcome State Fault Refusal := bondRow .rdPart port msg s

/-- BOND_WR_ZERO (R332). -/
def execBondWrZero (port : Nat) (msg : Msg) (s : State) : Host.Outcome State Fault Refusal := bondRow .wrZero port msg s

/-- BOND_WR_LINE (R332). -/
def execBondWrLine (port : Nat) (msg : Msg) (s : State) : Host.Outcome State Fault Refusal := bondRow .wrLine port msg s

/-- BOND_WR_PART (R332). -/
def execBondWrPart (port : Nat) (msg : Msg) (s : State) : Host.Outcome State Fault Refusal := bondRow .wrPart port msg s

/-- BOND_AT_ADD (R332). -/
def execBondAtAdd (port : Nat) (msg : Msg) (s : State) : Host.Outcome State Fault Refusal := bondRow .atAdd port msg s

/-- BOND_AT_OR (R332). -/
def execBondAtOr (port : Nat) (msg : Msg) (s : State) : Host.Outcome State Fault Refusal := bondRow .atOr port msg s

/-- BOND_AT_AND (R332). -/
def execBondAtAnd (port : Nat) (msg : Msg) (s : State) : Host.Outcome State Fault Refusal := bondRow .atAnd port msg s

/-- BOND_AT_XOR (R332). -/
def execBondAtXor (port : Nat) (msg : Msg) (s : State) : Host.Outcome State Fault Refusal := bondRow .atXor port msg s

/-- BOND_AT_SWAP (R332). -/
def execBondAtSwap (port : Nat) (msg : Msg) (s : State) : Host.Outcome State Fault Refusal := bondRow .atSwap port msg s

/-- BOND_AT_CAS (R332). -/
def execBondAtCas (port : Nat) (msg : Msg) (s : State) : Host.Outcome State Fault Refusal := bondRow .atCas port msg s

/-- BOND_AT_MIN (R332). -/
def execBondAtMin (port : Nat) (msg : Msg) (s : State) : Host.Outcome State Fault Refusal := bondRow .atMin port msg s

/-- BOND_AT_MAX (R332). -/
def execBondAtMax (port : Nat) (msg : Msg) (s : State) : Host.Outcome State Fault Refusal := bondRow .atMax port msg s

/-- BOND_AT_UMIN (R332). -/
def execBondAtUmin (port : Nat) (msg : Msg) (s : State) : Host.Outcome State Fault Refusal := bondRow .atUmin port msg s

/-- BOND_AT_UMAX (R332). -/
def execBondAtUmax (port : Nat) (msg : Msg) (s : State) : Host.Outcome State Fault Refusal := bondRow .atUmax port msg s

/-- BOND_SETAD (R332). -/
def execBondSetad (port : Nat) (msg : Msg) (s : State) : Host.Outcome State Fault Refusal := bondRow .setad port msg s

/-- A SYNC for this node (R329). -/
def State.syncIn (s : State) (m : Msg) : State :=
  let nonce := m.value.toNat % 2 ^ 32
  let take := match Tbl.find s.bnd.pairExp m.src with
    | none => true
    | some (e, n) =>
      let back := (e + 2 ^ 15 - m.pseq) % 2 ^ 15
      decide (n ≠ nonce) || decide (back = 0) || decide (2 ^ 14 < back)
  if take then s.modBnd (fun b => { b with pairExp := Tbl.put b.pairExp m.src (m.pseq, nonce) }) else s

/-- SYNC (R329). -/
def execSync (port : Nat) (msg : Msg) (s : State) : Host.Outcome State Fault Refusal :=
  done (s.live fun s =>
    let m := { msg with opc := 0x20 }
    s.bondIn port m 1 (fun s => s.syncIn m))

/-! Completions (R333). -/

/-- The status of a code of R59; a code that R59 does not list leaves the outcome unknown to the requester. -/
def statusOf (code : Nat) : Status :=
  ([.ok, .okCorrected, .poison, .poisonWalk, .nonmem, .unmapped, .decodeErr, .remoteTimeout, .fenced,
    .retiredTag] : List Status).getD code .remoteTimeout

/-- The data a completion carries for a request: a read's line, an atomic's old value. -/
def cplValue (m : Msg) (data : Bool) : BitVec 512 := if data then m.data else m.value.setWidth 512

/-- A completion for this node: the request takes the home's status (R69 step 10, R333). DESIGN CHOICE (log 149): so
does a write whose data had a parity error, which R68 has complete POISON; its data was sent with POISON = 1. -/
def State.cplIn (s : State) (p : Nat) (m : Msg) (data : Bool) : State :=
  match (Tbl.find s.bnd.tags m.tag).filter (fun t => t.live) with
  | none => s.msgErr p 4 m
  | some t =>
    let s1 := s.modBnd (fun b => { b with tags := Tbl.del b.tags m.tag })
    if t.quar then (s1.bumpF BND_COUNT_LATE_CPL 0 0 0).count 0x48 0 Ev.nothing
    else
      let st := if m.upset = 2 then .poison else statusOf m.status
      let s2 := if st = .remoteTimeout ∧ m.src = t.node then s1.unsync t.node else s1
      match s.req t.rid with
      | none => s2
      | some r => ((s2.modReq t.rid (fun q => { q with via := p })).fix t.rid st (if r.op.isRead ∧ ¬ data then 0 else cplValue m data)).settle

/-- A completion message of opcode `opc` on port `p`. -/
def State.bondCpl (s : State) (p : Nat) (m0 : Msg) (opc : Nat) : State :=
  let m := { m0 with opc := opc }
  s.bondIn p m (opcFlits opc) (fun s => s.cplIn p m (decide (opc = 0x41)))

/-- CPL (R333). -/
def execCpl (port : Nat) (msg : Msg) (s : State) : Host.Outcome State Fault Refusal :=
  done (s.live fun s => s.bondCpl port msg 0x40)

/-- CPL_DATA (R333). -/
def execCplData (port : Nat) (msg : Msg) (s : State) : Host.Outcome State Fault Refusal :=
  done (s.live fun s => s.bondCpl port msg 0x41)

/-! Discovery (R323 to R326). -/

/-- A HELLO received on port `p` (R323, R324). -/
def State.helloIn (s : State) (p : Nat) (m : Msg) : State :=
  let n := m.src
  let nonce := m.value.toNat % 2 ^ 32
  let echo := m.value.toNat / 2 ^ 32
  let key := 64 * p + n
  let put (t : State) (up : Bool) : State :=
    t.modBnd (fun b => { b with nbr := Tbl.put b.nbr key ⟨up, nonce, t.uptime⟩ })
  if s.bnd.ignored.contains key then s
  else if n = s.straps.node then
    (if nonce = s.bnd.nonce then s
     else (s.modBnd (fun b => { b with ignored := key :: b.ignored })).bndErr p 7 n none 0xC 3 0)
  else match Tbl.find s.bnd.nbr key with
    | some x =>
      if x.up then
        (if x.nonce ≠ nonce then put ((s.nbrDown p n).pairInit n) false else put s true)
      else if echo = s.bnd.nonce then (put s true).upChanged else put s false
    | none => if echo = s.bnd.nonce then (put s true).upChanged else put s false

/-- HELLO (R323). -/
def execHello (port : Nat) (msg : Msg) (s : State) : Host.Outcome State Fault Refusal :=
  done (s.live fun s => 
    let m := { msg with opc := 0x80 }
    s.bondRx port m 1 (fun s => (s.creditBack port m 1).helloIn port m))

/-- An LSA received on port `p` (R326). -/
def State.lsaIn (s : State) (p : Nat) (m : Msg) : State :=
  let n := m.src
  let nonce := m.value.toNat / 2 ^ 32
  let seq := m.value.toNat % 2 ^ 32
  let old := Tbl.find s.bnd.lsa n
  if n = s.straps.node then (if nonce = s.bnd.nonce then s else s.bndErr p 7 n none 0xC 3 0)
  else
    let newer := old.elim true (fun a => decide (a.nonce ≠ nonce) ||
      (decide (a.seq ≠ seq) && decide ((seq + 2 ^ 32 - a.seq) % 2 ^ 32 < 2 ^ 31)))
    if ¬ newer then s
    else
      let s1 := if old.elim false (fun a => decide (a.nonce ≠ nonce)) then s.pairInit n else s
      let rec_ : LsaRec := ⟨nonce, seq, nfield m.data.toNat 0 64, nfield m.data.toNat 64 64, s.uptime⟩
      let s2 := (s1.modBnd (fun b => { b with lsa := Tbl.put b.lsa n rec_ })).routesDue
      s2.bondSend (1 - p) { m with upset := 0 }

/-- LSA (R326). -/
def execLsa (port : Nat) (msg : Msg) (s : State) : Host.Outcome State Fault Refusal :=
  done (s.live fun s => 
    let m := { msg with opc := 0x81 }
    s.bondRx port m 2 (fun s => (s.creditBack port m 2).lsaIn port m))

/-- MALFORMED_MESSAGE (R321): of any opcode and any number of flits. -/
def execMalformedMessage (port : Nat) (msg : Msg) (flits : Nat) (s : State) : Host.Outcome State Fault Refusal :=
  done (s.live fun s => s.whenTrue (!msg.crcOk flits || msgMalformed msg flits) (fun s => s.bondRx port msg flits id))

/-- The echo of a HELLO: the nonce last received from the port's neighbour, the one heard last. -/
def State.echo (s : State) (p : Nat) : Nat :=
  ((s.bnd.nbr.foldl (fun (b : Option Nbr) e =>
    if e.1 / 64 ≠ p then b
    else match b with | some x => if x.heard ≤ e.2.heard then some e.2 else b | none => some e.2) none).map
    Nbr.nonce).getD 0

/-- The HELLO interval of port `p` in ns (R324). -/
def State.helloNs (s : State) (p : Nat) : Nat :=
  let mine := s.bnd.nbr.filter (fun e => decide (e.1 / 64 = p))
  if mine = [] ∨ mine.any (fun e => !e.2.up) then 10000 else 1000 * s.helloUs

/-- HELLO_TIMER (R324). -/
def execHelloTimer (port : Nat) (s : State) : Host.Outcome State Fault Refusal :=
  done (s.live fun s => s.whenTrue (decide (port < 2) && s.linkUp port && s.bondOn &&
      (Tbl.find s.bnd.lastHello port).elim true (fun t => decide (t + s.helloNs port ≤ s.uptime))) (fun s =>
    (s.modBnd (fun b => { b with lastHello := Tbl.put b.lastHello port s.uptime })).bondSend port
      { Msg.blank with
        opc := 0x80, bc := true, src := s.straps.node, lh := s.straps.node,
        value := BitVec.ofNat 64 (s.echo port * 2 ^ 32 + s.bnd.nonce) }))

/-- NEIGHBOUR_TIMEOUT (R323). -/
def execNeighbourTimeout (port node : Nat) (s : State) : Host.Outcome State Fault Refusal :=
  done (s.live fun s =>
    match Tbl.find s.bnd.nbr (64 * port + node) with
    | some x => s.whenTrue (decide (x.heard + 3000 * s.helloUs ≤ s.uptime)) (fun s => s.nbrDown port node)
    | none => s)

/-- The LSA of this node (R325). -/
def State.ownLsa (s : State) : Msg :=
  { Msg.blank with
    opc := 0x81, bc := true, src := s.straps.node, lh := s.straps.node,
    value := BitVec.ofNat 64 (s.bnd.nonce * 2 ^ 32 + (s.bnd.lsaSeq + 1) % 2 ^ 32),
    data := BitVec.ofNat 512 (s.upMap 0 + s.upMap 1 * 2 ^ 64) }

/-- LSA_ORIGINATE (R325). -/
def execLsaOriginate (s : State) : Host.Outcome State Fault Refusal :=
  done (s.live fun s => s.whenTrue (s.bondOn && s.bnd.lsaLast.elim true (fun t =>
      decide (t + 500000 ≤ s.uptime) || (s.bnd.lsaDue && decide (t + 50000 ≤ s.uptime)))) (fun s =>
    let m := s.ownLsa
    ((s.modBnd (fun b => { b with
      lsaSeq := (b.lsaSeq + 1) % 2 ^ 32, lsaLast := some s.uptime, lsaDue := false })).bondSend 0 m).bondSend 1 m))

/-- LSA_EXPIRY (R326). -/
def execLsaExpiry (node : Nat) (s : State) : Host.Outcome State Fault Refusal :=
  done (s.live fun s =>
    match Tbl.find s.bnd.lsa node with
    | some a => s.whenTrue (decide (a.heard + 2000000 ≤ s.uptime)) (fun s =>
        (s.modBnd (fun b => { b with lsa := Tbl.del b.lsa node })).routesDue)
    | none => s)

/-- ROUTE_COMPUTE (R327): a change has not been taken in. -/
def execRouteCompute (s : State) : Host.Outcome State Fault Refusal :=
  done (s.live fun s => s.whenTrue s.bnd.routeDue.isSome State.routesNew)

/-- ROUTES_STABLE (R328). -/
def execRoutesStable (s : State) : Host.Outcome State Fault Refusal :=
  done (s.live fun s => s.whenTrue (decide (s.bnd.routeAt + 2000000 ≤ s.uptime)) (fun s =>
    s.modBnd (fun b => { b with stable := true })))

/-! Requests this node sends (R329, R330). -/

/-- A message of a lane, class 0, can be sent on port `p` at once (R318). -/
def State.canSend (s : State) (p lane flits : Nat) : Bool :=
  s.linkUp p && s.bondOn && decide (flits ≤ Tbl.get s.bnd.txCred 0 (credKey p lane 0)) &&
  !(Tbl.get s.bnd.txq [] p).any (fun e => decide (opcLane e.msg.opc = lane) && decide (e.msg.hops = 0))

/-- An earlier request to the node, for one of the same lines, has not been sent (R85 rule 4). -/
def State.sendHeld (s : State) (r : Req) (n : Nat) : Bool :=
  (s.before r.rid).any (fun e => e.hasEntry && decide (e.dest = .remote n) && !e.status.isSome &&
    decide (e.stage ≠ .issued) && decide (e.addr / 64 = r.addr / 64))

/-- MKIND and MID of a request (R320): a table update is a Mason's own SETAD of R251. -/
def State.outMaster (s : State) (r : Req) : Nat × Nat :=
  match r.src with
  | .port n => (0, n * 4096 + r.sid)
  | .mason m =>
    if (s.mason m).outs.any (fun (o : MasOut) => o.rids.contains r.rid && decide (o.kind = .adUpdate)) then (2, m)
    else (1, m)
  | .lost n => (0, n * 4096 + r.sid)
  | .hod _ => (2, 0)
  | _ => (3, 0)

/-- The message of an outbound request (R320, R330). -/
def State.outMsg (s : State) (r : Req) (n nh tag pseq : Nat) : Msg :=
  let l := r.lines.head?
  let line := l.bind (fun x => x.wdata)
  { Msg.blank with
    opc := r.op.code, nh := nh, poison := r.dataPoison || (l.map LineJob.wpoison).getD false,
    src := s.straps.node, dst := n, noret := r.attr.testBit 2, tag := tag, size := r.size, priv := r.priv,
    ns := r.ns, walk := r.op.isRead && r.walk, col := r.col.code, qid := r.qid, mkind := (s.outMaster r).1,
    mid := (s.outMaster r).2, addr := r.addr, value := if r.op = .wrPart then r.mask else 0,
    lh := s.straps.node, pseq := pseq, data := (line.or r.data).getD 0 }

/-- The request's data is there: a copy's line has been read. -/
def Req.dataReady (r : Req) : Bool :=
  match r.run with
  | none => true
  | some _ => r.op != .wrLine || r.lines.all (fun l => l.wdata.isSome)

/-- The request leaves for node `n` by a route, under the tag it took with its entry (R329, R330). -/
def State.sendOut (s : State) (r : Req) (n : Nat) (rt : Route) : State :=
  match s.tagOf r.rid, s.reserveReturn r with
  | some tag, some s1 =>
    let pseq := Tbl.get s.bnd.pairNext 0 n
    let m := s.outMsg r n rt.nh tag pseq
    let s2 := s1.modBnd (fun b => { b with
      tags := Tbl.put b.tags tag ⟨r.rid, n, rt.port, s.uptime + s.bondTimeoutNs, false, true⟩,
      pairNext := Tbl.set b.pairNext 0 n ((pseq + 1) % 2 ^ 15) })
    (((((s2.modReq r.rid (fun q => { q with stage := .issued, inBuf := false, via := rt.port })).xbarPass (37 + rt.port)
      r.xbarFrom).count 0x45 0 r.ev).bondSend rt.port m).settle)
  | _, _ => s

/-- A request to node `n` may leave the tracker: its data is there, and nothing before it holds it. -/
def State.sendReady (s : State) (r : Req) (n : Nat) : Bool :=
  r.hasEntry && decide (r.stage = .queued ∨ r.stage = .held) && !r.status.isSome && r.dataReady &&
  !orderHeld r (s.before r.rid) && !s.sendHeld r n

/-- The request can be sent on peer port `p` at once: its route goes there, its pair is in step, the credits are there, and
it has its tag and its read-return line (R318, R329, R330). -/
def State.sendsOn (s : State) (p : Nat) (r : Req) : Bool :=
  match r.dest with
  | .remote n =>
    s.sendReady r n && (s.routeTo n).any (fun rt => decide (rt.port = p)) && s.bnd.synced.contains n &&
    s.canSend p 0 (opcFlits r.op.code) && (s.tagOf r.rid).isSome && (s.reserveReturn r).isSome
  | _ => false

/-- The request that peer port `p`'s output takes next, round robin among the crossbar's inputs (R88). -/
def State.sendNext (s : State) (p : Nat) : Option Req := s.xbarPick (37 + p) Req.xbarFrom (s.reqs.filter (s.sendsOn p))

/-- REMOTE_REQUEST_SEND (R330): where it is the request's turn at the peer port (R88). A request without a route completes
REMOTE_TIMEOUT. -/
def execRemoteRequestSend (rid : Nat) (s : State) : Host.Outcome State Fault Refusal :=
  done (s.live fun s =>
    match s.req rid with
    | none => s
    | some r => match r.dest with
      | .remote n =>
        s.whenTrue (s.sendReady r n) (fun s =>
          match s.routeTo n with
          | none => (s.fix rid .remoteTimeout 0).settle
          | some rt => if s.sendNext rt.port = some r then s.sendOut r n rt else s)
      | _ => s)

/-- A request to node `n` is outstanding. -/
def State.pairBusy (s : State) (n : Nat) : Bool :=
  s.bnd.tags.any (fun e => e.2.live && !e.2.quar && decide (e.2.node = n))

/-- SYNC_SEND (R329): SYNC does not use up the pair's next number. -/
def execSyncSend (node : Nat) (s : State) : Host.Outcome State Fault Refusal :=
  done (s.live fun s =>
    match s.routeTo node with
    | none => s
    | some rt =>
      s.whenTrue (!s.bnd.synced.contains node && !s.pairBusy node && s.canSend rt.port 0 1) (fun s =>
        (s.modBnd (fun b => { b with synced := node :: b.synced })).bondSend rt.port { Msg.blank with
          opc := 0x20, nh := rt.nh, src := s.straps.node, dst := node, addr := node * 2 ^ 46,
          value := BitVec.ofNat 64 s.bnd.nonce, lh := s.straps.node, pseq := Tbl.get s.bnd.pairNext 0 node }))

/-- BOND_TIMEOUT (R333), once the instant of expiry is past: a completion in that instant wins (R338). -/
def execBondTimeout (tag : Nat) (s : State) : Host.Outcome State Fault Refusal :=
  done (s.live fun s =>
    match Tbl.find s.bnd.tags tag with
    | none => s
    | some t => s.whenTrue (t.live && !t.quar && decide (t.ends < s.uptime)) (fun s =>
        let s1 := (s.modBnd (fun b => { b with
          tags := Tbl.put b.tags tag { t with quar := true, ends := s.uptime + 4 * s.bondTimeoutNs } })).unsync t.node
        match s.req t.rid with
        | none => (s1.bndErr t.port 5 t.node none 0 3 0).count 0x47 0 Ev.nothing
        | some r =>
          ((((s1.bndErr t.port 5 t.node (some r.addr) r.access r.master.1 r.master.2).count 0x47 0 r.ev).fix t.rid
            .remoteTimeout 0).rrDropAll t.rid).settle))

/-- TAG_QUARANTINE_EXPIRY (R333). -/
def execTagQuarantineExpiry (tag : Nat) (s : State) : Host.Outcome State Fault Refusal :=
  done (s.live fun s =>
    match Tbl.find s.bnd.tags tag with
    | none => s
    | some t => s.whenTrue (t.quar && decide (t.ends ≤ s.uptime)) (fun s =>
        s.modBnd (fun b => { b with tags := Tbl.del b.tags tag })))

end Sys2Proof.Machine
end

