-- ==== Sys2Proof/Machine/ButtressOps.lean ====
section
/-! DEFINITION. Buttress (R341 to R359): recording, the grace timer, reactions and the fatal output. -/

namespace Sys2Proof.Machine

/-- Buttress's state changed. -/
def State.modBut (s : State) (f : ButSt → ButSt) : State := { s with but := f s.but }

/-- The status bit of a source. -/
def State.srcStatus (s : State) (src : Nat) : Bool :=
  if src < 64 then (s.rawF BUT_STATUS0_SRC 0 0 0).testBit src else (s.rawF BUT_STATUS1_SRC 0 0 0).testBit (src - 64)

/-- The status bit of a source set. -/
def State.setSrcStatus (s : State) (src : Nat) : State :=
  if src < 64 then s.orF BUT_STATUS0_SRC 0 0 0 (2 ^ src) else s.orF BUT_STATUS1_SRC 0 0 0 (2 ^ (src - 64))

/-- The wire bit of a source set. -/
def State.setSrcWire (s : State) (src : Nat) : State :=
  if src < 64 then s.orF BUT_WIRE0_SRC 0 0 0 (2 ^ src) else s.orF BUT_WIRE1_SRC 0 0 0 (2 ^ (src - 64))

/-- STATE of a source: 0 IDLE, 1 PENDING, 2 ESCALATED (R350). -/
def State.srcState (s : State) (src : Nat) : Nat := s.rawF BUT_SRC_STATE src 0 0

/-- The grace time in ns (R350). -/
def State.graceNs (s : State) : Nat := 1000 * max 10 (s.fld BUT_CFG_GRACE_US 0 0 0)

/-- The source's state set, its timer running only while PENDING. -/
def State.setSrcState (s : State) (src st : Nat) : State :=
  (s.setF BUT_SRC_STATE src 0 0 st).modBut (fun b => { b with
    expiry := if st = 1 then Tbl.put b.expiry src (s.uptime + s.graceNs) else Tbl.del b.expiry src })

/-- A report captured (R347). -/
def State.capture (s : State) (src : Nat) (r : Report) : State :=
  ([(BUT_CAP_INFO_VALID, 1), (BUT_CAP_INFO_INJ, b2n r.forced), (BUT_CAP_INFO_INJ_COINCIDE, b2n r.coincide),
    (BUT_CAP_INFO_SOURCE, src), (BUT_CAP_INFO_SEV, r.sev), (BUT_CAP_INFO_ACCESS, r.access),
    (BUT_CAP_INFO_MKIND, r.mkind), (BUT_CAP_INFO_REG, r.reg), (BUT_CAP_INFO_KIND, r.kind),
    (BUT_CAP_INFO_MERGE_COUNT, 0), (BUT_CAP_INFO_MASTER, r.master), (BUT_CAP_ADDR_ADDR_VALID, b2n r.addr.isSome),
    (BUT_CAP_ADDR_ADDR, r.addr.getD 0), (BUT_CAP_TIME_UPTIME, r.time)] : List (Field × Nat)).foldl
    (fun t e => t.setF e.1 0 0 0 e.2) s

/-- A report captured or merged, with the request a raised severity makes (R347, R349). -/
def State.captureOrMerge (s : State) (src : Nat) (r : Report) : State :=
  if s.rawF BUT_CAP_INFO_VALID 0 0 0 = 0 then s.capture src r
  else
    let s1 := s.bumpF BUT_CAP_INFO_MERGE_COUNT 0 0 0
    if s.rawF BUT_CAP_INFO_SEV 0 0 0 < r.sev then (s1.setF BUT_CAP_INFO_SEV 0 0 0 r.sev).raiseVec r.sev else s1

/-- A report recorded (R347 to R349, R363, R375). -/
def State.record (s : State) (src : Nat) (r : Report) : State :=
  let s1 := if s.srcStatus src then s else (s.setSrcStatus src).raiseVec r.sev
  let s2 := (s1.setF BUT_SRC_SEV_MAX src 0 0 (max (s1.rawF BUT_SRC_SEV_MAX src 0 0) r.sev)).bumpF BUT_SRC_COUNT src 0 0
  let s3 := if r.coincide then s2.setBit BUT_SRC_INJ_COINCIDE src 0 0 else s2
  let s4 := (s3.captureOrMerge src r).count 0x57 0 Ev.nothing
  let want := s4.fld DST_TRIG_BUT_SRC 0 0 0
  if s4.fld DST_TRIG_BUT_EN 0 0 0 = 1 ∧ s4.fld DST_TRIG_BUT_SEV 0 0 0 ≤ r.sev ∧ (want = 0x7F ∨ want = src) then
    s4.trigger 3 src
  else s4

/-- The FATAL body from the capture as it stands (R233, R352). -/
def State.captureBody (s : State) : List Nat :=
  fatalBody (s.rawF BUT_CAP_INFO_SOURCE 0 0 0) (s.rawF BUT_CAP_INFO_SEV 0 0 0) (s.rawF BUT_CAP_INFO_ACCESS 0 0 0)
    (s.rawF BUT_CAP_INFO_MERGE_COUNT 0 0 0) (s.rawF BUT_CAP_INFO_MKIND 0 0 0) (s.rawF BUT_CAP_INFO_MASTER 0 0 0)
    (s.rawF BUT_CAP_ADDR_ADDR 0 0 0) (s.rawF BUT_CAP_TIME_UPTIME 0 0 0)

/-- The fatal output asserted, and the FATAL record (R352). -/
def State.goFatal (s : State) : State := ({ s with fatal := true }).fatalStore s.captureBody

/-- The fence target of a source fenced (R341, R351). -/
def State.fenceTarget (s : State) (src : Nat) : State :=
  if src < 72 then (s.fenceChan (src % 24)).settle
  else if src < 84 then s.portFence (src - 72)
  else if src < 86 then
    let p := src - 84
    let t := s.modBnd (fun b => { b with held := if b.held.contains p then b.held else p :: b.held })
    if s.linkUp p then t.linkFall p else t
  else s

/-- A FATAL report, or REACT = FATAL at expiry (R350 step 7, R352). -/
def State.escalateFatal (s : State) (src : Nat) : State :=
  let s1 := if s.srcState src = 2 then s else s.raiseVec 4
  ((s1.setSrcState src 2).goFatal).fenceTarget src

/-- What the severity of a recorded report does to its source (R350). -/
def State.judgeReport (s : State) (src sev : Nat) : State :=
  if sev = 3 then s.escalateFatal src
  else if sev = 2 ∧ s.srcState src = 0 then s.setSrcState src 1 else s

/-- The reaction of a source at expiry (R350 step 5, R351). -/
def State.react (s : State) (src : Nat) : State :=
  match s.fld BUT_SRC_REACT src 0 0 with
  | 0 => (s.setSrcState src 2).raiseVec 4
  | 1 => ((s.setSrcState src 2).raiseVec 4).fenceTarget src
  | _ => s.escalateFatal src

/-- The sources of a sample in the order in which they are recorded (R347 step 3): the severest first, then the
lowest index. -/
def State.sampleOrder (s : State) : List (Nat × Report) :=
  let heads := s.but.queue.filterMap (fun e =>
    if s.but.wire.contains e.1 then none else e.2.head?.map (fun r => (e.1, r)))
  [3, 2, 1, 0].flatMap (fun sev => heads.filter (fun e => decide (e.2.sev = sev)))

/-- One MCLK sample (R343, R347): one report of every source that signals. -/
def State.sample (s : State) : State :=
  let l := s.sampleOrder
  let s1 := l.foldl (fun t e => (t.modBut (fun b => { b with
    queue := Tbl.set b.queue [] e.1 ((Tbl.get b.queue [] e.1).drop 1) })).record e.1 e.2) s
  l.foldl (fun t e => t.judgeReport e.1 e.2.sev) s1

/-- A report of Buttress's own origin, recorded at once (R341, R342, R353, R354, R359). -/
def State.ownReport (s : State) (src sev access kind : Nat) : State :=
  (s.record src ⟨sev, access, 15, kind, 3, 0, none, s.uptime, false, false⟩).judgeReport src sev

/-- A write-conservation mismatch of channel `c` (R354). -/
def State.lostWrite (s : State) (c : Nat) : State :=
  ((s.reportUnit c 2 2 15 0x42 none).fenceChan c).settle

/-- The grace timer of a PENDING source has run out (R350). -/
def State.graceOver (s : State) (src : Nat) : Bool :=
  !s.but.paused && (Tbl.find s.but.expiry src).any (fun t => decide (t ≤ s.uptime))

/-- `BUT_ACK` names a source (R350, R351): a timer that expires in the same sample expires first (R357). -/
def State.butAck (s : State) (src : Nat) : State :=
  if s.srcState src = 0 then s
  else
    let s0 := if s.graceOver src then s.react src else s
    let s1 := s0.setSrcState src 0
    if s0.bnd.held.contains (src - 84) ∧ 84 ≤ src then
      let t := s1.modBnd (fun b => { b with held := b.held.filter (fun k => decide (k ≠ src - 84)) })
      if t.linkUp (src - 84) then t.linkRise (src - 84) else t
    else s1

/-- `BUT_SRC.FORCE` (R348): a forced report, or one with the real report of the same cycle, which is the newest one where
`coincide` says so and it was made at this instant. Where the full queue has merged that real report already (R343), the two
merge as one: the forced severity alone is added. DEDUCED (log 183): `BUT_CAP_INFO.INJ_COINCIDE` then stays with the report
whose other fields are kept. -/
def State.forceReport (s : State) (src sev : Nat) (coincide : Bool) : State :=
  if ¬ s.expert 14 ∨ ¬ s.hasSource src then s
  else
    let q := s.reports src
    match q.getLast?.filter (fun n => coincide && !n.forced && decide (n.time = s.uptime)) with
    | some n =>
      s.modBut (fun b => { b with
        queue := Tbl.set b.queue [] src (q.dropLast ++ [{ n with sev := max n.sev sev, coincide := true }]) })
    | none =>
      match q.getLast?.filter (fun _ => coincide && decide (Tbl.find s.but.merged src = some s.uptime)) with
      | some n => (s.modBut (fun b => { b with
          queue := Tbl.set b.queue [] src (q.dropLast ++ [{ n with sev := max n.sev sev }]) })).setBit BUT_SRC_INJ_COINCIDE
            src 0 0
      | none => s.report src ⟨sev, 0, 15, 0x43, 3, 0, none, s.uptime, true, false⟩

/-- Releases the capture (R347). -/
def State.capRelease (s : State) : State := s.setF BUT_CAP_INFO_VALID 0 0 0 0

/-- SWEEP_MS as used (R353). -/
def State.sweepMs (s : State) : Nat := min 5 (s.fld BUT_CFG_SWEEP_MS 0 0 0)

/-- A multiple of the sweep period lies after the last one seen. -/
def State.sweepDue (s : State) : Bool :=
  decide (0 < s.sweepMs) &&
  decide (s.but.lastSweep / (s.sweepMs * 1000000) < s.uptime / (s.sweepMs * 1000000))

/-- A pass starts. -/
def State.passStart (s : State) : State :=
  s.modBut (fun b => { b with pass := some s.uptime, deferred := false, lastSweep := s.uptime })

/-- SAFE (R353, R358). -/
def State.safe (s : State) : Bool :=
  decide (0 < s.sweepMs) && !s.but.unsafeUntilPass && !s.but.paused && s.but.wire.isEmpty &&
  decide (s.rawF BUT_WIRE0_SRC 0 0 0 = 0) && decide (s.rawF BUT_WIRE1_SRC 0 0 0 = 0) &&
  decide (s.rawF BUT_SAFETY_SWEEP_FAIL 0 0 0 = 0)

/-- Every populated channel's Screed has reached TRAINED or FAILED (R358), whatever it came to since. -/
def State.allSettled (s : State) : Bool :=
  (List.range s.build).all (fun c => decide (s.rawF MAP_GEOM_VALID c 0 0 = 0) || (s.chan c).settled)

/-- A WIRE_FAULT of a source (R342, R353). -/
def State.wireFail (s : State) (src : Nat) : State := (s.setSrcWire src).ownReport src 2 0 0x40

/-- The channel of a source is under reset: its items of the sweep are skipped (R358). -/
def State.sweepSkips (s : State) (src : Nat) : Bool := decide (src < 72) && decide ((s.chan (src % 24)).rstStep ≠ 0)

/-- One failed item of a pass (R353): WIRE_FAULT for a source's line, LOST_WRITE for the counts of R354, else SWEEP_FAIL. -/
def State.sweepFail (s : State) (k : SweepItem) : State :=
  if ¬ s.hasSource k.src ∨ s.sweepSkips k.src then s
  else if k.item = 0 then s.wireFail k.src
  else if k.item = 4 then (if k.src < 24 then s.lostWrite k.src else s)
  else
    let s1 := if s.rawF BUT_SAFETY_SWEEP_FAIL 0 0 0 = 0 then s.setF BUT_SAFETY_FAIL_SRC 0 0 0 k.src else s
    (s1.setBit BUT_SAFETY_SWEEP_FAIL 0 0 0).ownReport k.src 2 0xD 0x41

/-- The write-store item of a pass (R354): the resident count of each channel against its store's valid bits. -/
def State.sweepStores (s : State) : State :=
  (List.range s.build).foldl (fun t c =>
    if t.sweepSkips c ∨ (t.chan c).set.wsResident = t.storeUsed c then t else t.lostWrite c) s

end Sys2Proof.Machine
end

