-- ==== Sys2Proof/Machine/Buttress.lean ====
section
/-! DEFINITION. The commands of Buttress (R342 to R354). -/

namespace Sys2Proof.Machine

/-- A parity error in Buttress's own registers (R359). -/
def State.butParity (s : State) : State :=
  (s.captureOrMerge (Config.parityIndex % 128) ⟨3, 0, 15, 0x44, 3, 0, none, s.uptime, false, false⟩).goFatal

/-- REPORT_READ (R343, R347). -/
def execReportRead (parity : Bool) (s : State) : Host.Outcome State Fault Refusal :=
  done (s.live fun s => if parity then s.sample.butParity else s.sample)

/-- WIRE_FAULT (R342): a source whose queue is empty signals, or the lines of its pair read equal (`equal`). It is recorded
as a UCNA report, and no report of the source is read until the condition has `ended`. -/
def execWireFault (src : Nat) (s : State) (equal : Bool := false) (ended : Bool := false) : Host.Outcome State Fault Refusal :=
  done (s.live fun s => s.whenTrue (s.hasSource src) (fun s =>
    if ended then s.modBut (fun b => { b with wire := b.wire.filter (fun n => decide (n ≠ src)) })
    else if s.but.wire.contains src ∨ (if equal then ¬ s.pair else s.reports src ≠ []) then s
    else (s.modBut (fun b => { b with wire := src :: b.wire })).wireFail src))

/-- GRACE_EXPIRY (R350, R351). -/
def execGraceExpiry (src : Nat) (s : State) : Host.Outcome State Fault Refusal :=
  done (s.live fun s => s.whenTrue (s.graceOver src) (fun s => s.react src))

/-- BUT_ACK (R350). -/
def execButAck (src : Nat) (s : State) : Host.Outcome State Fault Refusal :=
  done (s.host fun s => s.whenTrue (s.hasSource src) (fun s => s.butAck src))

/-- FORCE (R348). -/
def execForce (src sev : Nat) (coincide : Bool) (s : State) : Host.Outcome State Fault Refusal :=
  done (s.host fun s => s.forceReport src sev coincide)

/-- CAPTURE_RELEASE (R347). -/
def execCaptureRelease (s : State) : Host.Outcome State Fault Refusal := done (s.host State.capRelease)

/-- SWEEP_START (R353): a pass that falls due while one runs starts when that one ends. -/
def execSweepStart (s : State) : Host.Outcome State Fault Refusal :=
  done (s.live fun s => s.whenTrue (s.sweepDue && !s.but.paused) (fun s =>
    if s.but.pass.isSome then s.modBut (fun b => { b with deferred := true, lastSweep := s.uptime })
    else s.passStart))

/-- SWEEP_PASS_END (R353, R354, R358): the items that failed, and the write stores whose resident count differs from their
valid bits. -/
def execSweepPassEnd (failed : List SweepItem) (s : State) : Host.Outcome State Fault Refusal :=
  done (s.live fun s => s.whenTrue (s.but.pass.isSome && !s.but.paused) (fun s =>
    let s1 := (s.modBut (fun b => { b with
      pass := none, unsafeUntilPass := b.unsafeUntilPass && !s.allSettled })).bumpF BUT_SAFETY_PASSES 0 0 0
    let s2 := failed.foldl State.sweepFail (s1.sweepStores)
    if s2.but.deferred ∧ 0 < s2.sweepMs then s2.passStart
    else s2.modBut (fun b => { b with deferred := false })))

end Sys2Proof.Machine
end

