-- ==== Sys2Proof/Machine/Table.lean ====
section
/-! DEFINITION. The timing table (R138 to R140): its rows as register fields, their ranges, what Screed's
speed-bin table loads, the check of a pending copy, and its application. -/

namespace Sys2Proof.Machine

/-- The field that holds row `k` of R138; rows 16, 19, 22 and 23 hold BURST and the addends. -/
def rowField (k : Nat) : Field :=
  ([TIM_BANK_RCD, TIM_BANK_RP, TIM_BANK_RAS, TIM_BANK_RC, TIM_BANK_RRD_S, TIM_BANK_RRD_L, TIM_BANK_FAW,
    TIM_BANK_RTP, TIM_COL_WR, TIM_TURN_PPD, TIM_COL_CCD_S, TIM_COL_CCD_L, TIM_COL_CCD_L_WR, TIM_COL_CL,
    TIM_COL_CWL, TIM_STATUS_BURST, TIM_COL_WTR_S, TIM_COL_WTR_L, TIM_TURN_RTW_ADD, TIM_TURN_RTR_R,
    TIM_TURN_WTW_R, TIM_TURN_RTW_R_ADD, TIM_TURN_WTR_R_ADD, TIM_TURN_RRD_DLR, TIM_TURN_FAW_DLR,
    TIM_TURN_CCD_DLR, TIM_REF2_RFC_DLR, TIM_REF_REFI, TIM_REF_RFC1, TIM_REF_RFC2, TIM_REF_RFCSB,
    TIM_REF2_REFSBRD, TIM_REF2_RFM1, TIM_REF2_RFMSB, TIM_ALERT_ABO_ACT, TIM_ALERT_ABO_DELAY, TIM_MNT_MRR,
    TIM_MNT_MRW, TIM_MNT_MRD, TIM_MNT_MPC, TIM_MNT_ZQCAL, TIM_MNT_ZQLAT, TIM_MNT_PAR_ALERT, TIM_PWR_PD,
    TIM_PWR_XP, TIM_PWR_CSL, TIM_PWR_XS] : List Field).getD (k - 1) TIM_STATUS_BURST

/-- The range of row `k` (R138). -/
def rowRange (k : Nat) : Nat × Nat :=
  ([(8, 255), (8, 255), (16, 255), (24, 255), (2, 63), (2, 63), (8, 255), (4, 63), (16, 255), (1, 15),
    (2, 15), (4, 63), (8, 127), (16, 255), (14, 255), (2, 2), (2, 63), (4, 127), (0, 15), (2, 31),
    (2, 31), (0, 15), (0, 15), (2, 63), (8, 255), (2, 15), (8, 65535), (256, 65535), (64, 65535),
    (64, 65535), (32, 65535), (8, 65535), (64, 65535), (32, 65535), (1, 65535), (1, 65535), (4, 255),
    (4, 255), (4, 255), (4, 255), (256, 65535), (8, 255), (8, 255), (4, 255), (4, 255), (4, 255),
    (64, 65535)] : List (Nat × Nat)).getD (k - 1) (0, 0)

/-- The column of R138 headed 17,600; 0 where the row is unused. Rows 19, 22 and 23 are the addends that
give the values of the column. -/
def column17600 : List Nat :=
  [36, 36, 71, 107, 4, 11, 32, 17, 66, 1, 2, 12, 44, 56, 55, 2, 6, 22, 2, 4, 4, 3, 3, 0, 0, 0, 0, 8580,
   1078, 660, 286, 66, 858, 286, 396, 396, 8, 22, 31, 8, 2200, 66, 48, 17, 17, 22, 1100]

/-- The rows of 1 to 47. -/
def rowNumbers : List Nat := (List.range 47).map (· + 1)

/-- Rows without a floor (R140), and not raised by BIN 10. -/
def unflooredRows : List Nat := [14, 15, 16, 28, 35, 43]

/-- Row `k` of the slowest speed bin for the channel's rate, density and DIMM type (R139): the column of
R138 for a 256 GiB MRDIMM of 64 Gb x4 devices at 17,600 MT/s, else open within the row's range. -/
def State.slowRow (s : State) (c k : Nat) : Nat :=
  let n := s.mult c
  let g := s.rawF MAP_GEOM_DENS c 0 0
  let known := n = 44 ∧ s.mrdimm c ∧ g = 4 ∧ s.rawF MAP_GEOM_WIDTH c 0 0 = 0 ∧
    s.rawF MAP_GEOM_PHYS c 0 0 = 1 ∧ s.rawF MAP_GEOM_HEIGHT c 0 0 = 0
  if known ∧ nth column17600 (k - 1) ≠ 0 then nth column17600 (k - 1)
  else max (rowRange k).1 (min (rowRange k).2 (Config.speedBin false n (s.rawF TIM_RATE_DIMM c 0 0) g
    (s.rawF MAP_GEOM_WIDTH c 0 0) (s.rawF MAP_GEOM_PHYS c 0 0) (s.rawF MAP_GEOM_HEIGHT c 0 0) k))

/-- Row `k` of the fastest speed bin, the floor of R140: no slower than the slowest. -/
def State.fastRow (s : State) (c k : Nat) : Nat :=
  min (s.slowRow c k) (max (rowRange k).1 (Config.speedBin true (s.mult c) (s.rawF TIM_RATE_DIMM c 0 0)
    (s.rawF MAP_GEOM_DENS c 0 0) (s.rawF MAP_GEOM_WIDTH c 0 0) (s.rawF MAP_GEOM_PHYS c 0 0)
    (s.rawF MAP_GEOM_HEIGHT c 0 0) k))

/-- Row `k` under BIN 10: the slowest speed bin, each spacing row raised by one eighth (R139). DESIGN CHOICE (log 77): of
rows 19, 22 and 23 it is the addend that is raised. -/
def State.wideRow (s : State) (c k : Nat) : Nat :=
  if unflooredRows.contains k then s.slowRow c k else (9 * s.slowRow c k + 7) / 8

/-- Row `k` as the basic profile selects it (`TIM_CTRL.BIN`). -/
def State.binRow (s : State) (c k : Nat) : Nat :=
  match s.rawF TIM_CTRL_BIN c 0 0 with
  | 1 => s.fastRow c k
  | 2 => s.wideRow c k
  | _ => s.slowRow c k

/-- The pending copy (R139). -/
def State.pendRow (s : State) (c k : Nat) : Nat := if k = 16 then 2 else s.fld (rowField k) c 0 0

/-- The pending copy as a list. -/
def State.pendList (s : State) (c : Nat) : List Nat := rowNumbers.map (s.pendRow c)

/-- A row of the pending copy written by Screed. -/
def State.setRow (s : State) (c k v : Nat) : State :=
  if k = 16 then s
  else if s.expert 3 then s.setX (rowField k) c 0 0 v else s.setF (rowField k) c 0 0 v

/-- Screed loads the pending copy (R139): all rows while the Setter's expert bit is 0, else rows 14 and 15,
which come from training. -/
def State.loadPend (s : State) (c row14 row15 : Nat) : State :=
  let s1 := if s.expert 3 then s
    else rowNumbers.foldl (fun t k => t.setRow c k (s.binRow c k)) s
  (s1.setRow c 14 row14).setRow c 15 row15

/-- The relations of condition 2 of R140 in their order: (left row, holds). -/
def tabRelations (t : List Nat) : List (Nat × Bool) :=
  let v := tabRow t
  [(4, decide (v 3 + v 2 ≤ v 4)), (15, decide (v 15 < v 14)), (6, decide (v 5 ≤ v 6)),
   (12, decide (v 11 ≤ v 12)), (13, decide (v 12 ≤ v 13)), (18, decide (v 17 ≤ v 18)),
   (7, decide (4 * v 5 ≤ v 7)), (31, decide (v 31 < v 30)), (30, decide (v 30 < v 29)),
   (29, decide (v 29 < v 28)), (47, decide (v 29 ≤ v 47))]

/-- The first failure of a pending copy (R140): the bit of `TIM_ERR` (0 range, 1 consistency, 2 floor) and
the row recorded. -/
def State.tabFault (s : State) (c : Nat) (t : List Nat) : Option (Nat × Nat) :=
  let v := tabRow t
  match rowNumbers.find? (fun k => decide (v k < (rowRange k).1 ∨ (rowRange k).2 < v k)) with
  | some k => some (0, k)
  | none =>
    match (tabRelations t).find? (fun e => !e.2) with
    | some e => some (1, e.1)
    | none =>
      match rowNumbers.find? (fun k => !unflooredRows.contains k && decide (v k < s.fastRow c k)) with
      | some k => some (2, k)
      | none => if s.slowRow c 28 < v 28 then some (2, 28) else none

/-- A refused check recorded (R140). -/
def State.tabRefused (s : State) (c bit row : Nat) : State :=
  let f := match bit with | 0 => TIM_ERR_APPLY_RANGE | 1 => TIM_ERR_APPLY_CONSIST | _ => TIM_ERR_APPLY_FLOOR
  (s.setBit f c 0 0).setF TIM_ERR_APPLY_ROW c 0 0 row

/-- APPLY (R139, R157): the pending copy is checked; where it passes it awaits a seam point, and replaces an
earlier one that waits. -/
def State.timApply (s : State) (c : Nat) : State :=
  let t := s.pendList c
  match s.tabFault c t with
  | some (bit, row) => s.tabRefused c bit row
  | none => (s.modTim c (fun x => { x with pendTab := some t })).setBit TIM_STATUS_PEND c 0 0

/-- At a seam point an accepted copy comes into force in both units at once (R139); `row14` and `row15`
are training's where the point ends a training. -/
def State.timSeam (s : State) (c : Nat) (trained : Option (Nat × Nat)) : State :=
  match (s.chan c).tim.pendTab with
  | none => s
  | some t =>
    let t' := match trained with
      | some (a, b) => (t.set 13 a).set 14 b
      | none => t
    ((s.modTim c (fun x => { x with tabI := t', tabC := t', pendTab := none })).setF
      TIM_STATUS_PEND c 0 0 0).setF TIM_STATUS_LIVE c 0 0 1

/-- The end of a full training or fast resume (R139): the pending copy is loaded and checked, and applied
where it passes; where it fails nothing is applied, and a copy accepted before stays pending. -/
def State.timTrained (s : State) (c row14 row15 : Nat) : State :=
  let s1 := (s.loadPend c row14 row15).timApply c
  if (s1.tabFault c (s1.pendList c)).isSome then s1 else s1.timSeam c (some (row14, row15))

/-- The Setter's expert bit cleared (R139, R157): a copy of the host's that waits is discarded, and the profile's values
are loaded, checked and applied as for APPLY. Rows 14 and 15 are those of the last training, where there was one. -/
def State.timProfile (s : State) (c : Nat) : State :=
  let s1 := (s.modTim c (fun x => { x with pendTab := none })).setF TIM_STATUS_PEND c 0 0 0
  let (a, b) := (s.chan c).scr.trained
  (if (a, b) = (0, 0) then s1.loadPend c (s1.pendRow c 14) (s1.pendRow c 15) else s1.loadPend c a b).timApply c

end Sys2Proof.Machine
end

