-- ==== Sys2Proof/Machine/Maint.lean ====
section
/-! DEFINITION. The maintenance path (R170, R171, R311, R314) and what Pointing's commands on it, its
precharges and its refreshes change. -/

namespace Sys2Proof.Machine

/-! The path. `Chan.mntHolder` holds 204 for the Quoin, 205 + c Pointing, 229 + c Screed, 256 Pointing's
emergency, 257 the debug port. -/

/-- The path of channel `c` set to a holder. -/
def State.setHolder (s : State) (c : Nat) (h : Option Nat) : State :=
  s.modChan c (fun x => { x with mntHolder := h, mntSince := s.uptime })

/-- Pointing holds the path, at its class or as an emergency. -/
def State.pntHolds (s : State) (c : Nat) : Bool :=
  decide ((s.chan c).mntHolder = some (205 + c)) || decide ((s.chan c).mntHolder = some 256)

/-- What a holder that loses its grant meets (R207, R314): the Quoin's LOST, the end of Screed's step, and for Pointing a
self-refresh that asks for the path again: one in step 3 of its entry by `srPath`, a later one by `pathReturn`. -/
def State.loseHold (s : State) (c : Nat) : State :=
  if (s.chan c).mntHolder = some 204 then s.setBit KEY_MNT_CTRL_LOST c 0 0
  else if (s.chan c).mntHolder = some (229 + c) then
    s.modChan c (fun x => { x with scr := { x.scr with preempted := true } })
  else if (s.chan c).mntHolder = some (205 + c) ∧ (s.chan c).pnt.srStep = 3 then
    s.modChan c (fun x => { x with pnt := { x.pnt with srStep := 1 } })
  else s

/-- A request of the same MCLK cycle that goes before requester `idx` on the path of channel `c` (R308). -/
def State.pathRival (s : State) (c idx : Nat) (k : KeyAsk) : Bool :=
  decide (k.chan = some c) && (decide (k.idx = 204) || decide (k.idx = 205 + c) || decide (k.idx = 229 + c)) &&
  decide (s.keyRank (1 + c) k.idx < s.keyRank (1 + c) idx)

/-- A request for the path at a requester's class (R308): granted where it is free and no request of its cycle goes
first. -/
def State.askPath (s : State) (c idx : Nat) (rivals : List KeyAsk := []) : State × Bool :=
  match (s.chan c).mntHolder with
  | none =>
    if rivals.any (s.pathRival c idx) then ((s.keyLose idx).1, false)
    else ((s.setHolder c (some idx)).keyWon (1 + c) (s.keyClass idx) idx, true)
  | some h => if h = idx then (s, true) else ((s.keyLose idx).1, false)

/-- The instant at which the present holder's last command and its spacing are over (R171): 0 where Pointing holds the
path itself, or nobody does. -/
def State.pathClear (s : State) (c : Nat) : Nat :=
  let gap (p : Passed) : Option Nat := match p.kind with
    | .mrr => some (s.row c 37)
    | .mrw => some (max (s.row c 38) (s.row c 39))
    | .mpc => some (s.row c 40)
    | _ => none
  if (s.chan c).mntHolder.isNone ∨ s.pntHolds c then 0
  else (s.chan c).tim.hist.foldl (fun a p => (gap p).elim a (fun n => max a (p.cyc + n))) 0

/-- Pointing's emergency request (R171): the path is taken from its holder. DESIGN CHOICE (log 131): PREEMPT is set at
that moment, and only where a holder was displaced. -/
def State.seizePath (s : State) (c : Nat) : State :=
  match (s.chan c).mntHolder with
  | none => s.setHolder c (some 256)
  | some h =>
    if h = 256 then s
    else if h = 205 + c then s.setHolder c (some 256)
    else ((s.loseHold c).setHolder c (some 256)).setBit PNT_ERR_PREEMPT c 0 0

/-- The path is given up. -/
def State.freePath (s : State) (c : Nat) : State := s.setHolder c none

/-- Pointing's sequence gets the path: as an emergency under a reset, else at its class (R170). -/
def State.pntPath (s : State) (c : Nat) (rivals : List KeyAsk) : State × Bool :=
  if s.pntHolds c then (s, true)
  else if (s.chan c).pnt.srWhy = 3 ∨ (s.chan c).pnt.srWhy = 4 then (s.seizePath c, true)
  else s.askPath c (205 + c) rivals

/-- Pointing's hold across self-refresh (R170), asked for again where the debug port took it: not while that holds it
(R314). -/
def State.pathBack (s : State) (c : Nat) (rivals : List KeyAsk) : State × Bool :=
  if ¬ s.pntHolds c ∧ (s.chan c).mntHolder = some 257 then (s, false) else s.pntPath c rivals

/-- A self-refresh of channel `c` past step 3 of its entry, whose hold R170 keeps to step 4 of the exit. -/
def State.srHolds (s : State) (c : Nat) : Bool :=
  let step := (s.chan c).pnt.srStep
  decide (step = 2) || decide (step = 4) || decide (step = 6) || decide (step = 7)

/-- The path is free again: a self-refresh whose hold was taken asks for it (R314). -/
def State.pathReturn (s : State) (c : Nat) : State := if s.srHolds c then (s.pathBack c []).1 else s

/-- One Pointing command on the path: the path is asked for, held for the command, and given up unless a
sequence holds it. -/
def State.onPath (s : State) (c : Nat) (rivals : List KeyAsk) (f : State → Option (State × Bool)) :
    Option (State × Bool) :=
  if s.pntHolds c then f s
  else
    let (t, ok) := s.askPath c (205 + c) rivals
    if ok then (f t).map (fun e => (e.1.freePath c, e.2)) else some (t, false)

/-! Units. -/

/-- The bank lies in logical rank `rank` of subchannel `sub`. -/
def inUnit (sub rank b : Nat) : Bool := decide (b / 32 = 4 * sub + rank)

/-- The bank has index `ba` in that rank. -/
def inIndex (sub rank ba b : Nat) : Bool := inUnit sub rank b && decide (b % 4 = ba)

/-- The bank lies in physical rank `pr` of subchannel `sub`; `g` holds P and H. -/
def inPhys (g : Nat × Nat) (sub pr b : Nat) : Bool :=
  decide (b / 128 = sub) && decide (physRank g (b / 32 % 4) = pr)

/-- The refresh units of a physical rank of a subchannel. -/
def State.physOf (s : State) (c sub pr : Nat) : List Nat :=
  (s.units c).filter (fun u => decide (u / 4 = sub ∧ physRank (s.stack c) (u % 4) = pr))

/-- The last instant of ACTs of a back-off of the physical rank of unit `u` is over at `cyc` (R168 step 2). -/
def State.backoffShut (s : State) (c u cyc : Nat) : Bool :=
  ((s.chan c).tim.backLive (s.unitPhys c u) cyc).any (fun o => decide (o + s.row c 35 ≤ cyc))

/-- A back-off of the physical rank of unit `u` is under way at `cyc` (R168). -/
def State.backingOff (s : State) (c u cyc : Nat) : Bool :=
  ((s.chan c).tim.backLive (s.unitPhys c u) cyc).isSome

/-- A request that step 2 of R45 takes as issued: its commands have begun, or, DESIGN CHOICE (log 120), a read was
already served from its data, as R65 has it for a port's fence. -/
def Req.underWay (r : Req) : Bool :=
  r.hasEntry && !r.status.isSome && (decide (r.stage = .issued) || r.served)

/-- A request that R81 has as ISSUED (R95, R410). -/
def Req.begun (r : Req) : Bool := r.hasEntry && !r.status.isSome && decide (r.stage = .issued)

/-- The bursts of a channel are all home, its write data transferred, what a reset found issued is complete, and no back-off or replay is
under way (R173 step 2, R175, R176). -/
def State.srQuiet (s : State) (c cyc : Nat) : Bool :=
  (decide ((s.chan c).pnt.srWhy ≠ 4) || !s.reqs.any (fun r => r.onChan c && r.begun)) &&
  (s.chan c).tim.bursts.isEmpty && !(s.chan c).tim.anyBackoff cyc && !(s.chan c).tim.replaying &&
  (s.chan c).tim.hist.all (fun p => !p.kind.isWr || decide (p.cyc + s.row c 15 + s.row c 16 ≤ cyc))

/-- Steps 4 to 6 of a self-refresh entry (R173, R176): the path is held, and nothing that comes first is under way. -/
def State.srReady (s : State) (c cyc : Nat) : Bool :=
  decide (s.lpState c = 1) && decide ((s.chan c).pnt.srStep = 3) && s.srQuiet c cyc

/-- Step 3 of a self-refresh entry (R173, R175): once step 2 is through, the path is asked for, as an emergency under a
reset, which waits for the end of the holder's command (R171). A path that the debug port took is asked for once it is
released (R314). -/
def State.srPath (s : State) (c cyc : Nat) (rivals : List KeyAsk) : State :=
  let forced := (s.chan c).pnt.srWhy = 3 ∨ (s.chan c).pnt.srWhy = 4
  if s.hasChan c ∧ s.lpState c = 1 ∧ (s.chan c).pnt.srStep = 1 ∧ s.srQuiet c cyc ∧
      (if forced then s.pathClear c ≤ cyc else (s.chan c).mntHolder ≠ some 257) then
    let (t, ok) := s.pntPath c rivals
    if ok then t.modPnt c (fun p => { p with srStep := 3 }) else t
  else s

/-- Pointing wants a bank closed: for a refresh, an RFM, a back-off or self-refresh (R160, R166, R168, R173). -/
def State.wantsClosed (s : State) (c cyc b : Nat) : Bool :=
  let u := b / 32
  s.mayRefresh c u cyc || s.backoffShut c u cyc || s.srReady c cyc ||
  (s.chan c).pnt.rfmDue.any (fun x => decide (x / 32 = u ∧ x % 4 = b % 4))

/-- A refresh of unit `u` issued (R160, R167): owed falls by one, or, for an extra refresh beyond the
credit, stays with EXTRA_REF. -/
def State.refreshed (s : State) (c u : Nat) : State :=
  let p := (s.chan c).pnt
  let extra := p.extraDue.any (fun e => decide (e / 4 = u))
  let paid := p.extraDue.find? (fun e => decide (e / 4 = u) &&
    (decide (s.refMode c ≠ 2) || decide (e % 4 = Tbl.get p.nextSb 0 u)))
  let s1 := s.modPnt c (fun p => { p with
    extraDue := paid.elim p.extraDue p.extraDue.erase,
    pauseDue := if s.owed c u ≤ 1 then p.pauseDue.filter (fun x => decide (x ≠ u)) else p.pauseDue })
  let s2 := if extra ∧ s.owed c u ≤ -s.pullLim c then s1.pntErr c PNT_ERR_EXTRA_REF 1 0
    else s1.setOwed c u (s.owed c u - 1)
  s2.count 0xE c Ev.nothing

/-- A PRAC back-off of physical rank `pr` begins at `onset` (R149, R168). -/
def State.backoffStart (s : State) (c pr onset : Nat) : State :=
  let n := max 1 (s.aboRfm c)
  let us := (s.units c).filter (fun u => decide (physRank (s.stack c) (u % 4) = pr))
  let s1 := s.modTim c (fun t => { t with
    backoff := Tbl.put (Tbl.put t.backoff (physKey 0 pr) onset) (physKey 1 pr) onset })
  (s1.modPnt c (fun p => { p with aboLeft := us.foldl (fun l u => Tbl.put l u n) p.aboLeft })).count
    0x10 c Ev.nothing

/-- An RFMab of a back-off (R168): the last one ends it tRFM1 later. -/
def State.backoffRfm (s : State) (c u cyc : Nat) : State :=
  let n := Tbl.get (s.chan c).pnt.aboLeft 0 u
  let s1 := s.modPnt c (fun p => { p with aboLeft := Tbl.set p.aboLeft 0 u (n - 1) })
  let key := s.unitPhys c u
  let left := (s.units c).any (fun v => decide (s.unitPhys c v = key) &&
    decide (0 < Tbl.get (s1.chan c).pnt.aboLeft 0 v))
  let s2 := if left then s1
    else s1.modTim c (fun t => { t with backoffEnd := Tbl.put t.backoffEnd key (cyc + s.row c 33) })
  (s2.raaDrop c (unitHas u)).count 0xF c Ev.nothing

/-- An MPC's effect: ZQCal Start and Latch (R170). -/
def State.mpcDone (s : State) (c key op cyc : Nat) : State :=
  if op = zqStartOp then
    s.modPnt c (fun p => { p with zqOpen := Tbl.put p.zqOpen key cyc, zqLast := Tbl.put p.zqLast key s.uptime })
  else if op = zqLatchOp then s.modPnt c (fun p => { p with zqOpen := Tbl.del p.zqOpen key })
  else s

/-- A mode-register write to unit `u` belongs to step 2 of R164 where it writes the refresh-mode setting of the mode
that waits, every unit owing nothing. DESIGN CHOICE (log 132): which register and value that is stands open. -/
def State.mrwDone (s : State) (c u addr data : Nat) : State :=
  match (s.chan c).pnt.modePend with
  | none => s
  | some m =>
    if addr = Config.refModeReg % 256 ∧ data = Config.refModeVal (s.modeOf c m) % 256 ∧
        (s.units c).all (fun v => decide (s.owed c v ≤ 0)) ∧ ¬ (s.chan c).pnt.modeWritten.contains u then
      s.modPnt c (fun p => { p with modeWritten := u :: p.modeWritten })
    else s

/-- The CCLK cycles that ranks have spent in power-down since they were last counted (R363), and the rest
counted from `cyc`. -/
def State.pdCount (s : State) (c cyc : Nat) : State :=
  match (s.chan c).pnt.pd with
  | [] => s
  | (_, t0) :: l =>
    let start := l.foldl (fun a e => min a e.2) t0
    (s.modPnt c (fun p => { p with pd := Tbl.mapVal (fun _ t => max t cyc) p.pd })).countN 0x1A c
      Ev.nothing (cyc - start)

/-- What a command passed again, or one of Screed's, does to the bank models and to power-down. -/
def State.bankEffect (s : State) (c : Nat) (p : Passed) : State :=
  let key := physKey p.sub p.rank
  match p.kind with
  | .act => s.actBank c ⟨p.sub, p.rank, p.bg, p.ba, p.row, 0⟩ p.cyc
  | .rda | .wra | .pre => s.closeBanks c (fun b => decide (b = p.bankKey))
  | .presb => s.closeBanks c (inIndex p.sub p.rank p.ba)
  | .preab => s.closeBanks c (inUnit p.sub p.rank)
  | .pde => (s.pdCount c p.cyc).modPnt c (fun q => { q with pd := Tbl.put q.pd key p.cyc })
  | .pdx => (s.pdCount c p.cyc).modPnt c (fun q => { q with pd := Tbl.del q.pd key })
  | _ => s

/-- The channel's logic reset (R134, R158, R178), with the RO fields that no reset table names (R15): full meters, profiles 00 with their weights, no deficits, no
rows, no predictor, no protection count; cold-start mode is armed. -/
def State.chanLogic (s : State) (c : Nat) : State :=
  let weights := (List.range 16).map (fun j => SET_CLASS_TABLE_WEIGHT.key c j 0)
  let s0 := (s.pdCount c (s.chan c).now).slotsDue c
  let s1 := { s0 with
    frozen := Tbl.del s0.frozen (SET_CTRL_PROFILE.key c 0 0),
    xregs := Tbl.keep (fun k => !weights.contains k) s0.xregs }
  let s2 := [SET_CTRL_PROFILE, GAU_CTRL_PROFILE, TIM_STATUS_PHASE_A, TIM_STATUS_PHASE_B, PNT_STATUS_COLD,
    PNT_STATUS_RATE2X, KEY_MNT_CTRL_MRR_DATA, ASH_STATUS_PATROL_LATE, SCR_STATUS_STEP, SCR_STATUS_ATTEMPT,
    SCR_STATUS_RESUMED, SCR_STATUS_CLAMPED].foldl (fun t f => t.setF f c 0 0 0) s1
  s2.modChan c (fun x => { x with
    set := { x.set with
      meters := Tbl.mapSet (fun _ => Meter.init) (fun _ m => m.fill) x.set.meters,
      deficit := [], added := [], drr := 0 },
    tim := { x.tim.noReplay with
      banks := [], chkOpen := [], backoff := [], backoffEnd := [], drained := (0, 0), bufFrom := x.now + 1,
      desel := [], bursts := [] },
    pnt := { x.pnt with
      owed := [], nextTick := [], tickNo := [], want2x := false, rateUnits := [], calmPolls := 0, zqOpen := [],
      raa := [], track := [], rfmDue := [], extraDue := [], pauseDue := [], coldEnd := none, coldArmed := true, aboLeft := [],
      pd := [] } })

/-- Self-refresh exit begins (R174 step 1). -/
def State.exitBegin (s : State) (c : Nat) : State :=
  (s.setF PNT_STATUS_LPSTATE c 0 0 3).modPnt c (fun p => { p with srStep := 2, srAt := s.uptime })

/-- Step 3 of a channel reset (R410) for a channel left in self-refresh: its fence ends, and its exit begins. -/
def State.resetExit (s : State) (c : Nat) : State :=
  ((s.chanLogic c).exitBegin c).modChan c (fun x => { x with fenced := false, rstStep := 2 })

/-- Self-refresh begins (R173 step 1): cause 1 SR_REQ, 2 idle, 3 warm reset, 4 channel reset. -/
def State.srBegin (s : State) (c why : Nat) : State :=
  (s.setF PNT_STATUS_LPSTATE c 0 0 1).modPnt c (fun p => { p with srWhy := why, srStep := 1 })

/-- The clock stops (R173 step 7); the exit follows at once if SR_REQ was cleared meanwhile (R174), and after step 3 of
a channel reset (R410). -/
def State.srStopped (s : State) (c : Nat) : State :=
  let s1 := (s.setF PNT_STATUS_LPSTATE c 0 0 2).modPnt c (fun p => { p with
    srStep := 7, pllOff := decide (s.fld PNT_LP_PLL_OFF c 0 0 = 1) })
  if (s.chan c).pnt.srWhy = 4 then s1.resetExit c
  else if (s.chan c).pnt.srWhy = 1 ∧ s.rawF PNT_CTRL_SR_REQ c 0 0 = 0 then s1.exitBegin c
  else s1

/-- Step 7 of R173 comes 16 CCLK after the last SRE. -/
def State.srClock (s : State) (c : Nat) : State :=
  if s.lpState c = 1 ∧ (s.chan c).pnt.srStep = 6 ∧ (s.chan c).pnt.srAt + s.nsOf c 16 ≤ s.uptime then s.srStopped c
  else s

/-- A physical rank entered self-refresh (R173 step 6); after the last one the ticks stop. -/
def State.srEntered (s : State) (c key : Nat) : State :=
  let s1 := s.modPnt c (fun p => { p with
    sr := if p.sr.contains key then p.sr else key :: p.sr, pd := Tbl.del p.pd key })
  if (s.physUnits c).all (fun k => (s1.chan c).pnt.sr.contains k) then
    s1.modPnt c (fun p => { p with srStep := 6, srAt := s.uptime, nextTick := [] })
  else s1

/-- Ticks restart at instant `t` with owed 1 for every unit (R162). DESIGN CHOICE (log 159): in SAME_BANK too the unit
of owed is the logical rank. -/
def State.ticksRestart (s : State) (c t : Nat) : State :=
  let i := s.interval c (s.refMode c) (s.rate2x c)
  let r := max 1 (s.ranks c)
  s.modPnt c (fun p => { p with
    owed := (s.units c).map (fun u => (u, (1 : Int))),
    nextTick := (s.units c).map (fun u => (u, t + i + u % 4 * i / r)),
    tickNo := [], rateUnits := [], lastPoll := 0 })

end Sys2Proof.Machine
end

