-- ==== Sys2Proof/Machine/Timing.lean ====
section
/-! DEFINITION. The DRAM commands of the issuer and of Pointing (R136 to R175), ALERT_n and replay (R149,
R150), the checks of the timing table (R139, R140, R153), phases and slots (R141, R154, R155). -/

namespace Sys2Proof.Machine

/-- ACT (R138, R145, R146, R166, R167). -/
def execAct (c : Cmd) (s : State) : Host.Outcome State Fault Refusal :=
  done (s.live (fun s => s.setterCmd c .act))

/-- RD (R138, R79). -/
def execRd (c : Cmd) (s : State) : Host.Outcome State Fault Refusal :=
  done (s.live (fun s => s.setterCmd c .rd))

/-- RDA (R145). -/
def execRda (c : Cmd) (s : State) : Host.Outcome State Fault Refusal :=
  done (s.live (fun s => s.setterCmd c .rda))

/-- WR (R138, R194). -/
def execWr (c : Cmd) (s : State) : Host.Outcome State Fault Refusal :=
  done (s.live (fun s => s.setterCmd c .wr))

/-- WRA (R145, R194). -/
def execWra (c : Cmd) (s : State) : Host.Outcome State Fault Refusal :=
  done (s.live (fun s => s.setterCmd c .wra))

/-- A precharge of the banks that meet `p` by Pointing, where it wants one of them closed. -/
def State.pntPre (s : State) (c cyc : Nat) (p : Nat → Bool) : Option (State × Bool) :=
  if ((s.chan c).tim.chkOpen.any (fun e => p e.1 && s.wantsClosed c cyc e.1)) then
    some ((s.closeBanks c p).count 8 c Ev.nothing, true)
  else none

/-- PRE (R138): the issuer's for a row conflict, else Pointing's. -/
def execPre (c : Cmd) (s : State) : Host.Outcome State Fault Refusal :=
  done (s.live (fun s =>
    let s0 := if s.hasChan c.chan ∧ s.issuerOn c.chan c.sub then s.judgeHeads c.chan c.sub c.cyc
      else s.srPath c.chan c.cyc c.rivals
    s0.issue c.chan (Cmd.passed c .pre) (fun s =>
      match State.setterEffect c .pre s with
      | some t => some t
      | none =>
        if c.rid.isSome then none
        else s.pntPre c.chan c.cyc (fun b => decide (b = (Cmd.passed c .pre).bankKey))) (s0.servedReq c .pre)))

/-- PREsb (R160). -/
def execPresb (c : Cmd) (s : State) : Host.Outcome State Fault Refusal :=
  done (s.live (fun s => (s.srPath c.chan c.cyc c.rivals).issue c.chan (Cmd.passed c .presb) (fun s =>
    s.pntPre c.chan c.cyc (inIndex c.sub c.rank c.ba))))

/-- PREab (R160). -/
def execPreab (c : Cmd) (s : State) : Host.Outcome State Fault Refusal :=
  done (s.live (fun s => (s.srPath c.chan c.cyc c.rivals).issue c.chan (Cmd.passed c .preab) (fun s =>
    s.pntPre c.chan c.cyc (inUnit c.sub c.rank))))

/-- What the capture of a table divergence holds beside its rule: no command was stopped. DESIGN CHOICE (log 70): CMD reads
REFab, SUB A and RANK 0. -/
def noCmd : Passed := ⟨0, .refab, 0, 0, 0, 0, 0, false⟩

/-- The issuer's bank model and the checker's differ. -/
def State.banksDiffer (s : State) (c : Nat) : Bool :=
  (List.range 256).any (fun b => decide ((s.bank c b).openRow ≠ Tbl.find (s.chan c).tim.chkOpen b))

/-- The comparison of R153: the two table copies, and, at an all-bank refresh (`banks`), the two bank models. -/
def State.compareTables (s : State) (c : Nat) (upset banks : Bool) : State :=
  let x := (s.chan c).tim
  if upset ∨ x.tabI ≠ x.tabC ∨ (banks ∧ s.banksDiffer c) then
    (s.timErr c TIM_ERR_TABLE_DIVERGE 7 2).violate c noCmd 0x3B 0
  else s

/-- REFab (R153, R159, R160, R162, R166): for a unit Pointing may refresh, its banks closed and no back-off in
the way (R176). -/
def execRefab (c : Cmd) (s : State) : Host.Outcome State Fault Refusal :=
  done (s.live (fun s => (s.srPath c.chan c.cyc c.rivals).issue c.chan (Cmd.passed c .refab) (fun s =>
    let u := 4 * c.sub + c.rank
    if s.refMode c.chan ≠ 2 ∧ c.fine = decide (s.refMode c.chan = 1) ∧ (s.units c.chan).contains u ∧
        s.mayRefresh c.chan u c.cyc ∧ ¬ s.backingOff c.chan u c.cyc ∧
        ¬ s.anyOpen c.chan (inUnit c.sub c.rank) then
      some ((((s.refreshed c.chan u).raaDrop c.chan (unitHas u)).rejudge c.chan).compareTables c.chan false
        true, true)
    else none)))

/-- REFsb (R159, R160, R162, R166): to the bank index after the last one. -/
def execRefsb (c : Cmd) (s : State) : Host.Outcome State Fault Refusal :=
  done (s.live (fun s => (s.srPath c.chan c.cyc c.rivals).issue c.chan (Cmd.passed c .refsb) (fun s =>
    let u := 4 * c.sub + c.rank
    if s.refMode c.chan = 2 ∧ (s.units c.chan).contains u ∧ s.mayRefresh c.chan u c.cyc ∧
        Tbl.get (s.chan c.chan).pnt.nextSb 0 u = c.ba ∧ ¬ s.backingOff c.chan u c.cyc ∧
        ¬ s.anyOpen c.chan (inIndex c.sub c.rank c.ba) then
      let s1 := (s.refreshed c.chan u).modPnt c.chan (fun p =>
        { p with nextSb := Tbl.set p.nextSb 0 u ((c.ba + 1) % 4) })
      some ((s1.raaDrop c.chan (inIndex c.sub c.rank c.ba)).rejudge c.chan, true)
    else none)))

/-- RFMab (R168): of a back-off, from tABO_ACT after its onset, every bank of the physical rank closed. -/
def execRfmab (c : Cmd) (s : State) : Host.Outcome State Fault Refusal :=
  done (s.live (fun s => s.issue c.chan (Cmd.passed c .rfmab) (fun s =>
    let u := 4 * c.sub + c.rank
    let onset := (Tbl.find (s.chan c.chan).tim.backoff (s.unitPhys c.chan u)).getD 0
    if 0 < Tbl.get (s.chan c.chan).pnt.aboLeft 0 u ∧ s.backingOff c.chan u c.cyc ∧
        onset + s.row c.chan 35 ≤ c.cyc ∧
        ¬ s.anyOpen c.chan (inPhys (s.stack c.chan) c.sub (physRank (s.stack c.chan) c.rank)) then
      some (s.backoffRfm c.chan u c.cyc, true)
    else none)))

/-- RFMsb (R166, R167): for a bank index that is due, precharged. -/
def execRfmsb (c : Cmd) (s : State) : Host.Outcome State Fault Refusal :=
  done (s.live (fun s => s.issue c.chan (Cmd.passed c .rfmsb) (fun s =>
    let idx := inIndex c.sub c.rank c.ba
    if (s.chan c.chan).pnt.rfmDue.any idx ∧ ¬ s.anyOpen c.chan idx then
      let s1 := s.modPnt c.chan (fun p => { p with rfmDue := p.rfmDue.filter (fun b => !idx b) })
      some ((s1.raaDrop c.chan idx).count 0xF c.chan Ev.nothing, true)
    else none)))

/-- A maintenance command as the checker sees it: an MPC keeps its opcode. -/
def Cmd.mnt (c : Cmd) (k : CmdKind) (op : Nat) : Passed := { Cmd.passed c k with row := op }

/-- The physical rank key of a logical rank of a command. -/
def State.cmdPhys (s : State) (c : Cmd) : Nat := physKey c.sub (physRank (s.stack c.chan) c.rank)

/-- MRR (R170): Pointing's read of a mode register. -/
def execMrr (c : Cmd) (_addr _data : Nat) (s : State) : Host.Outcome State Fault Refusal :=
  done (s.live (fun s => s.issue c.chan (Cmd.mnt c .mrr 0) (fun s =>
    s.onPath c.chan c.rivals (fun t => some (t, true)))))

/-- MRW (R164, R170). -/
def execMrw (c : Cmd) (addr data : Nat) (s : State) : Host.Outcome State Fault Refusal :=
  done (s.live (fun s => s.issue c.chan (Cmd.mnt c .mrw 0) (fun s =>
    s.onPath c.chan c.rivals (fun t => some (t.mrwDone c.chan (4 * c.sub + c.rank) addr data, true)))))

/-- MPC (R170): `data` is its opcode. -/
def execMpc (c : Cmd) (_addr data : Nat) (s : State) : Host.Outcome State Fault Refusal :=
  done (s.live (fun s => s.issue c.chan (Cmd.mnt c .mpc data) (fun s =>
    s.onPath c.chan c.rivals (fun t => some (t.mpcDone c.chan (t.cmdPhys c) data c.cyc, true)))))

/-- SRE (R173 step 6): path held, banks closed, nothing owed. -/
def execSre (c : Cmd) (s : State) : Host.Outcome State Fault Refusal :=
  done (s.live (fun s =>
    (s.srPath c.chan c.cyc c.rivals).issue c.chan (Cmd.passed c .sre) (fun s =>
      if s.srReady c.chan c.cyc ∧
          (s.physUnits c.chan).contains (physKey c.sub c.rank) ∧
          (s.chan c.chan).tim.chkOpen.isEmpty ∧
          (s.units c.chan).all (fun u => decide (s.owed c.chan u ≤ 0)) then
        some (s.srEntered c.chan (physKey c.sub c.rank), true)
      else none)))

/-- The channel PLL runs, or has relocked since the exit began (R174 step 2). DESIGN CHOICE (log 133): how long that
takes is open within 10 µs. -/
def State.pllBack (s : State) (c : Nat) : Bool :=
  !(s.chan c).pnt.pllOff || decide ((s.chan c).pnt.srAt + Config.relockNs % 10001 ≤ s.uptime)

/-- SRX (R174 step 3), the path held. -/
def execSrx (c : Cmd) (s : State) : Host.Outcome State Fault Refusal :=
  done (s.live (fun s => s.issue c.chan (Cmd.passed c .srx) (fun s =>
    if s.lpState c.chan = 3 ∧ s.pllBack c.chan ∧ (s.chan c.chan).pnt.sr.contains (physKey c.sub c.rank) then
      let (t, ok) := s.pathBack c.chan c.rivals
      if ok then some (t.modPnt c.chan (fun p => { p with
        sr := p.sr.filter (fun k => decide (k ≠ physKey c.sub c.rank)), srStep := 4, pllOff := false }), true)
      else some (t, false)
    else none)))

/-- The instant at which a command closes banks: its own, or that of its internal precharge (R138 rows 8 and 9). -/
def State.shutAt (s : State) (c : Nat) (p : Passed) : Option Nat :=
  if p.kind.isPre then some p.cyc
  else if p.kind = .rda then some (p.cyc + s.row c 8)
  else if p.kind = .wra then some (p.cyc + s.row c 15 + s.row c 16 + s.row c 9)
  else none

/-- The units of a physical rank have been idle, all its banks closed, for PD_IDLE cycles (R172). DEDUCED (log 177): a bank
that RDA or WRA closes is closed from its internal precharge on. -/
def State.pdDue (s : State) (c sub pr cyc : Nat) : Bool :=
  let n := s.fld PNT_LP_PD_IDLE c 0 0
  let x := s.chan c
  decide (n ≠ 0) && !s.anyOpen c (inPhys (s.stack c) sub pr) &&
  (s.physOf c sub pr).all (fun u => s.unitIdle c u cyc n) &&
  x.tim.hist.all (fun p => !(decide (p.sub = sub) && decide (p.phys (s.stack c) = pr)) ||
    (s.shutAt c p).all (fun t => decide (t + n ≤ cyc)))

/-- PDE (R172). -/
def execPde (c : Cmd) (s : State) : Host.Outcome State Fault Refusal :=
  done (s.live (fun s => s.issue c.chan (Cmd.passed c .pde) (fun s =>
    let key := physKey c.sub c.rank
    if s.lpState c.chan = 0 ∧ (s.physUnits c.chan).contains key ∧
        (Tbl.find (s.chan c.chan).pnt.pd key).isNone ∧ s.pdDue c.chan c.sub c.rank c.cyc then
      some ((s.pdCount c.chan c.cyc).modPnt c.chan (fun p => { p with pd := Tbl.put p.pd key c.cyc }), true)
    else none)))

/-- An MR4 poll is due (R163). -/
def State.pollDue (s : State) (c : Nat) : Bool :=
  let x := (s.chan c).pnt
  decide (x.lastPoll = 0) ||
  decide (x.lastPoll + 1000 * max 16 (s.fld PNT_CFG_MR4_PERIOD c 0 0) ≤ s.uptime)

/-- PDX (R172, R176): a request, an urgent refresh, a poll, a maintenance command or self-refresh wakes the
rank. -/
def execPdx (c : Cmd) (s : State) : Host.Outcome State Fault Refusal :=
  done (s.live (fun s => s.issue c.chan (Cmd.passed c .pdx) (fun s =>
    let key := physKey c.sub c.rank
    if (Tbl.find (s.chan c.chan).pnt.pd key).isSome ∧
        ((s.physOf c.chan c.sub c.rank).any (fun u => s.unitWanted c.chan u || s.urgent c.chan u) ∨
          s.pollDue c.chan ∨ s.lpState c.chan = 1 ∨ (s.chan c.chan).scr.quiet ≠ 0 ∨
          (s.chan c.chan).mntHolder.isSome) then
      some ((s.pdCount c.chan c.cyc).modPnt c.chan (fun p => { p with pd := Tbl.del p.pd key }), true)
    else none)))

/-- A queued request needs bank `b` (R147). -/
def State.bankWanted (s : State) (c b : Nat) : Bool :=
  (s.waiting c).any (fun r => r.lines.any (fun l => l.open_ r && decide ((s.target c r l).bank = b)))

/-- IDLE_CLOSE_EXPIRY (R147). -/
def execIdleCloseExpiry (c : Cmd) (s : State) : Host.Outcome State Fault Refusal :=
  done (s.live (fun s => s.issue c.chan (Cmd.passed c .pre) (fun s =>
    let b := (Cmd.passed c .pre).bankKey
    let n := s.fld TIM_ISSUE_IDLE_CLOSE c.chan 0 0
    if n ≠ 0 ∧ ¬ (s.chan c.chan).tim.replaying ∧ s.bankOpen c.chan b ∧ ¬ s.bankWanted c.chan b ∧ (s.bank c.chan b).used + 16 * n ≤ c.cyc ∧
        Tbl.get (s.chan c.chan).tim.left 0 b + 16 * n ≤ c.cyc then
      some ((s.closeBanks c.chan (fun k => decide (k = b))).count 8 c.chan Ev.nothing, true)
    else none)))

/-- TABLE_COMPARE (R153): `upset` says that the CRCs differ by an error in a stored copy. -/
def execTableCompare (chan upset : Nat) (s : State) : Host.Outcome State Fault Refusal :=
  done (s.live (fun s => s.whenTrue (s.hasChan chan) (fun s => s.compareTables chan (decide (upset ≠ 0)) false)))

/-- TIM_APPLY (R139, R140). -/
def execTimApply (chan : Nat) (s : State) : Host.Outcome State Fault Refusal :=
  done (s.host (fun s => s.whenTrue (s.hasChan chan) (fun s => s.timApply chan)))

/-! ALERT_n (R25, R149, R150). -/

/-- ALERT_n is sampled: the channel is trained and not in self-refresh (R25). -/
def State.alertOn (s : State) (c : Nat) : Bool :=
  s.hasChan c && (decide (s.rawF SCR_STATUS_STATE c 0 0 = 2) || decide (s.rawF SCR_STATUS_STATE c 0 0 = 3)) &&
  !(decide (s.lpState c = 2) || decide (s.lpState c = 1 ∧ (s.chan c).pnt.srStep = 6) ||
    decide (s.lpState c = 3 ∧ (s.chan c).pnt.srStep ≠ 5))

/-- What the replay buffer holds when an alert begins at `onset` (R150): the commands not yet tPAR_ALERT old, oldest
first, since the last reset (R158). -/
def State.heldCmds (s : State) (c onset : Nat) : List Passed :=
  ((s.chan c).tim.hist.filter (fun p => decide (onset ≤ p.cyc + s.row c 43) &&
    decide ((s.chan c).tim.bufFrom ≤ p.cyc))).reverse

/-- A parity alert at `cyc` (R150): a replay of what the buffer holds starts; one during a replay starts another, until
RETRY have failed. With a checker violation in the same cycle there is no replay (R157). -/
def State.parityAlert (s : State) (c onset cyc : Nat) : State :=
  let x := (s.chan c).tim
  if x.desel.any (fun e => decide (e.2 = cyc)) then s
  else if ¬ x.replaying then s.modTim c (fun t => { t with
    replaying := true, replayFails := 0, replayBuf := s.heldCmds c onset, replayPre := false, alertAt := cyc })
  else if max 1 (s.fld TIM_ALERT_RETRY c 0 0) ≤ x.replayFails + 1 then
    (((s.endReplay c).timErr c TIM_ERR_REPLAY_FAIL 5 2).fenceChan c).settle
  else s.modTim c (fun t => { t with replayFails := t.replayFails + 1, replayPre := false, alertAt := cyc })

/-- ALERT_N_PULSE (R149): a pulse of `width` cycles that ends at `cyc`, from physical rank `rank`. One of PRAC that comes
in a replay before its step 3 is acted on after that (R157). DESIGN CHOICE (log 125): a further PRAC alert of a rank whose
back-off is under way changes nothing; R149 does not say. -/
def execAlertNPulse (chan cyc width rank : Nat) (s : State) : Host.Outcome State Fault Refusal :=
  done (s.live (fun s => s.whenTrue (s.alertOn chan) (fun s =>
    let x := s.chan chan
    let onset := cyc - width
    let in_ := [0, 1].any (fun sub => (x.tim.backLive (physKey sub rank) onset).isSome)
    let late := [0, 1].any (fun sub => (Tbl.find x.tim.backoffEnd (physKey sub rank)).any (fun e =>
      decide (onset < e + s.row chan 36)))
    if width < 2 then s.timErr chan TIM_ERR_ALERT_GLITCH 3 0
    else if s.fld TIM_ALERT_PW_MIN chan 0 0 ≤ width ∧ width ≤ s.fld TIM_ALERT_PW_MAX chan 0 0 ∧
        s.method chan = 0 ∧ (in_ ∨ ¬ late) then
      if in_ then s
      else if x.tim.replaying ∧ ¬ x.tim.replayPre then
        s.modTim chan (fun t => { t with pracLater :=
          if (Tbl.find t.pracLater rank).isSome then t.pracLater else Tbl.put t.pracLater rank onset })
      else s.backoffStart chan rank onset
    else s.parityAlert chan onset cyc)))

/-- One command issued during a replay, at the earliest instant from `start` on that the issuer's table admits, through
the shadow checker (R138, R151): one that it refuses fences the channel, and nothing more is reissued. A precharge counts
as any (R363). -/
def State.replayCmd (c start : Nat) (a : State × Bool) (p : Passed) : State × Bool :=
  let s := a.1
  let x := s.chan c
  let at' := earliest x.tim.tabI (s.stack c) (s.mrdimm c) x.tim.hist 64 { p with cyc := max start x.now }
  let n := { p with cyc := at' }
  if ¬ a.2 then a
  else match s.violation c n with
    | some (rule, short) => (s.block c n rule short, false)
    | none =>
      let t := (s.bankEffect c n).modChan c (fun y => { y with tim := y.tim.record n, now := at' })
      (if p.kind.isPre then t.count 8 c Ev.nothing else t, true)

/-- What stands at the head of a replayed command: the ACT it needs, where its bank is closed. -/
def State.replayActs (s : State) (c : Nat) (p : Passed) : List Passed :=
  if p.kind.isCol ∧ (s.bank c p.bankKey).openRow ≠ some p.row then [{ p with kind := .act }] else []

/-- A buffered command that step 3 of R150 leaves nothing to do for, DESIGN CHOICE (log 126): a PRE whose bank is closed, a
PDX or SRX whose rank is awake, an SRE whose rank sleeps. -/
def State.replayVoid (s : State) (c : Nat) (p : Passed) : Bool :=
  let key := physKey p.sub p.rank
  match p.kind with
  | .pre => !s.bankOpen c p.bankKey
  | .pdx => (Tbl.find (s.chan c).pnt.pd key).isNone
  | .pde => (Tbl.find (s.chan c).pnt.pd key).isSome
  | .sre | .srx => true
  | _ => false

/-- One buffered command reissued with the ACT it needs (R150 step 4): the burst of a read is read again, at its new
instant, and the slot of a column command carries reissued data (R155). -/
def State.reissue (c start : Nat) (a : State × Bool) (p : Passed) : State × Bool :=
  if a.1.replayVoid c p then a
  else
    let (u, ok) := State.replayCmd c start ((a.1.replayActs c p).foldl (State.replayCmd c start) a) p
    let at' := (u.chan c).now
    let mine (b : Burst) : Bool := decide (b.cyc = p.cyc ∧ b.pos.sub = p.sub)
    if ok then
      (u.modTim c (fun y => { y with
        redone := if p.kind.isCol then (p.sub, at') :: y.redone.filter (fun e => decide (at' < e.2 + histSpan))
          else y.redone,
        bursts := if p.kind.isRd then y.bursts.filter (fun b => !mine b) ++
            (y.bursts.filter mine).map (fun b => { b with cyc := at' })
          else y.bursts }), true)
    else (u, false)

/-- Pointing's path for step 3 of R150: taken as an emergency and given up, unless Pointing holds it already. -/
def State.emergency (s : State) (c : Nat) : State :=
  if s.pntHolds c then s else (s.seizePath c).freePath c

/-- The instant from which step 3 of R150 may act: tPAR_ALERT after the last command before the alert, the path's
holder done (R171). -/
def State.replayStart (s : State) (c : Nat) : Nat :=
  let x := (s.chan c).tim
  max ((x.hist.find? (fun p => decide (p.cyc ≤ x.alertAt))).elim 0 (fun p => p.cyc + s.row c 43)) (s.pathClear c)

/-- Step 3 of R150: every rank that is in power-down is woken, and every logical rank precharged. -/
def State.replayShut (s : State) (c : Nat) : State × Bool :=
  let start := s.replayStart c
  let up := ((s.physUnits c).filter (fun k => (Tbl.find (s.chan c).pnt.pd k).isSome)).map (fun k =>
    (⟨0, .pdx, k / 2, k % 2, 0, 0, 0, false⟩ : Passed))
  let pres := ((s.units c).filter (fun u => !(s.chan c).pnt.sr.contains (s.unitPhys c u))).map (fun u =>
    (⟨0, .preab, u / 4, u % 4, 0, 0, 0, false⟩ : Passed))
  (up ++ pres).foldl (State.replayCmd c start) (s.emergency c, true)

/-- Step 4 of R150, the back-off RFMs before it complete (R157): the buffer is reissued, the last of it gone by `cyc`.
DESIGN CHOICE (log 176): the replay is complete as the last command of the buffer issues, so that an alert after that
starts a replay of its own, with no failure before it. -/
def State.replaySend (s : State) (c cyc : Nat) : State :=
  if ¬ (s.chan c).pnt.aboLeft.isEmpty then s
  else
    let start := (s.chan c).tim.backoffEnd.foldl (fun a e => max a e.2) 0
    let (t, ok) := (s.chan c).tim.replayBuf.foldl (State.reissue c start) (s, true)
    if ¬ ok then t.endReplay c
    else if cyc < (t.chan c).now then s
    else
      let t1 := (t.endReplay c).modTim c (fun y => { y with replayEnd := (t.chan c).now })
      ((t1.timErr c TIM_ERR_REPLAY 4 0).bumpF TIM_ERR_REPLAY_COUNT c 0 0).count 0x11 c Ev.nothing

/-- REPLAY (R150, R157): step 3, and step 4 with it where no back-off comes first, each command as early as the table
admits. DESIGN CHOICE (log 126): each of the two is one step, taken once it is complete by `cyc`. After step 3 the PRAC
alerts that came before it are acted on. A command that the checker refuses fences the channel. -/
def execReplay (chan cyc : Nat) (s : State) : Host.Outcome State Fault Refusal :=
  done (s.live (fun s => s.whenTrue (s.hasChan chan && (s.chan chan).tim.replaying) (fun s =>
    let x := (s.chan chan).tim
    if x.replayPre then s.replaySend chan cyc
    else
      let (t, ok) := s.replayShut chan
      if ¬ ok then t.endReplay chan
      else if cyc < (t.chan chan).now then s
      else (x.pracLater.foldl (fun u e => u.backoffStart chan e.1 e.2)
        (t.modTim chan (fun y => { y with replayPre := true, pracLater := [] }))).replaySend chan cyc)))

/-! Phases and slots. -/

/-- Lines of a subchannel that await write (R141, R188). -/
def State.writesWaiting (s : State) (c sub : Nat) : Nat :=
  let n (rs : List Req) : Nat := (rs.map (fun r =>
    (r.lines.filter (fun l => decide (l.pos.sub = sub) && decide (l.wants r = some true))).length)).sum
  n (s.waiting c) + n (((s.scrubs c 0) ++ (s.scrubs c 1) ++ (s.scrubs c 2) ++ (s.scrubs c 3)).filter s.scrubDue)

/-- A request or due scrub line is ready to read (`w` false) or write at `cyc`, the phase apart. -/
def State.dirReady (s : State) (c sub cyc : Nat) (w : Bool) : Bool :=
  ((s.waiting c) ++ ((s.scrubs c 0) ++ (s.scrubs c 1) ++ (s.scrubs c 2) ++ (s.scrubs c 3)).filter
      s.scrubDue).any (fun r =>
    (s.candAt c sub cyc none r).any (fun k => k.ok && decide (k.line.wants r = some w)))

/-- A phase is due to end, judged at `cyc` (R141). DESIGN CHOICE (log 181): a due scrub write, which has entered no queue, has no
age for WR_AGE. -/
def State.phaseDue (s : State) (c sub cyc : Nat) : Bool :=
  let n := s.writesWaiting c sub
  let lo := s.fld TIM_ISSUE_WR_LO c 0 0
  let hi := max (lo + 1) (s.fld TIM_ISSUE_WR_HI c 0 0)
  if s.phase c sub = 0 then
    let age := s.fld TIM_ISSUE_WR_AGE c 0 0
    decide (hi ≤ n) || (!s.dirReady c sub cyc false && s.dirReady c sub cyc true) ||
    (decide (age ≠ 0) && (s.waiting c).any (fun r => decide (r.tEnq + 100 * age ≤ s.uptime) &&
      r.lines.any (fun l => decide (l.pos.sub = sub) && decide (l.wants r = some true))))
  else
    let x := (s.chan c).tim.drained
    decide (max 1 (s.fld TIM_ISSUE_DRAIN_MAX c 0 0) ≤ (if sub = 0 then x.1 else x.2)) ||
    !s.dirReady c sub cyc true ||
    (decide (n ≤ lo) && (s.waiting c).any (fun r => decide (r.queue < 4) &&
      r.lines.any (fun l => decide (l.pos.sub = sub) && decide (l.wants r = some false))))

/-- PHASE_CHANGE (R141), judged at the channel's present cycle or at a later one that no earlier command
holds back. -/
def execPhaseChange (chan sub : Nat) (s : State) : Host.Outcome State Fault Refusal :=
  done (s.live (fun s =>
    let now := (s.chan chan).now
    s.whenTrue (s.hasChan chan && decide (sub < 2) && s.issuerOn chan sub &&
        (s.phaseDue chan sub now || s.phaseDue chan sub (now + histSpan))) (fun s =>
      let v := 1 - s.phase chan sub
      let s1 := if sub = 0 then s.setF TIM_STATUS_PHASE_A chan 0 0 v else s.setF TIM_STATUS_PHASE_B chan 0 0 v
      (s1.modTim chan (fun t => { t with
        drained := if sub = 0 then (0, t.drained.2) else (t.drained.1, 0) })).count 0xD chan Ev.nothing)))

/-- The rows a candidate waits for at `cyc`; row 35 where a back-off holds its ACT. -/
def State.blockRows (s : State) (c cyc : Nat) (k : Cand) : List Nat :=
  let x := s.chan c
  let n := passedAt cyc k.kind k.pos
  ((shortfalls x.tim.tabI (s.stack c) (s.mrdimm c) x.tim.hist n) ++
    (fawShort x.tim.tabI (s.stack c) x.tim.hist n)).map Prod.fst ++
  (if k.kind = .act ∧ (x.tim.backLive (physKey k.pos.sub (physRank (s.stack c) k.pos.rank)) cyc).any (fun o =>
      decide (o + s.row c 35 < cyc)) then [35] else [])

/-- Rows 29 to 36 and 37 to 42: refresh, RFM and maintenance (R155). -/
def maintRow (k : Nat) : Bool := decide (29 ≤ k ∧ k ≤ 42)

/-- Rows 17 to 23 and 26: turnaround (R155). -/
def turnRow (k : Nat) : Bool := decide (17 ≤ k ∧ k ≤ 23) || decide (k = 26)

/-- A subchannel is in the exit time of power-down or self-refresh at `cyc` (R155). -/
def State.waking (s : State) (c sub cyc : Nat) : Bool :=
  (s.chan c).tim.hist.any (fun p => decide (p.sub = sub) &&
    ((p.kind == .pdx && decide (cyc < p.cyc + s.row c 45)) || (p.kind == .srx && decide (cyc < p.cyc + s.row c 47))))

/-- The class of the slot of subchannel `sub` that starts at `start`, its decision cycle being `dec` (R155): 0 retired, 1
wasted, 2 front-starved, 3 back-stalled. DESIGN CHOICE (log 158): a slot that carries a hod spill's line counts as retired;
one physical rank in power-down makes it the subchannel's state. -/
def State.slotClass (s' : State) (c sub start dec : Nat) : Nat :=
  let s := s'.modTim c (fun t => { t with hist := t.hist.filter (fun p => decide (p.cyc ≤ dec)) })
  let x := s'.chan c
  let cols := (s.chan c).tim.hist.filter (fun p => decide (p.sub = sub) && fills x.tim.tabI start p)
  let spent (p : Passed) : Bool := x.ash.scrubSlots.contains (p.sub, p.cyc) || x.tim.redone.contains (p.sub, p.cyc)
  let queued := (s.waiting c).filter (fun r => r.lines.any (fun l => decide (l.pos.sub = sub) && l.open_ r))
  let cands := queued.filterMap (s.candAt c sub dec none)
  let replay := (x.tim.replaying && (decide (0 < x.tim.replayFails) || decide (x.tim.alertAt ≤ dec))) ||
    decide (x.tim.alertAt ≤ dec ∧ dec ≤ x.tim.replayEnd)
  let away := s.quiesced c sub || decide (s.lpState c ≠ 0) || replay ||
    x.pnt.pd.any (fun e => decide (e.1 / 2 = sub)) || s.waking c sub dec
  let may (k : Cand) : Bool := (s.heads c sub k.req.queue).any (fun r => decide (r.rid = k.req.rid))
  let phaseOnly (k : Cand) : Bool := k.ok && !(s.candAt c sub dec (some (s.phase c sub)) k.req).any (fun j => j.ok)
  let turnOnly (k : Cand) : Bool :=
    let b := s.blockRows c dec k
    k.free && !b.isEmpty && b.all turnRow
  if cols.any (fun p => !spent p) then 0
  else if ¬ cols.isEmpty then 1
  else if queued.isEmpty then 2
  else if away || (decide (cands.length = queued.length) && cands.all (fun k => (s.blockRows c dec k).any maintRow)) ||
      cands.any (fun k => may k && (phaseOnly k || turnOnly k)) then 1
  else 3

/-- SLOT (R154, R155): the slot of a live channel whose decision cycle lies `late` cycles before `cyc`, once and in rising
order, counted by its class. It is judged at its decision cycle: before the channel has gone on to a cycle past the next,
and what the next commands of the channel name comes after it. DESIGN CHOICE (log 158): whether the channel is live and out
of its reset is taken there too. In a replay a slot with no request queued awaits what the replay reissues. -/
def execSlot (chan sub : Nat) (s : State) (cyc : Nat := 0) (late : Nat := 0) : Host.Outcome State Fault Refusal :=
  done (s.live (fun s =>
    let x := s.chan chan
    let seen := if sub = 0 then x.tim.slotAt.1 else x.tim.slotAt.2
    let dec := cyc - late
    let start := dec + (if s.phase chan sub = 0 then s.row chan 14 else s.row chan 15)
    s.whenTrue (s.hasChan chan && decide (sub < 2) && decide (s.rawF TIM_STATUS_LIVE chan 0 0 = 1) &&
        decide (x.rstStep = 0) && decide (late ≤ cyc) && decide (x.now ≤ dec + 1) && decide (seen ≤ start) &&
        decide (start % 2 = 0)) (fun s =>
      let cls := s.slotClass chan sub start dec
      let t := s.modChan chan (fun y => { y with
        now := if y.tim.replaying then y.now else max y.now (dec + 1),
        tim := { y.tim with
          slotAt := if sub = 0 then (start + 1, y.tim.slotAt.2) else (y.tim.slotAt.1, start + 1) } })
      if x.tim.replaying ∧ cls = 2 then t.modTim chan (fun y => { y with slotWait := y.slotWait ++ [(sub, start)] })
      else t.count (0x20 + cls) chan Ev.nothing)))

end Sys2Proof.Machine
end

