-- ==== Sys2Proof/Machine/Keystone.lean ====
section
/-! DEFINITION. The commands of the Keystone (R308 to R314): the Quoin's locks, TORN slots, the watchdog, the
Quoin's maintenance path and its commands, and the debug requester. -/

namespace Sys2Proof.Machine

/-- The result of `KEY_HOST_REQ` kept for `KEY_HOST_RES`. -/
def State.hostResult (a : State × Nat) : State := { a.1 with key := { a.1.key with hostRes := some a.2 } }

/-- `KEY_HOST_REQ` OP LOCK at line `line`, of `KEY_HOST_CNT.COUNT` lines (R312). -/
def State.hostLock (s : State) (line : Nat) (rivals : List KeyAsk := []) : State :=
  let n := s.rawF KEY_HOST_CNT_COUNT 0 0 0
  State.hostResult (if n = 0 ∨ 1024 < n then (s, lockResult 3 0 0) else s.keyAsked ⟨204, 2, 0, line * 64, n⟩ rivals)

/-- `KEY_HOST_REQ` OP UNLOCK. -/
def State.hostUnlock (s : State) (slot : Nat) : State := State.hostResult (s.keyUnlock 2 0 slot)

/-- `KEY_HOST_REQ` with any other OP (R312): REFUSED. -/
def State.hostOther (s : State) : State := State.hostResult (s, lockResult 3 0 0)

/-- KEY_HOST_LOCK (R308, R312). -/
def execKeyHostLock (line : Nat) (s : State) (rivals : List KeyAsk := []) : Host.Outcome State Fault Refusal :=
  done (s.host fun s => s.hostLock line rivals)

/-- KEY_HOST_UNLOCK (R308, R312). -/
def execKeyHostUnlock (slot : Nat) (s : State) : Host.Outcome State Fault Refusal :=
  done (s.host fun s => s.hostUnlock slot)

/-- `KEY_CMD.CLEAR_TORN` (R310). -/
def State.clearTorn (s : State) (slot : Nat) : State :=
  match Tbl.find s.key.slots slot with
  | some k => if k.torn then { s with key := { s.key with slots := Tbl.del s.key.slots slot } } else s
  | none => s

/-- CLEAR_TORN (R310). -/
def execClearTorn (slot : Nat) (s : State) : Host.Outcome State Fault Refusal :=
  done (s.host fun s => s.clearTorn slot)

/-- LOCK_WATCHDOG (R311): the debug port's slots are not watched. -/
def execLockWatchdog (slot : Nat) (s : State) : Host.Outcome State Fault Refusal :=
  done (s.live fun s =>
    match Tbl.find s.key.slots slot with
    | some k =>
      if ¬ k.torn ∧ k.kind ≠ 3 ∧ k.since + 1000 * max 1 (s.fld KEY_WDOG_LOCK_US 0 0 0) ≤ s.uptime then
        (s.keyTear slot).keyErr KEY_ERR_WDOG_LOCK 0 1 slot (some (k.line * 64))
      else s
    | none => s)

/-- The Quoin holds the maintenance path of channel `c` (`KEY_MNT_CTRL.GRANTED`). -/
def State.quoinHolds (s : State) (c : Nat) : Bool := decide ((s.chan c).mntHolder = some 204)

/-- MNT_WATCHDOG (R311): KEY_ERR.SLOT keeps its value, for no slot is concerned. -/
def execMntWatchdog (chan : Nat) (s : State) : Host.Outcome State Fault Refusal :=
  done (s.live fun s =>
    if s.hasChan chan ∧ s.quoinHolds chan ∧
        (s.chan chan).mntSince + 1000 * max 1 (s.fld KEY_WDOG_MNT_US 0 0 0) ≤ s.uptime then
      ((s.freePath chan).setBit KEY_MNT_CTRL_LOST chan 0 0).keyErr KEY_ERR_WDOG_MNT 1 0
        (s.rawF KEY_ERR_SLOT 0 0 0) none
    else s)

/-- `KEY_MNT_CTRL.REQ` (R308): a held path is a loss. -/
def State.mntReq (s : State) (c : Nat) (rivals : List KeyAsk := []) : State :=
  if ¬ s.hasChan c then s
  else if (s.chan c).mntHolder.isSome then (s.keyLose 204).1 else (s.askPath c 204 rivals).1

/-- MNT_REQ (R308). -/
def execMntReq (chan : Nat) (s : State) (rivals : List KeyAsk := []) : Host.Outcome State Fault Refusal :=
  done (s.host fun s => s.mntReq chan rivals)

/-- `KEY_MNT_CTRL.RELEASE` (R314). -/
def State.mntRelease (s : State) (c : Nat) : State := if s.hasChan c ∧ s.quoinHolds c then s.freePath c else s

/-- MNT_RELEASE (R314). -/
def execMntRelease (chan : Nat) (s : State) : Host.Outcome State Fault Refusal :=
  done (s.host fun s => s.mntRelease chan)

/-- A command of `KEY_MNT_CMD` on a subchannel. -/
def mntCmdOn (chan cyc sub rank : Nat) : Cmd := ⟨chan, cyc, sub, rank, 0, 0, 0, 0, none, false, []⟩

/-- A command of `KEY_MNT_CMD` (R314): while GRANTED, on both subchannels of the logical rank; checked like every
other command. `f` is its effect once it has issued. -/
def State.mntCmd (s : State) (c cyc rank : Nat) (kind : CmdKind) (data : Nat) (f : State → State) : State :=
  if ¬ s.hasChan c ∨ ¬ s.quoinHolds c then s
  else
    let s1 := s.issue c (Cmd.mnt (mntCmdOn c cyc 0 rank) kind data) (fun t => some (f t, true))
    s1.issue c (Cmd.mnt (mntCmdOn c cyc 1 rank) kind data) (fun t => some (t, true))

/-- KEY_MNT_MRR (R314): `data` is what the mode register returns. -/
def execKeyMntMrr (chan cyc rank _addr data : Nat) (s : State) : Host.Outcome State Fault Refusal :=
  done (s.host fun s =>
    s.mntCmd chan cyc rank .mrr 0 (fun t => t.setF KEY_MNT_CTRL_MRR_DATA chan 0 0 data))

/-- KEY_MNT_MRW (R314). -/
def execKeyMntMrw (chan cyc rank _addr _data : Nat) (s : State) : Host.Outcome State Fault Refusal :=
  done (s.host fun s => s.mntCmd chan cyc rank .mrw 0 id)

/-- KEY_MNT_MPC (R314): `addr` is the opcode. -/
def execKeyMntMpc (chan cyc rank addr _data : Nat) (s : State) : Host.Outcome State Fault Refusal :=
  done (s.host fun s => s.mntCmd chan cyc rank .mpc addr id)

/-- The debug port takes a HELD slot over (R314). -/
def State.takeSlot (s : State) (slot : Nat) : State :=
  match Tbl.find s.key.slots slot with
  | some k =>
    if k.torn then s
    else { s with key := { s.key with
        slots := Tbl.put s.key.slots slot { k with kind := 3, owner := 0, taken := true } } }
  | none => s

/-- The debug port takes a maintenance path, but from a Pointing emergency hold (R314). -/
def State.takePath (s : State) (c : Nat) : State :=
  if ¬ s.hasChan c ∨ (s.chan c).mntHolder = some 256 ∨ (s.chan c).mntHolder = some 257 then s
  else (s.loseHold c).setHolder c (some 257)

/-- DEBUG_TAKEOVER (R314). -/
def execDebugTakeover (slot : Option Nat) (chan : Nat) (s : State) : Host.Outcome State Fault Refusal :=
  done (s.live fun s => s.whenTrue (!s.straps.debugSeal) (fun s =>
    match slot with
    | some k => s.takeSlot k
    | none => s.takePath chan))

/-- DEBUG_RELEASE (R310, R314). -/
def execDebugRelease (slot : Option Nat) (chan : Nat) (s : State) : Host.Outcome State Fault Refusal :=
  done (s.live fun s => s.whenTrue (!s.straps.debugSeal) (fun s =>
    match slot with
    | some k => (match Tbl.find s.key.slots k with
      | some x => if x.taken then s.keyTear k else s
      | none => s)
    | none => if s.hasChan chan ∧ (s.chan chan).mntHolder = some 257 then (s.freePath chan).pathReturn chan else s))

end Sys2Proof.Machine
end

