-- ==== Sys2Proof/Machine/RegRead.lean ====
section
/-! DEFINITION. What every register reads (R14, R15, R413 to R423), without side effects, and the items of the
Datestone's window (R377). -/

namespace Sys2Proof.Machine

/-! Items (R377). -/

/-- Items of a region: HIST, EXTREME, LOG, TAG. -/
def regionSize (region : Nat) : Nat := match region with | 0 => 1296 | 1 => 352 | 2 => 4096 | _ => 1024

/-- The first bin of HIST item `j` of a channel. -/
def histFirst (j : Nat) : Nat := if j < 20 then 8 * j else 160 + 8 * (j - 20)

/-- An extreme position that exists in the build: channel extremes, queue extremes, hods. -/
def State.hasExt (s : State) (key : Nat) : Bool :=
  let item := key / 4
  if item < 240 then s.hasChan (item / 10) && (decide (item % 10 = 0) || decide (4 * (item % 10 - 1) + key % 4 < 34))
  else s.hasHod (key - 960)

/-- Word `w` of item `n` of a region (R377): an unfilled log entry reads zero. DESIGN CHOICE (log 165): what a histogram reads
while the shared store holds the log, or a filled log entry while it holds the histograms, is open. -/
def State.itemWord (s : State) (region n w : Nat) : Nat :=
  if regionSize region ≤ n then 0
  else if (region = 0 ∧ s.dst.logHeld) ∨ (region = 2 ∧ ¬ s.dst.logHeld ∧ n < s.dst.log.length) then
    Config.sharedStore region n w s.uptime % 2 ^ 64
  else match region with
    | 0 => if s.hasChan (n / 54) then Tbl.get s.dst.hist 0 (432 * (n / 54) + histFirst (n % 54) + w) else 0
    | 1 =>
      let key := 4 * n + w / 2
      if ¬ s.hasExt key then 0
      else (match Tbl.find s.dst.ext key with
        | some (v, t) => if w % 2 = 0 then v % 2 ^ 32 else t
        | none => if w % 2 = 0 then 2 ^ 63 else 0)
    | 2 => nth (s.dst.log.getD n []) w
    | _ => nth (Tbl.get s.plb.ring [] n) w

/-! Fields that hold no value of their own. -/

/-- A number of microseconds that saturates. -/
def usSat (ns limit : Nat) : Nat := min limit (ns / 1000)

/-- A counter's event carries no field that its filter set tests (R364). -/
def State.cntNa (s : State) (event fset : Nat) : Bool :=
  let c := carries event
  let tests : Nat :=
    b2n (decide (s.fld PLB_FLT_QOS_PRIV fset 0 0 ≠ 15) || decide (s.fld PLB_FLT_QOS_SEC fset 0 0 ≠ 3)) +
    2 * b2n (decide (s.fld PLB_FLT_MST_KIND fset 0 0 ≠ 0)) + 4 * b2n (decide (s.fld PLB_FLT_ALO_EN fset 0 0 = 1)) +
    8 * b2n (decide (s.fld PLB_FLT_QOS_QMODE fset 0 0 = 1)) + 16 * b2n (decide (s.fld PLB_FLT_QOS_QMODE fset 0 0 = 2))
  decide (tests ≠ 0) && decide (Nat.land c tests = 0)

/-- A field of an option, 0 where there is none. -/
def ofOpt {α : Type} (o : Option α) (f : α → Nat) : Nat := o.elim 0 f

/-- Ports and Mortar. -/
def State.viewPorts (s : State) (f : Field) (i : Nat) : Option Nat :=
  if f = HDR_STATUS_WD_FREE then some (s.wdFree i)
  else if f = HDR_STATUS_OUTSTANDING then some (s.outstanding i)
  else if f = HDR_STATUS_CLK_OK then some (b2n (s.port i).clkOk)
  else if f = HDR_STATUS_STATE then some (s.port i).st
  else if f = MOR_STATUS_QUIESCED then some (b2n (s.reqs.all (fun r => r.part.isNone)))
  else if f = MOR_PART_STATUS_HELD then
    some (s.heldCount i)
  else if f = MOR_PART_STATUS_OCC then some (s.occ i)
  else if f = MAP_GEOM_CAP_GIB then
    some (s.capGib i)
  else if f = MAP_RGN_CTL_GRAN ∨ f = MAP_RGN_CTL_HASH then
    some (s.mapVal f i (decide (s.rawF MAP_RGN_CTL_VALID i 0 0 = 1)))
  else if f = MAP_GEOM_BANK_HASH then some (s.mapVal f i (decide (s.rawF MAP_GEOM_VALID i 0 0 = 1)))
  else none

/-- Setter, gauge meters, issuer, Pointing. -/
def State.viewChan (s : State) (f : Field) (c j : Nat) : Option Nat :=
  let m := s.meter c (s.rawF GAU_SEL_QID c 0 0)
  if f = SET_STATUS_RUBBLE_AGE then some (usSat (s.qAge c 16) 65535)
  else if f = SET_STATUS_RUBBLE_DEPTH then some (s.qDepth c 16)
  else if f = SCR_STATUS_FLOOR then some (b2n (!s.cold && s.romFloor))
  else if f = SET_WINDOW_FINE then some (b2n (decide (s.refMode c ≠ 0)))
  else if f = SET_WINDOW_WHOLE then some (s.wholeWindow c)
  else if f = SET_QID_CLASS_CLASS then some (Tbl.get (s.chan c).set.qidClass 4 (s.rawF SET_QID_SEL_QID c 0 0))
  else if f = SET_CLASS_TABLE_DEPTH then some (s.qDepth c j)
  else if f = SET_CLASS_TABLE_DEFICIT then
    some (if j < 4 then 0 else Tbl.get (s.chan c).set.deficit 0 (j - 4))
  else if f = GAU_RATE_MODE then some (if s.expert 4 then m.mode else 0)
  else if f = GAU_RATE_PIR then some m.pir
  else if f = GAU_RATE_CIR then some m.cir
  else if f = GAU_BURST_PBS then some m.pbs
  else if f = GAU_BURST_CBS then some m.cbs
  else if f = GAU_STATE_TP then some (balance32 m.tp)
  else if f = GAU_STATE_TC then some (balance32 m.tc)
  else if f = TIM_STATUS_BURST then some 2
  else if f = PNT_STATUS_COLD_LEFT then
    some (ofOpt (s.chan c).pnt.coldEnd (fun t => min 255 (cdiv (s.nsOf c (t - (s.chan c).now)) 1000000)))
  else if f = PNT_STATUS_OWED then
    some (((s.units c).foldl (fun (a : Int) u => max a (s.owed c u))
      (ofOwed (s.units c) (s.owed c))).emod 64).toNat
  else if f = PNT_STATUS_PD then
    some ((List.range 4).map (fun k => b2n (Tbl.find (s.chan c).pnt.pd k).isSome * 2 ^ k)).sum
  else if f = PNT_STATUS_METHOD then some (if s.isTrained c then s.method c else 3)
  else none
where
  /-- Where the search for the largest owed starts. -/
  ofOwed (us : List Nat) (o : Nat → Int) : Int := match us with | [] => 0 | u :: _ => o u

/-- Ashlar, Plinth, Masons, templates. -/
def State.viewEngines (s : State) (f : Field) (i j k : Nat) : Option Nat :=
  if f = ASH_SPARE_CURSOR then some ((s.chan i).ash.spared / 64)
  else if f = ASH_STATUS_UNGUARDED then some (s.unguarded i)
  else if f = ASH_STATUS_PATROL_ON then
    some (b2n (s.isTrained i && decide (s.fld ASH_SCRUB_PERIOD i 0 0 ≠ 0) && decide (0 < s.mappedLines i)))
  else if f = PLN_STATUS_BUSY then some (b2n s.plnBusy)
  else if f = PLN_STATUS_FATAL_PREV then some (b2n s.fatalPrev)
  else if f = MAS_STATUS_PC then some ((s.mason i).pc % 4096)
  else if f = MAS_STATUS_OUTSTANDING then some (s.mason i).outstanding
  else if f = MAS_STATUS_NESTED then some (b2n (s.mason i).nested)
  else if f = MAS_STATUS_MODE then some (b2n (s.mason i).handler)
  else if f = MAS_STATUS_STATE then some (s.mason i).st
  else if f = MAS_TASK_NS then some (nfield (s.mason i).task 16 1)
  else if f = MAS_TASK_PRIV then some (nfield (s.mason i).task 14 2)
  else if f = MAS_TASK_QID then some (nfield (s.mason i).task 0 12)
  else if f = TPL_ENTRY_WORD then
    let e := Tbl.get (s.mason i).tpl TplEnt.none j
    some (match k with | 0 => e.w0 | 1 => e.w1 | _ => e.w2).toNat
  else none

/-- Hods and Keystone. -/
def State.viewKey (s : State) (f : Field) (i : Nat) : Option Nat :=
  let x := s.hod i
  let k := Tbl.find s.key.slots i
  if f = HOD_STATUS_RP_WP then some (if x.ring then x.wp else 0)
  else if f = HOD_STATUS_RING_RP then some (if x.ring then x.rp else 0)
  else if f = HOD_STATUS_MODE_IN then some (b2n x.ring)
  else if f = HOD_STATUS_FULL then some (b2n x.full)
  else if f = HOD_STATUS_HOD_COUNT then some x.count
  else if f = KEY_HOST_RES_DONE then some (b2n s.key.hostRes.isSome)
  else if f = KEY_HOST_RES_RESULT then some (s.key.hostRes.getD 0)
  else if f = KEY_CLASS_LOSSES then some (Tbl.get s.key.losses 0 i)
  else if f = KEY_SLOT_STATE then some (ofOpt k (fun e => if e.torn then 2 else 1))
  else if f = KEY_SLOT_COUNT then some (ofOpt k (fun e => e.count - 1))
  else if f = KEY_SLOT_BASE then some (ofOpt k (fun e => e.line))
  else if f = KEY_SLOT_KIND then some (ofOpt k (fun e => e.kind))
  else if f = KEY_SLOT_OWN_AGE_US then some (ofOpt k (fun e => usSat (s.uptime - e.since) 65535))
  else if f = KEY_SLOT_OWN_OWNER then some (ofOpt k (fun e => e.owner))
  else if f = KEY_MNT_CTRL_GRANTED then some (b2n (s.quoinHolds i))
  else none

/-- Bond and Buttress. -/
def State.viewBond (s : State) (f : Field) (i : Nat) : Option Nat :=
  let r := Tbl.find s.bnd.routes i
  if f = BND_STATUS_NONCE then some s.bnd.nonce
  else if f = BND_STATUS_REACHABLE then some ((List.range 64).filter (fun n => (s.routeTo n).isSome)).length
  else if f = BND_STATUS_STABLE then some (b2n s.bnd.stable)
  else if f = BND_STATUS_TAGS_FREE then some (4096 - s.bnd.tags.length)
  else if f = BND_PORT_NBR_UP then some (s.upMap i)
  else if f = BND_PORT_STATUS_LINK_UP then some (b2n (s.bnd.link.contains i))
  else if f = BND_ROUTE_VALID then some (b2n (s.routeTo i).isSome)
  else if f = BND_ROUTE_PIN then some (b2n (s.pinned i))
  else if f = BND_ROUTE_PORT then some (ofOpt r Route.port)
  else if f = BND_ROUTE_NH then some (ofOpt r Route.nh)
  else if f = BND_ROUTE_HOPS then some (ofOpt (s.routeTo i) Route.hops)
  else if f = BUT_SAFETY_SWEEP_ON then some (b2n (decide (0 < s.sweepMs) && !s.but.paused))
  else if f = BUT_SAFETY_SAFE then some (b2n s.safe)
  else none

/-- Plumb and the Datestone. -/
def State.viewDst (s : State) (f : Field) (i j : Nat) : Option Nat :=
  if f = PLB_CTRL_FROZEN then some (b2n s.plb.stopped)
  else if f = PLB_CNT_VALUE then some (Tbl.get s.plb.cnt 0 (8 * i + j))
  else if f = PLB_BCNT_VALUE then some (Tbl.get s.plb.cnt 0 (192 + i))
  else if f = PLB_CNT_CTL_OVF then some (b2n (s.plb.ovf.contains (8 * i + j)))
  else if f = PLB_BCNT_CTL_OVF then some (b2n (s.plb.ovf.contains (192 + i)))
  else if f = PLB_CNT_CTL_NA then
    some (b2n (decide (s.fld PLB_CNT_CTL_FEN i j 0 = 1) && s.cntNa (s.cntEvent i j) (s.fld PLB_CNT_CTL_FSET i j 0)))
  else if f = PLB_BCNT_CTL_NA then
    some (b2n (decide (s.fld PLB_BCNT_CTL_FEN i 0 0 = 1) && s.cntNa (s.bcntEvent i) (s.fld PLB_BCNT_CTL_FSET i 0 0)))
  else if f = PLB_TAG_STATUS_INFLIGHT then some s.tagInflight
  else if f = DST_STATUS_LOG_USED then some s.dst.log.length
  else if f = DST_STATUS_MODE_IN then some s.dstMode
  else if f = DST_STATUS_SNAP_BUSY then some (b2n (!s.dst.trig.isEmpty))
  else if f = DST_STATUS_FROZEN then some (b2n s.dstFrozen)
  else if f = DST_WINDOW_DATA then
    some (s.itemWord (s.rawF DST_CURSOR_REGION 0 0 0) (s.rawF DST_CURSOR_INDEX 0 0 0) i)
  else none

/-- Quoin and block registers. -/
def State.viewBlk (s : State) (f : Field) (i : Nat) : Option Nat :=
  if f = QUO_STATUS_OUTSTANDING then some (s.quo.tags.length - s.quarTags)
  else if f = QUO_STATUS_QUAR then some s.quarTags
  else if f = QUO_STATUS_CAUSE then some s.quo.cause
  else if f = QUO_STATUS_STATE then some s.quo.st
  else if f = QUO_DRAIN_STATUS_DONE_ITEMS then some (s.quo.drain.elim s.quo.drainStatus.2 Drain.done)
  else if f = QUO_DRAIN_STATUS_STATUS then some (if s.quo.drain.isSome then 4 else s.quo.drainStatus.1)
  else if f = BLK_CHAN_RST_BUSY then
    some ((List.range s.build).map (fun c => b2n (decide ((s.chan c).rstStep ≠ 0)) * 2 ^ c)).sum
  else if f = BLK_BOOT_BASIC then some (b2n ((Tbl.find s.imgs 0).isNone && !s.cold))
  else if f = BLK_BUILD_MASONS then some s.masonCount
  else if f = BLK_BUILD_PAIR then some (b2n s.pair)
  else if f = BLK_BUILD_KEY_FUSED then some (b2n (decide (s.straps.keyDigest ≠ 0)))
  else if f = BLK_BUILD_PROGRAM_SEAL then some (b2n s.straps.programSeal)
  else if f = BLK_BUILD_DEBUG_SEAL then some (b2n s.straps.debugSeal)
  else if f = BLK_BUILD_NODE then some s.straps.node
  else if f = BLK_BUILD_CHANNELS then some s.build
  else if f = BLK_UPTIME_UPTIME then some s.uptime
  else if f = BLK_KEY_DIGEST_DIGEST then some (nfield s.straps.keyDigest (64 * i) 64)
  else none

/-- What a field reads. -/
def State.view (s : State) (f : Field) (i j k : Nat) : Nat :=
  if f.ty = .wo then 0
  else
    let o := (((((((s.viewPorts f i).or (s.viewChan f i j)).or (s.viewEngines f i j k)).or (s.viewKey f i)).or
      (s.viewBond f i)).or (s.viewDst f i j)).or (s.viewBlk f i))
    (o.getD (s.fld f i j k)) % 2 ^ f.width

/-! Registers by offset (R414, R415). -/

/-- The instance of a register that lies at an offset. -/
def RegAt.at (r : RegAt) (off : Nat) : Option (Nat × Nat × Nat) :=
  if off < r.base then none
  else
    ((List.range r.n1).flatMap (fun j => (List.range r.n2).map (fun k => (j, k)))).findSome? (fun e =>
      let o := off - r.base
      let t := e.1 * r.s1 + e.2 * r.s2
      if o < t then none
      else if r.n0 = 1 then (if o = t then some (0, e.1, e.2) else none)
      else if (o - t) % r.s0 = 0 ∧ (o - t) / r.s0 < r.n0 then some ((o - t) / r.s0, e.1, e.2) else none)

/-- The register at an offset: its fields and instance. -/
def regAt (off : Nat) : Option (RegAt × List Field × Nat × Nat × Nat) :=
  allRegs.findSome? (fun e => (e.1.at off).map (fun x => (e.1, e.2, x.1, x.2.1, x.2.2)))

/-- Keystone requester `i` exists in the build (R307, R316): Masons, ports, the host, and the Pointing and Screed of
each channel. -/
def State.hasRequester (s : State) (i : Nat) : Bool :=
  if i < 192 then s.hasMason i
  else if i < 205 then true
  else if i < 229 then s.hasChan (i - 205)
  else s.hasChan (i - 229)

/-- The unit of instance `i` of a register at a base exists in the build (R7). -/
def State.hasUnit (s : State) (base i : Nat) : Bool :=
  if base = BUT_SRC.base then s.hasSource i
  else if base = KEY_CLASS.base then s.hasRequester i
  else if base < 0x100000 then true
  else if base < 0x2000000 then s.hasChan i
  else if base < 0x3000000 then s.hasMason i
  else if base < 0x31C0000 then s.hasHod i
  else true

/-- The 64 bits at offset `off` of Mason `m`'s store windows, as the host reads them (R263). -/
def State.storeWord (s : State) (m off : Nat) : Nat :=
  let x := s.mason m
  let a := off / 8 * 8
  if ¬ (s.hasMason m ∧ s.storeOpen m off) then 0
  else if off < 0x4000 then (Tbl.get x.istore 0 (a / 4)).toNat + (Tbl.get x.istore 0 (a / 4 + 1)).toNat * 2 ^ 32
  else ((List.range 8).map (fun i => (Tbl.get x.scratch 0 (a - 0x4000 + i)).toNat * 2 ^ (8 * i))).sum

/-- The offset lies in a Mason's store windows (R263). -/
def inStoreWindow (off : Nat) : Bool :=
  decide (0x2000000 ≤ off) && decide (off < 0x2C00000) && decide (off % 0x10000 < 0xC000)

/-- The 64 bits that the register, the Mason's store word, or the MSI-X word at an offset holds, read without side
effects. -/
def State.peek (s : State) (off : Nat) : Nat :=
  if inStoreWindow off then
    s.storeWord ((off - 0x2000000) / 0x10000) (off % 0x10000)
  else if inMsix off then s.msixRead off
  else match regAt (off / 8 * 8) with
  | none => 0
  | some (r, fs, i, j, k) =>
    if s.hasUnit r.base i then (fs.map (fun f => s.view f i j k * 2 ^ f.lo)).sum else 0

/-- What a snapshot captures of an offset (R375): zero where its read would have an action, and in the store windows and
the MSI-X table, which hold no register. -/
def State.snapRead (s : State) (off : Nat) : Nat :=
  if inStoreWindow off || inMsix off then 0 else if off = DST_WINDOW.off 7 0 0 ∧ s.rawF DST_CURSOR_AUTOINC 0 0 0 = 1 then 0 else s.peek off

end Sys2Proof.Machine
end

