-- ==== Sys2Proof/Machine/Plumb.lean ====
section
/-! DEFINITION. Plumb: freezing and clearing its counters, its sampler's registers and its tag buffer (R361 to
R370, R381). -/

namespace Sys2Proof.Machine

/-- Plumb's state changed. -/
def State.modPlb (s : State) (f : PlbSt → PlbSt) : State := { s with plb := f s.plb }

/-- `PLB_CTRL.FREEZE` written: the counters stop or count on from the next RCLK edge (R366). -/
def State.plbFreeze (s : State) (on : Bool) : State := s.setF PLB_CTRL_FREEZE 0 0 0 (b2n on)

/-- `PLB_CTRL.CLEAR` written 1: every VALUE and OVF is zeroed at the next RCLK edge (R366). -/
def State.plbClear (s : State) : State := s.modPlb (fun p => { p with clearDue := true })

/-- Every LFSR takes its reload state, and the tags chosen are counted from 0 (R367, R369). -/
def State.lfsrReloadAll (s : State) : State := s.modPlb (fun p => { p with lfsr := [], seq := [] })

/-- The LFSRs listed as they stand, before the field their reload state comes from changes. -/
def State.lfsrPin (s : State) : State :=
  s.modPlb (fun p => { p with lfsr := (List.range 15).map (fun n => (n, s.lfsrOf n)) })

/-- Fields written while their function's expert bit is 1; the write is ignored otherwise (R18). -/
def State.putX (s : State) (w : RegW) (i j : Nat) (fs : List Field) : State :=
  fs.foldl (fun t f => if w.covers f ∧ t.expert f.fn then t.setX f i j 0 (w.merge f (t.fld f i j 0)) else t) s

/-- `PLB_TAG_CFG` written (R367). -/
def State.tagCfgWrite (s : State) (w : RegW) : State :=
  (s.putX w 0 0 [PLB_TAG_CFG_SEED, PLB_TAG_CFG_K, PLB_TAG_CFG_EN]).lfsrReloadAll

/-- The record number that `PLB_TAG_RD` takes: a value ahead of WR is used as WR (R370). -/
def tagRdUsed (wr v : Nat) : Nat := if 1024 < (wr + 2048 - v) % 2048 then wr else v

/-- `PLB_TAG_RD` written (R370). -/
def State.tagRdWrite (s : State) (w : RegW) : State :=
  s.setF PLB_TAG_RD_RD 0 0 0
    (tagRdUsed (s.rawF PLB_TAG_STATUS_WR 0 0 0) (w.merge PLB_TAG_RD_RD (s.rawF PLB_TAG_RD_RD 0 0 0)))

/-- An error of a Plumb or Datestone store: 1 corrected, 2 uncorrectable (R381). -/
def State.plbErr (s : State) (upset : Nat) : State :=
  match upset with
  | 0 => s
  | 1 => (s.setBit PLB_ERR_CORR 0 0 0).reportUnit 110 0 0 12 0 none
  | _ => (s.setBit PLB_ERR_UNCORR 0 0 0).reportUnit 110 2 0 12 1 none

/-- A record affected by an uncorrectable error: ABORTED, and every interval all ones (R381). -/
def recordSpoiled (ws : List Nat) : List Nat :=
  let m := 2 ^ 64 - 1
  [nth ws 0, m, m, m, nth ws 4, nth ws 5, Nat.lor (nth ws 6) (2 ^ 8), nth ws 7]

/-- The oldest finished record enters the tag buffer (R369, R370). -/
def State.tagWrite (s : State) (upset : Nat) : State :=
  match s.plb.doneRecs with
  | [] => s
  | r :: rest =>
    let wr := s.rawF PLB_TAG_STATUS_WR 0 0 0
    let ws := if upset = 2 then recordSpoiled r else r
    let s1 := s.modPlb (fun p => { p with
      doneRecs := rest, ring := Tbl.put p.ring (wr % 1024) ws, recNo := p.recNo + 1 })
    (s1.setF PLB_TAG_STATUS_WR 0 0 0 ((wr + 1) % 2048)).plbErr upset

/-- PLB_FREEZE (R366). -/
def execPlbFreeze (s : State) : Host.Outcome State Fault Refusal := done (s.host fun s => s.plbFreeze true)

/-- PLB_UNFREEZE (R366). -/
def execPlbUnfreeze (s : State) : Host.Outcome State Fault Refusal := done (s.host fun s => s.plbFreeze false)

/-- PLB_CLEAR (R366). -/
def execPlbClear (s : State) : Host.Outcome State Fault Refusal := done (s.host State.plbClear)

/-- PLB_TAG_CFG_WRITE (R367). -/
def execPlbTagCfgWrite (w : RegW) (s : State) : Host.Outcome State Fault Refusal :=
  done (s.host fun s => s.tagCfgWrite w)

/-- PLB_TAG_RD_WRITE (R370). -/
def execPlbTagRdWrite (w : RegW) (s : State) : Host.Outcome State Fault Refusal :=
  done (s.host fun s => s.tagRdWrite w)

/-- TAG_RECORD_WRITE (R369, R370, R381). -/
def execTagRecordWrite (upset : Nat) (s : State) : Host.Outcome State Fault Refusal :=
  done (s.live fun s => s.tagWrite upset)

end Sys2Proof.Machine
end

