-- ==== Sys2Proof/Machine/Datestone.lean ====
section
/-! DEFINITION. The Datestone: its commands, its snapshots, its window and its freeze (R371 to R381). -/

namespace Sys2Proof.Machine

/-- The Datestone's state changed. -/
def State.modDst (s : State) (f : DstSt → DstSt) : State := { s with dst := f s.dst }

/-- Every extreme EMPTY (R374). -/
def State.extClear (s : State) : State := s.modDst (fun d => { d with ext := [] })

/-- Every histogram bin zero (R372). -/
def State.histClear (s : State) : State := s.modDst (fun d => { d with hist := [] })

/-- The snapshot being taken is discarded and counted (R380). -/
def State.snapDiscard (s : State) : State :=
  if s.dst.trig.isEmpty then s else (s.modDst (fun d => { d with trig := d.trig.drop 1 })).dstDrop

/-- `DST_CMD.LOG_CLEAR` (R376, R380). -/
def State.logClear (s : State) : State :=
  ((s.snapDiscard).modDst (fun d => { d with log := [] })).setF DST_STATUS_LOG_FULL 0 0 0 0

/-- Every waiting trigger discarded and counted. -/
def State.trigDropAll (s : State) : State :=
  (s.dst.trig.foldl (fun t _ => t.dstDrop) s).modDst (fun d => { d with trig := [] })

/-- What a change of the mode in force from `old` does (R371, R380): the log is emptied when it
takes the store that the two share, and the histograms are zeroed when they take it; how many log entries are filled stands
until then. DESIGN CHOICE (log 165): so it is where OFF lay between. -/
def State.dstModeFrom (s : State) (old : Nat) : State :=
  if s.dstMode = old then s
  else
    let s1 := s.trigDropAll
    if s.dstMode = 1 ∧ (old = 0 ∨ ¬ s.dst.logHeld) then
      s1.modDst (fun d => { d with hist := [], log := [], logHeld := true })
    else if s.dstMode = 0 ∧ (old = 1 ∨ s.dst.logHeld) then
      s1.modDst (fun d => { d with hist := [], logHeld := false })
    else s1

/-- `DST_CTRL.MODE` written (R371). -/
def State.dstModeWrite (s : State) (mode : Nat) : State :=
  if s.expert 15 then (s.setX DST_CTRL_MODE 0 0 0 mode).dstModeFrom s.dstMode else s

/-- `DST_CTRL.FREEZE` written: 1 takes effect at the next RCLK edge, 0 at once (R379). -/
def State.dstFreezeWrite (s : State) (on : Bool) : State :=
  (s.setF DST_CTRL_FREEZE 0 0 0 (b2n on)).modDst (fun d => { d with frozen := d.frozen && on })

/-- `DST_HIST_CFG` written (R373, R380). -/
def State.histCfgWrite (s : State) (w : RegW) : State :=
  if s.expert 15 then
    (s.putX w 0 0 [DST_HIST_CFG_LAT_UNIT, DST_HIST_CFG_DLY_UNIT, DST_HIST_CFG_DEPTH_UNIT]).histClear
  else s

/-- `DST_TRIG` written: a PERIOD_US that is taken counts the multiples that come from now on (R375). -/
def State.dstTrigWrite (s : State) (w : RegW) : State :=
  let t := s.putX w 0 0 [DST_TRIG_PERIOD_US, DST_TRIG_BUT_EN, DST_TRIG_BUT_SEV, DST_TRIG_BUT_SRC, DST_TRIG_OVF_EN,
    DST_TRIG_HOD_EN]
  if w.covers DST_TRIG_PERIOD_US ∧ s.expert 15 then t.modDst (fun d => { d with lastPeriod := s.uptime }) else t

/-- A multiple of PERIOD_US lies after the last one looked at (R375). -/
def State.periodDue (s : State) : Bool :=
  let p := 1000 * s.fld DST_TRIG_PERIOD_US 0 0 0
  decide (0 < p) && decide (s.dst.lastPeriod / p < s.uptime / p)

/-- The values a snapshot captures, in selector order (R375). -/
def State.snapValues (s : State) : List Nat :=
  (List.range 16).filterMap (fun k =>
    if s.fld DST_SNAP_SEL_VALID k 0 0 = 1 then some (s.snapRead (8 * s.fld DST_SNAP_SEL_OFFSET k 0 0)) else none)

/-- The log entries of a snapshot (R376). -/
def snapEntries (code detail time : Nat) (vals : List Nat) : List (List Nat) :=
  let parts := max 1 (cdiv vals.length 6)
  (List.range parts).map (fun p =>
    let vs := (vals.drop (6 * p)).take 6
    [time, code + p * 2 ^ 8 + parts * 2 ^ 16 + vs.length * 2 ^ 24 + detail * 2 ^ 32] ++
      (List.range 6).map (fun k => nth vs k))

/-- The snapshot of the oldest trigger enters the log, or is dropped (R375, R376, R379). -/
def State.snapTake (s : State) : State :=
  match s.dst.trig with
  | [] => s
  | (code, detail, time) :: rest =>
    let s1 := s.modDst (fun d => { d with trig := rest })
    if s.dstFrozen ∨ s.rawF DST_STATUS_LOG_FULL 0 0 0 = 1 then s1.dstDrop
    else
      let es := snapEntries code detail time s.snapValues
      if s.dst.log.length + es.length ≤ 4096 then s1.modDst (fun d => { d with log := d.log ++ es })
      else ((s1.dstDrop).setBit DST_STATUS_LOG_FULL 0 0 0).raiseVec 6

/-- Word `w` of item `n` of a region zeroed by an uncorrectable error (R381). -/
def State.itemZero (s : State) (region n w : Nat) : State :=
  match region with
  | 0 => s.modDst (fun d => { d with hist := Tbl.set d.hist 0 (432 * (n / 54) + histFirst (n % 54) + w) 0 })
  | 1 =>
    let key := 4 * n + w / 2
    let (v, t) := (Tbl.find s.dst.ext key).getD (0, 0)
    s.modDst (fun d => { d with ext := Tbl.put d.ext key (if w % 2 = 0 then (0, t) else (v, 0)) })
  | 2 => s.modDst (fun d => { d with log := d.log.modify n (fun e => e.set w 0) })
  | _ => s.modPlb (fun p => { p with ring := Tbl.mapVal (fun k e => if k = n then e.set w 0 else e) p.ring })

/-- A SECDED error of a word of Plumb or the Datestone that was met while it was updated or drained (R381): where it is
uncorrectable, the word reads zero and goes on from there. -/
def State.plbUpset (s : State) (u : PlbUpset) : State :=
  if ¬ u.lost then s.plbErr 1
  else if u.region = 4 then (s.plbErr 2).modPlb (fun p => { p with cnt := Tbl.set p.cnt 0 u.item 0 })
  else (s.plbErr 2).itemZero u.region u.item u.word

/-- The cursor after a read of word 7 (R378). -/
def State.cursorNext (s : State) : State :=
  let n := s.rawF DST_CURSOR_INDEX 0 0 0 + 1
  s.setF DST_CURSOR_INDEX 0 0 0 (if regionSize (s.rawF DST_CURSOR_REGION 0 0 0) ≤ n then 0 else n)

/-- A read of window word `w` (R378, R381); the cursor moves only if the read covers bit 63 (R417). -/
def State.windowRead (s : State) (w : Nat) (top : Bool) (upset : Nat) : State :=
  let region := s.rawF DST_CURSOR_REGION 0 0 0
  let n := s.rawF DST_CURSOR_INDEX 0 0 0
  let has := decide (n < regionSize region)
  let s1 := if has then s.plbErr upset else s
  let s2 := if has ∧ upset = 2 then s1.itemZero region n w else s1
  let s3 := s2.modDst (fun d => { d with winOut := s2.itemWord region n w })
  if w = 7 ∧ top ∧ s.rawF DST_CURSOR_AUTOINC 0 0 0 = 1 then s3.cursorNext else s3

/-- EXT_CLEAR (R374). -/
def execExtClear (s : State) : Host.Outcome State Fault Refusal := done (s.host State.extClear)

/-- HIST_CLEAR (R372). -/
def execHistClear (s : State) : Host.Outcome State Fault Refusal := done (s.host State.histClear)

/-- LOG_CLEAR (R376, R380). -/
def execLogClear (s : State) : Host.Outcome State Fault Refusal := done (s.host State.logClear)

/-- SNAP (R375). -/
def execSnap (s : State) : Host.Outcome State Fault Refusal := done (s.host fun s => s.trigger 1 0)

/-- SNAPSHOT_PERIOD (R375). -/
def execSnapshotPeriod (s : State) : Host.Outcome State Fault Refusal :=
  done (s.live fun s => s.whenTrue s.periodDue (fun s =>
    (s.modDst (fun d => { d with lastPeriod := s.uptime })).trigger 2 0))

/-- SNAPSHOT_TAKEN (R375, R376). -/
def execSnapshotTaken (s : State) : Host.Outcome State Fault Refusal := done (s.live State.snapTake)

/-- DST_MODE_WRITE (R371, R380). -/
def execDstModeWrite (mode : Nat) (s : State) : Host.Outcome State Fault Refusal :=
  done (s.host fun s => s.dstModeWrite mode)

/-- DST_FREEZE_WRITE (R379). -/
def execDstFreezeWrite (on : Bool) (s : State) : Host.Outcome State Fault Refusal :=
  done (s.host fun s => s.dstFreezeWrite on)

/-- DST_HIST_CFG_WRITE (R380). -/
def execDstHistCfgWrite (w : RegW) (s : State) : Host.Outcome State Fault Refusal :=
  done (s.host fun s => s.histCfgWrite w)

/-- DST_WINDOW_READ (R378, R381). -/
def execDstWindowRead (word : Nat) (top : Bool) (upset : Nat) (s : State) :
    Host.Outcome State Fault Refusal :=
  done (s.hostRd fun s => s.whenTrue (decide (word < 8)) (fun s => s.windowRead word top upset))

end Sys2Proof.Machine
end

