-- ==== Sys2Proof/Machine/Hods.lean ====
section
/-! DEFINITION. The commands of the hods (R301, R305, R306): the item port of BAR0, spill completions, and the
configuration of a hod. -/

namespace Sys2Proof.Machine

/-- HOD_ITEM_PUSH (R305): a hod the build lacks ignores it (R7); a push that R295 does not give the host is
answered UR. -/
def execHodItemPush (hod : Nat) (item : BitVec 256) (upset : Bool) (s : State) :
    Host.Outcome State Fault Refusal :=
  done (s.host fun s =>
    if ¬ s.hasHod hod then s
    else if hostPush hod then ((s.hodPush hod item upset).1).settle else s.urSent)

/-- HOD_ITEM_POP (R305): the item is what the read returns; a pop that waits for a refill delivers nothing yet, and is
served by `State.servePops`. -/
def execHodItemPop (hod : Nat) (upset : Bool) (s : State) : Host.Outcome State Fault Refusal :=
  done (s.hostRd fun s =>
    if ¬ s.hasHod hod then { s with hodOut := 0 }
    else if ¬ hostPop hod then s.urSent (posted := false)
    else match s.hodPop hod 193 upset with
      | none => s.hodWait hod 193
      | some (t, i) => ({ t with hodOut := i }).settle)

/-- A spill error of hod `h` (R301). -/
def State.spillErr (s : State) (h : Nat) : State :=
  (s.setBit HOD_STATUS_SPILL_ERR h 0 0).report 91 ⟨2, 0xA, 8, 19, 3, h, none, s.uptime, false, false⟩

/-- A spill write came back: the line is stored, or lost (R301). -/
def State.spillWritten (s : State) (h : Nat) (l : HodLine) (good : Bool) : State :=
  let x := s.hod h
  s.setHod h { x with mid := x.mid.map (fun k =>
    if k.idx = l.idx then { k with st := 1, lost := !good } else k) }

/-- A spill read came back: its two items join the head in their order, LOST where the line was lost (R301). -/
def State.spillRead (s : State) (h : Nat) (l : HodLine) (good : Bool) (d : BitVec 512) : State :=
  let x := s.hod h
  let ok := good && !l.lost
  let items : List (BitVec 256) := if ok then [d.setWidth 256, (d >>> 256).setWidth 256] else [lostItem, lostItem]
  let s1 := s.setHod h { x with
    head := x.head ++ items, mid := x.mid.filter (fun k => decide (k.idx ≠ l.idx)) }
  if ok then s1 else s1.spillErr h

/-- A spill read may be taken: it is the oldest line of the carve-out, so that items keep their order. -/
def Hod.isFirst (x : Hod) (l : HodLine) : Bool := decide (x.mid.head?.map HodLine.idx = some l.idx)

/-- A spill request's completion (R299, R301, R303); one of a hod reset since is discarded. -/
def State.spillDone (s : State) (rid : Nat) : State :=
  match s.req rid with
  | none => s
  | some r => match r.src, r.status with
    | .hod h, some st =>
      let x := s.hod h
      let s1 := (s.tagDone r false).dropReq rid
      (match x.mid.find? (fun l => decide (l.rid = rid) && decide (l.st ≠ 1)) with
       | none => (s1.hodApply h).settle
       | some l =>
         if l.st = 2 ∧ ¬ x.isFirst l then s
         else
           let s2 := if l.st = 0 then s1.spillWritten h l st.good else s1.spillRead h l st.good r.rdata
           ((s2.hodMove h).hodApply h).settle)
    | _, _ => s

/-- SPILL_COMPLETE (R301). -/
def execSpillComplete (rid : Nat) (s : State) : Host.Outcome State Fault Refusal :=
  done (s.live fun s => s.spillDone rid)

/-- A write of `HOD_CFG` or `HOD_CARVE` (R18, R306). -/
def State.hodCfgWrite (s : State) (h : Nat) (carve : Bool) (w : RegW) : State :=
  if ¬ s.hasHod h ∨ ¬ s.expert 11 then s
  else if ¬ s.hodIdle h then s.setBit HOD_STATUS_CFG_REFUSED h 0 0
  else
    let put (t : State) (f : Field) : State := t.setX f h 0 0 (w.merge f (t.fld f h 0 0))
    let s1 := if carve then put s HOD_CARVE_BASE else put (put s HOD_CFG_CARVE_PAGES) HOD_CFG_MODE
    s1.hodApply h

/-- HOD_CFG_WRITE (R306). -/
def execHodCfgWrite (hod : Nat) (carve : Bool) (w : RegW) (s : State) : Host.Outcome State Fault Refusal :=
  done (s.host fun s => s.hodCfgWrite hod carve w)

end Sys2Proof.Machine
end

