-- ==== Sys2Proof/Machine/Masons.lean ====
section
/-! DEFINITION. The Masons beside their instructions: results that arrive (R240, R246, R251, R281, R283), run
control, resets and store writes (R261, R263, R264), the debug port (R262), and image commands (R260). -/

namespace Sys2Proof.Machine

/-! Results. -/

/-- An outstanding request of a Mason leaves its list. -/
def Mason.dropOut (x : Mason) (id : Nat) : Mason := { x with outs := x.outs.filter (fun o => decide (o.id ≠ id)) }

/-- An outstanding request of a Mason changed. -/
def Mason.modOut (x : Mason) (id : Nat) (f : MasOut → MasOut) : Mason :=
  { x with outs := x.outs.map (fun o => if o.id = id then f o else o) }

/-- The value a load returns (R277): its bytes, extended. -/
def MasOut.value (o : MasOut) (d : BitVec 512) : BitVec 64 :=
  if o.kind = .atomic then BitVec.ofNat 64 (lineNat d 0 8)
  else
    let n := 2 ^ o.size
    let v := lineNat d (o.gaddr % 64) n
    if o.sign then BitVec.ofInt 64 (signedOf (8 * n) v) else BitVec.ofNat 64 v

/-- A result written to its destination (R281): zero where the request did not complete well, with the poison
mark on a line that was poisoned. -/
def Mason.deliver (x : Mason) (o : MasOut) (st : Status) (d : BitVec 512) : Mason :=
  match o.dst with
  | .none => x
  | .scalar r => x.setReg r (if st.good then o.value d else 0)
  | .line l => x.setLine l (if st.good then ⟨d, false, o.addr⟩ else ⟨0, decide (st = .poison), o.addr⟩)

/-- A posted status (R281, R283): written to rt, and, where bad and the first, to the fence record. -/
def Mason.posted (x : Mason) (o : MasOut) (st : Status) : Mason :=
  let y := x.setReg o.rt (BitVec.ofNat 64 st.code)
  if st.good then y else { y with fence := some (x.fence.getD (st, o.gaddr)) }

/-- The end of an outstanding request or run with its status (R281). -/
def State.masEnd (s : State) (m : Nat) (o : MasOut) (st : Status) (d : BitVec 512) : State :=
  let s1 := s.modMason m (fun x => (x.dropOut o.id).deliver o st d)
  if ¬ o.waiting then s1.modMason m (fun x => x.posted o st)
  else if st.good then s1.akNext m
  else if o.kind = .walkLoad then s1.akTrapHere m 8 (walkSub st) o.addr
  else s1.akTrapHere m 0xA st.code o.addr

/-- The end of an A/D update (R251): the bits are set in an entry not invalidated since, and the instruction, still in
progress (R294), is presented again; a failed one traps. -/
def State.adEnd (s : State) (m : Nat) (o : MasOut) (st : Status) : State :=
  let s1 := s.modMason m (fun x => { x.dropOut o.id with stalled := true })
  if ¬ st.good then s1.akTrapHere m 8 (walkSub st) o.addr
  else if o.stale then s1
  else s1.modMason m (fun x => o.slots.foldl (fun y k => y.modTpl k (fun e =>
    (if o.setD then (fun t : TplEnt => t.setBit 55) else id) ((if o.setA then (fun t : TplEnt => t.setBit 56) else id) e))) x)

/-- The order in which a run reports what happened to its lines (R246). -/
def runRank (st : Status) : Nat :=
  match st with
  | .runTooLong => 0 | .fenced => 1 | .remoteTimeout => 2 | .poison => 4 | .okCorrected => 5 | .ok => 6 | _ => 3

/-- The status of a run (R246). -/
def runStatus (l : List Status) : Status := l.foldl (fun a b => if runRank b < runRank a then b else a) .ok

/-- Lines of a copy whose source never came: they are not written; a sub-run left with nothing to write is
answered with the status of the read. -/
def State.starve (s : State) (run : Nat) (srcs : List Nat) (st : Status) : State :=
  let line (x : LineJob) : LineJob :=
    if srcs.contains x.source ∧ x.wdata.isNone then { x with stage := .finished } else x
  let req (q : Req) : Req :=
    if q.run = some run ∧ q.op = Op.wrLine then { q with lines := q.lines.map line } else q
  let s1 := { s with reqs := s.reqs.map req }
  s1.fixAll (fun (q : Req) => decide (q.run = some run) && decide (q.op = Op.wrLine) && !q.status.isSome &&
    q.lines.all (fun x => decide (x.stage = LineStage.finished))) st

/-- What the read side of a copy gives the lines that wait for it (R245, R246). -/
def State.copyFed (s : State) (run : Nat) (r : Req) (st : Status) : State :=
  if r.op ≠ .rdLine then s
  else
    let srcs := r.lines.map (fun l => l.addr)
    match r.dest with
    | .remote _ =>
      if st.good then srcs.foldl (fun t a => t.feedCopy run a r.rdata false) s
      else if st = .poison then srcs.foldl (fun t a => t.feedCopy run a 0 true) s
      else s.starve run srcs st
    | _ => if st.good ∨ st = .poison then s else s.starve run srcs st

/-- A request of a run completed (R246); with the last the run does, and its tag record is written with its status
(R369). -/
def State.runPart (s : State) (m : Nat) (o : MasOut) (r : Req) (st : Status) : State :=
  let s1 := s.copyFed o.id r st
  let o' := { o with rids := o.rids.erase r.rid, got := o.got ++ [st], record := o.record.or (s.runRecord r o.gaddr) }
  if o'.rids = [] then
    (match o'.record with
     | some ws => s1.keepRecord (stampResp s.uptime (setOutcome (runStatus o'.got).code ws))
     | none => s1).masEnd m o' (runStatus o'.got) 0
  else s1.modMason m (fun x => x.modOut o.id (fun _ => o'))

/-- A completed request of Mason `m` returns by the direct lane of its own channel (R88). -/
def Req.directBack (r : Req) (m : Nat) : Bool := decide (r.dest = .local (m / 8))

/-- The result of request `r` is the next for Mason `m`: over the direct lane at any time, over the crossbar round robin
among its inputs (R88). -/
def State.resultTurn (s : State) (m : Nat) (r : Req) : Bool :=
  r.directBack m || (s.xbarPick (39 + m) Req.xbarBack (s.reqs.filter (fun q =>
    decide (q.src = .mason m) && q.status.isSome && !q.directBack m))).any (fun q => decide (q.rid = r.rid))

/-- The crossbar's output to Mason `m` gave request `r` its turn. -/
def State.resultCross (s : State) (m : Nat) (r : Req) : State :=
  if r.directBack m then s else s.xbarPass (39 + m) r.xbarBack

/-- A completed request of a Mason, its result slot having met error `upset` (R93), gives up its entry, and its result goes
where it belongs; that of a Mason reset since is discarded (R240, R264). -/
def State.masResult (s : State) (rid : Nat) (upset : Nat := 0) : State :=
  match (s.req rid).map (fun r => if upset = 2 ∧ r.status.isSome then r.spoil else r) with
  | none => s
  | some r => match r.src, r.status with
    | .mason m, some st =>
      let s0 := (s.storageUpset 2 upset r).resultCross m r
      let s1 := (if r.run.isSome then s0 else s0.tagDone r false).dropReq rid
      (match (s.mason m).outs.find? (fun (o : MasOut) => o.rids.contains rid) with
       | none => r.run.elim s1 (fun run => s1.copyFed run r st)
       | some (o : MasOut) => match o.kind with
         | .run => s1.runPart m o r st
         | .adUpdate => s1.adEnd m o st
         | _ => s1.masEnd m o st r.rdata).settle
    | _, _ => s

/-- MASON_RESULT_ARRIVAL (R240, R88): where it is the result's turn; `upset` is an error of its result slot (R93). -/
def execMasonResultArrival (rid : Nat) (s : State) (upset : Nat := 0) : Host.Outcome State Fault Refusal :=
  done (s.live fun s =>
    match s.req rid with
    | some r => s.whenTrue (match r.src with | .mason m => s.resultTurn m r | _ => false) (fun s => s.masResult rid upset)
    | none => s)

/-! Run control (R261). -/

/-- A write of `MAS_CTRL.RUN`: taken while the Masons' expert bit is 1. -/
def State.masRunWrite (s : State) (m run : Nat) : State :=
  if s.hasMason m ∧ s.expert 9 then (s.setX MAS_CTRL_RUN m 0 0 run).masonFollow m else s

/-- A write of `MAS_GLOBAL.PROFILE`. -/
def State.masProfileWrite (s : State) (p : Nat) : State :=
  if s.rawF MAS_GLOBAL_PROFILE 0 0 0 = p then s else (s.setF MAS_GLOBAL_PROFILE 0 0 0 p).masonsAnew

/-- MAS_RUN_WRITE (R261). -/
def execMasRunWrite (m : Nat) (run : Bool) (s : State) : Host.Outcome State Fault Refusal :=
  done (s.host fun s => s.masRunWrite m (b2n run))

/-- MAS_GLOBAL_PROFILE_WRITE (R261). -/
def execMasGlobalProfileWrite (profile : Nat) (s : State) : Host.Outcome State Fault Refusal :=
  done (s.host fun s => s.masProfileWrite profile)

/-! Mason reset (R264). -/

/-- The block's copy of the runtime's data as scratch contents; none is kept while no runtime is in force. -/
def State.scratchCopy (s : State) (x : Mason) : List Host.Cell :=
  match Tbl.find s.imgs 1 with | some i => cellsOf i.data | none => x.scratch

/-- A Mason with everything a Mason reset clears cleared; its instruction store and run control stay. -/
def State.masonCleared (s : State) (x : Mason) (st : Nat) : Mason :=
  { Mason.init with st := st, istore := x.istore, scratch := s.scratchCopy x, asked := x.asked }

/-- The records of a Mason's runs whose tagged request is already complete end ABORTED (R369). -/
def State.abortRuns (s : State) (m : Nat) : State :=
  ((s.mason m).outs.foldl (fun t o => o.record.elim t (fun ws => t.keepRecord (abortRecord ws))) s).modMason m (fun x =>
    { x with outs := x.outs.map (fun o => { o with record := none }) })

/-- The tag records of a source's requests end ABORTED (R369, R380). -/
def State.abortTags (s : State) (src : Src) : State :=
  let s0 := match src with | .mason m => s.abortRuns m | _ => s
  let s1 := s.reqs.foldl (fun t r => if r.src = src then t.tagDone r true else t) s0
  { s1 with reqs := s1.reqs.map (fun r => if r.src = src then { r with tagRec := none } else r) }

/-- `MAS_CMD.RESET` (R264). -/
def State.masonReset (s : State) (m : Nat) : State :=
  if s.hasMason m then ((s.abortTags (.mason m)).hodsForget m).modMason m (fun x => s.masonCleared x 3) else s

/-- MASON_RESET (R264). -/
def execMasonReset (m : Nat) (s : State) : Host.Outcome State Fault Refusal :=
  done (s.host fun s => s.masonReset m)

/-- MASON_RESET_COMPLETE (R264): HALTED, and run control that passed to run meanwhile acts (R261). -/
def execMasonResetComplete (m : Nat) (s : State) : Host.Outcome State Fault Refusal :=
  done (s.live fun s => s.whenTrue (s.hasMason m && decide ((s.mason m).st = 3)) (fun s =>
    (s.modMason m (fun x => { x with st := 0 })).masonFollow m))

/-! Images (R260). -/

/-- IMG_CHECK (R260). -/
def execImgCheck (kind len : Nat) (s : State) : Host.Outcome State Fault Refusal :=
  done (s.host fun s => s.imgStart 0 kind len)

/-- IMG_LOAD (R260). -/
def execImgLoad (kind len : Nat) (s : State) : Host.Outcome State Fault Refusal :=
  done (s.host fun s => s.imgStart 1 kind len)

/-- IMG_LOAD_STORE (R260). -/
def execImgLoadStore (kind len : Nat) (s : State) : Host.Outcome State Fault Refusal :=
  done (s.host fun s => s.imgStart 2 kind len)

/-- IMAGE_CHECK_OR_LOAD_COMPLETE (R260): every byte has been read from host memory. -/
def execImageCheckOrLoadComplete (bytes : List Nat) (s : State) : Host.Outcome State Fault Refusal :=
  done (s.live fun s =>
    match s.quo.img with
    | some i =>
      if bytes.length = i.len ∧ i.left = 0 ∧ s.quo.tags = [] ∧ i.image.isNone then s.imgArrived i bytes else s
    | none => s)

/-! Store windows (R263). -/

/-- An instruction-store slot written: two instructions, each by its half. -/
def Mason.writeStore (x : Mason) (off : Nat) (w : RegW) : Mason :=
  let i := off / 8 * 2
  let v := w.val.toNat
  let one (x : Mason) (k : Nat) : Mason :=
    { x with istore := Tbl.set x.istore 0 (i + k) (BitVec.ofNat 32 (nfield v (32 * k) 32)) }
  let x1 := if w.lo then one x 0 else x
  if w.hi then one x1 1 else x1

/-- A scratch slot written, half by half. -/
def Mason.writeScratch (x : Mason) (off : Nat) (w : RegW) : Mason :=
  let put (x : Mason) (a v : Nat) : Mason :=
    { x with
      scratch := (List.range 4).foldl (fun c i => Tbl.set c 0 (a + i) (BitVec.ofNat 8 (nfield v (8 * i) 8))) x.scratch }
  let a := off / 8 * 8
  let x1 := if w.lo then put x a (nfield w.val.toNat 0 32) else x
  if w.hi then put x1 (a + 4) (nfield w.val.toNat 32 32) else x1

/-- A host write of a Mason's store window (R263). -/
def State.masStoreWrite (s : State) (m off : Nat) (w : RegW) : State :=
  if ¬ s.hasMason m ∨ 0xC000 ≤ off then s
  else if ¬ s.storeOpen m off then s.orF MAS_ERR_BITS m 0 0 64
  else if off < 0x4000 then s.modMason m (fun x => x.writeStore off w)
  else s.modMason m (fun x => x.writeScratch (off - 0x4000) w)

/-- MASON_STORE_WRITE (R263). -/
def execMasonStoreWrite (m off : Nat) (w : RegW) (s : State) : Host.Outcome State Fault Refusal :=
  done (s.host fun s => s.masStoreWrite m off w)

/-! The debug port (R262). -/

/-- The debug port acts on Mason `m`: the seal is intact and the Mason exists. -/
def State.debugOpen (s : State) (m : Nat) : Bool := !s.straps.debugSeal && s.hasMason m

/-- A Mason halted into DEBUG once its instruction ends. -/
def Mason.debugHalt (x : Mason) : Mason :=
  if x.st = 1 then
    let y := x.endWait
    if y.waits || y.stalled then { y with dbgDue := true } else { y with st := 4, dbgFrom := 1 }
  else if x.st = 0 ∨ x.st = 2 then { x with st := 4, dbgFrom := x.st } else x

/-- The register numbered `r` on the debug port. -/
def State.debugReg (s : State) (m r : Nat) : BitVec 64 :=
  let x := s.mason m
  if r < 32 then x.reg r
  else if r < 45 then s.csrGet m (r - 32)
  else BitVec.ofNat 64 (if r = 45 then x.pc else b2n x.handler + 2 * b2n x.nested)

/-- A register written by the debug port; read-only ones keep their values. -/
def Mason.debugPut (x : Mason) (r : Nat) (v : BitVec 64) : Mason :=
  if r < 32 then x.setReg r v
  else if r < 45 then x.csrPut (r - 32) v
  else if r = 45 then { x with pc := v.toNat % 4096 }
  else { x with handler := v.getLsbD 0, nested := v.getLsbD 1 }

/-- DEBUG_HALT (R262). -/
def execDebugHalt (m : Nat) (s : State) : Host.Outcome State Fault Refusal :=
  done (s.live fun s => s.whenTrue (s.debugOpen m) (fun s => s.modMason m Mason.debugHalt))

/-- DEBUG_STEP (R262): one instruction is owed; a Mason halted from FAULT executes none. -/
def execDebugStep (m : Nat) (s : State) : Host.Outcome State Fault Refusal :=
  done (s.live fun s => s.whenTrue (s.debugOpen m && decide ((s.mason m).st = 4) && decide ((s.mason m).dbgFrom ≠ 2))
    (fun s => s.modMason m (fun x => { x with dbgStep := true })))

/-- DEBUG_RESUME (R262). -/
def execDebugResume (m : Nat) (s : State) : Host.Outcome State Fault Refusal :=
  done (s.live fun s => s.whenTrue (s.debugOpen m && decide ((s.mason m).st = 4))
    (fun s => s.modMason m (fun x => { x with st := x.dbgFrom, dbgFrom := 0, dbgStep := false })))

end Sys2Proof.Machine
end

