-- ==== Sys2Proof/Machine/Plinth.lean ====
section
/-! DEFINITION. The commands of Plinth (R227 to R236): the rows of a store one by one, and the commands of
`PLN_CMD`. -/

namespace Sys2Proof.Machine

/-- PLINTH_STORE (R227, R235): the oldest store that waits begins with its header row, once no store and no command
runs. -/
def execPlinthStore (s : State) : Host.Outcome State Fault Refusal :=
  done (s.live (fun s => s.whenTrue (s.pln.row.isNone && !s.cmdRuns) State.storeBegin))

/-- A command of `PLN_CMD` is well formed (R234). -/
def plnCmdOk (op type row : Nat) : Bool :=
  ((op == 1 || op == 2) && decide (row ≤ 1439)) || (op == 3 && decide (0 < type ∧ type ≤ 3))

/-- A write of `PLN_CMD` (R234, R235): refused while a command runs or waits; it waits for the store in progress and for
the start-up reading. -/
def State.plnCommand (s : State) (w : RegW) (upset : Nat) : State :=
  let x : PlnCmd := ⟨w.bits PLN_CMD_OP, w.bits PLN_CMD_TYPE, w.bits PLN_CMD_ROW, upset, false⟩
  if s.pln.cmd.isSome then s.setBit PLN_ERR_CMD_REFUSED 0 0 0
  else if x.op = 0 then s
  else
    let s1 := s.setF PLN_STATUS_CMD_FAIL 0 0 0 0
    if ¬ plnCmdOk x.op x.type x.row then s1.setBit PLN_STATUS_CMD_FAIL 0 0 0
    else if s.pln.row.isSome ∨ s.rawF PLN_STATUS_READY 0 0 0 = 0 then s1.modPln (fun p => { p with cmd := some x })
    else s1.plnRun x

/-- A write of `PLN_CMD` whose OP is `op`. -/
def plnRowCmd (op : Nat) (w : RegW) (upset : Nat) (s : State) : Host.Outcome State Fault Refusal :=
  done (s.host (fun s => s.whenTrue (decide (w.bits PLN_CMD_OP = op)) (fun s => s.plnCommand w upset)))

/-- RAW_WRITE (R234). -/
def execRawWrite (w : RegW) (s : State) : Host.Outcome State Fault Refusal := plnRowCmd 2 w 0 s

/-- RAW_READ (R234). -/
def execRawRead (w : RegW) (upset : Nat) (s : State) : Host.Outcome State Fault Refusal := plnRowCmd 1 w upset s

/-- READ_REC (R234). -/
def execReadRec (w : RegW) (upset : Nat) (s : State) : Host.Outcome State Fault Refusal := plnRowCmd 3 w upset s

/-! Row writes (R228). -/

/-- Steps 2 to 4 of the cold start end with the CYCLE store, whatever became of it (R405): READY, the seals, the images;
then the block waits for the platform at step 5. -/
def State.bootPlinth (s : State) (count : Nat) : State :=
  if s.rawF BLK_BOOT_STEP 0 0 0 = 2 then ((s.plinthReady count).selectImages).setF BLK_BOOT_STEP 0 0 0 5 else s

/-- The store of a record of `type` ends: the start-up goes on, its image operation, if it has one, is told, an image
that waited for the store is loaded, and what waits for Plinth begins. -/
def State.storeEnd (s : State) (type : Nat) (good : Bool) (count : Nat) : State :=
  (((if type = 2 then s.bootPlinth count else s).imgStored type good).imgWaited).plnNext

/-- Row `k` of the store in progress was written and compared. -/
def State.storeRowDone (s : State) (st : PlnStore) (k : Nat) (good : Bool) : State :=
  match s.plnPlan st.type st.index with
  | none => s.storeGone
  | some pl =>
    let r := pl.base + (pl.start + k) % pl.size
    if good then
      let s1 := s.setPlnRow r (s.storeRow st pl k)
      if s.pln.dropping then (s1.moveStart pl (k + 1)).storeGone.storeEnd st.type false s.cycleCount
      else if k ≤ st.bodyRows then s1.modPln (fun p => { p with row := some (k + 1), tries := 0 })
      else ((s1.moveStart pl (k + 1)).storeGone.setValid st.type st.index).storeEnd st.type true s.cycleCount
    else if s.pln.tries < s.fld PLN_CTRL_RETRY 0 0 0 then s.modPln (fun p => { p with tries := p.tries + 1 })
    else (((s.tornRow r st.type st.index).moveStart pl (k + 1)).storeGone.plnErr PLN_ERR_WRITE_FAIL 1 2).storeEnd
      st.type false s.cycleCount

/-- The row of a RAW_WRITE was written and compared. -/
def State.rawRowDone (s : State) (row : Nat) (good : Bool) : State :=
  let gone (t : State) : State := t.modPln (fun p => { p with cmd := none, tries := 0 })
  if good then (gone (s.setPlnRow (platRow row) s.bufRow)).plnNext
  else if s.pln.tries < s.fld PLN_CTRL_RETRY 0 0 0 then s.modPln (fun p => { p with tries := p.tries + 1 })
  else
    (((gone (s.setPlnRow (platRow row) (Config.failedRow (platRow row) s.uptime))).plnErr PLN_ERR_WRITE_FAIL 1 2).setBit
      PLN_STATUS_CMD_FAIL 0 0 0).plnNext

/-- PLINTH_ROW_WRITE_DONE (R228): the attempt at the row being written ends, its read-back equal or not, with a word
corrected in it or not (R221). -/
def execPlinthRowWriteDone (good : Bool) (s : State) (corr : Bool := false) : Host.Outcome State Fault Refusal :=
  done (s.live (fun s =>
    match s.pln.row, s.pln.stores with
    | some k, st :: _ => (s.plnUpset (b2n corr)).storeRowDone st k good
    | _, _ =>
      match s.pln.cmd with
      | some x => s.whenTrue x.runs (fun s => (s.plnUpset (b2n corr)).rawRowDone x.row good)
      | none => s))

/-! A store or a RAW_WRITE cut off (R229). -/

/-- The row being written, and the type and index of its record; none for a PLATFORM row. -/
def State.rowUnderWrite (s : State) : Option (Nat × Option (Nat × Nat)) :=
  match s.pln.row, s.pln.stores with
  | some k, st :: _ =>
    (s.plnPlan st.type st.index).map (fun pl => (pl.base + (pl.start + k) % pl.size, some (st.type, st.index)))
  | _, _ =>
    match s.pln.cmd with
    | some x => if x.runs then some (platRow x.row, none) else none
    | none => none

/-- What a cold reset or the loss of RCLK leaves of the row being written (R229): a free value. -/
def State.rowCut (s : State) : State :=
  match s.rowUnderWrite with
  | some (r, some (type, index)) => s.tornRow r type index
  | some (r, none) => s.setPlnRow r (Config.failedRow r s.uptime)
  | none => s

end Sys2Proof.Machine
end

