-- ==== Sys2Proof/Machine/ScreedOps.lean ====
section
/-! DEFINITION. Screed's runs (R198 to R217): their start, their steps and attempts, results, seam points,
failures, and the boot step they end. -/

namespace Sys2Proof.Machine

/-- Screed's state of a channel changed. -/
def State.modScr (s : State) (c : Nat) (f : ScrSt → ScrSt) : State :=
  s.modChan c (fun x => { x with scr := f x.scr })

/-- `SCR_STATUS.STATE`. -/
def State.scrState (s : State) (c : Nat) : Nat := s.rawF SCR_STATUS_STATE c 0 0

/-- A change of STATE, with its vector (R390); that the channel reached TRAINED or FAILED is kept for R358. -/
def State.setScrState (s : State) (c v : Nat) : State :=
  if s.scrState c = v then s
  else ((s.setF SCR_STATUS_STATE c 0 0 v).modChan c (fun x => { x with
    settled := x.settled || decide (v = 2 ∨ v = 4) })).raiseVec (16 + c)

/-- A Screed error with its report (R218). -/
def State.scrErr (s : State) (c : Nat) (f : Field) (kind sev : Nat) : State :=
  (s.setBit f c 0 0).reportUnit (48 + c) sev 9 5 kind none

/-- N that a training runs at (R199). -/
def State.trainN (s : State) (c : Nat) : Nat :=
  let n := s.rawF TIM_RATE_MULT c 0 0
  if s.romFloor then min n 16 else n

/-- The check of `TIM_RATE` (R29). -/
def State.rateOk (s : State) (c : Nat) : Bool :=
  let n := s.trainN c
  let d := s.rawF TIM_RATE_DIMM c 0 0
  if s.romFloor then decide (d = 0 ∧ 12 ≤ n ∧ n ≤ 16)
  else decide (d = 0 ∧ 12 ≤ n ∧ n ≤ 24) || decide (d = 1 ∧ 32 ≤ n ∧ n ≤ 44)

/-- A seed; 0 is used as the reset value. -/
def State.seedOf (s : State) (f : Field) (c : Nat) : Nat :=
  let v := s.fld f c 0 0
  if v = 0 then f.reset else v

/-- What a run latches (R217): ATTEMPTS, seeds, N, STEP_MAX, guards, STEP_MS, CHAN_MS. -/
def State.latchRun (s : State) (c n : Nat) : List Nat :=
  [max 1 (s.fld SCR_LIMIT_ATTEMPTS c 0 0), s.seedOf SCR_SEED_RD c, s.seedOf SCR_SEED_WR c, n,
   s.fld SCR_LIMIT_STEP_MAX c 0 0, s.fld SCR_GUARD_DQ c 0 0, s.fld SCR_GUARD_CA c 0 0,
   s.fld SCR_GUARD_VREF c 0 0, max 1 (s.fld SCR_LIMIT_STEP_MS c 0 0),
   max 10 (s.fld SCR_LIMIT_CHAN_MS c 0 0)]

/-! Results (R208). -/

/-- STALE of every result row of the subchannels `subs`. -/
def State.setStale (s : State) (c : Nat) (subs : List Nat) (v : Nat) : State :=
  subs.foldl (fun t sub => (List.range 10).foldl (fun t k => t.setF SCR_RESULT_STALE c sub k v) t) s

/-- The subchannels of the run in progress: a measurement takes A, then B, each for itself, or both at one seam point
(R198, R217). -/
def ScrSt.runSubs (x : ScrSt) : List Nat :=
  if (x.run = 3 ∨ x.run = 4) ∧ x.quiet ≠ 3 then [x.passed] else [0, 1]

/-- A result: verdict 1 PASS, 2 FAIL, 3 TIMEOUT, 4 SKIPPED; the attempt, the failing rank and the failing lanes. -/
def resultWord (verdict attempt rank lanes : Nat) : Nat :=
  verdict * 2 ^ 60 + rank % 4 * 2 ^ 58 + attempt % 8 * 2 ^ 55 + lanes % 2 ^ 40

/-- A result with one more rank's outcome: a failure keeps the verdict and the rank of its first failing rank, and the
lanes of all (DESIGN CHOICE, log 134). -/
def resultWith (old verdict attempt rank lanes : Nat) : Nat :=
  let was := nfield old 60 3
  if was = 2 ∨ was = 3 then old / 2 ^ 40 * 2 ^ 40 + Nat.lor (nfield old 0 40) (lanes % 2 ^ 40)
  else if verdict = 1 ∨ verdict = 4 then resultWord verdict attempt 0 0
  else resultWord verdict attempt rank lanes

/-- The outcome of step `k` on a rank of subchannel `sub` in the results of the run in progress. -/
def State.noteRank (s : State) (c sub k verdict rank lanes : Nat) : State :=
  s.modScr c (fun x => { x with
    newRes := Tbl.put x.newRes (10 * sub + k)
      (resultWith (Tbl.get x.newRes 0 (10 * sub + k)) verdict x.attempt rank lanes) })

/-- The run's result of a row on a subchannel passed so far. -/
def ScrSt.rowPassed (x : ScrSt) (sub k : Nat) : Bool := decide (nfield (Tbl.get x.newRes 0 (10 * sub + k)) 60 3 = 1)

/-- The results of row `k` of both subchannels forgotten: a new attempt at it begins. -/
def State.clearRow (s : State) (c k : Nat) : State :=
  s.modScr c (fun x => { x with newRes := Tbl.del (Tbl.del x.newRes k) (10 + k) })

/-- One result register takes a word. -/
def State.putResult (s : State) (c sub k w : Nat) : State :=
  (((s.setF SCR_RESULT_VERDICT c sub k (nfield w 60 3)).setF SCR_RESULT_RANK c sub k (nfield w 58 2)).setF
    SCR_RESULT_ATTEMPT c sub k (nfield w 55 3)).setF SCR_RESULT_LANE_FAIL c sub k (nfield w 0 40)

/-- The results of rows `ks` of the run's subchannels taken in one instant, and STALE cleared. -/
def State.commitResults (s : State) (c : Nat) (ks : List Nat) : State :=
  let x := (s.chan c).scr
  let s1 := x.runSubs.foldl (fun t sub => ks.foldl (fun t k =>
    t.putResult c sub k (Tbl.get x.newRes 0 (10 * sub + k))) t) s
  (s1.setStale c x.runSubs 0).modScr c (fun x => { x with newRes := [] })

/-- The rows a run writes (R208): a measurement the retraining row, every other run all of them. -/
def runRows (run : Nat) : List Nat :=
  if run = 3 ∨ run = 4 then [9] else if run = 0 then [] else List.range 10

/-! The calibration engines (R217). -/

/-- The CALREF group of a channel. -/
def State.calGroup (s : State) (c : Nat) : Nat := if s.build ≤ 12 then 0 else c / 12

/-- A channel waits at step 1 for its engine. -/
def State.zqWaits (s : State) (c : Nat) : Bool :=
  let x := (s.chan c).scr
  (decide (x.run = 1) || decide (x.run = 2)) && decide (s.rawF SCR_STATUS_STEP c 0 0 = 1) &&
  decide (x.passed = 0) && !x.zqBusy

/-- The free engine of a group goes to the lowest channel that waits, `but` apart; its wait is not counted
(R204). -/
def State.zqGrant (s : State) (g : Nat) (but : Option Nat) : State :=
  let cs := (List.range s.build).filter (fun c => decide (s.calGroup c = g))
  if cs.any (fun c => (s.chan c).scr.zqBusy) then s
  else match cs.find? (fun c => s.zqWaits c && decide (some c ≠ but)) with
    | some c => s.modScr c (fun x => { x with
        zqBusy := true, stepAt := (s.uptime, s.uptime), attAt := x.attAt + (s.uptime - x.stepAt.1) })
    | none => s

/-- The engine given up: the channel that gives it up does not take it again. -/
def State.zqFree (s : State) (c : Nat) : State :=
  if (s.chan c).scr.zqBusy then
    (s.modScr c (fun x => { x with zqBusy := false })).zqGrant (s.calGroup c) (some c)
  else s

/-! The boot steps that training ends (R405, R409, R412). -/

/-- Channels of the build with a valid geometry. -/
def State.validChans (s : State) : List Nat :=
  (List.range s.build).filter (fun c => decide (s.rawF MAP_GEOM_VALID c 0 0 = 1))

/-- STEP 6 ends when every such channel is TRAINED or FAILED; W2 when every channel that was TRAINED has left
self-refresh and its exit run, DEDUCED (log 162) or has lost its PLL's lock; TRAIN_GO is then accepted where the warm reset
came before step 5, or in step 6 where a channel with a valid geometry is UNTRAINED (R412). -/
def State.bootCheck (s : State) : State :=
  let step := s.rawF BLK_BOOT_STEP 0 0 0
  if step = 6 then
    (if s.validChans.all (fun c => s.isTrained c || decide (s.scrState c = 4)) then
      s.setF BLK_BOOT_STEP 0 0 0 7 else s)
  else if step = 9 then
    (if (List.range s.build).all (fun c => !(s.chan c).wasTrained || (s.chan c).pllLost ||
        (decide (s.lpState c = 0) && decide ((s.chan c).scr.run = 0))) then
      ((List.range s.build).foldl (fun t c => t.modChan c (fun x => { x with wasTrained := false })) s).setF
        BLK_BOOT_STEP 0 0 0 (if s.warmAt < 5 ∨ (s.warmAt = 6 ∧ s.validChans.any (fun c => decide (s.scrState c = 0))) then 5
          else 7)
    else s)
  else s

/-! Trained values (R202, R203). -/

/-- The key of a trained value in Screed's tables: quantity, subchannel, rank and lane. -/
def laneKey (q sub rank lane : Nat) : Nat := ((q * 2 + sub) * 4 + rank) * 64 + lane

/-- The largest setting of a quantity (R202): CS and CA delays, data and strobe delays, Vref steps from 35.0 %, DFE
taps from -31 mV. -/
def settingMax (q : Nat) : Nat :=
  if q = 2 ∨ q = 3 then 1023
  else if 5 ≤ q ∧ q ≤ 8 then 2047
  else if q = 4 ∨ q = 9 ∨ q = 10 then 125
  else if 11 ≤ q ∧ q ≤ 14 then 62
  else 65535

/-- The passing region that a sweep found for a quantity of a lane (R203). -/
def regionOf (e : StepEnd) (q sub rank lane : Nat) : Option (Nat × Nat) :=
  (e.regions.find? (fun g => decide (g.q = q) && g.sub.all (fun x => decide (x = sub)) &&
      g.rank.all (fun x => decide (x = rank)) && g.lane.all (fun x => decide (x = lane)))).bind (fun g =>
    if g.lo ≤ min g.hi (settingMax q) then some (g.lo, min g.hi (settingMax q)) else none)

/-- The centre of a region. -/
def centre (r : Nat × Nat) : Nat := (r.1 + r.2) / 2

/-- The region extends a guard margin beyond its centre on each side (R203). -/
def wide (g : Nat) (r : Nat × Nat) : Bool := decide (r.1 + g ≤ centre r) && decide (centre r + g ≤ r.2)

/-- The strobe pairs of a subchannel, one for each device: ten of four lanes, or five of eight (R201, R216). -/
def strobes (x8 : Bool) : List Nat := if x8 then [0, 2, 4, 6, 8] else List.range 10

/-- The DQ lanes of a strobe pair as bits. -/
def strobeLanes (x8 : Bool) (i : Nat) : Nat := (if x8 then 0xFF else 0xF) * 2 ^ (4 * i)

/-- A quantity that a step sweeps: its lanes, each with the bits of `SCR_RESULT` that stand for it, its guard, and
whether the step adjusts it. -/
structure Sweep where
  q : Nat
  lanes : List (Nat × Nat)
  guard : Nat
  adjusts : Bool
  deriving DecidableEq, Repr

/-- The quantities of a value that PHY or DRAM hold once for a physical rank (R201). -/
def ofPhys (q : Nat) : Bool := decide (q = 2) || (decide (10 ≤ q) && decide (q ≤ 14))

/-- What step `k` sweeps on a rank (R201), with the guards latched. DEDUCED (log 135): step 8 tests the read delay with
feedback applied by the DQ guard, and gives the taps themselves no guard. -/
def State.sweeps (s : State) (c k rank : Nat) : List Sweep :=
  let l := (s.chan c).scr.latched
  let x8 := s.x8 c
  let dq := (List.range 40).map (fun i => (i, 2 ^ i))
  let grp := (strobes x8).map (fun i => (i, strobeLanes x8 i))
  let pr := physRank (s.stack c) rank
  match k with
  | 1 => [⟨0, [(0, 1)], 0, true⟩, ⟨1, [(0, 1)], 0, true⟩, ⟨16, [(0, 2 ^ (1 + rank))], 0, false⟩]
  | 2 => [⟨2, [(pr, 2 ^ pr)], nth l 6, true⟩]
  | 3 => [⟨3, (List.range 14).map (fun i => (i, 2 ^ i)), nth l 6, true⟩, ⟨4, [(0, 0x3FFF)], nth l 7, true⟩]
  | 4 => [⟨5, (strobes x8).map (fun i => (i, 2 ^ i)), 0, true⟩]
  | 5 => [⟨6, grp, nth l 5, true⟩, ⟨7, dq, nth l 5, true⟩]
  | 6 => [⟨8, dq, nth l 5, true⟩]
  | 7 => [⟨9, grp, nth l 7, true⟩, ⟨10, dq, nth l 7, true⟩, ⟨7, dq, nth l 5, true⟩, ⟨8, dq, nth l 5, true⟩]
  | 8 => [⟨7, dq, nth l 5, false⟩, ⟨11, dq, 0, true⟩, ⟨12, dq, 0, true⟩, ⟨13, dq, 0, true⟩, ⟨14, dq, 0, true⟩]
  | _ => []

/-- The population of a channel is one of R23: the chip selects of each DIMM, two DIMMs at no more than 6,400 MT/s (R28: N
up to 16). -/
def State.popOk (s : State) (c : Nat) (dimms : List (List Nat)) : Bool :=
  decide (dimms = [[0]]) || decide (dimms = [[0, 1]]) || (decide (dimms = [[0], [1]]) && decide (s.trainN c ≤ 16))

/-- The identity and capability reads of step 0 agree with the registers (R23, R201, R216). -/
def State.identOk (s : State) (c : Nat) (e : StepEnd) : Bool :=
  s.popOk c e.dimms && decide (e.dens = s.rawF MAP_GEOM_DENS c 0 0) && decide (e.width = s.rawF MAP_GEOM_WIDTH c 0 0) &&
  decide (e.height = s.rawF MAP_GEOM_HEIGHT c 0 0) && (e.mrdimm == s.mrdimm c)

/-- The logical ranks of a physical rank as bits. -/
def State.ranksOf (s : State) (c pr : Nat) : Nat :=
  (((List.range (s.ranks c)).filter (fun k => decide (physRank (s.stack c) k = pr))).map (fun k => 2 ^ k)).sum

/-- The lanes that fail step `k` on a rank (R201, R203); a rank that has not answered step 0 fails whole. -/
def State.badLanes (s : State) (c k sub rank : Nat) (e : StepEnd) (timeout : Bool) : Nat :=
  if k = 0 then (if timeout ∨ ¬ s.identOk c e then s.ranksOf c rank else 0)
  else (s.sweeps c k rank).foldl (fun m w => w.lanes.foldl (fun m l =>
    if (regionOf e w.q sub rank l.1).any (wide w.guard) then m else Nat.lor m l.2) m) 0

/-- The centres that step `k` selects on a rank, kept with those of the run (R203). -/
def State.centred (s : State) (c k sub rank : Nat) (e : StepEnd) (t : Tbl Nat) : Tbl Nat :=
  (s.sweeps c k rank).foldl (fun t w => w.lanes.foldl (fun t l =>
    match regionOf e w.q sub rank l.1 with
    | some r => if w.adjusts then
        Tbl.put t (laneKey w.q sub (if ofPhys w.q then physRank (s.stack c) rank else rank) l.1) (centre r) else t
    | none => t) t) t

/-- Ranks that step `k` runs on (R204): physical ranks in steps 0 and 1, logical ranks in the others. -/
def State.stepUnits (s : State) (c k : Nat) : Nat := if k ≤ 1 then s.physRanks c else s.ranks c

/-- The ranks that have ended the step in progress on a subchannel. -/
def ScrSt.at (x : ScrSt) (sub : Nat) : Nat := if sub = 0 then x.prog.1 else x.prog.2

/-- The cycle of the last command to a subchannel. -/
def State.lastCmd (s : State) (c sub : Nat) : Nat :=
  (s.chan c).tim.hist.foldl (fun a p => if p.sub = sub then max a p.cyc else a) 0

/-- Screed's own command (R207): at the earliest instant from its own on, after the last command of its subchannel, that the
table of BIN 10 admits, through the checker, which uses that table too. The other subchannel's time is not touched. -/
def State.screedCmd (s : State) (c : Nat) (p : Passed) : State :=
  let x := s.chan c
  let tab := rowNumbers.map (s.wideRow c)
  let n0 := { p with cyc := max p.cyc (max x.now (s.lastCmd c p.sub + 1)) }
  let n := { p with cyc := earliest tab (s.stack c) (s.mrdimm c) x.tim.hist 64 n0 }
  match ({ x with tim := { x.tim with tabC := tab } } : Chan).violation (s.stack c) (s.mrdimm c) (s.postLim c + 1) n with
  | some (rule, short) => s.violate c n rule short
  | none =>
    let t := (s.bankEffect c n).modTim c (fun y => y.record n)
    if n.kind.isPre then t.count 8 c Ev.nothing else t

/-- Screed's command of a kind to a logical rank, at row 0 of bank 0 of bank group 0 (R206); `op` is an MPC's opcode. -/
def scrCmd (k : CmdKind) (sub rank : Nat) (op : Nat := 0) : Passed := ⟨0, k, sub, rank, 0, 0, op, false⟩

/-- Patterns written to a rank's training row and read back (R206). -/
def rowPattern (sub rank : Nat) : List Passed :=
  [scrCmd .act sub rank, scrCmd .wr sub rank, scrCmd .rd sub rank, scrCmd .preab sub rank]

/-- The commands of step `k` on a rank that R201 names. DESIGN CHOICE (log 138): one of each kind stands for all of a
sweep, and a burst of the read-training pattern is an MRR. -/
def State.stepCmds (s : State) (c k sub rank : Nat) : List Passed :=
  match k with
  | 0 => ((List.range (s.ranks c)).filter (fun u => decide (physRank (s.stack c) u = rank))).map (scrCmd .mrr sub)
  | 1 => [scrCmd .mpc sub rank zqStartOp, scrCmd .mpc sub rank zqLatchOp]
  | 3 => [scrCmd .mrw sub rank]
  | 5 => [scrCmd .mrw sub rank, scrCmd .mrr sub rank]
  | 6 => rowPattern sub rank
  | 7 => scrCmd .mrw sub rank :: rowPattern sub rank
  | 8 => [scrCmd .mrr sub rank]
  | _ => []

/-- Several of Screed's commands in their order. -/
def State.screedCmds (s : State) (c : Nat) (ps : List Passed) : State := ps.foldl (fun t p => t.screedCmd c p) s

/-- The cycle by which the data of every write of a subchannel is transferred (R209 step 3). -/
def State.dataEnd (s : State) (c sub : Nat) : Nat :=
  (s.chan c).tim.hist.foldl (fun a p =>
    if p.kind.isWr ∧ p.sub = sub then max a (p.cyc + s.row c 15 + s.row c 16) else a) 0

/-- Step 4 of R209 on a subchannel, by Screed, once the data of step 3 is over: PREab to every logical rank. DESIGN CHOICE
(log 182): a rank in power-down is woken for it by Screed's PDX. -/
def State.shutSub (s : State) (c sub : Nat) : State :=
  let up := ((s.physUnits c).filter (fun k => decide (k / 2 = sub) && (Tbl.find (s.chan c).pnt.pd k).isSome)).map
    (fun k => scrCmd .pdx sub (k % 2))
  let pres := ((s.units c).filter (fun u => decide (u / 4 = sub))).map (fun u => scrCmd .preab sub (u % 4))
  s.screedCmds c ((up ++ pres).map (fun p => { p with cyc := s.dataEnd c sub }))

/-- A measurement's commands on a subchannel (R210): the oscillator started and read on every rank, and bursts of the
read-training pattern. -/
def State.measureCmds (s : State) (c sub : Nat) : State :=
  s.screedCmds c ((List.range (s.ranks c)).flatMap (fun r =>
    [scrCmd .mpc sub r oscStartOp, scrCmd .mrr sub r, scrCmd .mrr sub r]))

/-- Step 7 of R209: the mode registers of every logical rank written. -/
def State.dramWrites (s : State) (c : Nat) : State :=
  s.screedCmds c ((s.units c).map (fun u => scrCmd .mrw (u / 4) (u % 4)))

/-- The channel's time moves past the last of Screed's commands. -/
def State.pastScreed (s : State) (c : Nat) : State :=
  let t := max (s.lastCmd c 0) (s.lastCmd c 1)
  s.modChan c (fun x => { x with now := max x.now t })

/-- The reset pulse of step 0 (R201): the ranks are awake, and every bank is closed. -/
def State.resetPulse (s : State) (c : Nat) : State :=
  (((s.pdCount c (s.chan c).now).closeBanks c (fun _ => true)).modPnt c (fun p => { p with pd := [], sr := [] }))

/-! Full training and fast resume. -/

/-- An attempt starts from step 0 (R204, R205): its clock, and that of step 0's reads after the JEDEC waits of
6 ms. `SCR_STATUS.ATTEMPT` counts those of a full training. -/
def State.startAttempt (s : State) (c n : Nat) (full : Bool) : State :=
  let s1 := ((s.resetPulse c).setF SCR_STATUS_STEP c 0 0 0).clearRow c 0
  (if full then s1.setF SCR_STATUS_ATTEMPT c 0 0 n else s1).modScr c (fun x => { x with
    attempt := n, passed := 0, prog := (0, 0), shadow := [], found := none, preempted := false, attAt := s.uptime,
    stepAt := (s.uptime + 6000000, s.uptime + 6000000), resetN := false })

/-- The maintenance path that a run held is given up. -/
def State.scrRelease (s : State) (c : Nat) : State :=
  if (s.chan c).mntHolder = some (229 + c) then s.freePath c else s

/-- The last attempt failed (R205). -/
def State.trainFail (s : State) (c : Nat) : State :=
  let s1 := (((s.zqFree c).commitResults c (runRows 1)).modScr c (fun x => { x with
    run := 0, quiet := 0, passed := 0, resetN := false, trainFence := true })).scrRelease c
  ((((s1.setScrState c 4).scrErr c SCR_ERR_TRAIN_FAIL 0 2).fenceReqs c).settle).bootCheck

/-- The sequencer of channel `c` starts (R258, R268): a training image put in force since takes effect at a full training
(R260). No sequencer runs the ROM floor. -/
def State.seqStart (s : State) (c : Nat) (full : Bool) : State :=
  if s.romFloor then s
  else (if full then s.seqLoad c else s).modMason (seqOf c) (fun x => { x.fresh with st := 1 })

/-- A run of full training (1) or fast resume (2) begins; a `TIM_RATE` that fails R29 fails step 0 at once. -/
def State.startRun (s : State) (c run : Nat) (rivals : List KeyAsk := []) : State :=
  let s1 := ((((s.seqStart c (decide (run = 1))).setScrState c (if run = 1 then 1 else 5)).setF SCR_STATUS_RESUMED c 0 0 0).setStale c [0, 1] 1).modScr c
    (fun x => { x with newRes := [] })
  if ¬ s.rateOk c then
    let s2 := (s1.startAttempt c 1 (decide (run = 1))).modScr c (fun x => { x with run := 1 })
    ((s2.noteRank c 0 0 2 0 1).noteRank c 1 0 2 0 1).trainFail c
  else
    let l := s.latchRun c (s.trainN c)
    let s2 := (s1.startAttempt c 1 (decide (run = 1))).modScr c (fun x => { x with
      run := run, quiet := 3, latched := l, seeds := (nth l 1, nth l 2) })
    (s2.askPath c (229 + c) rivals).1

/-- A step or check failed (R205, R208, R214): a fast resume ends with its results and turns into a full training; a
full training starts its next attempt or fails. -/
def State.attemptFail (s : State) (c : Nat) : State :=
  let x := (s.chan c).scr
  let s1 := s.zqFree c
  if x.run = 2 then
    (((s1.commitResults c (runRows 2)).modScr c (fun y => { y with active := [] })).scrErr c SCR_ERR_RESUME_FAIL 1
      0).startRun c 1
  else if x.attempt < nth x.latched 0 then
    (s1.modScr c (fun y => { y with
      seeds := (Config.seedLfsr false y.seeds.1 % 2 ^ 32, Config.seedLfsr true y.seeds.2 % 2 ^ 32) })).startAttempt
      c (x.attempt + 1) true
  else s1.trainFail c

/-- The lines of the training rows hold no codeword afterwards (R206). -/
def State.loseTrainingRows (s : State) (c : Nat) : State :=
  { s with dram := Tbl.keep (fun k =>
      !(decide (k / 2 ^ 48 = c) && decide (nfield k 3 5 = 0) && decide (k % 2 ^ 48 / (2 * 4 * 8 * 4 * 512) = 0))) s.dram }

/-- What the identity and capability reads of step 0 found (R165, R201). -/
def dimmOf (e : StepEnd) : Dimm := ⟨e.dimms, e.prac, e.rfm, e.sameBank, e.imt, e.mmt, e.aboRfm⟩

/-- The next step of a run begins; from step 6 on the training rows are written (R206). -/
def State.nextStep (s : State) (c k : Nat) : State :=
  let s0 := if k = 6 then s.loseTrainingRows c else s
  let s1 := ((s0.setF SCR_STATUS_STEP c 0 0 k).clearRow c k).modScr c (fun x => { x with
    stepAt := (s.uptime, s.uptime), prog := (0, 0) })
  if k = 1 then s1.zqGrant (s1.calGroup c) none else s1

/-- A step passed on both subchannels (R201, R214): below N 32 step 8 is SKIPPED. -/
def State.stepPassed (s : State) (c k : Nat) : State :=
  let x := (s.chan c).scr
  let s1 := if k = 1 then s.zqFree c else s
  if x.run = 2 ∧ k = 1 then s1.modScr c (fun y => { y with passed := 3 })
  else if k = 8 then s1.modScr c (fun y => { y with passed := 3 })
  else if k = 7 ∧ nth x.latched 3 < 32 then
    ((((s1.setF SCR_STATUS_STEP c 0 0 8).clearRow c 8).noteRank c 0 8 4 0 0).noteRank c 1 8 4 0 0).modScr c
      (fun y => { y with passed := 3 })
  else s1.nextStep c (k + 1)

/-- The present step on the present rank of a subchannel ends, by its criterion or by its timeout: its outcome and the
centres selected are kept, rows 14 and 15 as the largest that any rank needs (DESIGN CHOICE, log 135). -/
def State.rankEnd (s : State) (c sub : Nat) (e : StepEnd) (timeout : Bool) : State :=
  let x := (s.chan c).scr
  let k := s.rawF SCR_STATUS_STEP c 0 0
  let r := x.at sub
  if s.stepUnits c k ≤ r then s
  else
    let s := if timeout then s else s.screedCmds c (s.stepCmds c k sub r)
    let lanes := s.badLanes c k sub r e timeout
    let row (q v : Nat) (t : Tbl Nat) : Tbl Nat := Tbl.put t (laneKey q 0 0 0) (max v (Tbl.get t 0 (laneKey q 0 0 0)))
    (s.noteRank c sub k (if timeout then 3 else if lanes = 0 then 1 else 2) r lanes).modScr c (fun y => { y with
      shadow := (if k = 5 then row 17 e.row14 else if k = 6 then row 18 e.row15 else id) (s.centred c k sub r e y.shadow),
      found := if k = 0 ∧ ¬ timeout then some (dimmOf e) else y.found,
      resetN := true,
      stepAt := if sub = 0 then (s.uptime, y.stepAt.2) else (y.stepAt.1, s.uptime),
      prog := if sub = 0 then (r + 1, y.prog.2) else (y.prog.1, r + 1) })

/-- Once the step has ended on every rank of both subchannels, the run goes on or the attempt ends (R201, R205). -/
def State.stepJudge (s : State) (c : Nat) : State :=
  let x := (s.chan c).scr
  let k := s.rawF SCR_STATUS_STEP c 0 0
  if x.prog.1 < s.stepUnits c k ∨ x.prog.2 < s.stepUnits c k then s
  else if x.rowPassed 0 k ∧ x.rowPassed 1 k then s.stepPassed c k
  else s.attemptFail c

/-- The attempt's time is over, or the path was taken: the step ends as TIMEOUT on every rank that has not ended it
(R204, R207). -/
def State.allOut (s : State) (c : Nat) (e : StepEnd) : State :=
  ((List.range 8).foldl (fun t i => t.rankEnd c (i % 2) e true) s).stepJudge c

/-- A temperature as a signed number. -/
def signed8 (t : Nat) : Int := if t % 256 < 128 then (t % 256 : Int) else (t % 256 : Int) - 256

/-- The baseline taken at the end of a run that measured (R211). -/
def State.setBase (s : State) (c temp : Nat) : State :=
  ((s.setF SCR_STATUS_BASE c 0 0 temp).setF SCR_STATUS_TEMP c 0 0 temp).modScr c (fun x => { x with
    baseline := some (temp % 256), sinceMeas := 0 })

/-- Refresh starts at the end of a training (R162, R163, R169, R178). -/
def State.pntTrained (s : State) (c : Nat) : State :=
  let s1 := (((s.setF PNT_STATUS_LPSTATE c 0 0 0).setF PNT_STATUS_RATE2X c 0 0 0).setF
    PNT_STATUS_COLD c 0 0 0).setF PNT_STATUS_MODE_IN c 0 0 (s.modeOf c (s.rawF PNT_CTRL_MODE c 0 0))
  let s2 := s1.modPnt c (fun p => { PntSt.init with
    zqLast := (s.physUnits c).map (fun k => (k, s.uptime)), lastHalve := (s.chan c).now, nextSb := p.nextSb })
  s2.ticksRestart c (s.chan c).now

/-- The oscillator counts of a training or fast resume recorded, with the write DQS delays they belong to (R212). -/
def State.noteOsc (s : State) (c : Nat) (e : StepEnd) (t : Tbl Nat) : Tbl Nat :=
  [0, 1].foldl (fun t sub => (List.range (s.ranks c)).foldl (fun t r => (strobes (s.x8 c)).foldl (fun t i =>
    Tbl.put (Tbl.put t (laneKey 19 sub r i) (Tbl.get t 0 (laneKey 5 sub r i))) (laneKey 15 sub r i)
      ((regionOf e 15 sub r i).elim 0 Prod.fst)) t) t) t

/-- A full training or fast resume passed (R139, R205, R209, R213): everything of it comes into force, its fence
is lifted, and a full training is handed to Plinth. -/
def State.trainDone (s : State) (c : Nat) (e : StepEnd) : State :=
  let x := (s.chan c).scr
  let vals := s.noteOsc c e x.shadow
  let rows := (Tbl.get vals 0 (laneKey 17 0 0 0), Tbl.get vals 0 (laneKey 18 0 0 0))
  let s1 := ((s.commitResults c (runRows x.run)).modScr c (fun y => { y with
    run := 0, quiet := 0, passed := 0, trainFence := false, active := vals, trained := rows,
    measFails := (0, 0), lastTick := s.uptime, wantRetrain := false })).modChan c (fun y => { y with
      dimm := x.found.getD y.dimm })
  let s2 := (((((s1.timTrained c rows.1 rows.2).setBase c e.temp).setF SCR_STATUS_CLAMPED c 0 0 0).dramWrites
    c).pastScreed c).pntTrained c
  let s3 := ((s2.setF SCR_STATUS_RESUMED c 0 0 (if x.run = 2 then 1 else 0)).scrRelease c).setScrState c 2
  let s4 := if x.run = 1 then s3.handValues c else s3
  (((s4.masonsOf c).walksResume c).settle).bootCheck

/-- A run is stopped where it stands and nothing of it is applied (R48, R217, R34). DEDUCED (log 84): a stopped
training leaves FAILED or UNTRAINED as it found it; DESIGN CHOICE (log 84): `CHcc_RESET_N` stays as it stands, for no
rule drives it then. -/
def State.abortRun (s : State) (c : Nat) : State :=
  let x := (s.chan c).scr
  if x.run = 0 then s
  else
    let s1 := (((s.zqFree c).commitResults c (runRows x.run)).modScr c
      (fun y => { y with run := 0, quiet := 0, passed := 0 })).scrRelease c
    s1.setScrState c (if x.run = 1 ∨ x.run = 2 then (if x.trainFence then 4 else 0) else 2)

/-! Measurements (R210 to R212) and seam points (R209). -/

/-- A subchannel is ready for step 4 of its seam point (R209 steps 1 to 3): Pointing has issued what comes first, no
indivisible run is half issued, and the read bursts are home; step 4 waits for the write data by itself. -/
def State.subDrained (s : State) (c sub : Nat) : Bool := s.screedOnly c sub

/-- Screed asks for a pause of the subchannels `quiet` (R176, R209 step 1): the units that owe post_lim or more refresh
first. -/
def State.pause (s : State) (c quiet : Nat) : State :=
  let due := (s.units c).filter (fun u => quiet.testBit (u / 4) && decide (1 ≤ s.owed c u) &&
    decide (s.postLim c ≤ s.owed c u))
  (s.modScr c (fun x => { x with quiet := quiet })).modPnt c (fun p => { p with
    pauseDue := due ++ p.pauseDue.filter (fun u => !due.contains u) })

/-- A measured run begins: 3 the exit correction, 4 a retraining. `quiet` is what is paused first, and its rows turn
STALE. -/
def State.startMeasure (s : State) (c run quiet : Nat) (rivals : List KeyAsk := []) : State :=
  let s1 := ((((s.seqStart c false).setScrState c 3).setStale c (if quiet = 3 then [0, 1] else [0]) 1).modScr c
    (fun x => { x with
      run := run, passed := 0, newRes := [], attempt := 0, preempted := false,
      latched := s.latchRun c (s.mult c) })).pause c quiet
  (s1.askPath c (229 + c) rivals).1

/-- STEP_MAX of the run (R212). -/
def State.stepMax (s : State) (c : Nat) : Nat := nth (s.chan c).scr.latched 4

/-- The quantities that a measurement reads of the read-training pattern: read DQ delays and read DQS gates, with the
DQ bits of each lane. -/
def State.readLanes (s : State) (c : Nat) : List (Nat × Nat × Nat) :=
  (List.range 40).map (fun i => (7, i, 2 ^ i)) ++ (strobes (s.x8 c)).map (fun i => (6, i, strobeLanes (s.x8 c) i))

/-- The lanes without a passing region at the old delay plus or minus 2 x STEP_MAX (R212); `t` holds the old delays. -/
def State.lostLanes (s : State) (c sub : Nat) (e : StepEnd) (t : Tbl Nat) : Nat :=
  (List.range (s.ranks c)).foldl (fun m r => (s.readLanes c).foldl (fun m l =>
    let old := Tbl.get t 0 (laneKey l.1 sub r l.2.1)
    if (regionOf e l.1 sub r l.2.1).any (fun g => decide (old ≤ g.2 + 2 * s.stepMax c) &&
        decide (g.1 ≤ old + 2 * s.stepMax c)) then m else Nat.lor m l.2.2) m) 0

/-- The corrections that a measurement asks for (R212), by key: of the read delays towards the centre of the region
found, and of the write DQS delays by the oscillator counts. The formula of the latter is open (log 136). -/
def State.corrections (s : State) (c sub : Nat) (e : StepEnd) (t : Tbl Nat) : List (Nat × Int) :=
  (List.range (s.ranks c)).flatMap (fun r =>
    (s.readLanes c).map (fun l =>
      let k := laneKey l.1 sub r l.2.1
      (k, ((regionOf e l.1 sub r l.2.1).elim (0 : Int) (fun g => (centre g : Int) - (Tbl.get t 0 k : Nat))))) ++
    (strobes (s.x8 c)).map (fun i =>
      let k := laneKey 5 sub r i
      let ref := Tbl.get t 0 (laneKey 15 sub r i)
      (k, ((regionOf e 15 sub r i).elim (0 : Int) (fun g =>
        (Tbl.get t 0 (laneKey 19 sub r i) : Nat) + Config.oscTaps ref g.1 - (Tbl.get t 0 k : Nat))))))

/-- A correction exceeds STEP_MAX (R212). -/
def State.clamps (s : State) (c : Nat) (d : Int) : Bool := decide (s.stepMax c < d.natAbs)

/-- The values with the corrections applied, each up to STEP_MAX and within its range (R202, R212). -/
def State.corrected (s : State) (c : Nat) (ds : List (Nat × Int)) (t : Tbl Nat) : Tbl Nat :=
  ds.foldl (fun t d => Tbl.put t d.1
    (min 2047 (((Tbl.get t 0 d.1 : Nat) : Int) + max (-(s.stepMax c : Int)) (min (s.stepMax c : Int) d.2)).toNat)) t

/-- The measurement of one subchannel at its seam point (R212), and the baseline taken with it (R211). -/
def State.measured (s : State) (c sub : Nat) (e : StepEnd) : State :=
  let s := (s.measureCmds c sub).setBase c e.temp
  let x := (s.chan c).scr
  let fails := if sub = 0 then x.measFails.1 else x.measFails.2
  let put (n : Nat) (t : State) : State := t.modScr c (fun x => { x with
    measFails := if sub = 0 then (n, x.measFails.2) else (x.measFails.1, n) })
  let lost := s.lostLanes c sub e x.active
  if lost = 0 then
    let ds := s.corrections c sub e x.active
    let s1 := (put 0 (s.noteRank c sub 9 1 0 0)).modScr c (fun y => { y with active := s.corrected c ds y.active })
    if ds.any (fun d => s.clamps c d.2) then (s1.setBit SCR_STATUS_CLAMPED c 0 0).setBit SCR_ERR_RETRAIN_CLAMP c 0 0
    else s1
  else
    let s1 := put (fails + 1) ((s.noteRank c sub 9 2 0 lost).scrErr c SCR_ERR_RETRAIN_FAIL 2 0)
    if fails + 1 = 4 then s1.scrErr c SCR_ERR_RETRAIN_STUCK 3 2 else s1

/-- Subchannel A is measured and released: its row is written, and B's retraining begins (R208, R211). -/
def State.measureNext (s : State) (c : Nat) : State :=
  (((s.commitResults c [9]).setStale c [1] 1).modScr c (fun x => { x with passed := 1 })).pause c 2

/-- The end of an exit correction or retraining: the subchannels are released. -/
def State.measureDone (s : State) (c : Nat) : State :=
  let run := (s.chan c).scr.run
  let s1 := (s.commitResults c [9]).modScr c (fun x => { x with run := 0, quiet := 0, passed := 0 })
  let s2 := (s1.setScrState c 2).scrRelease c
  let s3 := if run = 3 then
      let t := ((s2.setF PNT_STATUS_LPSTATE c 0 0 0).modPnt c (fun p => { p with srWhy := 0, srStep := 0 })).walksResume c
      if s.rawF PNT_CTRL_SR_REQ c 0 0 = 1 then t.srBegin c 1 else t
    else s2
  s3.bootCheck

/-- A copy of the timing table that waits comes into force at a seam point (R139); where it changes rows 14 or 15, the
mode registers are written (R209 step 7). -/
def State.applyTable (s : State) (c : Nat) : State :=
  let t := (s.timSeam c none).rejudge c
  if s.row c 14 ≠ t.row c 14 ∨ s.row c 15 ≠ t.row c 15 then t.dramWrites c else t

end Sys2Proof.Machine
end

