-- ==== Sys2Proof/Machine/Pointing.lean ====
section
/-! DEFINITION. Pointing's own commands (R159 to R178): refresh ticks, MR4 polls, ZQ calibration, refresh modes,
the row tracker, cold-start mode, and self-refresh entry and exit. -/

namespace Sys2Proof.Machine

/-- A unit has ticked at the rate asked for; when all have, the rate of the channel changes (R163, R133). DESIGN CHOICE (log
179): RATE2X and the whole window change with the last unit's tick. -/
def State.rateTick (s : State) (c u : Nat) : State :=
  let p := (s.chan c).pnt
  if p.want2x = s.rate2x c then s
  else
    let us := if p.rateUnits.contains u then p.rateUnits else u :: p.rateUnits
    if (s.units c).all us.contains then
      ((s.setF PNT_STATUS_RATE2X c 0 0 (b2n p.want2x)).modPnt c (fun q => { q with rateUnits := [] })).rejudge c
    else s.modPnt c (fun q => { q with rateUnits := us })

/-- Cold-start mode begins at the first tick, but not under PRAC (R169). -/
def State.coldTick (s : State) (c cyc : Nat) : State :=
  if ¬ (s.chan c).pnt.coldArmed then s
  else
    let s1 := s.modPnt c (fun p => { p with coldArmed := false })
    if s.method c = 0 then s1
    else (s1.setF PNT_STATUS_COLD c 0 0 1).modPnt c (fun p => { p with
      coldEnd := some (cyc + 8192 * s.row c 28) })

/-- A tick (R160): the credit exhausted is a violation of rule 0x3E. -/
def State.tick (s : State) (c u cyc : Nat) : State :=
  let o := s.owed c u + 1
  let s0 := s.modChan c (fun x => { x with now := max x.now cyc })
  let s1 := (s0.setOwed c u o).rateTick c u
  let (t, j) := tickNext (decide (s1.refMode c = 2)) (s1.interval c (s1.refMode c) (s1.unitTwice c u)) cyc
    (Tbl.get (s.chan c).pnt.tickNo 0 u)
  let pausing := (s.chan c).scr.quiet.testBit (u / 4) && !s.quiesced c (u / 4) && decide (1 ≤ o) &&
    decide (s.postLim c ≤ o)
  let s2 := (s1.modPnt c (fun p => { p with
    nextTick := Tbl.put p.nextTick u t, tickNo := Tbl.set p.tickNo 0 u j,
    pauseDue := if pausing ∧ ¬ p.pauseDue.contains u then u :: p.pauseDue else p.pauseDue })).coldTick c cyc
  if s.postLim c + 1 < o then
    s2.violate c ⟨cyc, if s.refMode c = 2 then .refsb else .refab, u / 4, u % 4, 0,
      if s.refMode c = 2 then Tbl.get (s.chan c).pnt.nextSb 0 u else 0, 0, false⟩ 0x3E 0
  else s2

/-- REFRESH_TICK (R160, R162): at the unit's tick instant. -/
def execRefreshTick (chan unit cyc : Nat) (s : State) : Host.Outcome State Fault Refusal :=
  done (s.live (fun s => s.whenTrue (s.hasChan chan && (s.units chan).contains unit &&
    decide (Tbl.find (s.chan chan).pnt.nextTick unit = some cyc) && decide (s.lpState chan ≠ 2))
    (fun s => s.tick chan unit cyc)))

/-- What a poll of MR4 finds (R163): 0 the ordinary range, 1 the doubled rate needed, 2 beyond its range. -/
def State.polled (s : State) (c hot : Nat) : State :=
  let p := (s.chan c).pnt
  let up (t : State) : State := t.modPnt c (fun q => { q with lastPoll := max 1 s.uptime })
  if hot = 0 then
    if p.want2x ∧ 1 ≤ p.calmPolls then
      up (s.modPnt c (fun q => { q with want2x := false, calmPolls := 0, rateUnits := [] }))
    else up (s.modPnt c (fun q => { q with calmPolls := if q.want2x then q.calmPolls + 1 else 0 }))
  else
    let s1 := up (s.modPnt c (fun q => { q with
      want2x := true, calmPolls := 0, rateUnits := if q.want2x then q.rateUnits else [] }))
    if hot = 1 then s1 else s1.pntErr c PNT_ERR_TEMP_LIMIT 2 2

/-- MR4_POLL (R163, R170, R176): every rank awake, the maintenance path granted for the poll. -/
def execMr4Poll (chan hot : Nat) (s : State) (rivals : List KeyAsk := []) : Host.Outcome State Fault Refusal :=
  done (s.live (fun s => s.whenTrue (s.hasChan chan && decide (s.lpState chan = 0) && s.pollDue chan &&
      (s.chan chan).pnt.pd.isEmpty) (fun s =>
    if s.pntHolds chan then s.polled chan hot
    else
      let (t, ok) := s.askPath chan (205 + chan) rivals
      if ok then (t.freePath chan).polled chan hot else t)))

/-- ZQ_PERIOD_EXPIRY (R170): a ZQCal Start to a physical rank. -/
def execZqPeriodExpiry (c : Cmd) (s : State) : Host.Outcome State Fault Refusal :=
  done (s.live (fun s => s.issue c.chan (Cmd.mnt c .mpc zqStartOp) (fun s =>
    let p := (s.chan c.chan).pnt
    let key := s.cmdPhys c
    let n := s.fld PNT_CFG_ZQ_PERIOD c.chan 0 0
    if n ≠ 0 ∧ (Tbl.find p.zqOpen key).isNone ∧ Tbl.get p.zqLast 0 key + n * 1000000 ≤ s.uptime ∧
        s.lpState c.chan = 0 then
      s.onPath c.chan c.rivals (fun t => some (t.mpcDone c.chan key zqStartOp c.cyc, true))
    else none)))

/-- ZQCAL_LATCH_DUE (R170): the ZQCal Latch, tZQCAL after the Start. -/
def execZqcalLatchDue (c : Cmd) (s : State) : Host.Outcome State Fault Refusal :=
  done (s.live (fun s => s.issue c.chan (Cmd.mnt c .mpc zqLatchOp) (fun s =>
    let key := s.cmdPhys c
    match Tbl.find (s.chan c.chan).pnt.zqOpen key with
    | some t0 =>
      if t0 + s.row c.chan 41 ≤ c.cyc then
        s.onPath c.chan c.rivals (fun t => some (t.mpcDone c.chan key zqLatchOp c.cyc, true))
      else none
    | none => none)))

/-- `PNT_CTRL.MODE` written (R164): pending on a trained channel, in force at the end of a training. -/
def State.modeWrite (s : State) (c m : Nat) : State :=
  let s1 := s.setF PNT_CTRL_MODE c 0 0 m
  if ¬ s.isTrained c ∨ (s.modeOf c m = s.refMode c ∧ (s.chan c).pnt.modePend.isNone) then s1
  else s1.modPnt c (fun p => { p with modePend := some m, modeWritten := [] })

/-- REFRESH_MODE_WRITE (R164). -/
def execRefreshModeWrite (chan mode : Nat) (s : State) : Host.Outcome State Fault Refusal :=
  done (s.host (fun s => s.whenTrue (s.hasChan chan) (fun s => s.modeWrite chan mode)))

/-- The new intervals start at instant `t` (R162, R164). -/
def State.modeSwitch (s : State) (c m t : Nat) : State :=
  let s1 := (s.setF PNT_STATUS_MODE_IN c 0 0 (s.modeOf c m)).modChan c (fun x => { x with now := max x.now t })
  let i := s1.interval c (s1.refMode c) (s1.rate2x c)
  let r := max 1 (s.ranks c)
  (s1.modPnt c (fun p => { p with
    modePend := none, modeWritten := [], tickNo := [],
    nextTick := (s.units c).map (fun u => (u, t + u % 4 * i / r)) })).rejudge c

/-- REFRESH_MODE_SWITCH (R164 step 3): at the next tick instant of logical rank 0 after the end of step 2, no unit owing
and the mode written. -/
def execRefreshModeSwitch (chan : Nat) (s : State) : Host.Outcome State Fault Refusal :=
  done (s.live (fun s =>
    let p := (s.chan chan).pnt
    match p.modePend, Tbl.find p.nextTick 0 with
    | some m, some t =>
      s.whenTrue (s.hasChan chan && (s.units chan).all p.modeWritten.contains && (s.units chan).all (fun u => decide (s.owed chan u ≤ 0)) &&
        decide ((s.chan chan).now ≤ t) && p.nextTick.all (fun e => decide (t ≤ e.2))) (fun s => s.modeSwitch chan m t)
    | _, _ => s))

/-- TRACKER_HALVING (R167): every 8,192 x tREFI of the 1x rate. DESIGN CHOICE (log 130): half of an odd count is rounded
down. -/
def execTrackerHalving (chan : Nat) (s : State) : Host.Outcome State Fault Refusal :=
  done (s.live (fun s =>
    let span := 8192 * s.row chan 28
    s.whenTrue (s.hasChan chan && decide ((s.chan chan).pnt.lastHalve + span ≤ (s.chan chan).now)) (fun s =>
      s.modPnt chan (fun p => { p with
        lastHalve := p.lastHalve + span,
        track := Tbl.mapVal (fun _ es => es.map (fun e => (e.1, e.2 / 2))) p.track }))))

/-- COLD_START_END (R169). -/
def execColdStartEnd (chan : Nat) (s : State) : Host.Outcome State Fault Refusal :=
  done (s.live (fun s => s.whenTrue (s.hasChan chan &&
      (s.chan chan).pnt.coldEnd.any (fun t => decide (t ≤ (s.chan chan).now))) (fun s =>
    (s.setF PNT_STATUS_COLD chan 0 0 0).modPnt chan (fun p => { p with coldEnd := none }))))

/-- `PNT_CTRL.SR_REQ` written 1 (R173): a trained, active channel starts its entry; one on its way out of self-refresh
once it is out. DESIGN CHOICE (log 178): one that is not trained only keeps the bit, and its training starts no entry. -/
def State.srRequest (s : State) (c : Nat) : State :=
  let s1 := s.setF PNT_CTRL_SR_REQ c 0 0 1
  if s.isTrained c ∧ s.lpState c = 0 then s1.srBegin c 1 else s1

/-- SR_REQUEST (R173). -/
def execSrRequest (chan : Nat) (s : State) : Host.Outcome State Fault Refusal :=
  done (s.host (fun s => s.whenTrue (s.hasChan chan) (fun s => s.srRequest chan)))

/-- The channel has had no queued request for SR_IDLE µs: CCLK is 50 N MHz (R28, R173). -/
def State.srIdle (s : State) (c : Nat) : Bool :=
  let n := s.fld PNT_LP_SR_IDLE c 0 0 * 50 * s.mult c
  decide (n ≠ 0) && (s.waiting c).isEmpty &&
  (s.units c).all (fun u => decide (Tbl.get (s.chan c).pnt.lastCol 0 u + n ≤ (s.chan c).now)) &&
  (s.chan c).tim.left.all (fun e => decide (e.2 + n ≤ (s.chan c).now))

/-- SR_IDLE_EXPIRY (R173). -/
def execSrIdleExpiry (chan : Nat) (s : State) : Host.Outcome State Fault Refusal :=
  done (s.live (fun s => s.whenTrue (s.hasChan chan && decide (s.scrState chan = 2) &&
    decide (s.lpState chan = 0) && s.srIdle chan) (fun s => s.srBegin chan 2)))

/-- `PNT_CTRL.SR_REQ` written 0, or a request queued after an idle entry (R174 step 1): a channel in self-refresh by request
or idleness begins its exit. -/
def State.srExit (s : State) (c : Nat) : State :=
  let s1 := s.setF PNT_CTRL_SR_REQ c 0 0 0
  let why := (s.chan c).pnt.srWhy
  if s.lpState c = 2 ∧ (why = 1 ∨ why = 2) then s1.exitBegin c else s1

/-- SR_EXIT_REQUEST (R174). -/
def execSrExitRequest (chan : Nat) (s : State) : Host.Outcome State Fault Refusal :=
  done (s.live (fun s => s.whenTrue (s.hasChan chan) (fun s => s.srExit chan)))

/-- The instant of the last SRX that the channel remembers. -/
def State.lastSrx (s : State) (c : Nat) : Option Nat :=
  ((s.chan c).tim.hist.find? (fun p => decide (p.kind = .srx))).map (fun p => p.cyc)

/-- SR_EXIT_DONE (R174 steps 4 and 5): tXS after the last SRX refresh restarts, the poll is made, the path is
released and Screed starts its exit correction. -/
def execSrExitDone (chan hot : Nat) (s : State) (rivals : List KeyAsk := []) : Host.Outcome State Fault Refusal :=
  done (s.live (fun s =>
    match s.lastSrx chan with
    | none => s
    | some t0 =>
      let p := (s.chan chan).pnt
      s.whenTrue (s.hasChan chan && decide (s.lpState chan = 3) && p.sr.isEmpty && decide (p.srStep = 4)) (fun s =>
        let (s, ok) := s.pathBack chan rivals
        if ¬ ok then s
        else
        let t := t0 + s.row chan 47
        let s1 := ((s.modChan chan (fun x => { x with now := max x.now t })).ticksRestart chan t).polled chan hot
        let s2 := if s1.pntHolds chan then s1.freePath chan else s1
        (s2.modPnt chan (fun q => { q with srStep := 5 })).startMeasure chan 3
          (if (s.chan chan).tim.pendTab.isSome then 3 else 1) rivals)))

end Sys2Proof.Machine
end

