-- ==== Sys2Proof/Machine/Quoin.lean ====
section
/-! DEFINITION. The commands of the Quoin (R383 to R401): configuration writes, inbound TLPs, outbound reads,
containment, FLR, drains, export and MSI-X. -/

namespace Sys2Proof.Machine

/-! FLR (R399). -/

/-- Initiate Function Level Reset: outbound work ends, tags are quarantined for 32 ms at most, and the
maintenance paths the Quoin holds are released. -/
def State.flrStart (s : State) : State :=
  if s.quo.flr.isSome then s
  else
    let till := s.uptime + 32000000
    let s1 := (((s.modQuo (fun q => { q with flr := some s.uptime })).imgAbort).drainStop 3).setF
      QUO_EXPORT_CTL_EN 0 0 0 0
    let s2 := s1.modQuo (fun q => { q with tags := Tbl.mapVal (fun _ t =>
      ⟨if t.quar then min t.ends till else till, true⟩) q.tags })
    (List.range s.build).foldl (fun t c =>
      if t.quoinHolds c then (t.freePath c).setBit KEY_MNT_CTRL_LOST c 0 0 else t) s2

/-- The `QUO_` registers but `QUO_IDENT` and `QUO_DSN`. -/
def quoFlrFields : List Field :=
  [QUO_ERR_DRAIN_BUSY, QUO_ERR_UR_SENT, QUO_ERR_UNEXP_CPL, QUO_ERR_MALFORMED, QUO_ERR_CPL_TIMEOUT,
   QUO_ERR_POISON_RX, QUO_DRAIN_ADDR_ADDR, QUO_DRAIN_CPL_ADDR, QUO_DRAIN_CTL_REGION, QUO_DRAIN_CTL_COUNT,
   QUO_DRAIN_CTL_START, QUO_EXPORT_BASE_BASE, QUO_EXPORT_CTL_PI_ADDR, QUO_EXPORT_CTL_SIZE, QUO_EXPORT_CTL_EN,
   QUO_EXPORT_CI_CI]

/-- The function state at its reset values (R399 step 5). DESIGN CHOICE (log 148): the whole MSI-X table among it. -/
def State.flrEnd (s : State) : State :=
  (quoFlrFields.foldl (fun t f => t.setF f 0 0 0 f.reset) s).modQuo (fun q => { q with
    cfg := [], msix := [], pba := [], st := 0, cause := 0, flr := none, drainStatus := (0, 0) })

/-! Configuration writes (R383 to R386, R398). -/

/-- The bits of a dword that byte enables cover. -/
def byteMask (bytes : Nat) : Nat :=
  ((List.range 4).map (fun i => if bytes.testBit i then 0xFF * 2 ^ (8 * i) else 0)).sum

/-- Configuration dword `n` after a write: a power state other than D0 and D3hot is not taken (R384). -/
def State.cfgNext (s : State) (n data mask : Nat) : Nat :=
  let old := s.cfgWord n
  let set := Nat.land (cfgMask n) mask
  let v := Nat.lor (Nat.land old (Nat.xor set 0xFFFFFFFF)) (Nat.land data set)
  let v' := Nat.land v (Nat.xor (Nat.land (cfgClear n) (Nat.land data mask)) 0xFFFFFFFF)
  if n = 17 ∧ (v' % 4 = 1 ∨ v' % 4 = 2) then v' - v' % 4 + old % 4 else v'

/-- Configuration dword `n` set, with what Bus Master Enable cleared ends, and the image reads a return to D0
lets go on. -/
def State.cfgPut (s : State) (n v : Nat) : State :=
  let s1 := s.setCfg n v
  if n = 1 ∧ s.busMaster ∧ ¬ s1.busMaster then s1.masterOff else s1.issueReads 64

/-- A configuration write; answered Configuration Request Retry Status during an FLR (R399). -/
def State.cfgWrite (s : State) (n data mask : Nat) : State :=
  if s.quo.flr.isSome then s
  else
    let s1 := if cfgMask n = 0 ∧ cfgClear n = 0 then s else s.cfgPut n (s.cfgNext n data mask)
    if n = 30 ∧ (Nat.land data mask).testBit 15 then s1.flrStart else s1

/-- CONFIG_WRITE (R383). -/
def execConfigWrite (off data bytes : Nat) (s : State) : Host.Outcome State Fault Refusal :=
  done (s.live fun s => s.cfgWrite (off / 4 % 1024) data (byteMask bytes))

/-- POWER_STATE_CHANGE (R386). -/
def execPowerStateChange (state : Nat) (s : State) : Host.Outcome State Fault Refusal :=
  done (s.live fun s => s.cfgWrite 17 (state % 4) 3)

/-- BUS_MASTER_DISABLE (R398). -/
def execBusMasterDisable (s : State) : Host.Outcome State Fault Refusal :=
  done (s.live fun s => s.cfgWrite 1 0 4)

/-! Inbound TLPs (R389, R396). -/

/-- The size and alignment a memory access of BAR0 must have (R389, R305). -/
def tlpSized (t : InTlp) : Bool :=
  if 0x3000000 ≤ t.off ∧ t.off < 0x31C0000 ∧ t.off % 0x1000 < 0x20 then decide (t.len = 32 ∧ t.off % 32 = 0)
  else decide ((t.len = 4 ∨ t.len = 8) ∧ t.off % t.len = 0)

/-- An inbound TLP is Unsupported (R389). -/
def State.unsupported (s : State) (t : InTlp) : Bool :=
  if t.kind < 2 then
    !t.inBar || !tlpSized t || s.bar0Off ||
    (decide (t.kind = 0) && decide (s.quo.st ≠ 0) && !(decide (0x13000 ≤ t.off) && decide (t.off < 0x13100)))
  else decide (t.kind ≠ 5)

/-- An inbound TLP that is malformed (R387) or unsupported: of these, memory writes and messages are posted. -/
def State.badTlp (s : State) (t : InTlp) : State :=
  if t.malformed then s.quoErr QUO_ERR_MALFORMED 2 2 18
  else if s.unsupported t then s.urSent (decide (t.kind = 1 ∨ t.kind = 3)) else s

/-- UNSUPPORTED_REQUEST (R387, R389). -/
def execUnsupportedRequest (t : InTlp) (s : State) : Host.Outcome State Fault Refusal :=
  done (s.live fun s => s.badTlp t)

/-- POISONED_WRITE_RX (R396, R401). -/
def execPoisonedWriteRx (s : State) (same : Bool := false) : Host.Outcome State Fault Refusal :=
  done (s.live fun s => (s.quoErr QUO_ERR_POISON_RX 0 2 12).containWith 1 same)

/-! Outbound reads (R385, R396, R398). -/

/-- A tag freed; RELEASE_WAIT ends with the last quarantined one (R397). -/
def State.tagFree (s : State) (tag : Nat) : State :=
  (s.modQuo (fun q => { q with tags := Tbl.del q.tags tag })).releaseCheck

/-- The errors of one completion, each recorded, with the lowest-numbered cause (R401). -/
def State.cplErrs (s : State) (poisoned malformed unexpected same : Bool) : State :=
  let s1 := if poisoned then s.quoErr QUO_ERR_POISON_RX 0 2 12 else s
  let s2 := if malformed then s1.quoErr QUO_ERR_MALFORMED 2 2 18 else s1
  let s3 := if unexpected then s2.quoErr QUO_ERR_UNEXP_CPL 3 2 16 (adv := true) else s2
  if poisoned then s3.containWith 2 same else if malformed then s3.containWith 4 same
  else if unexpected then s3.containWith 5 same else s3

/-- A completion: discarded for a quarantined tag or with Bus Master Enable clear, used, or containing. -/
def State.quoCompletion (s : State) (tag : Nat) (poisoned malformed same : Bool) : State :=
  match Tbl.find s.quo.tags tag with
  | some t =>
    let s1 := s.tagFree tag
    if s.tagQuar tag t same ∨ ¬ s.busMaster then s1
    else if poisoned ∨ malformed then s1.cplErrs poisoned malformed false same
    else s1.issueReads 64
  | none => if s.busMaster ∧ s.quo.flr.isNone then s.cplErrs poisoned malformed (!malformed) same
    else s

/-- QUO_COMPLETION_RX (R396, R398): the status of a completion changes nothing that the spec states. -/
def execQuoCompletionRx (tag : Nat) (_good poisoned malformed : Bool) (s : State) (same : Bool := false) :
    Host.Outcome State Fault Refusal :=
  done (s.live fun s => s.quoCompletion tag poisoned malformed same)

/-- QUO_CPL_TIMEOUT (R385, R396, R398, R401). -/
def execQuoCplTimeout (tag : Nat) (s : State) (same : Bool := false) : Host.Outcome State Fault Refusal :=
  done (s.live fun s =>
    match Tbl.find s.quo.tags tag with
    | some t => s.whenTrue (decide (t.ends ≤ s.uptime)) (fun s =>
        if s.tagQuar tag t same ∨ ¬ s.busMaster then s.tagFree tag
        else ((s.tagFree tag).quoErr QUO_ERR_CPL_TIMEOUT 1 2 14 (logs := false)).containWith 3 same)
    | none => s)

/-! Containment and FLR. -/

/-- `QUO_RELEASE.RELEASE` written 1 (R397, R401). -/
def State.quoRelease (s : State) : State :=
  if s.bar0Off then s.urSent
  else if s.quo.st = 1 then (s.modQuo (fun q => { q with st := 2 })).releaseCheck else s

/-- QUO_RELEASE (R397). -/
def execQuoRelease (s : State) : Host.Outcome State Fault Refusal := done (s.live State.quoRelease)

/-- FLR_INITIATE (R399). -/
def execFlrInitiate (s : State) : Host.Outcome State Fault Refusal := done (s.live State.flrStart)

/-- FLR_COMPLETE (R399): every tag is free. -/
def execFlrComplete (s : State) : Host.Outcome State Fault Refusal :=
  done (s.live fun s => s.whenTrue (s.quo.flr.isSome && s.quo.tags.isEmpty) State.flrEnd)

/-! Drains (R392 to R394). -/

/-- `QUO_DRAIN_CTL.GO` written 1. -/
def State.drainStart (s : State) : State :=
  if s.quo.drain.isSome then s.setBit QUO_ERR_DRAIN_BUSY 0 0 0
  else if s.quarTags ≠ 0 then s
  else if ¬ s.busMaster then s.modQuo (fun q => { q with drainStatus := (2, 0) })
  else
    let d : Drain := ⟨s.rawF QUO_DRAIN_CTL_REGION 0 0 0, s.rawF QUO_DRAIN_CTL_START 0 0 0,
      s.rawF QUO_DRAIN_CTL_COUNT 0 0 0, 0, s.uptime⟩
    s.modQuo (fun q => { q with drain := some d })

/-- DRAIN_START (R392). -/
def execDrainStart (s : State) : Host.Outcome State Fault Refusal := done (s.host State.drainStart)

/-- An item as sixteen 32-bit words. -/
def State.itemDwords (s : State) (region n : Nat) : List Nat :=
  (List.range 8).flatMap (fun w => [s.itemWord region n w % 2 ^ 32, s.itemWord region n w / 2 ^ 32 % 2 ^ 32])

/-- The item writes of a drain, at most `per` items each, none across a 4 KiB boundary (R392, R394). -/
def State.itemWrites (s : State) (region per : Nat) : Nat → Nat → Nat → Nat → List HostWrite
  | 0, _, _, _ => []
  | fuel + 1, addr, i, left =>
    if left = 0 then []
    else
      let k := max 1 (min left (min per ((4096 - addr % 4096) / 64)))
      ⟨addr, (List.range k).flatMap (fun j => s.itemDwords region (i + j)), s.relaxed⟩ ::
        State.itemWrites s region per fuel (addr + 64 * k) (i + k) (left - k)

/-- The next `n` items of a drain written, read now (R392). -/
def State.drainNext (s : State) (d : Drain) (n : Nat) : State :=
  let ws := s.itemWrites d.region (s.maxPayload / 64) n (64 * (s.rawF QUO_DRAIN_ADDR_ADDR 0 0 0 + d.done))
    (d.start + d.done) n
  s.modQuo (fun q => { q with
    drain := some { d with done := d.done + n, time := if n = 0 then d.time else s.uptime }, out := ws })

/-- The items a drain writes in an RCLK cycle: a free number of those left. -/
def State.drainTick (s : State) : State :=
  match s.quo.drain with
  | some d => if s.quoOut then s.drainNext d (min (d.count - d.done) (Config.drainItems s.uptime)) else s
  | none => s

/-- The completion record of a drain with a status, after the writes `out` presents, and vector 7 (R393). -/
def State.drainRecord (s : State) (d : Drain) (status : Nat) : State :=
  let time := if d.done = 0 then Config.emptyDrainTime s.uptime % 2 ^ 64 else d.time
  let w : HostWrite :=
    ⟨64 * s.rawF QUO_DRAIN_CPL_ADDR 0 0 0, [time % 2 ^ 32, time / 2 ^ 32, d.done, status], false⟩
  (s.modQuo (fun q => { q with drain := none, drainStatus := (status, d.done), out := q.out ++ [w] })).raiseVec 7

/-- The end of a drain: the writes left and the completion record. -/
def State.drainEnd (s : State) (d : Drain) : State :=
  let s1 := s.drainNext d (d.count - d.done)
  s1.drainRecord (s1.quo.drain.getD d) 1

/-- A drain ended by a warm reset (R401). DEDUCED (log 169): of the causes that end a drain early this is the one that
writes a completion record, where the Quoin may issue one. -/
def State.drainAbort (s : State) : State :=
  match s.quo.drain with
  | some d => if s.quoOut then (s.modQuo (fun q => { q with out := [] })).drainRecord d 3 else s.drainStop 3
  | none => s

/-- DRAIN_COMPLETE (R393). -/
def execDrainComplete (s : State) : Host.Outcome State Fault Refusal :=
  done (s.live fun s =>
    match s.quo.drain with
    | some d => s.whenTrue s.quoOut (fun s => s.drainEnd d)
    | none => s)

/-! Export (R395). -/

/-- The number of the next record to export: one already released through `PLB_TAG_RD` is passed over. -/
def State.exportAt (s : State) : Nat := max s.quo.nextExport (s.plb.recNo - s.tagUnread)

/-- A record can be exported: written, and its slot consumed. -/
def State.exportReady (s : State) : Bool :=
  let n := s.exportAt
  decide (s.rawF QUO_EXPORT_CTL_EN 0 0 0 = 1) && s.quoOut &&
  decide (n < s.plb.recNo) &&
  decide ((n % 2 ^ 32 + 2 ^ 32 - s.rawF QUO_EXPORT_CI_CI 0 0 0) % 2 ^ 32 < 2 ^ (s.rawF QUO_EXPORT_CTL_SIZE 0 0 0 + 8))

/-- Record `n` written to its slot, the producer index, the release of the record, and vector 8. -/
def State.exportOne (s : State) (n : Nat) : State :=
  let size := 2 ^ (s.rawF QUO_EXPORT_CTL_SIZE 0 0 0 + 8)
  let w1 : HostWrite :=
    ⟨64 * s.rawF QUO_EXPORT_BASE_BASE 0 0 0 + 64 * (n % size), s.itemDwords 3 (n % 1024), s.relaxed⟩
  let w2 : HostWrite :=
    ⟨8 * s.rawF QUO_EXPORT_CTL_PI_ADDR 0 0 0, [(n + 1) % 2 ^ 32, (n + 1) / 2 ^ 32 % 2 ^ 32], false⟩
  ((s.modQuo (fun q => { q with nextExport := n + 1, out := [w1, w2] })).setF PLB_TAG_RD_RD 0 0 0
    ((n + 1) % 2048)).raiseVec 8

/-- EXPORT_RECORD (R395). -/
def execExportRecord (s : State) : Host.Outcome State Fault Refusal :=
  done (s.live fun s => s.whenTrue s.exportReady (fun s => s.exportOne s.exportAt))

/-! MSI-X (R388, R391). -/

/-- A message of a vector may be sent (R391). -/
def State.msixReady (s : State) (v : Nat) : Bool :=
  s.quo.pba.contains v && (s.cfgWord 20).testBit 31 && !(s.cfgWord 20).testBit 30 &&
  decide (s.msixWord (4 * v + 3) % 2 = 0) && s.quoOut

/-- MSIX_SEND (R391). -/
def execMsixSend (vector : Nat) (s : State) : Host.Outcome State Fault Refusal :=
  done (s.live fun s => s.whenTrue (s.msixReady vector) (fun s =>
    s.modQuo (fun q => { q with
      pba := q.pba.filter (fun v => decide (v ≠ vector)),
      out := [⟨s.msixWord (4 * vector) / 4 * 4 + s.msixWord (4 * vector + 1) * 2 ^ 32, [s.msixWord (4 * vector + 2)],
        false⟩] })))

end Sys2Proof.Machine
end

