-- ==== Sys2Proof/Machine/Screed.lean ====
section
/-! DEFINITION. The commands of Screed (R198 to R217): training runs and their steps, periodic retraining and
seam points. What the training hardware measures enters as operands. -/

namespace Sys2Proof.Machine

/-! Commands of the host. -/

/-- `MAP_GEOM` of channel `c` written (R110): step 6 of R405 ends where no populated channel is left to train. -/
def State.geomWrite (s : State) (c : Nat) (w : RegW) : State := ((s.writeGeom c w).walksOn).bootCheck

/-- MAP_GEOM_WRITE (R110). -/
def execMapGeomWrite (chan : Nat) (w : RegW) (s : State) : Host.Outcome State Fault Refusal :=
  done (s.host (fun s => s.geomWrite chan w))

/-- `SCR_CMD.TRAIN` (R217). -/
def State.train (s : State) (c : Nat) (rivals : List KeyAsk := []) : State :=
  if (s.scrState c = 0 ∨ s.scrState c = 4) ∧ s.rawF MAP_GEOM_VALID c 0 0 = 1 ∧ s.warm = 0 ∧
      (s.chan c).rstStep = 0 then s.startRun c 1 rivals
  else s.setBit SCR_ERR_CMD_REFUSED c 0 0

/-- TRAIN (R198, R217). -/
def execTrain (chan : Nat) (s : State) (rivals : List KeyAsk := []) : Host.Outcome State Fault Refusal :=
  done (s.host (fun s => s.whenTrue (s.hasChan chan) (fun s => s.train chan rivals)))

/-- `SCR_CMD.RETRAIN` (R211). -/
def State.retrain (s : State) (c : Nat) : State := s.modScr c (fun x => { x with wantRetrain := true })

/-- RETRAIN (R211). -/
def execRetrain (chan : Nat) (s : State) : Host.Outcome State Fault Refusal :=
  done (s.host (fun s => s.whenTrue (s.hasChan chan) (fun s => s.retrain chan)))

/-- `SCR_CMD.STORE` (R213): ignored unless TRAINED. -/
def State.storeValues (s : State) (c : Nat) : State :=
  if s.scrState c = 2 then s.handValues c else s

/-- STORE (R213). -/
def execStore (chan : Nat) (s : State) : Host.Outcome State Fault Refusal :=
  done (s.host (fun s => s.whenTrue (s.hasChan chan) (fun s => s.storeValues chan)))

/-- A channel starts its first training (R405 step 6): fast resume where it is enabled and its stored values are
valid. `upset` is an error met where the record is read for it (R221, R236). -/
def State.firstRun (s : State) (c : Nat) (rivals : List KeyAsk := []) (upset : Nat := 0) : State :=
  if s.scrState c ≠ 0 then s
  else if s.rawF SCR_CTRL_RESUME_EN c 0 0 = 1 ∧ ¬ s.romFloor then
    let s1 := s.recordUpset 0x10 c upset
    s1.startRun c (if s1.storedValid c then 2 else 1) rivals
  else s.startRun c 1 rivals

/-- `BLK_BOOT.TRAIN_GO` written 1 (R405). -/
def State.trainGo (s : State) (rivals : List KeyAsk := []) (stored : List (Nat × Nat) := []) : State :=
  if s.rawF BLK_BOOT_STEP 0 0 0 ≠ 5 ∨ s.warm ≠ 0 then s
  else
    let s1 := s.setF BLK_BOOT_STEP 0 0 0 6
    ((s1.validChans.foldl (fun t c => t.firstRun c rivals (Tbl.get stored 0 c)) s1).masonsApply).bootCheck

/-- TRAIN_GO (R405). -/
def execTrainGo (s : State) (rivals : List KeyAsk := []) (stored : List (Nat × Nat) := []) :
    Host.Outcome State Fault Refusal :=
  done (s.host (fun s => s.trainGo rivals stored))

/-! Steps. -/

/-- Screed has the maintenance path, asking for it where it does not (R207). -/
def State.scrPath (s : State) (c : Nat) (rivals : List KeyAsk) : State × Bool := s.askPath c (229 + c) rivals

/-- The lanes whose stored delays do not return every pattern (R214 step 3): outside the region that reads, or that
writes. -/
def State.strayLanes (s : State) (c sub : Nat) (e : StepEnd) : Nat :=
  let t := (s.chan c).scr.shadow
  (List.range (s.ranks c)).foldl (fun m r => (List.range 40).foldl (fun m i =>
    if [7, 8].all (fun q => (regionOf e q sub r i).any (fun g =>
      decide (g.1 ≤ Tbl.get t 0 (laneKey q sub r i)) && decide (Tbl.get t 0 (laneKey q sub r i) ≤ g.2)))
    then m else Nat.lor m (2 ^ i)) m) 0

/-- The commands of the checks of a fast resume (R214 steps 3 and 4). -/
def State.resumeCmds (s : State) (c sub : Nat) : State :=
  (s.screedCmds c ((List.range (s.ranks c)).flatMap (fun r => rowPattern sub r ++ [scrCmd .mrr sub r]))).measureCmds c sub

/-- The checks of a fast resume on a subchannel (R214 steps 3 and 4): every lane returns every pattern, and the
measurement clamps nothing. -/
def State.resumeCheck (s : State) (c sub : Nat) (e : StepEnd) : State :=
  let s := s.resumeCmds c sub
  let x := (s.chan c).scr
  let bad := Nat.lor (s.strayLanes c sub e) (s.lostLanes c sub e x.shadow)
  let ds := s.corrections c sub e x.shadow
  if bad ≠ 0 ∨ ds.any (fun d => s.clamps c d.2) then (s.noteRank c sub 9 2 0 bad).attemptFail c
  else
    let s1 := (s.noteRank c sub 9 1 0 0).modScr c (fun y => { y with
      shadow := s.corrected c ds y.shadow, prog := if sub = 0 then (1, y.prog.2) else (y.prog.1, 1) })
    if (s1.chan c).scr.prog = (1, 1) then s1.trainDone c e else s1

/-- The end of a step of a full training on a rank, or of the checks of a fast resume on a subchannel (R201, R205,
R214). -/
def State.stepEnd (s : State) (c sub : Nat) (e : StepEnd) : State :=
  if (s.chan c).scr.passed = 4 then s.resumeCheck c sub e else (s.rankEnd c sub e false).stepJudge c

/-- A full training or fast resume that can end a step: a step runs, or the checks of a fast resume, and step 1
has its calibration engine. -/
def State.stepRuns (s : State) (c : Nat) : Bool :=
  let x := (s.chan c).scr
  (decide (x.run = 1) || decide (x.run = 2)) &&
  (decide (x.passed = 4) || (decide (x.passed = 0) &&
    (decide (s.rawF SCR_STATUS_STEP c 0 0 ≠ 1) || x.zqBusy)))

/-- The attempt's time has run out, or the maintenance path was taken from the run (R204, R207). -/
def State.runLate (s : State) (c : Nat) : Bool :=
  let x := (s.chan c).scr
  x.preempted || decide (x.attAt + nth x.latched 9 * 1000000 ≤ s.uptime)

/-- The clock of the step on the present rank of a subchannel has run out (R204). -/
def State.stepLate (s : State) (c sub : Nat) : Bool :=
  let x := (s.chan c).scr
  decide (x.passed = 0) && decide ((if sub = 0 then x.stepAt.1 else x.stepAt.2) + nth x.latched 8 * 1000000 ≤ s.uptime)

/-- TRAINING_STEP_END (R201, R214): a step whose time has run out does not meet its criterion any more (R204). -/
def execTrainingStepEnd (chan : Nat) (e : StepEnd) (s : State) (sub : Nat := 0) (rivals : List KeyAsk := []) :
    Host.Outcome State Fault Refusal :=
  done (s.live (fun s => s.whenTrue (s.hasChan chan && s.stepRuns chan && !s.runLate chan && !s.stepLate chan sub)
    (fun s =>
      let (s1, ok) := s.scrPath chan rivals
      if ok then s1.stepEnd chan sub e else s1)))

/-- STEP_TIMEOUT (R204, R207): the step ends as TIMEOUT on the present rank of a subchannel, or, where the attempt's
time is over or the path was taken, on all that have not ended it. -/
def execStepTimeout (chan : Nat) (e : StepEnd) (s : State) (sub : Nat := 0) : Host.Outcome State Fault Refusal :=
  done (s.live (fun s => s.whenTrue (s.hasChan chan && s.stepRuns chan) (fun s =>
    if s.runLate chan then
      (if (s.chan chan).scr.passed = 4 then s.attemptFail chan else s.allOut chan e)
    else if s.stepLate chan sub then (s.rankEnd chan sub e true).stepJudge chan
    else s)))

/-! Periodic retraining. -/

/-- The retraining switch (R220): off under profile 10 while the expert bit is 0. -/
def State.retrainOn (s : State) (c : Nat) : Bool :=
  decide (s.fld SCR_RETRAIN_PERIOD c 0 0 ≠ 0) &&
  (s.expert 7 || decide (s.rawF SCR_CTRL_PROFILE c 0 0 ≠ 2))

/-- Retraining was switched, or its period changed (R211): the ticks of the new period count from now. -/
def State.retrainFrom (s old : State) (c : Nat) : State :=
  if s.retrainOn c = old.retrainOn c ∧ s.fld SCR_RETRAIN_PERIOD c 0 0 = old.fld SCR_RETRAIN_PERIOD c 0 0 then s
  else s.modScr c (fun x => { x with lastTick := s.uptime })

/-- A retraining tick lies between the last one handled and now (R211). -/
def State.tickDue (s : State) (c : Nat) : Bool :=
  let p := s.fld SCR_RETRAIN_PERIOD c 0 0 * 1000000
  s.retrainOn c && decide ((s.chan c).scr.lastTick / p < s.uptime / p)

/-- The gate of R211. -/
def State.gateOpen (s : State) (c temp : Nat) : Bool :=
  let x := (s.chan c).scr
  let n := s.fld SCR_RETRAIN_FORCE_N c 0 0
  x.baseline.all (fun b =>
    decide (s.fld SCR_RETRAIN_TEMP_DELTA c 0 0 ≤ (signed8 temp - signed8 b).natAbs)) ||
  decide (s.rawF SCR_STATUS_CLAMPED c 0 0 = 1) || (decide (n ≠ 0) && decide (n ≤ x.sinceMeas)) || x.wantRetrain

/-- Every physical rank is in power-down (R211). -/
def State.allAsleep (s : State) (c : Nat) : Bool :=
  (s.physUnits c).all (fun k => (Tbl.find (s.chan c).pnt.pd k).isSome)

/-- A retraining tick (R211): where an apply run is pending or under way, one seam point of both subchannels serves
both (R217). -/
def State.retrainTick (s : State) (c temp : Nat) (rivals : List KeyAsk := []) : State :=
  let s0 := s.modScr c (fun x => { x with lastTick := s.uptime, sinceMeas := x.sinceMeas + 1 })
  if s.scrState c ≠ 2 ∨ s.lpState c ≠ 0 ∨ s.allAsleep c then s0
  else
    let s1 := s0.setF SCR_STATUS_TEMP c 0 0 temp
    if s0.gateOpen c temp then
      (s1.modScr c (fun x => { x with wantRetrain := false })).startMeasure c 4
        (if (s.chan c).tim.pendTab.isSome then 3 else 1) rivals
    else s1

/-- RETRAIN_TICK (R211). -/
def execRetrainTick (chan temp : Nat) (s : State) (rivals : List KeyAsk := []) : Host.Outcome State Fault Refusal :=
  done (s.live (fun s => s.whenTrue (s.hasChan chan && s.tickDue chan) (fun s => s.retrainTick chan temp rivals)))

/-! Seam points (R209). -/

/-- A measurement that lost the maintenance path ends as TIMEOUT and changes nothing (R207); after A's, B's is still to come
(R211). -/
def State.measureOut (s : State) (c : Nat) : State :=
  let x := (s.chan c).scr
  let s1 := x.runSubs.foldl (fun t sub => t.noteRank c sub 9 3 0 0) s
  if x.quiet = 3 ∨ x.passed = 1 then s1.measureDone c
  else (s1.measureNext c).modScr c (fun y => { y with preempted := false })

/-- The measurement of a retraining or exit correction at its seam point: A, then B, or both at one point where
a table copy waits. CLAMPED says whether this run was clamped (R212). -/
def State.measureSeam (s : State) (c : Nat) (e : StepEnd) : State :=
  let x := (s.chan c).scr
  let a (t : State) : State := (t.setF SCR_STATUS_CLAMPED c 0 0 0).measured c 0 e
  if x.preempted then s.measureOut c
  else if x.quiet = 3 then
    if s.subDrained c 0 ∧ s.subDrained c 1 then
      (((a ((s.shutSub c 0).shutSub c 1)).measured c 1 e).applyTable c).measureDone c
    else s
  else if x.passed = 0 then (if s.subDrained c 0 then (a (s.shutSub c 0)).measureNext c else s)
  else if s.subDrained c 1 then ((s.shutSub c 1).measured c 1 e).measureDone c
  else s

/-- An apply run (R139, R198): begun on both subchannels, and ended once they are drained; it reaches no step, and its
rows read NOT_RUN (R208). -/
def State.applyRun (s : State) (c : Nat) : State :=
  let s1 := if (s.chan c).scr.run = 5 then s
    else ((s.setStale c [0, 1] 1).modScr c (fun x => { x with run := 5, newRes := [] })).pause c 3
  if s1.subDrained c 0 ∧ s1.subDrained c 1 then
    (((((s1.shutSub c 0).shutSub c 1).applyTable c).commitResults c (runRows 5)).modScr c (fun x => { x with run := 0, quiet := 0 })).scrRelease c
  else s1

/-- The seam point that ends steps 0 and 1 of a fast resume (R214 step 2): the stored values are loaded and applied, the
DRAM's own among them (R209 step 7), and the checks begin, which write the training rows (R206). Where the record met an
error on the way (R236) and none is valid any more, the resume has failed (DEDUCED, log 141). -/
def State.resumeSeam (s : State) (c upset : Nat) : State :=
  let s1 := s.recordUpset 0x10 c upset
  if upset = 2 ∧ ¬ s1.storedValid c then s1.attemptFail c
  else ((s1.loseTrainingRows c).modScr c (fun y => { y with
    passed := 4, prog := (0, 0), shadow := s1.storedValues c, active := s1.storedValues c })).dramWrites c

/-- The seam point that the channel's run has come to. -/
def State.seamPoint (s : State) (c : Nat) (e : StepEnd) : State :=
  let x := (s.chan c).scr
  if x.run = 1 ∧ x.passed = 3 then s.trainDone c e
  else if x.run = 2 ∧ x.passed = 3 then s.resumeSeam c e.stored
  else if x.run = 3 ∨ x.run = 4 then s.measureSeam c e
  else if x.run = 5 ∨ (x.run = 0 ∧ (s.chan c).tim.pendTab.isSome ∧ s.scrState c = 2 ∧ s.lpState c = 0) then
    s.applyRun c
  else s

/-- SEAM_POINT (R209): Screed has the maintenance path. -/
def execSeamPoint (chan : Nat) (e : StepEnd) (s : State) (rivals : List KeyAsk := []) : Host.Outcome State Fault Refusal :=
  done (s.live (fun s => s.whenTrue (s.hasChan chan && (decide ((s.chan chan).scr.run ≠ 0) ||
      ((s.chan chan).tim.pendTab.isSome && decide (s.scrState chan = 2) && decide (s.lpState chan = 0)))) (fun s =>
    let (s1, ok) := s.scrPath chan rivals
    if ok then s1.seamPoint chan e else s1)))

end Sys2Proof.Machine
end

