-- ==== Sys2Proof/Machine/Resets.lean ====
section
/-! DEFINITION. Time, clocks and resets (R31 to R34, R44 to R48, R403 to R412): the tick of RCLK, clock faults,
cold, warm and channel reset. -/

namespace Sys2Proof.Machine

/-! RCLK (R31). -/

/-- A port's head request finds no tracker entry (R84, R363). -/
def State.trackerBlocked (s : State) (n : Nat) : Bool :=
  match s.headOf n with
  | none => false
  | some r => match s.locate r with
    | (none, r') => (s.partFor r'.src r'.dest).isNone
    | _ => false

/-- Clocks that have run within range for 1 µs are in range again (R73). -/
def State.clocksReturn (s : State) : State :=
  let s1 := (List.range 12).foldl (fun t n =>
    let p := t.port n
    if (¬ p.clkOk ∨ p.stopped) ∧ p.clkSince + 1000 ≤ t.uptime then
      { t.setPort n { p with clkOk := true, stopped := false, abandoned := false, clkSince := t.uptime } with
        clkBad := t.clkBad.filter (fun d => decide (d ≠ 1 + n)) }
    else t) s
  { s1 with clkBad := s1.clkBad.filter (fun d => decide (d < 13) || s1.bnd.link.contains (d - 13)) }

/-- The 10 ns that channel `c` spends in self-refresh or quiesced by Screed are counted (R363). -/
def State.countTime (s : State) (c : Nat) : State :=
  let s1 := if s.lpState c = 2 then s.count 0x1B c Ev.nothing else s
  if s.quiesced c 0 ∨ s.quiesced c 1 then s1.count 0x1C c Ev.nothing else s1

/-- One cycle of RCLK (R31, R33). Power-down is counted up to the edge, so that a freeze or clear parts it there (R366);
DEDUCED (log 161): up to the channel's last CCLK cycle seen. -/
def State.rclkTick (s : State) : State :=
  if s.rclkLost then s
  else
    let s1 := { s with uptime := s.uptime + 10 }
    let s2 := (List.range s1.build).foldl (fun t c =>
      (((t.countTime c).patrolPause c 10).srClock c).pdCount c (t.chan c).now) s1
    let s3 : State := if (List.range 12).any s2.trackerBlocked then s2.count 0x4A 0 Ev.nothing else s2
    let s4 := if s3.rawF MOR_STATUS_DERATE 0 0 0 = 1 then s3.count 0x4B 0 Ev.nothing else s3
    s4.clocksReturn.rclkEdge s.plb.clearDue

/-- RCLK_CYCLE (R31, R381). -/
def execRclkCycle (s : State) (upsets : List PlbUpset := []) : Host.Outcome State Fault Refusal :=
  done (s.live (fun s =>
    if s.rclkLost then s.rclkTick else ((upsets.foldl State.plbUpset s).drainTick).rclkTick))

/-! Clock faults (R32 to R34). -/

/-- A report of the clock monitor (R345): the domain number stands in the address. -/
def State.clockReport (s : State) (sev kind domain : Nat) : State :=
  s.reportUnit 111 sev 0 13 kind (some domain)

/-- The fatal output asserted by the monitor itself; no FATAL record is stored (R33, R233). -/
def State.clockFatal (s : State) : State :=
  ({ s with fatal := true }).modPln (fun p => { p with fatalDone := true })

/-- A fault of a port's HCLK: the monitor ignores a closed port (R35). A clock that stops makes the port abandon its
requests (R73), once for each stop, be the port opened only after it; one that runs out of range fences it under R65
(R64). Each is reported once until the clock is back in range. -/
def State.hclkFault (s : State) (n : Nat) (stopped : Bool) : State :=
  let p := s.port n
  let s1 := s.setPort n { p with clkSince := s.uptime, stopped := p.stopped || stopped }
  if p.st = 0 then s1
  else
    let s2 := if s.clkBad.contains (1 + n) then s1
      else ({ s1 with clkBad := (1 + n) :: s1.clkBad }).clockReport 2 0 (1 + n)
    let s3 := s2.setPort n { s2.port n with clkOk := false }
    if stopped then (if p.abandoned then s3 else s3.abandon n)
    else if s.clkBad.contains (1 + n) then s3 else (s3.fencePort n).settle

/-- A fault of a peer port's PCLK acts as a fall of its link (R32, R336). -/
def State.pclkFault (s : State) (p : Nat) : State :=
  if ¬ s.bnd.link.contains p ∨ s.clkBad.contains (13 + p) then s
  else (({ s with clkBad := (13 + p) :: s.clkBad }).clockReport 2 0 (13 + p)).linkLow p

/-- `CLOCK_FAULT` of a domain (R32): the clock shows no edge, or, not `stopped`, runs out of range. -/
def State.clockFault (s : State) (d : Nat) (stopped : Bool) : State :=
  if d = 0 then
    (if s.clkBad.contains 0 then s else (({ s with clkBad := 0 :: s.clkBad }).clockReport 3 0 0).clockFatal)
  else if d < 13 then s.hclkFault (d - 1) stopped
  else if d < 15 then s.pclkFault (d - 13)
  else s

/-- CLOCK_FAULT (R32). -/
def execClockFault (domain : Nat) (s : State) (stopped : Bool := true) : Host.Outcome State Fault Refusal :=
  done (s.live fun s => s.clockFault domain stopped)

/-- The performed requests of a channel, each answered with its own write status. -/
def State.fixWritten (s : State) (c : Nat) : State :=
  (s.reqs.filter (fun r => r.onChan c && r.hasEntry && r.performed && !r.status.isSome)).foldl
    (fun t r => t.fix r.rid r.writeStatus 0) s

/-- Step 3 for a channel that skips its entry: one whose PLL lost lock is UNTRAINED afterwards, any other keeps
its Screed state. -/
def State.resetPlain (s : State) (c : Nat) : State :=
  let s1 := s.chanLogic c
  let s2 := if (s.chan c).pllLost then
      let t := if s1.pntHolds c then s1.freePath c else s1
      ((t.setScrState c 0).setF PNT_STATUS_LPSTATE c 0 0 4).modPnt c (fun p => { p with
        sr := [], srWhy := 0, srStep := 0 })
    else s1
  s2.modChan c (fun x => { x with fenced := false, pllLost := false, rstStep := 3 })

/-- The loss of lock of channel `c`'s PLL (R34): performed requests complete with their own status, all others
FENCED, and the DRAM contents are lost. A channel reset in its step 2 goes on as one that skips its entry (R410), DEDUCED
(log 163) and one in its step 4 as one that skips its exit. -/
def State.pllLoss (s : State) (c : Nat) : State :=
  let s1 := (s.scrErr c SCR_ERR_PLL_LOCK 6 2).abortRun c
  let s2 := s1.modChan c (fun x => { x with
    pllLost := true, fenced := true, tim := { x.tim with bursts := [] } })
  let s3 := { s2 with dram := Tbl.keep (fun k => decide (k / 2 ^ 48 ≠ c)) s2.dram }
  let s4 := (s3.fixWritten c).fixAll (fun r => r.onChan c && r.hasEntry && !r.status.isSome) .fenced
  ((if (s.chan c).rstStep = 1 ∨ (s.chan c).rstStep = 2 then s4.resetPlain c else s4).settle).bootCheck

/-- A PLL that runs and has not lost lock yet. -/
def State.pllRuns (s : State) (c : Nat) : Bool :=
  s.hasChan c && !(s.chan c).pllLost && !(s.chan c).pnt.pllOff &&
  (s.isTrained c || decide (s.scrState c = 1) || decide (s.scrState c = 5))

/-- PLL_LOSS_OF_LOCK (R34). -/
def execPllLossOfLock (chan : Nat) (s : State) : Host.Outcome State Fault Refusal :=
  done (s.live fun s => s.whenTrue (s.pllRuns chan) (fun s => s.pllLoss chan))

/-- The loss of RCLK (R33): uptime stops, a Plinth store is cut (R48), every PLL loses lock. -/
def State.rclkLoss (s : State) : State :=
  if s.rclkLost then s
  else
    let s1 := (({ s with rclkLost := true }).clockReport 3 1 15).clockFatal
    let s2 := s1.rowCut.modPln (fun p => { p with stores := [], row := none, tries := 0, dropping := false, cmd := none })
    (List.range s2.build).foldl (fun t c => if t.pllRuns c then t.pllLoss c else t) s2

/-- RCLK_LOSS (R33). -/
def execRclkLoss (s : State) : Host.Outcome State Fault Refusal := done (s.live State.rclkLoss)

/-! Cold reset (R44, R46, R403, R405). -/

/-- The macro in cold reset: everything at its reset value but the build, the rows of Plinth (the one being written is cut), the DIMMs
outside the macro, and the model's own queue. -/
def State.coldAssert (s : State) : State :=
  { State.reset with
    build := s.build, pair := s.pair, pending := s.pending, pln := { PlnSt.init with
      rows := s.rowCut.pln.rows, bad := s.rowCut.pln.bad, handed := s.pln.handed },
    chans := Tbl.mapSet (fun _ => Chan.init) (fun _ x => { Chan.init with dimm := x.dimm }) s.chans }

/-- COLD_RESET_ASSERT (R44, R48). -/
def execColdResetAssert (s : State) : Host.Outcome State Fault Refusal := done s.coldAssert

/-- The straps and fuses as they are sampled (R47). -/
def sampled (x : Straps) : Straps :=
  { x with node := x.node % 64, keyDigest := x.keyDigest % 2 ^ 384, nonce := x.nonce % 2 ^ 32, vcoreMv := x.vcoreMv % 1024 }

/-- The release of cold reset (R405): the straps and the first measurement of R96, then step 2, which Plinth's CYCLE
store ends. -/
def State.coldRelease (s : State) (x : Straps) (upset : Nat) (lost : List Nat) : State :=
  let st := sampled x
  let s1 := { s with cold := false, straps := st, uptime := 0, bnd := { s.bnd with nonce := st.nonce } }
  let s2 := (List.range 12).foldl (fun t n => t.setPort n { t.port n with clkOk := true }) s1
  ((s2.firstMeasure st.derate st.vdd st.vcoreMv).setF BLK_BOOT_STEP 0 0 0 2).plinthStart upset lost

/-- COLD_RESET_RELEASE (R405): `corr` says that the start-up reading corrected words, `lost` which rows it could not
correct (R221, R236). -/
def execColdResetRelease (straps : Straps) (s : State) (corr : Bool := false) (lost : List Nat := []) : Host.Outcome State Fault Refusal :=
  done (s.whenTrue s.cold (fun s => s.coldRelease straps (b2n corr) lost))

/-! Self-refresh under a reset (R175). -/

/-- Self-refresh entry for a reset of cause `why`: one already begun serves it, and a channel that is in
self-refresh stays there. A path that Pointing already holds for it is an emergency hold from now on (R170). -/
def State.srForce (s : State) (c why : Nat) : State :=
  let s0 := if s.pntHolds c then s.setHolder c (some 256) else s
  if s.lpState c = 1 then s0.modPnt c (fun p => { p with srWhy := why })
  else if (s.physUnits c).all (fun k => (s.chan c).pnt.sr.contains k) then
    (s0.setF PNT_STATUS_LPSTATE c 0 0 2).modPnt c (fun p => { p with srWhy := why })
  else s0.srBegin c why

/-! Warm reset (R45, R409). -/

/-- A Mason halted at step 1 (R264): its results are discarded on arrival. -/
def Mason.warmHalt (x : Mason) : Mason :=
  { x with st := 0, outs := [], waitEnd := none, haltDue := false, stalled := false, dbgDue := false, dbgFrom := 0, dbgStep := false,
           asked := false }

/-- Step 1 of R45: the request is latched, Screed stops, a replay is abandoned (R157), Masons halt, Buttress's timers and
sweep stop, a drain ends. -/
def State.warmRequest (s : State) : State :=
  let step := s.rawF BLK_BOOT_STEP 0 0 0
  let s1 := { s with warm := 1, warmAt := if step = 9 then s.warmAt else step }
  let s2 := (List.range s1.build).foldl (fun t c => ((t.abortRun c).endReplay c).modChan c (fun x =>
    { x with wasTrained := (t.abortRun c).isTrained c && !x.pllLost })) s1
  let s3 := (List.range s2.masonCount).foldl (fun t m => (t.abortTags (.mason m)).modMason m Mason.warmHalt) s2
  (s3.modBut (fun b => { b with paused := true, pass := none, deferred := false, unsafeUntilPass := true })).drainAbort

/-- WARM_RESET_REQUEST (R45, R48): a second edge has no effect. -/
def execWarmResetRequest (s : State) : Host.Outcome State Fault Refusal :=
  done (s.live fun s => s.whenTrue (decide (s.warm = 0)) State.warmRequest)

/-- Every request sent to another node completes REMOTE_TIMEOUT, and its tag is quarantined (R333, R337); a tag taken for
one not yet sent is freed as that is answered. -/
def State.remoteOut (s : State) : State :=
  let till := s.uptime + 4 * s.bondTimeoutNs
  let rids := (s.bnd.tags.filter (fun e => !e.2.quar && e.2.live)).map (fun e => e.2.rid)
  let s1 := s.modBnd (fun b => { b with
    tags := Tbl.mapVal (fun _ t => if t.quar ∨ ¬ t.live then t else { t with quar := true, ends := till }) b.tags })
  s1.fixAll (fun r => rids.contains r.rid && !r.status.isSome) .remoteTimeout

/-- Step 2 of R45 ends: what was not issued is answered FENCED, and the FLUSHes whose scope is empty then
complete (R87). -/
def State.answerAll (s : State) : State :=
  ((s.fixAll (fun r => !r.status.isSome && !(r.op == .flush && r.hasEntry)) .fenced).fixAll
    (fun r => !r.status.isSome && r.entryBad) .poison).fixAll (fun r => !r.status.isSome) .ok

/-- The tracker emptied (R45 step 2, R95): the port completions still offered hold no entry any more, and what was to
go to a Mason or to the hods goes nowhere, its tag record ABORTED (R369). -/
def State.freeEntries (s0 : State) : State :=
  let s := (s0.reqs.filter (fun r => r.port?.isNone)).foldl (fun t r => t.tagDone r true) s0
  { s with reqs := (s.reqs.filter (fun r => r.port?.isSome)).map (fun r =>
      { r with part := none, stage := if r.status.isSome then .answeredAtPort else r.stage }) }

/-- A request that step 2 of R45 waits for: its read is out, or its channel is awake and can still complete it. DESIGN
CHOICE (log 124): what a sleeping channel still has to issue is answered FENCED instead, since nothing of it can reach
DRAM. -/
def State.drainWaits (s : State) (r : Req) : Bool :=
  match r.chan with
  | none => false
  | some c => r.underWay &&
    (r.lines.any (fun l => decide (l.stage = .reading)) || (s.chanServes c && decide (s.lpState c = 0)))

/-- Steps 2 and 3 of R45. -/
def State.warmDrain (s : State) : State :=
  let s1 := { s.remoteOut.answerAll.freeEntries with warm := 2 }
  (List.range s1.build).foldl (fun t c => if (t.chan c).wasTrained then t.srForce c 3 else t) s1

/-- WARM_RESET_DRAIN_DONE (R45): nothing issued to DRAM is unfinished. -/
def execWarmResetDrainDone (s : State) : Host.Outcome State Fault Refusal :=
  done (s.live fun s => s.whenTrue (decide (s.warm = 1) &&
    !s.reqs.any s.drainWaits) State.warmDrain)

/-- The RW fields, and the RO fields that no reset table names, that warm reset returns to their reset values (R15, R74,
R111, R134, R158, R178, R197, R264, R316, R358, R382, R426). -/
def warmFields : List Field :=
  [HDR_CTRL_OPEN, MOR_CTRL_RSV_PROFILE, MAP_CTRL_PROFILE, SET_CTRL_PROFILE, SET_QID_SEL_QID, GAU_CTRL_PROFILE,
   GAU_SEL_QID, TIM_CTRL_BIN, TIM_ISSUE_POLICY, PNT_CTRL_SR_REQ, PNT_CTRL_LP, PNT_CTRL_PROT, PNT_CTRL_MODE,
   ASH_CTRL_PROFILE, ASH_INIT_COUNT, ASH_INIT_START_OFF, MAS_GLOBAL_PROFILE, MAS_IMG_ADDR_ADDR, TPL_CTRL_PROFILE,
   HOD_CTRL_PROFILE, KEY_CTRL_PROFILE, KEY_HOST_CNT_COUNT, KEY_ERR_SLOT, BUT_CTRL_PROFILE, PLB_CTRL_FREEZE, PLB_CTRL_PROFILE,
   BUT_SAFETY_FAIL_SRC, DST_CTRL_FREEZE, DST_CURSOR_REGION, DST_CURSOR_AUTOINC, DST_CURSOR_INDEX]

/-- The registers whose RWX fields warm reset returns to their reset values (R74, R158, R264). -/
def warmXRegs : List RegAt := [HDR_CREDIT_CFG, TIM_ISSUE, MAS_CTRL, TPL_CFG]

/-- The key is that of an instance of one of the fields. -/
def keyOf (fs : List Field) (k : Nat) : Bool :=
  fs.any (fun f => decide (k % 64 = f.lo) && (f.reg.at (k / 64)).isSome)

/-- The register file after step 4 of R45. -/
def State.warmRegs (s : State) : State :=
  { s with
    regs := Tbl.keep (fun k => !keyOf warmFields k) s.regs,
    xregs := Tbl.keep (fun k => !warmXRegs.any (fun r => (r.at (k / 64)).isSome)) s.xregs,
    frozen := Tbl.del s.frozen (TPL_CTRL_PROFILE.key 0 0 0) }

/-- A channel after step 4 of R45: its logic reset, its channel reset over, its path released (R313) but by the emergency
hold that R170 keeps across self-refresh, NORMAL refresh asked for. -/
def State.warmChan (s : State) (c : Nat) : State :=
  let s1 := s.chanLogic c
  let s2 := if (s1.chan c).mntHolder = some 256 then s1 else (s1.loseHold c).freePath c
  s2.modChan c (fun x => { x with
    rstStep := 0,
    set := { x.set with rrHeld := [] },
    pnt := { x.pnt with
      modePend := if s2.refMode c = 0 then none else some 0, modeWritten := [] } })

/-- What waits in Bond is gone at a warm reset: flits leave their receive buffers (R318), and the tag records of completions
end ABORTED (R369, R380). -/
def State.bondEmptied (s : State) : State :=
  let s1 := s.bnd.rxq.foldl (fun t q => q.2.foldl (fun t e => t.creditBack q.1 e.msg (opcFlits e.msg.opc)) t) s
  s1.bnd.txq.foldl (fun t q => q.2.foldl (fun t e => t.txLeave false e) t) s1

/-- Bond after step 4 of R45 (R337): what it learned is gone; links, credits, pinned routes and quarantined tags
stay. -/
def State.warmBond (s0 : State) (nonce : Nat) : State :=
  let s := s0.bondEmptied
  let keep := Tbl.keep s.pinned s.bnd.routes
  s.modBnd (fun b => { BndSt.init with
    nonce := nonce % 2 ^ 32, link := b.link, held := b.held, txCred := b.txCred, rxCred := b.rxCred, tags := b.tags,
    sent := b.sent, routes := keep, routeAt := s.uptime })

/-- The units under step 4 of R45. -/
def State.warmUnits (s : State) (nonce : Nat) : State :=
  let s1 := { s.reqs.foldl (fun t r => t.tagDone r true) s with reqs := [] }
  let s2 := { s1.warmRegs with
    ports := Tbl.mapSet (fun _ => PortSt.init) (fun _ p => { PortSt.init with
      clkOk := p.clkOk, clkSince := p.clkSince, stopped := p.stopped, lastCpl := p.lastCpl }) s1.ports }
  let s3 := (List.range s2.build).foldl State.warmChan s2
  let s4 := (List.range s3.masonCount).foldl (fun t m => t.modMason m (fun x =>
    { s3.masonCleared x 0 with asked := false })) s3
  let s5 := ({ s4 with
    hods := [],
    key := { s4.key with
      slots := Tbl.mapVal (fun _ k => { k with torn := true, taken := false }) s4.key.slots, losses := [],
      hostRes := none, given := [] } }).hodApplyAll
  (((s5.warmBond nonce).lfsrReloadAll.modPlb (fun p => { p with
    stopped := false, clearDue := false, ctlOld := [] })).modDst (fun d => { d with frozen := false })).dstModeFrom s.dstMode

/-- Step 4 of R45: the internal warm reset, after which `blk_warm_safe` is high; the first measurement after it is made
(R96). -/
def State.warmApply (s : State) (nonce : Nat) (low : Bool := false) (vdd : Nat := 750) (mv : Nat := 750) : State :=
  { (s.warmUnits nonce).firstMeasure low vdd mv with warm := 3, warmSafe := true }

/-- WARM_RESET_APPLIED (R45 step 4): after steps 2 to 4 of the cold start (R412). `low`, `vdd` and `mv` are what the first
measurement of R96 finds. -/
def execWarmResetApplied (nonce : Nat) (s : State) (low : Bool := false) (vdd : Nat := 750) (mv : Nat := 750) :
    Host.Outcome State Fault Refusal :=
  done (s.live fun s => s.whenTrue (decide (s.warm = 2) && decide (s.rawF BLK_BOOT_STEP 0 0 0 ≠ 2) &&
    (List.range s.build).all (fun c => !(s.chan c).wasTrained || decide (s.lpState c = 2)))
    (fun s => s.warmApply nonce low vdd mv))

/-- The exit of a channel from the self-refresh of a warm reset begins (R409 W2). -/
def State.warmExit (s : State) (c : Nat) : State :=
  if (s.chan c).wasTrained then s.exitBegin c else s

/-- Step 5 of R45, W1 to W4 of R409: channels leave self-refresh, Masons and Buttress's timers start again. -/
def State.warmRelease (s : State) : State :=
  let s1 := ({ s with warm := 0, warmSafe := false }).setF BLK_BOOT_STEP 0 0 0 9
  let s2 := ((List.range s1.build).foldl State.warmExit s1).masonsApply
  let s3 := s2.modBut (fun b => { b with
    paused := false, lastSweep := s2.uptime,
    expiry := Tbl.mapVal (fun _ _ => s2.uptime + s2.graceNs) b.expiry })
  (if 0 < s3.sweepMs then s3.passStart else s3).bootCheck

/-- WARM_RESET_RELEASE (R409). -/
def execWarmResetRelease (s : State) : Host.Outcome State Fault Refusal :=
  done (s.live fun s => s.whenTrue (decide (s.warm = 3)) State.warmRelease)

/-! Channel reset (R410). -/

/-- A channel reset begins (R410 steps 1 and 2): what was not issued is answered FENCED, a run of Screed stops
(R217), a replay is abandoned (R157), and a trained channel goes into self-refresh. A training that it stopped may have
been the last that step 6 of R405 waits for. -/
def State.chanReset (s : State) (c : Nat) : State :=
  let s1 := (s.fixAll (fun r => r.onChan c && r.hasEntry && !r.status.isSome && !r.begun) .fenced).abortRun c |>.endReplay c
  let s2 :=
    if s1.isTrained c ∧ ¬ (s1.chan c).pllLost then
      let t := (s1.modChan c (fun x => { x with rstStep := 1 })).srForce c 4
      if t.lpState c = 2 then t.resetExit c else t
    else s1.resetPlain c
  s2.settle.bootCheck

/-- Bit `c` of GO acts (R410, R412). -/
def State.resetTaken (s : State) (c : Nat) : Bool :=
  let step := s.rawF BLK_BOOT_STEP 0 0 0
  s.hasChan c && decide ((s.chan c).rstStep = 0) && decide (s.warm = 0) && decide (6 ≤ step) && decide (step ≤ 8)

/-- `BLK_CHAN_RST.GO` written. -/
def State.chanResets (s : State) (mask : Nat) : State :=
  (List.range s.build).foldl (fun t c => if mask.testBit c ∧ s.resetTaken c then t.chanReset c else t) s

/-- CHANNEL_RESET (R410). -/
def execChannelReset (mask : Nat) (s : State) : Host.Outcome State Fault Refusal :=
  done (s.host fun s => s.chanResets mask)

/-- CHANNEL_RESET_DONE (R410 steps 4 and 5): the exit correction has ended, or the channel skips it. -/
def execChannelResetDone (chan : Nat) (s : State) : Host.Outcome State Fault Refusal :=
  done (s.live fun s =>
    let x := s.chan chan
    s.whenTrue (s.hasChan chan && (decide (x.rstStep = 3) ||
        (decide (x.rstStep = 2) && decide (s.lpState chan = 0) && decide (x.scr.run = 0)))) (fun s =>
      ((s.modChan chan (fun x => { x with rstStep := 0 })).settle).bootCheck))

end Sys2Proof.Machine
end

