-- ==== Sys2Proof/Machine/Registers.lean ====
section
/-! DEFINITION. Host writes of BAR0 by offset (R14 to R18, R388, R415 to R421) and the writes of `BLK_EXPERT_EN`
(R18, R420). A field without an effect of its own follows its type; any other goes to the operation of its unit. -/

namespace Sys2Proof.Machine

/-! A field by its type (R15, R417). -/

/-- Bits that a write of ones clears. -/
def clearOnes (old ones : Nat) : Nat := Nat.xor old (Nat.land old ones)

/-- `ASH_DEV_CNT` written: a counter clears where the write covers it whole and writes all ones to it. -/
def clearCounters (w : RegW) (f : Field) (old : Nat) : Nat :=
  ((List.range 10).map (fun d =>
    let lo := f.lo + 6 * d
    let hit := decide (nfield w.mask lo 6 = 63) && decide (nfield w.val.toNat lo 6 = 63)
    if hit then 0 else nfield old (6 * d) 6 * 2 ^ (6 * d))).sum

/-- A field written as its type says. -/
def State.writeField (s : State) (f : Field) (i j k : Nat) (w : RegW) : State :=
  if ¬ w.covers f then s
  else match f.ty with
    | .ro => s
    | .wo => s
    | .rwsRo => s
    | .rw => s.setF f i j k (w.merge f (s.rawF f i j k))
    | .rws => s.setF f i j k (w.merge f (s.rawF f i j k))
    | .rw1c => s.setF f i j k (clearOnes (s.rawF f i j k) (w.bits f))
    | .rws1c => s.setF f i j k (clearOnes (s.rawF f i j k) (w.bits f))
    | .rwsOnes => if w.coversAll f ∧ w.bits f = 2 ^ f.width - 1 then s.setF f i j k 0 else s
    | .devCnt => s.setF f i j k (clearCounters w f (s.rawF f i j k))
    | .rwx => if s.expert f.fn then s.setX f i j k (w.merge f (s.fld f i j k)) else s

/-- Every field of a register written as its type says. -/
def State.writePlain (s : State) (fs : List Field) (i j k : Nat) (w : RegW) : State :=
  fs.foldl (fun t f => t.writeField f i j k w) s

/-- `f` where a one-bit command field is written 1. -/
def State.onOne (s : State) (w : RegW) (f : Field) (g : State → State) : State := s.whenTrue (decide (w.bits f = 1)) g

/-- `f` with the field's new value, where the write covers it. -/
def State.onCover (s : State) (w : RegW) (f : Field) (old : Nat) (g : State → Nat → State) : State :=
  if w.covers f then g s (w.merge f old) else s

/-! Ports and Mortar. -/

/-- `HDR_CREDIT_CFG` of port `n` written: the credits are clamped (R75). -/
def State.creditWrite (s : State) (n : Nat) (w : RegW) : State :=
  if ¬ s.expert 0 then s
  else
    let s1 := s.writePlain [HDR_CREDIT_CFG_STALL_LIMIT, HDR_CREDIT_CFG_WD_LIMIT] n 0 0 w
    let s2 := s1.onCover w HDR_CREDIT_CFG_WD_CREDITS (s1.fld HDR_CREDIT_CFG_WD_CREDITS n 0 0) (fun t v =>
      t.setX HDR_CREDIT_CFG_WD_CREDITS n 0 0 (max 16 (min 512 v)))
    let others := ((List.range 12).map (fun m => if m = n then 0 else s.fld HDR_CREDIT_CFG_REQ_CREDITS m 0 0)).sum
    s2.onCover w HDR_CREDIT_CFG_REQ_CREDITS (s2.fld HDR_CREDIT_CFG_REQ_CREDITS n 0 0) (fun t v =>
      t.setX HDR_CREDIT_CFG_REQ_CREDITS n 0 0 (min (2048 * s.build - others) (max 64 (min 4096 v))))

/-- `MOR_RSV_CFG` of a partition written: values above 512 are read as 512. -/
def State.rsvWrite (s : State) (c : Nat) (w : RegW) : State :=
  [MOR_RSV_CFG_MASON_RSV, MOR_RSV_CFG_BOND_RSV].foldl (fun t f =>
    if t.expert 2 then t.onCover w f (t.fld f c 0 0) (fun t v => t.setX f c 0 0 (min 512 v)) else t) s

/-- Registers of the ports, the Mortar and the Mapper with effects of their own (R64, R75, R96, R103, R110). -/
def State.writePorts (s : State) (r : RegAt) (fs : List Field) (i : Nat) (w : RegW) : Option State :=
  if r = HDR_CTRL then
    let s1 := s.onCover w HDR_CTRL_OPEN 0 (fun t v => t.portOpen i v)
    some ((s1.onOne w HDR_CTRL_FENCE (fun t => t.portFence i)).onOne w HDR_CTRL_UNFENCE (fun t => t.portUnfence i))
  else if r = HDR_CREDIT_CFG then some (s.creditWrite i w)
  else if r = MOR_CTRL then some ((s.writePlain fs 0 0 0 w).onOne w MOR_CTRL_PEAK_CLR State.peakClr)
  else if r = MOR_RSV_CFG then some (s.rsvWrite i w)
  else if r = MAP_RGN_BASE then some (s.writeRgnBound MAP_RGN_BASE_BASE i w)
  else if r = MAP_RGN_LIMIT then some (s.writeRgnBound MAP_RGN_LIMIT_LIMIT i w)
  else if r = MAP_RGN_CTL then some (s.writeRgnCtl i w).walksOn
  else if r = MAP_GEOM then some (s.geomWrite i w)
  else none

/-! The channel's units. -/

/-- `PNT_CTRL` of channel `c` written (R164, R173, R174). -/
def State.pntCtrlWrite (s : State) (c : Nat) (w : RegW) : State :=
  let s1 := s.writePlain [PNT_CTRL_PROT, PNT_CTRL_LP] c 0 0 w
  let s2 := s1.onCover w PNT_CTRL_MODE (s1.rawF PNT_CTRL_MODE c 0 0) (fun t v => t.modeWrite c v)
  s2.onCover w PNT_CTRL_SR_REQ (s2.rawF PNT_CTRL_SR_REQ c 0 0) (fun t v =>
    if v = 1 then t.srRequest c else t.srExit c)

/-- `ASH_SPARE` written (R193, R197): STATE and FROM are taken as written, and a sparing so restored redirects the rank
to TO as it stands. DEDUCED (log 16). -/
def State.spareWrite (s : State) (c : Nat) (fs : List Field) (w : RegW) : State :=
  let t := s.writePlain fs c 0 0 w
  if (w.covers ASH_SPARE_STATE ∨ w.covers ASH_SPARE_FROM) ∧ t.rawF ASH_SPARE_STATE c 0 0 ≠ 0 then
    (t.modAsh c (fun a => { a with spareTo := t.fld ASH_SPARE_TO c 0 0 })).spareNext c
  else t

/-- Registers of the Setter, the gauge meters, the issuer, Pointing, Ashlar and Screed with effects of their own
(R120, R121, R133, R135, R139, R164, R173, R190, R191, R198, R211, R213). -/
def State.writeChan (s : State) (r : RegAt) (fs : List Field) (i j k : Nat) (w : RegW) : Option State :=
  if r = SET_CTRL then
    let t := s.writePlain fs i 0 0 w
    some (t.weightsFrom s i)
  else if r = SET_QID_CLASS then
    let q := s.rawF SET_QID_SEL_QID i 0 0
    some (s.modChan i (fun x => { x with set := { x.set with
      qidClass := Tbl.set x.set.qidClass 4 q (w.merge SET_QID_CLASS_CLASS (Tbl.get x.set.qidClass 4 q)) } }))
  else if r = SET_CLASS_TABLE then some (if j < 4 then s else (s.writePlain fs i j k w).weightsFrom s i)
  else if r = SET_ERR then
    let t := s.writePlain fs i 0 0 w
    some (if w.bits SET_ERR_RTL = 1 then (t.setF SET_ERR_FIRST_MASON i 0 0 0).setF SET_ERR_RTL_COUNT i 0 0 0 else t)
  else if r = GAU_RATE then some (s.gauRate i w)
  else if r = GAU_BURST then some (s.gauBurst i w)
  else if r = GAU_CMD then
    some ((s.onOne w GAU_CMD_REFILL (fun t => t.gauRefill i)).onOne w GAU_CMD_REFILL_ALL (fun t => t.gauRefillAll i))
  else if r = TIM_ERR then
    some ((s.writePlain fs i j k w).onOne w TIM_ERR_REPLAY (fun t => t.setF TIM_ERR_REPLAY_COUNT i 0 0 0))
  else if r = TIM_CTRL then some ((s.writePlain fs i j k w).onOne w TIM_CTRL_APPLY (fun t => t.timApply i))
  else if r = PNT_CTRL then some (s.pntCtrlWrite i w)
  else if r = PNT_PROT then some ((s.writePlain fs i j k w).raaCheck s i)
  else if r = ASH_INIT then some ((s.writePlain fs i j k w).onOne w ASH_INIT_START (fun t => t.initStart i))
  else if r = ASH_SPARE then some (s.spareWrite i fs w)
  else if r = ASH_THRESH then some (s.threshWrite i j w)
  else if r = ASH_MARK then some (s.markWrite i j w)
  else if r = SCR_CTRL ∨ r = SCR_RETRAIN then some ((s.writePlain fs i j k w).retrainFrom s i)
  else if r = SCR_CMD then
    some (((s.onOne w SCR_CMD_TRAIN (fun t => t.train i)).onOne w SCR_CMD_RETRAIN (fun t => t.retrain i)).onOne w
      SCR_CMD_STORE (fun t => t.storeValues i))
  else none

/-! Plinth, the Masons, the hods and the Keystone. -/

/-- `KEY_HOST_REQ` written (R312): a write that covers OP performs it. -/
def State.hostReqWrite (s : State) (w : RegW) : State :=
  if ¬ w.covers KEY_HOST_REQ_OP then s
  else match w.bits KEY_HOST_REQ_OP with
    | 1 => s.hostLock (w.bits KEY_HOST_REQ_BASE)
    | 2 => s.hostUnlock (w.bits KEY_HOST_REQ_SLOT)
    | _ => s.hostOther

/-- Registers of Plinth, the Masons, the hods and the Keystone with effects of their own (R234, R260, R261, R264,
R306, R308, R310, R312, R314). The commands of `KEY_MNT_CMD` are rows of their own. -/
def State.writeEngines (s : State) (r : RegAt) (fs : List Field) (i j k : Nat) (w : RegW) : Option State :=
  if r = PLN_CMD then some (s.plnCommand w 0)
  else if r = MAS_CTRL then some ((s.writePlain fs i j k w).masonFollow i)
  else if r = MAS_CMD then some (s.onOne w MAS_CMD_RESET (fun t => t.masonReset i))
  else if r = MAS_GLOBAL then
    some (s.onCover w MAS_GLOBAL_PROFILE (s.rawF MAS_GLOBAL_PROFILE 0 0 0) (fun t v => t.masProfileWrite v))
  else if r = MAS_IMG_CMD then
    some (s.onOne w MAS_IMG_CMD_GO (fun t =>
      t.imgStart (w.bits MAS_IMG_CMD_OP) (w.bits MAS_IMG_CMD_KIND) (w.bits MAS_IMG_CMD_LEN)))
  else if r = HOD_CFG then some (s.hodCfgWrite i false w)
  else if r = HOD_CARVE then some (s.hodCfgWrite i true w)
  else if r = HOD_CTRL then some ((s.writePlain fs i j k w).hodApplyAll)
  else if r = KEY_CMD then
    some (s.onOne w KEY_CMD_CLEAR_TORN (fun t => t.clearTorn (w.bits KEY_CMD_SLOT)))
  else if r = KEY_HOST_REQ then some (s.hostReqWrite w)
  else if r = KEY_MNT_CTRL then
    some (((s.writePlain fs i j k w).onOne w KEY_MNT_CTRL_REQ (fun t => t.mntReq i)).onOne w KEY_MNT_CTRL_RELEASE
      (fun t => t.mntRelease i))
  else none

/-! Bond, Buttress, Plumb and the Datestone. -/

/-- `BUT_SRC` of source `n` written (R343, R348). -/
def State.srcWrite (s : State) (fs : List Field) (n : Nat) (w : RegW) : State :=
  let s1 := s.writePlain fs n 0 0 w
  let s2 := if w.coversAll BUT_SRC_COUNT ∧ w.bits BUT_SRC_COUNT = 2 ^ 16 - 1 then s1.setF BUT_SRC_SEV_MAX n 0 0 0 else s1
  s2.onOne w BUT_SRC_FORCE (fun t => t.forceReport n (w.bits BUT_SRC_FORCE_SEV) false)

/-- VALUE of counter `n` written (R361, R417). -/
def State.cntWrite (s : State) (n : Nat) (w : RegW) : State :=
  s.modPlb (fun p => { p with cnt := Tbl.set p.cnt 0 n (w.merge PLB_CNT_VALUE (Tbl.get p.cnt 0 n)) })

/-- The control register of counter `n` written (R361, R380). -/
def State.cntCtlWrite (s : State) (fs : List Field) (i j n : Nat) (w : RegW) : State :=
  ((s.cntPin n).writePlain fs i j 0 w).onOne w PLB_CNT_CTL_OVF (fun t =>
    t.modPlb (fun p => { p with ovf := p.ovf.filter (fun k => decide (k ≠ n)) }))

/-- `PLB_CTRL` written (R362, R366, R371). -/
def State.plbCtrlWrite (s : State) (w : RegW) : State :=
  let s1 := (s.writePlain [PLB_CTRL_PROFILE] 0 0 0 w).dstModeFrom s.dstMode
  (s1.onCover w PLB_CTRL_FREEZE 0 (fun t v => t.plbFreeze (decide (v = 1)))).onOne w PLB_CTRL_CLEAR State.plbClear

/-- `DST_CMD` written (R372, R374 to R376). -/
def State.dstCmdWrite (s : State) (w : RegW) : State :=
  (((s.onOne w DST_CMD_EXT_CLEAR State.extClear).onOne w DST_CMD_HIST_CLEAR State.histClear).onOne w DST_CMD_LOG_CLEAR
    State.logClear).onOne w DST_CMD_SNAP (fun t => t.trigger 1 0)

/-- Registers of Bond, Buttress, Plumb and the Datestone with effects of their own (R327, R340, R342, R348, R350,
R353, R361, R366, R367, R370, R371, R373, R375). -/
def State.writeFaults (s : State) (r : RegAt) (fs : List Field) (i j k : Nat) (w : RegW) : Option State :=
  if r = BND_CTRL then some ((s.writePlain fs i j k w).resync s)
  else if r = BND_ROUTE then some (s.routeWrite i w)
  else if r = BUT_CFG then
    let t := s.writePlain fs i j k w
    some (if w.covers BUT_CFG_SWEEP_MS ∧ s.expert 14 then t.modBut (fun b => { b with
      lastSweep := s.uptime, deferred := false }) else t)
  else if r = BUT_ACK then
    some (s.onOne w BUT_ACK_ACK (fun t =>
      t.whenTrue (t.hasSource (w.bits BUT_ACK_SOURCE)) (fun t => t.butAck (w.bits BUT_ACK_SOURCE))))
  else if r = BUT_SRC then some (s.srcWrite fs i w)
  else if r = PLB_CTRL then some (s.plbCtrlWrite w)
  else if r = PLB_CNT then some (s.cntWrite (8 * i + j) w)
  else if r = PLB_BCNT then some (s.cntWrite (192 + i) w)
  else if r = PLB_CNT_CTL then some (s.cntCtlWrite fs i j (8 * i + j) w)
  else if r = PLB_BCNT_CTL then some (s.cntCtlWrite fs i 0 (192 + i) w)
  else if r = PLB_TAG_CFG then some (s.tagCfgWrite w)
  else if r = PLB_TAG_RD then some (s.tagRdWrite w)
  else if r = DST_CTRL then
    let t := s.onCover w DST_CTRL_MODE (s.fld DST_CTRL_MODE 0 0 0) (fun t v => t.dstModeWrite v)
    some (t.onCover w DST_CTRL_FREEZE 0 (fun t v => t.dstFreezeWrite (decide (v = 1))))
  else if r = DST_CMD then some (s.dstCmdWrite w)
  else if r = DST_HIST_CFG then some (s.histCfgWrite w)
  else if r = DST_TRIG then some (s.dstTrigWrite w)
  else none

/-! `BLK_EXPERT_EN` (R18, R420, R421). -/

/-- The selectors of a function. -/
def selectorsOf (fn : Nat) : List Field :=
  match fn with
  | 1 => [MAP_CTRL_PROFILE] | 2 => [MOR_CTRL_RSV_PROFILE] | 3 => [SET_CTRL_PROFILE, TIM_CTRL_BIN]
  | 4 => [GAU_CTRL_PROFILE] | 5 => [PNT_CTRL_LP] | 6 => [ASH_CTRL_PROFILE] | 7 => [SCR_CTRL_PROFILE]
  | 8 => [PLN_CTRL_PROFILE] | 9 => [MAS_GLOBAL_PROFILE] | 10 => [TPL_CTRL_PROFILE] | 11 => [HOD_CTRL_PROFILE]
  | 12 => [KEY_CTRL_PROFILE] | 13 => [BND_CTRL_PROFILE] | 14 => [BUT_CTRL_PROFILE] | 15 => [PLB_CTRL_PROFILE]
  | _ => []

/-- The RWX fields that a function's bit gates. -/
def gatedBy (fn : Nat) : List Field :=
  (allRegs.flatMap (fun e => e.2)).filter (fun f => decide (f.ty = .rwx) && decide (f.fn = fn))

/-- The function's basic profile frozen at its present selectors. -/
def State.freezeFn (s : State) (fn : Nat) : State :=
  { s with frozen := (selectorsOf fn).foldl (fun t f =>
      (List.range f.reg.n0).foldl (fun t i => Tbl.set t f.reset (f.key i 0 0) (s.rawF f i 0 0)) t) s.frozen }

/-- The function's expert values and its frozen profile gone. -/
def State.thawFn (s : State) (fn : Nat) : State :=
  { s with
    xregs := Tbl.keep (fun k => !keyOf (gatedBy fn) k) s.xregs,
    frozen := Tbl.keep (fun k => !keyOf (selectorsOf fn) k) s.frozen }

/-- What units do when a function's bit changes: `old` is the state before. -/
def State.expertEffects (s old : State) (fn : Nat) (on : Bool) : State :=
  match fn with
  | 3 => (List.range s.build).foldl (fun t c => ((if on then t else t.timProfile c)).cutDeficits c (fun _ => true)) s
  | 4 => if on then s else (List.range s.build).foldl (fun t c => t.modChan c (fun x => { x with set := { x.set with
      meters := Tbl.mapSet (fun _ => Meter.init) (fun _ m => { m with mode := 0 }) x.set.meters } })) s
  | 5 => (List.range s.build).foldl (fun t c => t.raaCheck old c) s
  | 7 => (List.range s.build).foldl (fun t c => t.retrainFrom old c) s
  | 9 => s.masonsAnew
  | 11 => s.hodApplyAll
  | 13 => if on then s else (s.routesDue).resync old
  | 14 => if on then s else s.modBut (fun b => { b with lastSweep := s.uptime, deferred := false })
  | 15 => ((s.modPlb (fun p => { p with ctlOld := [] })).modDst (fun d => { d with lastPeriod := s.uptime })).dstModeFrom
      old.dstMode
  | _ => s

/-- One bit of `BLK_EXPERT_EN` changes. -/
def State.expertFlip (s : State) (fn : Nat) : State :=
  let on := !s.expert fn
  let s1 := if fn = 15 then s.lfsrPin else s
  let s2 := if on then s1.freezeFn fn else s1.thawFn fn
  (s2.setF BLK_EXPERT_EN_EN 0 0 0 (Nat.xor (s.rawF BLK_EXPERT_EN_EN 0 0 0) (2 ^ fn))).expertEffects s fn on

/-- A write of `BLK_EXPERT_EN`: each changed bit acts as if it alone had changed. -/
def State.expertWrite (s : State) (w : RegW) : State :=
  let new := w.merge BLK_EXPERT_EN_EN (s.rawF BLK_EXPERT_EN_EN 0 0 0)
  (List.range 16).foldl (fun t fn => if new.testBit fn = t.expert fn then t else t.expertFlip fn) s

/-- EXPERT_EN_WRITE (R18, R420). -/
def execExpertEnWrite (w : RegW) (s : State) : Host.Outcome State Fault Refusal :=
  done (s.host fun s => s.expertWrite w)

/-! The Quoin and the block. -/

/-- Registers of the Quoin and the block with effects of their own (R392, R402, R405, R410, R420). -/
def State.writeBlk (s : State) (r : RegAt) (fs : List Field) (i j k : Nat) (w : RegW) : Option State :=
  if r = QUO_DRAIN_CTL then some ((s.writePlain fs i j k w).onOne w QUO_DRAIN_CTL_GO State.drainStart)
  else if r = QUO_IDENT ∨ r = QUO_DSN then
    some (if s.rawF QUO_IDENT_LOCK 0 0 0 = 1 then s else s.writePlain fs i j k w)
  else if r = BLK_BOOT then some (s.onOne w BLK_BOOT_TRAIN_GO (fun t => t.trainGo))
  else if r = BLK_CHAN_RST then some (s.chanResets (w.bits BLK_CHAN_RST_GO))
  else if r = BLK_EXPERT_EN then some (s.expertWrite w)
  else none

/-- The part of an MSI-X table dword that a write keeps (R388, R390). -/
def msixKept (n v : Nat) : Nat := match n % 4 with | 0 => v / 4 * 4 | 3 => v % 2 | _ => v

/-- A write of the MSI-X table at byte offset `o` of it. -/
def State.msixWrite (s : State) (o : Nat) (w : RegW) : State :=
  let n := o / 8 * 2
  let put (s : State) (n v : Nat) : State :=
    s.modQuo (fun q => { q with msix := Tbl.set q.msix (msixReset n) n (msixKept n v) })
  let s1 := if w.lo then put s n (nfield w.val.toNat 0 32) else s
  if w.hi then put s1 (n + 1) (nfield w.val.toNat 32 32) else s1

/-- A register written at instance `(i, j, k)`. -/
def State.writeReg (s : State) (r : RegAt) (fs : List Field) (i j k : Nat) (w : RegW) : State :=
  (((((s.writePorts r fs i w).orElse (fun _ => s.writeChan r fs i j k w)).orElse
    (fun _ => s.writeEngines r fs i j k w)).orElse (fun _ => s.writeFaults r fs i j k w)).orElse
    (fun _ => s.writeBlk r fs i j k w)).getD (s.writePlain fs i j k w)

/-- A write at a slot of BAR0: a register, a Mason's stores, an item port, the MSI-X table, or a reserved offset
(R7, R305, R388, R415). -/
def State.writeOffset (s : State) (o : Nat) (w : RegW) : State :=
  if 0x2000000 ≤ o ∧ o < 0x2C00000 ∧ o % 0x10000 < 0xC000 then
    s.masStoreWrite ((o - 0x2000000) / 0x10000) (o % 0x10000) w
  else if 0x3000000 ≤ o ∧ o < 0x31C0000 ∧ o % 0x1000 < 0x20 then
    (if s.hasHod ((o - 0x3000000) / 0x1000) then s.urSent else s)
  else if 0x3E00000 ≤ o ∧ o < 0x3E00800 then s.msixWrite (o - 0x3E00000) w
  else match regAt o with
    | some (r, fs, i, j, k) => if s.hasUnit r.base i then s.writeReg r fs i j k w else s
    | none => s

/-- A host register write (R386, R389, R396): only `QUO_RELEASE` acts while the Quoin is not NORMAL. -/
def State.regWrite (s : State) (off : Nat) (w : RegW) : State :=
  let o := off / 8 * 8
  if o = QUO_RELEASE.base ∧ w.bits QUO_RELEASE_RELEASE = 1 then s.quoRelease
  else s.hostWrite (fun s => s.writeOffset o w)

/-! The debug port's accesses (R262, R413). -/

/-- The BAR0 offset of the window register of Mason `m` that the debug port numbers 47 to 52 (R413): `MAS_CTRL`, `MAS_CMD`,
`MAS_STATUS`, `MAS_TASK`, `MAS_ERR`, `TPL_CFG`. DEDUCED (log 104). -/
def debugWin (m r : Nat) : Option Nat :=
  ([MAS_CTRL, MAS_CMD, MAS_STATUS, MAS_TASK, MAS_ERR, TPL_CFG][r - 47]?.filter (fun _ => decide (47 ≤ r))).map
    (fun x => x.off m 0 0)

/-- An access of the debug port to a Mason in DEBUG: a register of its window reads and takes a write as it does through
BAR0. -/
def State.debugAccess (s : State) (m : Nat) (a : DbgAccess) : State :=
  let x := s.mason m
  let out (d : BitVec 512) (p : Bool) : State := { s with dbgOut := (d, p) }
  match a with
  | .readReg r => out (((debugWin m r).elim (s.debugReg m r) (fun o => BitVec.ofNat 64 (s.peek o))).setWidth 512) false
  | .writeReg r v =>
    (debugWin m r).elim (s.modMason m (fun x => x.debugPut r v)) (fun o => s.writeOffset o ⟨v, true, true⟩)
  | .readLine l => out (x.line l).data (x.line l).poison
  | .writeLine l v p => s.modMason m (fun x => x.setLine l ⟨v, p, (x.line l).fill⟩)
  | .readTpl e =>
    let t := Tbl.get x.tpl TplEnt.none e
    out (BitVec.ofNat 512 (t.w0.toNat + t.w1.toNat * 2 ^ 64 + t.w2.toNat * 2 ^ 128)) false
  | .writeTpl e w0 w1 w2 => s.modMason m (fun x =>
      x.putTpl e ⟨w0, w1, w2⟩)
  | .readStore i => out ((Tbl.get x.istore 0 i).setWidth 512) false
  | .readScratch p => out (BitVec.ofNat 512 (((List.range 8).map (fun i =>
      (Tbl.get x.scratch 0 (p / 8 * 8 + i)).toNat * 2 ^ (8 * i))).sum)) false

/-- DEBUG_ACCESS (R262): of a Mason in DEBUG. -/
def execDebugAccess (m : Nat) (a : DbgAccess) (s : State) : Host.Outcome State Fault Refusal :=
  done (s.live fun s => s.whenTrue (s.debugOpen m && decide ((s.mason m).st = 4)) (fun s => s.debugAccess m a))

/-! Host writes. -/

/-- REGISTER_WRITE (R15). -/
def execRegisterWrite (off : Nat) (w : RegW) (s : State) : Host.Outcome State Fault Refusal :=
  done (s.live fun s => s.regWrite off w)

end Sys2Proof.Machine
end

