-- ==== Sys2Proof/Machine/Dispatch.lean ====
section
/-! DEFINITION. The meaning of every command: one arm per constructor. -/

namespace Sys2Proof.Machine

def exec (i : Instr) (s : State) : Host.Outcome State Fault Refusal :=
  match i with
  | .coldResetAssert => Sys2Proof.Machine.execColdResetAssert s
  | .coldResetRelease straps corr lost => Sys2Proof.Machine.execColdResetRelease straps s corr lost
  | .warmResetRequest => Sys2Proof.Machine.execWarmResetRequest s
  | .warmResetDrainDone => Sys2Proof.Machine.execWarmResetDrainDone s
  | .warmResetApplied nonce low vdd mv => Sys2Proof.Machine.execWarmResetApplied nonce s low vdd mv
  | .warmResetRelease => Sys2Proof.Machine.execWarmResetRelease s
  | .rclkLoss => Sys2Proof.Machine.execRclkLoss s
  | .clockFault domain stopped => Sys2Proof.Machine.execClockFault domain s stopped
  | .pllLossOfLock chan => Sys2Proof.Machine.execPllLossOfLock chan s
  | .alertNPulse chan cyc width rank => Sys2Proof.Machine.execAlertNPulse chan cyc width rank s
  | .replay chan cyc => Sys2Proof.Machine.execReplay chan cyc s
  | .rdLine p => Sys2Proof.Machine.execRdLine p s
  | .rdPart p => Sys2Proof.Machine.execRdPart p s
  | .wrLine p => Sys2Proof.Machine.execWrLine p s
  | .wrPart p => Sys2Proof.Machine.execWrPart p s
  | .wrZero p => Sys2Proof.Machine.execWrZero p s
  | .atAdd p => Sys2Proof.Machine.execAtAdd p s
  | .atOr p => Sys2Proof.Machine.execAtOr p s
  | .atAnd p => Sys2Proof.Machine.execAtAnd p s
  | .atXor p => Sys2Proof.Machine.execAtXor p s
  | .atSwap p => Sys2Proof.Machine.execAtSwap p s
  | .atCas p => Sys2Proof.Machine.execAtCas p s
  | .atMin p => Sys2Proof.Machine.execAtMin p s
  | .atMax p => Sys2Proof.Machine.execAtMax p s
  | .atUmin p => Sys2Proof.Machine.execAtUmin p s
  | .atUmax p => Sys2Proof.Machine.execAtUmax p s
  | .setad p => Sys2Proof.Machine.execSetad p s
  | .flush p => Sys2Proof.Machine.execFlush p s
  | .reservedOpcode p code => Sys2Proof.Machine.execReservedOpcode p code s
  | .writeDataSlot w => Sys2Proof.Machine.execWriteDataSlot w s
  | .wdTimeout port => Sys2Proof.Machine.execWdTimeout port s
  | .completionAccepted port rid upset same => Sys2Proof.Machine.execCompletionAccepted port rid upset s same
  | .cplStall port rid => Sys2Proof.Machine.execCplStall port rid s
  | .portOpen port => Sys2Proof.Machine.execPortOpen port s
  | .portDrain port => Sys2Proof.Machine.execPortDrain port s
  | .portFence port => Sys2Proof.Machine.execPortFence port s
  | .portUnfence port => Sys2Proof.Machine.execPortUnfence port s
  | .mortarAdmit port upset rivals => Sys2Proof.Machine.execMortarAdmit port upset s rivals
  | .setterEnqueue rid upset => Sys2Proof.Machine.execSetterEnqueue rid upset s
  | .flushComplete rid => Sys2Proof.Machine.execFlushComplete rid s
  | .handshakeStall rid => Sys2Proof.Machine.execHandshakeStall rid s
  | .derateSet vdd mv => Sys2Proof.Machine.execDerateSet s vdd mv
  | .derateClear mv => Sys2Proof.Machine.execDerateClear s mv
  | .peakClr => Sys2Proof.Machine.execPeakClr s
  | .mapRgnCtlWrite entry w => Sys2Proof.Machine.execMapRgnCtlWrite entry w s
  | .mapGeomWrite chan w => Sys2Proof.Machine.execMapGeomWrite chan w s
  | .refillTick => Sys2Proof.Machine.execRefillTick s
  | .gauRefill chan => Sys2Proof.Machine.execGauRefill chan s
  | .gauRefillAll chan => Sys2Proof.Machine.execGauRefillAll chan s
  | .gauRateWrite chan w => Sys2Proof.Machine.execGauRateWrite chan w s
  | .gauBurstWrite chan w => Sys2Proof.Machine.execGauBurstWrite chan w s
  | .queueSample => Sys2Proof.Machine.execQueueSample s
  | .phaseChange chan sub => Sys2Proof.Machine.execPhaseChange chan sub s
  | .act c => Sys2Proof.Machine.execAct c s
  | .rd c => Sys2Proof.Machine.execRd c s
  | .rda c => Sys2Proof.Machine.execRda c s
  | .wr c => Sys2Proof.Machine.execWr c s
  | .wra c => Sys2Proof.Machine.execWra c s
  | .pre c => Sys2Proof.Machine.execPre c s
  | .presb c => Sys2Proof.Machine.execPresb c s
  | .preab c => Sys2Proof.Machine.execPreab c s
  | .refab c => Sys2Proof.Machine.execRefab c s
  | .refsb c => Sys2Proof.Machine.execRefsb c s
  | .rfmab c => Sys2Proof.Machine.execRfmab c s
  | .rfmsb c => Sys2Proof.Machine.execRfmsb c s
  | .mrr c addr data => Sys2Proof.Machine.execMrr c addr data s
  | .mrw c addr data => Sys2Proof.Machine.execMrw c addr data s
  | .mpc c addr data => Sys2Proof.Machine.execMpc c addr data s
  | .sre c => Sys2Proof.Machine.execSre c s
  | .srx c => Sys2Proof.Machine.execSrx c s
  | .pde c => Sys2Proof.Machine.execPde c s
  | .pdx c => Sys2Proof.Machine.execPdx c s
  | .idleCloseExpiry c => Sys2Proof.Machine.execIdleCloseExpiry c s
  | .tableCompare chan upset => Sys2Proof.Machine.execTableCompare chan upset s
  | .timApply chan => Sys2Proof.Machine.execTimApply chan s
  | .refreshTick chan unit cyc => Sys2Proof.Machine.execRefreshTick chan unit cyc s
  | .mr4Poll chan hot rivals => Sys2Proof.Machine.execMr4Poll chan hot s rivals
  | .zqPeriodExpiry c => Sys2Proof.Machine.execZqPeriodExpiry c s
  | .zqcalLatchDue c => Sys2Proof.Machine.execZqcalLatchDue c s
  | .refreshModeWrite chan mode => Sys2Proof.Machine.execRefreshModeWrite chan mode s
  | .refreshModeSwitch chan => Sys2Proof.Machine.execRefreshModeSwitch chan s
  | .trackerHalving chan => Sys2Proof.Machine.execTrackerHalving chan s
  | .coldStartEnd chan => Sys2Proof.Machine.execColdStartEnd chan s
  | .srRequest chan => Sys2Proof.Machine.execSrRequest chan s
  | .srIdleExpiry chan => Sys2Proof.Machine.execSrIdleExpiry chan s
  | .srExitRequest chan => Sys2Proof.Machine.execSrExitRequest chan s
  | .srExitDone chan hot rivals => Sys2Proof.Machine.execSrExitDone chan hot s rivals
  | .burstDecode chan errs upset => Sys2Proof.Machine.execBurstDecode chan errs upset s
  | .sparingDone chan => Sys2Proof.Machine.execSparingDone chan s
  | .patrolLineDue chan => Sys2Proof.Machine.execPatrolLineDue chan s
  | .patrolLate chan => Sys2Proof.Machine.execPatrolLate chan s
  | .counterLeak chan sub => Sys2Proof.Machine.execCounterLeak chan sub s
  | .ashInitStart chan => Sys2Proof.Machine.execAshInitStart chan s
  | .ashInitDone chan => Sys2Proof.Machine.execAshInitDone chan s
  | .ashMarkWrite chan sub w => Sys2Proof.Machine.execAshMarkWrite chan sub w s
  | .ashThreshWrite chan sub w => Sys2Proof.Machine.execAshThreshWrite chan sub w s
  | .train chan rivals => Sys2Proof.Machine.execTrain chan s rivals
  | .retrain chan => Sys2Proof.Machine.execRetrain chan s
  | .store chan => Sys2Proof.Machine.execStore chan s
  | .trainGo rivals stored => Sys2Proof.Machine.execTrainGo s rivals stored
  | .trainingStepEnd chan e sub rivals => Sys2Proof.Machine.execTrainingStepEnd chan e s sub rivals
  | .stepTimeout chan e sub => Sys2Proof.Machine.execStepTimeout chan e s sub
  | .retrainTick chan temp rivals => Sys2Proof.Machine.execRetrainTick chan temp s rivals
  | .seamPoint chan e rivals => Sys2Proof.Machine.execSeamPoint chan e s rivals
  | .plinthStore => Sys2Proof.Machine.execPlinthStore s
  | .plinthRowWriteDone good corr => Sys2Proof.Machine.execPlinthRowWriteDone good s corr
  | .rawRead w upset => Sys2Proof.Machine.execRawRead w upset s
  | .rawWrite w => Sys2Proof.Machine.execRawWrite w s
  | .readRec w upset => Sys2Proof.Machine.execReadRec w upset s
  | .add m upset rd rs1 rs2 => Sys2Proof.Machine.execAdd m upset rd rs1 rs2 s
  | .sub m upset rd rs1 rs2 => Sys2Proof.Machine.execSub m upset rd rs1 rs2 s
  | .and m upset rd rs1 rs2 => Sys2Proof.Machine.execAnd m upset rd rs1 rs2 s
  | .or m upset rd rs1 rs2 => Sys2Proof.Machine.execOr m upset rd rs1 rs2 s
  | .xor m upset rd rs1 rs2 => Sys2Proof.Machine.execXor m upset rd rs1 rs2 s
  | .sll m upset rd rs1 rs2 => Sys2Proof.Machine.execSll m upset rd rs1 rs2 s
  | .srl m upset rd rs1 rs2 => Sys2Proof.Machine.execSrl m upset rd rs1 rs2 s
  | .sra m upset rd rs1 rs2 => Sys2Proof.Machine.execSra m upset rd rs1 rs2 s
  | .slt m upset rd rs1 rs2 => Sys2Proof.Machine.execSlt m upset rd rs1 rs2 s
  | .sltu m upset rd rs1 rs2 => Sys2Proof.Machine.execSltu m upset rd rs1 rs2 s
  | .min m upset rd rs1 rs2 => Sys2Proof.Machine.execMin m upset rd rs1 rs2 s
  | .max m upset rd rs1 rs2 => Sys2Proof.Machine.execMax m upset rd rs1 rs2 s
  | .minu m upset rd rs1 rs2 => Sys2Proof.Machine.execMinu m upset rd rs1 rs2 s
  | .maxu m upset rd rs1 rs2 => Sys2Proof.Machine.execMaxu m upset rd rs1 rs2 s
  | .mul m upset rd rs1 rs2 => Sys2Proof.Machine.execMul m upset rd rs1 rs2 s
  | .mulhu m upset rd rs1 rs2 => Sys2Proof.Machine.execMulhu m upset rd rs1 rs2 s
  | .clz m upset rd rs1 => Sys2Proof.Machine.execClz m upset rd rs1 s
  | .popc m upset rd rs1 => Sys2Proof.Machine.execPopc m upset rd rs1 s
  | .bswap m upset rd rs1 => Sys2Proof.Machine.execBswap m upset rd rs1 s
  | .addi m upset rd rs1 imm => Sys2Proof.Machine.execAddi m upset rd rs1 imm s
  | .andi m upset rd rs1 imm => Sys2Proof.Machine.execAndi m upset rd rs1 imm s
  | .ori m upset rd rs1 imm => Sys2Proof.Machine.execOri m upset rd rs1 imm s
  | .xori m upset rd rs1 imm => Sys2Proof.Machine.execXori m upset rd rs1 imm s
  | .slti m upset rd rs1 imm => Sys2Proof.Machine.execSlti m upset rd rs1 imm s
  | .sltiu m upset rd rs1 imm => Sys2Proof.Machine.execSltiu m upset rd rs1 imm s
  | .slli m upset rd rs1 imm => Sys2Proof.Machine.execSlli m upset rd rs1 imm s
  | .srli m upset rd rs1 imm => Sys2Proof.Machine.execSrli m upset rd rs1 imm s
  | .srai m upset rd rs1 imm => Sys2Proof.Machine.execSrai m upset rd rs1 imm s
  | .shi16 m upset rd rs1 imm => Sys2Proof.Machine.execShi16 m upset rd rs1 imm s
  | .beq m upset rs1 rs2 off => Sys2Proof.Machine.execBeq m upset rs1 rs2 off s
  | .bne m upset rs1 rs2 off => Sys2Proof.Machine.execBne m upset rs1 rs2 off s
  | .blt m upset rs1 rs2 off => Sys2Proof.Machine.execBlt m upset rs1 rs2 off s
  | .bge m upset rs1 rs2 off => Sys2Proof.Machine.execBge m upset rs1 rs2 off s
  | .bltu m upset rs1 rs2 off => Sys2Proof.Machine.execBltu m upset rs1 rs2 off s
  | .bgeu m upset rs1 rs2 off => Sys2Proof.Machine.execBgeu m upset rs1 rs2 off s
  | .jal m upset rd imm => Sys2Proof.Machine.execJal m upset rd imm s
  | .jalr m upset rd rs1 imm => Sys2Proof.Machine.execJalr m upset rd rs1 imm s
  | .lds8 m upset rd rs1 imm => Sys2Proof.Machine.execLds8 m upset rd rs1 imm s
  | .lds4 m upset rd rs1 imm => Sys2Proof.Machine.execLds4 m upset rd rs1 imm s
  | .lds2 m upset rd rs1 imm => Sys2Proof.Machine.execLds2 m upset rd rs1 imm s
  | .lds1 m upset rd rs1 imm => Sys2Proof.Machine.execLds1 m upset rd rs1 imm s
  | .sts8 m upset rs2 rs1 imm => Sys2Proof.Machine.execSts8 m upset rs2 rs1 imm s
  | .sts4 m upset rs2 rs1 imm => Sys2Proof.Machine.execSts4 m upset rs2 rs1 imm s
  | .sts2 m upset rs2 rs1 imm => Sys2Proof.Machine.execSts2 m upset rs2 rs1 imm s
  | .sts1 m upset rs2 rs1 imm => Sys2Proof.Machine.execSts1 m upset rs2 rs1 imm s
  | .lls m upset rd rs1 imm => Sys2Proof.Machine.execLls m upset rd rs1 imm s
  | .sls m upset rs2 rs1 imm => Sys2Proof.Machine.execSls m upset rs2 rs1 imm s
  | .lget m upset rd rs1 k => Sys2Proof.Machine.execLget m upset rd rs1 k s
  | .lput m upset rd rs1 k => Sys2Proof.Machine.execLput m upset rd rs1 k s
  | .lmov m upset rd rs1 => Sys2Proof.Machine.execLmov m upset rd rs1 s
  | .lclr m upset rd => Sys2Proof.Machine.execLclr m upset rd s
  | .lcrc m upset rd rs1 rs2 => Sys2Proof.Machine.execLcrc m upset rd rs1 rs2 s
  | .lsum32 m upset rd rs1 rs2 => Sys2Proof.Machine.execLsum32 m upset rd rs1 rs2 s
  | .lpsn m upset rd rs1 => Sys2Proof.Machine.execLpsn m upset rd rs1 s
  | .ld m upset rd rs1 rt posted size sign off => Sys2Proof.Machine.execLd m upset rd rs1 rt posted size sign off s
  | .st m upset rs2 rs1 rt posted size off => Sys2Proof.Machine.execSt m upset rs2 rs1 rt posted size off s
  | .ll m upset l rs1 rt posted off => Sys2Proof.Machine.execLl m upset l rs1 rt posted off s
  | .sl m upset l rs1 rt posted off => Sys2Proof.Machine.execSl m upset l rs1 rt posted off s
  | .slm m upset l rs1 rt posted rm => Sys2Proof.Machine.execSlm m upset l rs1 rt posted rm s
  | .amoAdd m upset rd rs1 rs2 rt posted wide => Sys2Proof.Machine.execAmoAdd m upset rd rs1 rs2 rt posted wide s
  | .amoOr m upset rd rs1 rs2 rt posted wide => Sys2Proof.Machine.execAmoOr m upset rd rs1 rs2 rt posted wide s
  | .amoAnd m upset rd rs1 rs2 rt posted wide => Sys2Proof.Machine.execAmoAnd m upset rd rs1 rs2 rt posted wide s
  | .amoXor m upset rd rs1 rs2 rt posted wide => Sys2Proof.Machine.execAmoXor m upset rd rs1 rs2 rt posted wide s
  | .amoSwap m upset rd rs1 rs2 rt posted wide => Sys2Proof.Machine.execAmoSwap m upset rd rs1 rs2 rt posted wide s
  | .amoCas m upset rd rs1 rs2 rt posted wide => Sys2Proof.Machine.execAmoCas m upset rd rs1 rs2 rt posted wide s
  | .amoMin m upset rd rs1 rs2 rt posted wide => Sys2Proof.Machine.execAmoMin m upset rd rs1 rs2 rt posted wide s
  | .amoMax m upset rd rs1 rs2 rt posted wide => Sys2Proof.Machine.execAmoMax m upset rd rs1 rs2 rt posted wide s
  | .amoUmin m upset rd rs1 rs2 rt posted wide => Sys2Proof.Machine.execAmoUmin m upset rd rs1 rs2 rt posted wide s
  | .amoUmax m upset rd rs1 rs2 rt posted wide => Sys2Proof.Machine.execAmoUmax m upset rd rs1 rs2 rt posted wide s
  | .amoSetad m upset rd rs1 rs2 rt posted => Sys2Proof.Machine.execAmoSetad m upset rd rs1 rs2 rt posted s
  | .wld m upset rd rs1 imm => Sys2Proof.Machine.execWld m upset rd rs1 imm s
  | .runZero m upset rd rs1 rt posted indiv => Sys2Proof.Machine.execRunZero m upset rd rs1 rt posted indiv s
  | .runFill m upset rd rs1 rs2 rt posted indiv => Sys2Proof.Machine.execRunFill m upset rd rs1 rs2 rt posted indiv s
  | .runCopy m upset rd rs1 rs2 rt posted indiv => Sys2Proof.Machine.execRunCopy m upset rd rs1 rs2 rt posted indiv s
  | .hpushLo m upset rd rs1 rs2 => Sys2Proof.Machine.execHpushLo m upset rd rs1 rs2 s
  | .hpushHi m upset rd rs1 rs2 => Sys2Proof.Machine.execHpushHi m upset rd rs1 rs2 s
  | .hpopLo m upset rd rs1 rt => Sys2Proof.Machine.execHpopLo m upset rd rs1 rt s
  | .hpopHi m upset rd rs1 rt => Sys2Proof.Machine.execHpopHi m upset rd rs1 rt s
  | .hcount m upset rd rs1 => Sys2Proof.Machine.execHcount m upset rd rs1 s
  | .lock m upset rd rs1 rs2 also rivals => Sys2Proof.Machine.execLock m upset rd rs1 rs2 also s rivals
  | .unlock m upset rd rs1 => Sys2Proof.Machine.execUnlock m upset rd rs1 s
  | .fence m upset rd => Sys2Proof.Machine.execFence m upset rd s
  | .eret m upset => Sys2Proof.Machine.execEret m upset s
  | .tend m upset => Sys2Proof.Machine.execTend m upset s
  | .trap m upset rs1 => Sys2Proof.Machine.execTrap m upset rs1 s
  | .wait m upset rs1 => Sys2Proof.Machine.execWait m upset rs1 s
  | .waitExpiry m => Sys2Proof.Machine.execWaitExpiry m s
  | .halt m upset => Sys2Proof.Machine.execHalt m upset s
  | .csrr m upset rd n => Sys2Proof.Machine.execCsrr m upset rd n s
  | .csrw m upset n rs1 => Sys2Proof.Machine.execCsrw m upset n rs1 s
  | .tplWrite m upset rs1 => Sys2Proof.Machine.execTplWrite m upset rs1 s
  | .tplInv m upset rs1 => Sys2Proof.Machine.execTplInv m upset rs1 s
  | .tplInvall m upset => Sys2Proof.Machine.execTplInvall m upset s
  | .tplSync m upset => Sys2Proof.Machine.execTplSync m upset s
  | .illegalInstruction m upset => Sys2Proof.Machine.execIllegalInstruction m upset s
  | .masonResultArrival rid upset => Sys2Proof.Machine.execMasonResultArrival rid s upset
  | .masRunWrite m run => Sys2Proof.Machine.execMasRunWrite m run s
  | .masGlobalProfileWrite profile => Sys2Proof.Machine.execMasGlobalProfileWrite profile s
  | .masonReset m => Sys2Proof.Machine.execMasonReset m s
  | .imgCheck kind len => Sys2Proof.Machine.execImgCheck kind len s
  | .imgLoad kind len => Sys2Proof.Machine.execImgLoad kind len s
  | .imgLoadStore kind len => Sys2Proof.Machine.execImgLoadStore kind len s
  | .masonStoreWrite m off w => Sys2Proof.Machine.execMasonStoreWrite m off w s
  | .debugHalt m => Sys2Proof.Machine.execDebugHalt m s
  | .debugStep m => Sys2Proof.Machine.execDebugStep m s
  | .debugResume m => Sys2Proof.Machine.execDebugResume m s
  | .debugAccess m a => Sys2Proof.Machine.execDebugAccess m a s
  | .hodItemPush hod item upset => Sys2Proof.Machine.execHodItemPush hod item upset s
  | .hodItemPop hod upset => Sys2Proof.Machine.execHodItemPop hod upset s
  | .spillComplete rid => Sys2Proof.Machine.execSpillComplete rid s
  | .hodCfgWrite hod carve w => Sys2Proof.Machine.execHodCfgWrite hod carve w s
  | .keyHostLock line rivals => Sys2Proof.Machine.execKeyHostLock line s rivals
  | .keyHostUnlock slot => Sys2Proof.Machine.execKeyHostUnlock slot s
  | .clearTorn slot => Sys2Proof.Machine.execClearTorn slot s
  | .lockWatchdog slot => Sys2Proof.Machine.execLockWatchdog slot s
  | .mntWatchdog chan => Sys2Proof.Machine.execMntWatchdog chan s
  | .mntReq chan rivals => Sys2Proof.Machine.execMntReq chan s rivals
  | .mntRelease chan => Sys2Proof.Machine.execMntRelease chan s
  | .keyMntMrr chan cyc rank addr data => Sys2Proof.Machine.execKeyMntMrr chan cyc rank addr data s
  | .keyMntMrw chan cyc rank addr data => Sys2Proof.Machine.execKeyMntMrw chan cyc rank addr data s
  | .keyMntMpc chan cyc rank addr data => Sys2Proof.Machine.execKeyMntMpc chan cyc rank addr data s
  | .linkUp port => Sys2Proof.Machine.execLinkUp port s
  | .linkDown port => Sys2Proof.Machine.execLinkDown port s
  | .txCreditReturn port lane cls => Sys2Proof.Machine.execTxCreditReturn port lane cls s
  | .bondRdLine port msg => Sys2Proof.Machine.execBondRdLine port msg s
  | .bondRdPart port msg => Sys2Proof.Machine.execBondRdPart port msg s
  | .bondWrZero port msg => Sys2Proof.Machine.execBondWrZero port msg s
  | .bondWrLine port msg => Sys2Proof.Machine.execBondWrLine port msg s
  | .bondWrPart port msg => Sys2Proof.Machine.execBondWrPart port msg s
  | .bondAtAdd port msg => Sys2Proof.Machine.execBondAtAdd port msg s
  | .bondAtOr port msg => Sys2Proof.Machine.execBondAtOr port msg s
  | .bondAtAnd port msg => Sys2Proof.Machine.execBondAtAnd port msg s
  | .bondAtXor port msg => Sys2Proof.Machine.execBondAtXor port msg s
  | .bondAtSwap port msg => Sys2Proof.Machine.execBondAtSwap port msg s
  | .bondAtCas port msg => Sys2Proof.Machine.execBondAtCas port msg s
  | .bondAtMin port msg => Sys2Proof.Machine.execBondAtMin port msg s
  | .bondAtMax port msg => Sys2Proof.Machine.execBondAtMax port msg s
  | .bondAtUmin port msg => Sys2Proof.Machine.execBondAtUmin port msg s
  | .bondAtUmax port msg => Sys2Proof.Machine.execBondAtUmax port msg s
  | .bondSetad port msg => Sys2Proof.Machine.execBondSetad port msg s
  | .sync port msg => Sys2Proof.Machine.execSync port msg s
  | .cpl port msg => Sys2Proof.Machine.execCpl port msg s
  | .cplData port msg => Sys2Proof.Machine.execCplData port msg s
  | .hello port msg => Sys2Proof.Machine.execHello port msg s
  | .lsa port msg => Sys2Proof.Machine.execLsa port msg s
  | .malformedMessage port msg flits => Sys2Proof.Machine.execMalformedMessage port msg flits s
  | .helloTimer port => Sys2Proof.Machine.execHelloTimer port s
  | .neighbourTimeout port node => Sys2Proof.Machine.execNeighbourTimeout port node s
  | .lsaOriginate => Sys2Proof.Machine.execLsaOriginate s
  | .lsaExpiry node => Sys2Proof.Machine.execLsaExpiry node s
  | .routeCompute => Sys2Proof.Machine.execRouteCompute s
  | .remoteRequestSend rid => Sys2Proof.Machine.execRemoteRequestSend rid s
  | .syncSend node => Sys2Proof.Machine.execSyncSend node s
  | .bondTimeout tag => Sys2Proof.Machine.execBondTimeout tag s
  | .tagQuarantineExpiry tag => Sys2Proof.Machine.execTagQuarantineExpiry tag s
  | .reportRead parity => Sys2Proof.Machine.execReportRead parity s
  | .wireFault src equal ended => Sys2Proof.Machine.execWireFault src s equal ended
  | .graceExpiry src => Sys2Proof.Machine.execGraceExpiry src s
  | .butAck src => Sys2Proof.Machine.execButAck src s
  | .force src sev coincide => Sys2Proof.Machine.execForce src sev coincide s
  | .captureRelease => Sys2Proof.Machine.execCaptureRelease s
  | .sweepStart => Sys2Proof.Machine.execSweepStart s
  | .sweepPassEnd failed => Sys2Proof.Machine.execSweepPassEnd failed s
  | .plbFreeze => Sys2Proof.Machine.execPlbFreeze s
  | .plbUnfreeze => Sys2Proof.Machine.execPlbUnfreeze s
  | .plbClear => Sys2Proof.Machine.execPlbClear s
  | .plbTagCfgWrite w => Sys2Proof.Machine.execPlbTagCfgWrite w s
  | .plbTagRdWrite w => Sys2Proof.Machine.execPlbTagRdWrite w s
  | .tagRecordWrite upset => Sys2Proof.Machine.execTagRecordWrite upset s
  | .extClear => Sys2Proof.Machine.execExtClear s
  | .histClear => Sys2Proof.Machine.execHistClear s
  | .logClear => Sys2Proof.Machine.execLogClear s
  | .snap => Sys2Proof.Machine.execSnap s
  | .snapshotPeriod => Sys2Proof.Machine.execSnapshotPeriod s
  | .snapshotTaken => Sys2Proof.Machine.execSnapshotTaken s
  | .dstModeWrite mode => Sys2Proof.Machine.execDstModeWrite mode s
  | .dstFreezeWrite on => Sys2Proof.Machine.execDstFreezeWrite on s
  | .dstHistCfgWrite w => Sys2Proof.Machine.execDstHistCfgWrite w s
  | .dstWindowRead word top upset => Sys2Proof.Machine.execDstWindowRead word top upset s
  | .configWrite off data bytes => Sys2Proof.Machine.execConfigWrite off data bytes s
  | .powerStateChange state => Sys2Proof.Machine.execPowerStateChange state s
  | .busMasterDisable => Sys2Proof.Machine.execBusMasterDisable s
  | .unsupportedRequest t => Sys2Proof.Machine.execUnsupportedRequest t s
  | .quoCompletionRx tag good poisoned malformed same => Sys2Proof.Machine.execQuoCompletionRx tag good poisoned malformed s same
  | .quoCplTimeout tag same => Sys2Proof.Machine.execQuoCplTimeout tag s same
  | .poisonedWriteRx same => Sys2Proof.Machine.execPoisonedWriteRx s same
  | .quoRelease => Sys2Proof.Machine.execQuoRelease s
  | .flrInitiate => Sys2Proof.Machine.execFlrInitiate s
  | .flrComplete => Sys2Proof.Machine.execFlrComplete s
  | .drainStart => Sys2Proof.Machine.execDrainStart s
  | .drainComplete => Sys2Proof.Machine.execDrainComplete s
  | .exportRecord => Sys2Proof.Machine.execExportRecord s
  | .msixSend vector => Sys2Proof.Machine.execMsixSend vector s
  | .channelReset mask => Sys2Proof.Machine.execChannelReset mask s
  | .channelResetDone chan => Sys2Proof.Machine.execChannelResetDone chan s
  | .expertEnWrite w => Sys2Proof.Machine.execExpertEnWrite w s
  | .registerWrite off w => Sys2Proof.Machine.execRegisterWrite off w s
  | .rclkCycle upsets => Sys2Proof.Machine.execRclkCycle s upsets
  | .slot chan sub cyc late => Sys2Proof.Machine.execSlot chan sub s cyc late
  | .masonResetComplete m => Sys2Proof.Machine.execMasonResetComplete m s
  | .imageCheckOrLoadComplete bytes => Sys2Proof.Machine.execImageCheckOrLoadComplete bytes s
  | .debugTakeover slot chan => Sys2Proof.Machine.execDebugTakeover slot chan s
  | .debugRelease slot chan => Sys2Proof.Machine.execDebugRelease slot chan s
  | .routesStable => Sys2Proof.Machine.execRoutesStable s

end Sys2Proof.Machine
end

