-- ==== Sys2Proof/Safety.lean ====
section
/-! DEFINITION. What statements about the machine speak of: the core of the state, the canonical form of its
tables, the conditions under which commands act, and the tables of the spec that the statements range over. -/

namespace Sys2Proof.Machine

/-- What no command but the resets and RCLK's two touches: the build, the pair, cold reset, the phase of a warm
reset with its instant and `blk_warm_safe`, the loss of RCLK, the straps and fuses, `BLK_UPTIME`, and the queue of
waiting commands. -/
def State.core (s : State) : Nat × Bool × Bool × Nat × Nat × Bool × Bool × Straps × Nat × List Instr :=
  (s.build, s.pair, s.cold, s.warm, s.warmAt, s.warmSafe, s.rclkLost, s.straps, s.uptime, s.pending)

/-- The tables that hold memories and registers are in canonical form. -/
def State.tablesWf (s : State) : Bool :=
  Tbl.sorted s.regs && Tbl.sorted s.xregs && Tbl.sorted s.frozen && Tbl.sorted s.dram &&
    Tbl.wf (fun _ => 0) s.pln.rows

/-! Aklet: what a Mason is about to execute, and the tables of R271 to R273. -/

/-- Engine `m`, a Mason of the build or the sequencer of a Screed that runs, executes the word `word` next, the bits of `ign` apart: cold reset is released, the engine
is ready, the word stands at its PC, no row of R270 makes it ILLEGAL, its mode may execute it, and none of the
registers it names awaits a result (R240, R269, R270, R282). -/
def State.presents (s : State) (m word ign : Nat) (n : Names) : Prop :=
  s.cold = false ∧ s.hasEngine m = true ∧ (s.mason m).ready = true ∧ (s.mason m).pc < 4096 ∧
  Nat.lor (s.mason m).word ign = Nat.lor word ign ∧ akLegal (s.mason m).word = true ∧
  (akPriv (s.mason m).word = true → (s.mason m).handler = true) ∧ (s.mason m).free n = true

/-- The two-source ALU operations: command, fn and result (R272). -/
def aluRows : List ((Nat → Nat → Nat → Nat → Nat → Instr) × Nat × (BitVec 64 → BitVec 64 → BitVec 64)) :=
  [(.add, 0x00, fun a b => a + b), (.sub, 0x01, fun a b => a - b), (.and, 0x02, fun a b => a &&& b),
   (.or, 0x03, fun a b => a ||| b), (.xor, 0x04, fun a b => a ^^^ b),
   (.sll, 0x05, fun a b => a <<< (b.toNat % 64)), (.srl, 0x06, fun a b => a >>> (b.toNat % 64)),
   (.sra, 0x07, fun a b => a.sshiftRight (b.toNat % 64)),
   (.slt, 0x08, fun a b => if a.slt b then 1 else 0), (.sltu, 0x09, fun a b => if a.ult b then 1 else 0),
   (.min, 0x0A, fun a b => if b.slt a then b else a), (.max, 0x0B, fun a b => if a.slt b then b else a),
   (.minu, 0x0C, fun a b => if b.ult a then b else a), (.maxu, 0x0D, fun a b => if a.ult b then b else a),
   (.mul, 0x10, fun a b => a * b), (.mulhu, 0x11, fun a b => BitVec.ofNat 64 (a.toNat * b.toNat / 2 ^ 64))]

/-- The immediate operations: command, opcode and result from rs1 and the 16-bit immediate (R271). -/
def immRows : List ((Nat → Nat → Nat → Nat → Nat → Instr) × Nat × (BitVec 64 → BitVec 16 → BitVec 64)) :=
  [(.addi, 0x02, fun a i => a + i.signExtend 64), (.andi, 0x03, fun a i => a &&& i.setWidth 64),
   (.ori, 0x04, fun a i => a ||| i.setWidth 64), (.xori, 0x05, fun a i => a ^^^ i.setWidth 64),
   (.slti, 0x06, fun a i => if a.slt (i.signExtend 64) then 1 else 0),
   (.sltiu, 0x07, fun a i => if a.ult (i.signExtend 64) then 1 else 0),
   (.slli, 0x08, fun a i => a <<< (i.toNat % 64)), (.srli, 0x09, fun a i => a >>> (i.toNat % 64)),
   (.srai, 0x0A, fun a i => a.sshiftRight (i.toNat % 64)), (.shi16, 0x0B, fun a i => (a <<< 16) ||| i.setWidth 64)]

/-- The branches: command, opcode and condition (R271). -/
def branchRows : List ((Nat → Nat → Nat → Nat → Nat → Instr) × Nat × (BitVec 64 → BitVec 64 → Bool)) :=
  [(.beq, 0x10, fun a b => decide (a = b)), (.bne, 0x11, fun a b => decide (a ≠ b)), (.blt, 0x12, fun a b => a.slt b),
   (.bge, 0x13, fun a b => !a.slt b), (.bltu, 0x14, fun a b => a.ult b), (.bgeu, 0x15, fun a b => !a.ult b)]

/-- The scratch loads: command, opcode and bytes (R271). -/
def ldsRows : List ((Nat → Nat → Nat → Nat → Nat → Instr) × Nat × Nat) :=
  [(.lds8, 0x18, 8), (.lds4, 0x19, 4), (.lds2, 0x1A, 2), (.lds1, 0x1B, 1)]

/-- The scratch stores: command, opcode and bytes (R271). -/
def stsRows : List ((Nat → Nat → Nat → Nat → Nat → Instr) × Nat × Nat) :=
  [(.sts8, 0x1C, 8), (.sts4, 0x1D, 4), (.sts2, 0x1E, 2), (.sts1, 0x1F, 1)]

/-- A byte of scratch. -/
def Mason.scratchByte (x : Mason) (a : Nat) : BitVec 8 := Tbl.get x.scratch 0 a

/-- The bytes of scratch of engine `m`: 32 KiB, a Screed sequencer 16 KiB (R268, R276). -/
def scratchBytes (m : Nat) : Nat := if m < 192 then 32768 else 16384

/-- A scratch access of engine `m` of `n` bytes at `a` neither misaligned nor beyond the scratch (R276). -/
def scratchFits (m : Nat) (a : BitVec 64) (n : Nat) : Prop := a.toNat % n = 0 ∧ a.toNat + n ≤ scratchBytes m

/-- Nothing changed but Mason `m`. -/
abbrev State.masonFrame (s t : State) (m : Nat) : Prop :=
  (∀ k, k ≠ m → t.mason k = s.mason k) ∧ t = { s with masons := t.masons }

/-- What an instruction keeps that only computes: mode, system registers, templates, store, requests. -/
abbrev Mason.keeps (x y : Mason) : Prop :=
  y.handler = x.handler ∧ y.nested = x.nested ∧ y.csr = x.csr ∧ y.task = x.task ∧ y.faddr = x.faddr ∧
  y.fence = x.fence ∧ y.tpl = x.tpl ∧ y.clock = x.clock ∧ y.istore = x.istore ∧ y.outs = x.outs ∧ y.waitEnd = x.waitEnd

/-- `t` is `s` after Mason `m` put `v` into scalar register `rd` (s0 discards it) and went on to the word at `pc`. -/
abbrev State.scalarResult (s t : State) (m rd : Nat) (v : BitVec 64) (pc : Nat) : Prop :=
  (∀ r, (t.mason m).reg r = if r = rd ∧ r ≠ 0 then v else (s.mason m).reg r) ∧ (t.mason m).pc = pc ∧
  (t.mason m).lregs = (s.mason m).lregs ∧ (t.mason m).scratch = (s.mason m).scratch ∧
  (s.mason m).keeps (t.mason m) ∧ s.masonFrame t m

/-- `t` is `s` after Mason `m` put `v` into line register `l` and went on to the next word. -/
abbrev State.lineResult (s t : State) (m l : Nat) (v : LReg) : Prop :=
  (∀ k, (t.mason m).line k = if k = l then v else (s.mason m).line k) ∧ (t.mason m).pc = (s.mason m).pc + 1 ∧
  (t.mason m).regs = (s.mason m).regs ∧ (t.mason m).scratch = (s.mason m).scratch ∧
  (s.mason m).keeps (t.mason m) ∧ s.masonFrame t m

/-- `t` is `s` after Mason `m` put the `n` low bytes of `v` at scratch offset `a` and went on to the next word. -/
abbrev State.scratchResult (s t : State) (m a n v : Nat) : Prop :=
  (∀ k, (t.mason m).scratchByte k =
    if a ≤ k ∧ k < a + n then BitVec.ofNat 8 (v / 2 ^ (8 * (k - a))) else (s.mason m).scratchByte k) ∧
  (t.mason m).pc = (s.mason m).pc + 1 ∧ (t.mason m).regs = (s.mason m).regs ∧
  (t.mason m).lregs = (s.mason m).lregs ∧ (s.mason m).keeps (t.mason m) ∧ s.masonFrame t m

/-- The `n` bytes of scratch from `a`, the lowest address least significant (R276). -/
def Mason.scratchLe (x : Mason) (a : Nat) : Nat → Nat
  | 0 => 0
  | n + 1 => x.scratchLe a n + (x.scratchByte (a + n)).toNat * 2 ^ (8 * n)

/-- A request instruction of Mason `m` that may issue now (R281): its address is aligned to `align` and in range, it
translates to `ga` through `slots`, `ga` decodes to a local place or another node, an outstanding request is free, no
run covers the line, and the Mortar has room. -/
abbrev State.mayIssue (s : State) (m align : Nat) (q : Ask) (ga : Nat) (slots : List Nat) : Prop :=
  addrFault (s.mason m).handler q.va align = none ∧ s.translate m q.va q.read q.write = .go ga slots ∧
  (match s.decode ga q.walk (s.masIdent m (s.mason m).handler).1 (s.masIdent m (s.mason m).handler).2.1 with
   | .refused _ => false | .control _ => false | _ => true) = true ∧
  (s.mason m).outstanding < s.outMax m ∧ (s.mason m).runCovers ga = false ∧
  (match s.locate { s.masReq m s.nextRid (s.mason m).handler q.op q.size ga q.walk with
      data := q.data, mask := q.mask, wpoison := q.poison, attr := if q.noret then 4 else 0 } with
   | (some _, _) => true | (none, r) => s.masRoom r) = true

/-- The request issued (R240, R281): REF of the entries used is set, the request enters the core with the Mason's
identity, what awaits its result joins the outstanding requests, and a posted instruction goes on to the next word. -/
def State.issued (s : State) (m : Nat) (q : Ask) (ga : Nat) (slots : List Nat) : State :=
  let t := (s.newRid.1.touch m slots).masIssue m 0x4C
    { s.masReq m s.nextRid (s.mason m).handler q.op q.size ga q.walk with
      data := q.data, mask := q.mask, wpoison := q.poison, attr := if q.noret then 4 else 0 }
    ⟨s.nextRid, q.kind, [s.nextRid], !q.posted, q.dst, q.rt, q.va, ga, q.size, q.sign, [], [], none, slots, false, false,
      false⟩
  if q.posted then t.akNext m else t

/-- The AMO operations: command, fn and port opcode (R279). -/
def amoRows : List ((Nat → Nat → Nat → Nat → Nat → Nat → Bool → Bool → Instr) × Nat × Op) :=
  [(.amoAdd, 0, .atAdd), (.amoOr, 1, .atOr), (.amoAnd, 2, .atAnd), (.amoXor, 3, .atXor), (.amoSwap, 4, .atSwap),
   (.amoCas, 5, .atCas), (.amoMin, 6, .atMin), (.amoMax, 7, .atMax), (.amoUmin, 8, .atUmin), (.amoUmax, 9, .atUmax)]

/-! DRAM commands (R136 to R175). -/

/-- A command of channel `c` that its checker passes: the channel is live, the subchannel is not Screed's alone (R209), the
slot is free and not in the past, and no rule of R138 or R151 is missed. -/
def State.mayPass (s : State) (c : Nat) (n : Passed) : Prop :=
  s.cold = false ∧ s.hasChan c = true ∧ s.rawF TIM_STATUS_LIVE c 0 0 = 1 ∧ s.screedOnly c n.sub = false ∧
  s.slotFree c n.sub n.cyc = true ∧ s.violation c n = none

/-- A live channel's free slot, of a subchannel that is not Screed's alone, and a command in it that misses a rule by so
many cycles. -/
def State.mustFail (s : State) (c : Nat) (n : Passed) (rule short : Nat) : Prop :=
  s.cold = false ∧ s.hasChan c = true ∧ s.rawF TIM_STATUS_LIVE c 0 0 = 1 ∧ s.screedOnly c n.sub = false ∧
  s.slotFree c n.sub n.cyc = true ∧ s.violation c n = some (rule, short)

/-- The slot taken: the command is the channel's last, at the channel's present cycle. -/
abbrev State.tookSlot (s t : State) (c : Nat) (n : Passed) : Prop :=
  (t.chan c).now = n.cyc ∧
  (t.chan c).tim.hist = n :: (s.chan c).tim.hist.filter (fun q => decide (n.cyc < q.cyc + histSpan))

/-- The row that the checker's bank model holds open in bank `b`. -/
def State.openRow (s : State) (c b : Nat) : Option Nat := Tbl.find (s.chan c).tim.chkOpen b

/-- The command names the place and the request of the issuer's choice `k`. -/
def namesChoice (cmd : Cmd) (kind : CmdKind) (k : Cand) : Prop :=
  k.pos.sub = cmd.sub ∧ k.pos.rank = cmd.rank ∧ k.pos.bg = cmd.bg ∧ k.pos.ba = cmd.ba ∧
  (kind ≠ .pre → k.pos.row = cmd.row) ∧ (kind.isCol = true → k.pos.col = cmd.col) ∧
  cmd.rid = if k.req.isScrub then none else some k.req.rid

/-- The state in which the issuer chooses: runs at the heads of their queues are judged (R131). -/
def State.judgedFor (s : State) (cmd : Cmd) : State := s.judgeHeads cmd.chan cmd.sub cmd.cyc

/-- The issuer's choice for the slot is `k`, the command is the one `k` asks for, and the checker passes it
(R124, R136, R145). -/
def State.takes (s : State) (cmd : Cmd) (kind : CmdKind) (k : Cand) : Prop :=
  s.cold = false ∧ s.issuerOn cmd.chan cmd.sub = true ∧ (s.judgedFor cmd).mayPass cmd.chan (Cmd.passed cmd kind) ∧
  ((s.judgedFor cmd).choice cmd.chan cmd.sub cmd.cyc).2 = some k ∧ (s.judgedFor cmd).cmdOf cmd.chan k = kind ∧
  namesChoice cmd kind k

/-- Pointing's and the issuer's own commands, with the kind the checker sees. -/
def ownRows : List ((Cmd → Instr) × CmdKind) :=
  [(.presb, .presb), (.preab, .preab), (.refab, .refab), (.refsb, .refsb), (.rfmab, .rfmab), (.rfmsb, .rfmsb),
   (.sre, .sre), (.srx, .srx), (.pde, .pde), (.pdx, .pdx), (.idleCloseExpiry, .pre)]

/-- The state in which a command of Pointing's is judged: one that a self-refresh entry may need asks for the path of
the entry first (R173 step 3). -/
def State.judgedOwn (s : State) (cmd : Cmd) (kind : CmdKind) : State :=
  if kind = .presb ∨ kind = .preab ∨ kind = .refab ∨ kind = .refsb ∨ kind = .sre then
    s.srPath cmd.chan cmd.cyc cmd.rivals
  else s

/-- What the reissue of a replay's buffer comes to, each command as early as the table admits after the back-off RFMs, and
whether the checker passed them all (R150 step 4, R157). -/
def State.replayed (s : State) (c : Nat) : State × Bool :=
  (s.chan c).tim.replayBuf.foldl (State.reissue c ((s.chan c).tim.backoffEnd.foldl (fun a e => max a e.2) 0)) (s, true)

/-- A replay past its step 3: what that step comes to, and then the PRAC alerts that came before it (R150, R157). -/
def State.replayMid (s : State) (c : Nat) : State :=
  (s.chan c).tim.pracLater.foldl (fun u e => u.backoffStart c e.1 e.2)
    ((s.replayShut c).1.modTim c (fun y => { y with replayPre := true, pracLater := [] }))

/-- The commands of the maintenance path, with their row of R138. -/
def mntRows : List ((Cmd → Nat → Nat → Instr) × CmdKind) := [(.mrr, .mrr), (.mrw, .mrw), (.mpc, .mpc)]

/-! Registers and the host. -/

/-- A host write of BAR0 is served (R386, R389, R396, R425): cold reset released, D0, no FLR, not contained. -/
def State.serves (s : State) : Prop := s.cold = false ∧ s.bar0Off = false ∧ s.quo.st = 0

/-- `t` is `s` but for register fields under the listed keys. -/
abbrev State.onlyRegs (s t : State) (ks : List Nat) : Prop :=
  t = { s with regs := t.regs } ∧ ∀ k, k ∉ ks → Tbl.find t.regs k = Tbl.find s.regs k

/-! Header ports (R49 to R76). -/

/-- The request opcodes of R53, with their commands. -/
def portRows : List ((PReq → Instr) × Op) :=
  [(.rdLine, .rdLine), (.rdPart, .rdPart), (.wrLine, .wrLine), (.wrPart, .wrPart), (.wrZero, .wrZero),
   (.atAdd, .atAdd), (.atOr, .atOr), (.atAnd, .atAnd), (.atXor, .atXor), (.atSwap, .atSwap), (.atCas, .atCas),
   (.atMin, .atMin), (.atMax, .atMax), (.atUmin, .atUmin), (.atUmax, .atUmax), (.setad, .setad), (.flush, .flush)]

/-- A slot of a transfer handshakes at its port: slot 1 behind its slot 0, or a first slot with ready high (R61). -/
def State.handshakes (s : State) (p : PReq) : Prop :=
  s.cold = false ∧ p.port < 12 ∧
  ((s.port p.port).pairOpen = true ∧ p.slot = 1 ∨ (s.port p.port).pairOpen = false ∧ s.reqReady p.port = true)

/-- A slot of a write-data transfer handshakes at its port: slot 1 behind its slot 0, or a first slot with ready high
(R49, R61). -/
def State.dataHandshakes (s : State) (w : WSlot) : Prop :=
  s.cold = false ∧ w.port < 12 ∧
  ((s.port w.port).wdPair = true ∧ w.slot = 1 ∨ (s.port w.port).wdPair = false ∧ s.wdReady w.port = true)

/-- The slot's request was answered at the port (R69, R82): it is the newest, with the slot's tag and that status, and
no tracker entry. -/
abbrev State.answeredWith (s t : State) (p : PReq) (st : Status) : Prop :=
  ∃ r, t.reqs.getLast? = some r ∧ r.rid = s.nextRid ∧ r.src = .port p.port ∧ r.tag = p.tag ∧ r.part = none ∧
    r.status = some st

/-- The tag of the slot is still in use at its port (R70): an outstanding request has it, or a completion of the HCLKn
cycle in which the slot is handed over. Slot 1 of a transfer lies in the cycle of its slot 0. -/
def State.tagInUse (s : State) (p : PReq) : Prop :=
  (∃ q ∈ s.reqs, q.src = .port p.port ∧ q.tag = p.tag) ∨
  (p.same = true ∨ (s.port p.port).pairOpen = true ∧ p.slot = 1) ∧ p.tag ∈ (s.port p.port).cycTags

/-- What becomes of an accepted slot's write data: one more slot awaited, whatever the request's status, or none
(R63). -/
abbrev State.awaitsData (s t : State) (p : PReq) (data : Bool) : Prop :=
  (t.port p.port).awaits =
    if data then (s.port p.port).awaits ++ [⟨s.nextRid, p.tag, p.slot, s.uptime, false⟩] else (s.port p.port).awaits

/-! Screed (R198 to R217). -/

/-- Screed holds the maintenance path of channel `c` and a run of full training is in one of its steps, whose number is
`k` (R201, R207); step 1 has its calibration engine. -/
def State.trainsAt (s : State) (c k : Nat) : Prop :=
  s.cold = false ∧ s.hasChan c = true ∧ (s.chan c).mntHolder = some (229 + c) ∧ (s.chan c).scr.run = 1 ∧
  (s.chan c).scr.passed = 0 ∧ s.rawF SCR_STATUS_STEP c 0 0 = k ∧ (k = 1 → (s.chan c).scr.zqBusy = true)

/-- The result row of step `k` on a subchannel stands at FAIL or TIMEOUT in the run in progress (R208). -/
def ScrSt.rowFailed (x : ScrSt) (sub k : Nat) : Bool :=
  decide (nfield (Tbl.get x.newRes 0 (10 * sub + k)) 60 3 = 2 ∨ nfield (Tbl.get x.newRes 0 (10 * sub + k)) 60 3 = 3)

/-- Subchannel `sub` is on its last rank of step `k`, which the other subchannel has ended (R204). -/
def State.lastRank (s : State) (c sub k : Nat) : Prop :=
  (s.chan c).scr.at sub + 1 = s.stepUnits c k ∧ s.stepUnits c k ≤ (s.chan c).scr.at (1 - sub)

/-- An attempt of a full training that failed (R205): the next one starts at step 0, and after the last one the channel
is FAILED, with TRAIN_FAIL and its fence. -/
abbrev State.attemptFails (s : State) (c : Nat) (out : Host.Outcome State Fault Refusal) : Prop :=
  ((s.chan c).scr.attempt < nth (s.chan c).scr.latched 0 → ∃ t, out = .next t ∧ t.rawF SCR_STATUS_STEP c 0 0 = 0 ∧
    (t.chan c).scr.attempt = (s.chan c).scr.attempt + 1 ∧ (t.chan c).scr.run = 1) ∧
  (nth (s.chan c).scr.latched 0 ≤ (s.chan c).scr.attempt → ∃ t, out = .next t ∧ t.scrState c = 4 ∧
    t.rawF SCR_ERR_TRAIN_FAIL c 0 0 = 1 ∧ (t.chan c).scr.trainFence = true ∧ (t.chan c).scr.run = 0)

/-! Plinth. -/

/-- The commands of `PLN_CMD` by their OP, with the error that a read of the array meets (R234). -/
def plnCmds : List (Nat × (RegW → Nat → Instr)) := [(1, .rawRead), (2, fun w _ => .rawWrite w), (3, .readRec)]

/-! Runs (R245, R285). -/

/-- The sources of a run: a copy reads as many lines as it writes. -/
def RunAsk.sources (q : RunAsk) : List RunLine := if q.kind = 2 then runRange q.src q.count false else []

/-- The lines a run writes. -/
def RunAsk.targets (q : RunAsk) : List RunLine := runRange q.dst q.count true

/-- The lines of the run are performed individually: asked for, or on a range that the Mason holds locked (R245). -/
def State.runIndiv (s : State) (m : Nat) (q : RunAsk) : Bool :=
  q.indiv || (s.runParts m q.targets q.sources).any (fun p => s.lockedBy m p.ga)

/-- A run of Mason `m` that issues now: its operands are good, its lines translate and decode, it lies in one channel
where it is individual, fewer than two runs are outstanding, none covers a line of it, and its requests `rids` find
room, which leads to `e` (R245, R283, R285). -/
def State.runMayIssue (s : State) (m : Nat) (q : RunAsk) (e : State) (rids : List Nat) : Prop :=
  let parts := s.runParts m q.targets q.sources
  let asked := s.runReqs m q (s.runIndiv m q) parts (s.runSlots m (q.targets ++ q.sources))
  q.fault (s.mason m).handler = none ∧
  (∀ l ∈ q.targets ++ q.sources, ∃ ga slots, s.translate m l.va (!l.write) l.write = .go ga slots) ∧
  (s.runIndiv m q = true → oneChannel parts = true) ∧ (∀ p ∈ parts, p.refused = false) ∧
  (s.mason m).runs < 2 ∧ (∀ p ∈ parts, (s.mason m).runCovers p.ga = false) ∧
  asked.1.enterRun asked.2.2 = some (e, rids)

/-- What a run command answers: the OPERAND trap of its operands, or, where it may issue, one more outstanding run
with those requests, whose status goes to `rt` if it is posted, the PC then at the next word; else the Mason waits. -/
abbrev State.runAnswers (s : State) (m : Nat) (q : RunAsk) (out : Host.Outcome State Fault Refusal) : Prop :=
  (∀ sub v, q.fault (s.mason m).handler = some (sub, v) → out = .next (s.akTrapHere m 3 sub v)) ∧
  (∀ e rids, s.runMayIssue m q e rids →
    ∃ (u : State) (o : MasOut), out = .next u.settle ∧ u.reqs = e.reqs ∧ (u.mason m).outs = (e.mason m).outs ++ [o] ∧ o.kind = .run ∧
      o.rids = rids ∧ o.waiting = !q.posted ∧ o.rt = q.rt ∧ o.dst = .none ∧
      (u.mason m).pc = (if q.posted then (e.mason m).pc + 1 else (e.mason m).pc))

/-! Templates. -/

/-- The entry that three words of a line make (R247). -/
def entryOf (d : BitVec 512) : TplEnt := ⟨d.extractLsb' 0 64, d.extractLsb' 64 64, d.extractLsb' 128 64⟩

/-- An entry but for its REF bit. -/
def TplEnt.body (e : TplEnt) : BitVec 64 × BitVec 64 × BitVec 64 := (e.w0 ||| BitVec.ofNat 64 (2 ^ 54), e.w1, e.w2)

/-! Masons and the debug port. -/

/-- Mason `m` of a build whose debug seal is intact, in DEBUG. -/
def State.inDebug (s : State) (m : Nat) : Prop :=
  s.cold = false ∧ s.straps.debugSeal = false ∧ s.hasMason m = true ∧ (s.mason m).st = 4

/-- The channel after a command took its slot. -/
def State.afterSlot (s : State) (c : Nat) (n : Passed) : State :=
  s.modChan c (fun x => { x with tim := x.tim.record n, now := n.cyc })

/-! Hods and the Keystone (R295 to R315). -/

/-- The host's lock request for `n` lines at line `line` (R307, R312). -/
def hostAsk (line n : Nat) : KeyReq := ⟨204, 2, 0, line * 64, n⟩

/-- The two commands of a `KEY_MNT_CMD`, one on each subchannel (R314). -/
def mntPair (c cyc rank : Nat) (kind : CmdKind) (data : Nat) : Passed × Passed :=
  (Cmd.mnt (mntCmdOn c cyc 0 rank) kind data, Cmd.mnt (mntCmdOn c cyc 1 rank) kind data)

/-! Bond (R317 to R340). -/

/-- A message of `flits` flits that peer port `p` receives and acts on (R318, R321, R340): link up, Bond ON, CRC
good, not malformed, room in the receive buffer that the port's credits stand for. -/
def State.receives (s : State) (p : Nat) (m : Msg) (flits : Nat) : Prop :=
  s.cold = false ∧ p < 2 ∧ s.linkUp p = true ∧ s.bondOn = true ∧ m.crcOk flits = true ∧ msgMalformed m flits = false ∧
    s.rxRoom p m flits = true

/-- A message that port `p` presents at once when it is sent (R318): link up, Bond ON, nothing queued, credits. -/
def State.freeFor (s : State) (p : Nat) (m : Msg) : Prop :=
  s.linkUp p = true ∧ s.bondOn = true ∧ Tbl.get s.bnd.txq [] p = [] ∧
  opcFlits m.opc ≤ Tbl.get s.bnd.txCred 0 (credKey p (opcLane m.opc) m.hops)

/-- A request this node has yet to send, that may leave for its node (R85, R329, R330). -/
def State.outbound (s : State) (r : Req) (n : Nat) : Prop :=
  s.cold = false ∧ s.req r.rid = some r ∧ r.dest = .remote n ∧ r.hasEntry = true ∧
  (r.stage = .queued ∨ r.stage = .held) ∧ r.status = none ∧ r.dataReady = true ∧
  orderHeld r (s.before r.rid) = false ∧ s.sendHeld r n = false

/-- Registers of the block's plain read-write fields: register and fields (R15, R417). -/
def plainRegs : List (RegAt × List Field) :=
  [(KEY_HOST_CNT, [KEY_HOST_CNT_COUNT]), (DST_CURSOR, [DST_CURSOR_REGION, DST_CURSOR_AUTOINC, DST_CURSOR_INDEX]),
   (MAS_IMG_ADDR, [MAS_IMG_ADDR_ADDR]), (QUO_DRAIN_ADDR, [QUO_DRAIN_ADDR_ADDR]), (QUO_DRAIN_CPL, [QUO_DRAIN_CPL_ADDR]),
   (QUO_EXPORT_BASE, [QUO_EXPORT_BASE_BASE]), (QUO_EXPORT_CI, [QUO_EXPORT_CI_CI])]

/-- Registers whose fields are all expert fields without an effect of their own (R15, R421). -/
def expertRegs : List (RegAt × List Field) :=
  [(TIM_BANK, [TIM_BANK_RTP, TIM_BANK_FAW, TIM_BANK_RRD_L, TIM_BANK_RRD_S, TIM_BANK_RC, TIM_BANK_RAS, TIM_BANK_RP,
     TIM_BANK_RCD]),
   (TIM_COL, [TIM_COL_WTR_L, TIM_COL_WTR_S, TIM_COL_CWL, TIM_COL_CL, TIM_COL_CCD_L_WR, TIM_COL_CCD_L, TIM_COL_CCD_S,
     TIM_COL_WR]),
   (TIM_ALERT, [TIM_ALERT_ABO_DELAY, TIM_ALERT_ABO_ACT, TIM_ALERT_PW_MAX, TIM_ALERT_PW_MIN, TIM_ALERT_RETRY]),
   (PNT_CFG, [PNT_CFG_ZQ_PERIOD, PNT_CFG_MR4_PERIOD, PNT_CFG_PULL_IDLE, PNT_CFG_PULL_MAX, PNT_CFG_POST_MAX]),
   (PNT_LP, [PNT_LP_SR_IDLE, PNT_LP_PD_IDLE, PNT_LP_PLL_OFF]), (ASH_SCRUB, [ASH_SCRUB_BUDGET, ASH_SCRUB_PERIOD]),
   (SCR_GUARD, [SCR_GUARD_VREF, SCR_GUARD_CA, SCR_GUARD_DQ]),
   (SCR_LIMIT, [SCR_LIMIT_STEP_MAX, SCR_LIMIT_ATTEMPTS, SCR_LIMIT_CHAN_MS, SCR_LIMIT_STEP_MS]),
   (KEY_WDOG, [KEY_WDOG_MNT_US, KEY_WDOG_LOCK_US]), (BND_CFG, [BND_CFG_TIMEOUT_US, BND_CFG_HELLO_US]),
   (PLB_FLT_MST, [PLB_FLT_MST_KIND, PLB_FLT_MST_NODE, PLB_FLT_MST_PORT, PLB_FLT_MST_HI, PLB_FLT_MST_LO]),
   (PLB_FLT_ALO, [PLB_FLT_ALO_EN, PLB_FLT_ALO_LO]), (DST_SNAP_SEL, [DST_SNAP_SEL_VALID, DST_SNAP_SEL_OFFSET])]

/-- The resets and RCLK's two commands: all that touch the core of the state. -/
def touchesCore : Instr → Bool
  | .coldResetAssert => true
  | .coldResetRelease _ _ _ => true
  | .warmResetRequest => true
  | .warmResetDrainDone => true
  | .warmResetApplied _ _ _ _ => true
  | .warmResetRelease => true
  | .rclkCycle _ => true
  | .rclkLoss => true
  | _ => false

end Sys2Proof.Machine
end

