-- ==== Sys2Proof/Certificates/Slice0/Obligations.lean ====
section
/-! DEFINITION. The statements for the provers, family by family. -/

open Sys2Proof Sys2Proof.Machine

/-- ALU instructions: result, s0, PC and frame (R272). For every ALU row of R272 with two sources (ADD, SUB, AND, OR,
XOR, SLL, SRL, SRA, SLT, SLTU, MIN, MAX, MINU, MAXU, MUL, MULHU) and for CLZ, POPC and BSWAP: a Mason that executes the
word puts the table's result into rd (s0 discards it) and goes to the next word. Every other register, the scratch, the
rest of the Mason, every other Mason and everything outside the Masons is unchanged. -/
def Obligations.AkletAluResults : Prop :=
  (∀ e ∈ aluRows, ∀ (m rd rs1 rs2 : Nat) (s : State),
    s.presents m (encR 1 rd rs1 rs2 e.2.1) 0 ⟨[rd, rs1, rs2], []⟩ →
    ∃ t, exec (e.1 m 0 rd rs1 rs2) s = .next t ∧
      s.scalarResult t m rd (e.2.2 ((s.mason m).reg rs1) ((s.mason m).reg rs2)) ((s.mason m).pc + 1)) ∧
  (∀ (m rd rs1 : Nat) (s : State), s.presents m (encR 1 rd rs1 0 0x18) 0 ⟨[rd, rs1, 0], []⟩ →
    ∃ t, exec (.clz m 0 rd rs1) s = .next t ∧
      ∃ n, s.scalarResult t m rd (BitVec.ofNat 64 n) ((s.mason m).pc + 1) ∧ n ≤ 64 ∧
        (∀ i, 64 - n ≤ i → i < 64 → ((s.mason m).reg rs1).getLsbD i = false) ∧
        (n < 64 → ((s.mason m).reg rs1).getLsbD (63 - n) = true)) ∧
  (∀ (m rd rs1 : Nat) (s : State), s.presents m (encR 1 rd rs1 0 0x19) 0 ⟨[rd, rs1, 0], []⟩ →
    ∃ t, exec (.popc m 0 rd rs1) s = .next t ∧
      s.scalarResult t m rd (BitVec.ofNat 64 ((List.range 64).countP (fun i => ((s.mason m).reg rs1).getLsbD i)))
        ((s.mason m).pc + 1)) ∧
  (∀ (m rd rs1 : Nat) (s : State), s.presents m (encR 1 rd rs1 0 0x1A) 0 ⟨[rd, rs1, 0], []⟩ →
    ∃ t, exec (.bswap m 0 rd rs1) s = .next t ∧
      ∃ v : BitVec 64, s.scalarResult t m rd v ((s.mason m).pc + 1) ∧
        ∀ i, i < 64 → v.getLsbD i = ((s.mason m).reg rs1).getLsbD (8 * (7 - i / 8) + i % 8))

/-- Immediate instructions, branches and jumps: result, target, link, the TARGET trap and the frame (R269, R271, R291).
For ADDI, ANDI, ORI, XORI, SLTI, SLTIU, SLLI, SRLI, SRAI and SHI16: a Mason that executes the word puts the result of
R271 over rs1 and the 16-bit immediate into rd (s0 discards it) and goes to the next word. Nothing else changes. BEQ,
BNE, BLT, BGE, BLTU, BGEU go to PC plus the signed offset where their condition holds and to the next word otherwise;
JAL and JALR put PC + 1 into rd and go to PC plus the signed 21-bit immediate, or to rs1 plus the signed immediate
modulo 2 to the 64. A target outside 0 to 4095 traps OPERAND with sub-cause TARGET and that target. A branch that is
taken or not changes no register. -/
def Obligations.AkletImmediatesAndTransfers : Prop :=
  (∀ e ∈ immRows, ∀ (m rd rs1 imm : Nat) (s : State), imm < 2 ^ 16 →
     s.presents m (encI e.2.1 rd rs1 imm) 0 ⟨[rd, rs1], []⟩ →
     ∃ t, exec (e.1 m 0 rd rs1 imm) s = .next t ∧
       s.scalarResult t m rd (e.2.2 ((s.mason m).reg rs1) (BitVec.ofNat 16 imm)) ((s.mason m).pc + 1)) ∧
  ((∀ e ∈ branchRows, ∀ (m rs1 rs2 off : Nat) (s : State), off < 2 ^ 16 →
     s.presents m (encI e.2.1 rs1 rs2 off) 0 ⟨[rs1, rs2], []⟩ →
     (e.2.2 ((s.mason m).reg rs1) ((s.mason m).reg rs2) = false →
       ∃ t, exec (e.1 m 0 rs1 rs2 off) s = .next t ∧ s.scalarResult t m 0 0 ((s.mason m).pc + 1)) ∧
     (e.2.2 ((s.mason m).reg rs1) ((s.mason m).reg rs2) = true →
       let target := BitVec.ofNat 64 (s.mason m).pc + (BitVec.ofNat 16 off).signExtend 64
       (target.toNat < 4096 →
         ∃ t, exec (e.1 m 0 rs1 rs2 off) s = .next t ∧ s.scalarResult t m 0 0 target.toNat) ∧
       (4096 ≤ target.toNat → exec (e.1 m 0 rs1 rs2 off) s = .next (s.akTrapHere m 3 5 target.toNat)))) ∧
   (∀ (m rd imm : Nat) (s : State), imm < 2 ^ 21 → s.presents m (encU 0x16 rd imm) 0 ⟨[rd], []⟩ →
     let target := BitVec.ofNat 64 (s.mason m).pc + (BitVec.ofNat 21 imm).signExtend 64
     (target.toNat < 4096 → ∃ t, exec (.jal m 0 rd imm) s = .next t ∧
       s.scalarResult t m rd (BitVec.ofNat 64 ((s.mason m).pc + 1)) target.toNat) ∧
     (4096 ≤ target.toNat → exec (.jal m 0 rd imm) s = .next (s.akTrapHere m 3 5 target.toNat))) ∧
   (∀ (m rd rs1 imm : Nat) (s : State), imm < 2 ^ 16 → s.presents m (encI 0x17 rd rs1 imm) 0 ⟨[rd, rs1], []⟩ →
     let target := (s.mason m).reg rs1 + (BitVec.ofNat 16 imm).signExtend 64
     (target.toNat < 4096 → ∃ t, exec (.jalr m 0 rd rs1 imm) s = .next t ∧
       s.scalarResult t m rd (BitVec.ofNat 64 ((s.mason m).pc + 1)) target.toNat) ∧
     (4096 ≤ target.toNat → exec (.jalr m 0 rd rs1 imm) s = .next (s.akTrapHere m 3 5 target.toNat))))

/-- Scratch loads and stores: bytes, alignment, range, frame (R268, R271, R275, R276, R291). LDS8, LDS4, LDS2 and LDS1
put the little-endian bytes at rs1 plus the signed immediate into rd; STS8 to STS1 store the low bytes of rs2 there and
change no other byte of scratch; LLS fills a line register and clears its mark; SLS stores 64 bytes of an unmarked line
register. In all of them a misaligned offset traps OPERAND ALIGN, and one that reaches beyond byte 32,767 of a Mason's
scratch traps OPERAND RANGE. The scratch offset as the fill address that LLS leaves is the model's choice (log 101), and
so is the bound of a Screed sequencer, whose scratch ends at byte 16,383 (log 142). -/
def Obligations.AkletScratchAccess : Prop :=
  (∀ m : Nat, scratchBytes m = if m < 192 then 32768 else 16384) ∧
  (∀ e ∈ ldsRows, ∀ (m rd rs1 imm : Nat) (s : State), imm < 2 ^ 16 →
    s.presents m (encI e.2.1 rd rs1 imm) 0 ⟨[rd, rs1], []⟩ →
    let a := (s.mason m).reg rs1 + (BitVec.ofNat 16 imm).signExtend 64
    (scratchFits m a e.2.2 → ∃ t, exec (e.1 m 0 rd rs1 imm) s = .next t ∧
      s.scalarResult t m rd (BitVec.ofNat 64 ((s.mason m).scratchLe a.toNat e.2.2)) ((s.mason m).pc + 1)) ∧
    (a.toNat % e.2.2 ≠ 0 → exec (e.1 m 0 rd rs1 imm) s = .next (s.akTrapHere m 3 1 a.toNat)) ∧
    (a.toNat % e.2.2 = 0 → scratchBytes m < a.toNat + e.2.2 →
      exec (e.1 m 0 rd rs1 imm) s = .next (s.akTrapHere m 3 2 a.toNat))) ∧
  (∀ e ∈ stsRows, ∀ (m rs2 rs1 imm : Nat) (s : State), imm < 2 ^ 16 →
    s.presents m (encI e.2.1 rs2 rs1 imm) 0 ⟨[rs2, rs1], []⟩ →
    let a := (s.mason m).reg rs1 + (BitVec.ofNat 16 imm).signExtend 64
    (scratchFits m a e.2.2 → ∃ t, exec (e.1 m 0 rs2 rs1 imm) s = .next t ∧
      s.scratchResult t m a.toNat e.2.2 ((s.mason m).reg rs2).toNat) ∧
    (a.toNat % e.2.2 ≠ 0 → exec (e.1 m 0 rs2 rs1 imm) s = .next (s.akTrapHere m 3 1 a.toNat)) ∧
    (a.toNat % e.2.2 = 0 → scratchBytes m < a.toNat + e.2.2 →
      exec (e.1 m 0 rs2 rs1 imm) s = .next (s.akTrapHere m 3 2 a.toNat))) ∧
  (∀ (m rd rs1 imm : Nat) (s : State), imm < 2 ^ 16 → s.presents m (encI 0x20 rd rs1 imm) 0 ⟨[rs1], [rd]⟩ →
    let a := (s.mason m).reg rs1 + (BitVec.ofNat 16 imm).signExtend 64
    (scratchFits m a 64 → ∃ t, exec (.lls m 0 rd rs1 imm) s = .next t ∧
      s.lineResult t m rd ⟨BitVec.ofNat 512 ((s.mason m).scratchLe a.toNat 64), false, a.toNat⟩) ∧
    (a.toNat % 64 ≠ 0 → exec (.lls m 0 rd rs1 imm) s = .next (s.akTrapHere m 3 1 a.toNat)) ∧
    (a.toNat % 64 = 0 → scratchBytes m < a.toNat + 64 →
      exec (.lls m 0 rd rs1 imm) s = .next (s.akTrapHere m 3 2 a.toNat))) ∧
  (∀ (m rs2 rs1 imm : Nat) (s : State), imm < 2 ^ 16 → s.presents m (encI 0x21 rs2 rs1 imm) 0 ⟨[rs1], [rs2]⟩ →
    let a := (s.mason m).reg rs1 + (BitVec.ofNat 16 imm).signExtend 64
    (scratchFits m a 64 → ((s.mason m).line rs2).poison = false →
      ∃ t, exec (.sls m 0 rs2 rs1 imm) s = .next t ∧
        s.scratchResult t m a.toNat 64 ((s.mason m).line rs2).data.toNat) ∧
    (a.toNat % 64 ≠ 0 → exec (.sls m 0 rs2 rs1 imm) s = .next (s.akTrapHere m 3 1 a.toNat)) ∧
    (a.toNat % 64 = 0 → scratchBytes m < a.toNat + 64 →
      exec (.sls m 0 rs2 rs1 imm) s = .next (s.akTrapHere m 3 2 a.toNat)))

/-- Line-register instructions: results, marks and POISON_USE (R273, R274, R275, R291). LGET, LPUT, LMOV, LCLR, LCRC,
LSUM32 and LPSN have the results of R273; LPUT leaves the poison mark, LMOV carries mark and fill address, LCLR clears
the mark. LGET, LCRC and LSUM32 (and SLS) on a marked register trap POISON_USE with the register number as sub-cause,
the fill address as trap value, and write no rd; LPSN, LMOV, LCLR and LPUT never trap on a mark. That LCLR keeps the
fill address is the model's choice (log 101). -/
def Obligations.AkletLineResults : Prop :=
  (∀ (m rd rs1 k : Nat) (s : State), k < 8 → s.presents m (encR 0x22 rd rs1 0 k) ignC ⟨[rd], [rs1]⟩ →
    let v := (s.mason m).line rs1
    (v.poison = false → ∃ t, exec (.lget m 0 rd rs1 k) s = .next t ∧
      s.scalarResult t m rd (v.data.extractLsb' (64 * k) 64) ((s.mason m).pc + 1)) ∧
    (v.poison = true → exec (.lget m 0 rd rs1 k) s = .next (s.akTrapHere m 0xB rs1 v.fill))) ∧
  (∀ (m rd rs1 k : Nat) (s : State), k < 8 → s.presents m (encR 0x22 rd rs1 0 (0x100 + k)) ignC ⟨[rs1], [rd]⟩ →
    let v := (s.mason m).line rd
    ∃ t, exec (.lput m 0 rd rs1 k) s = .next t ∧ ∃ d : BitVec 512, s.lineResult t m rd ⟨d, v.poison, v.fill⟩ ∧
      ∀ i, i < 8 → d.extractLsb' (64 * i) 64 =
        if i = k then (s.mason m).reg rs1 else v.data.extractLsb' (64 * i) 64) ∧
  (∀ (m rd rs1 : Nat) (s : State), s.presents m (encR 0x22 rd rs1 0 0x200) ignC ⟨[], [rd, rs1]⟩ →
    ∃ t, exec (.lmov m 0 rd rs1) s = .next t ∧ s.lineResult t m rd ((s.mason m).line rs1)) ∧
  (∀ (m rd : Nat) (s : State), s.presents m (encR 0x22 rd 0 0 0x300) (ignB + ignC) ⟨[], [rd]⟩ →
    ∃ t, exec (.lclr m 0 rd) s = .next t ∧ s.lineResult t m rd ⟨0, false, ((s.mason m).line rd).fill⟩) ∧
  (∀ (m rd rs1 rs2 : Nat) (s : State), s.presents m (encR 0x22 rd rs1 rs2 0x400) 0 ⟨[rd, rs1], [rs2]⟩ →
    let v := (s.mason m).line rs2
    (v.poison = false → ∃ t, exec (.lcrc m 0 rd rs1 rs2) s = .next t ∧
      s.scalarResult t m rd (BitVec.ofNat 64 (crcRun (((s.mason m).reg rs1).toNat % 2 ^ 32)
        ((List.range 64).map (fun i => (v.data.extractLsb' (8 * i) 8).toNat)))) ((s.mason m).pc + 1)) ∧
    (v.poison = true → exec (.lcrc m 0 rd rs1 rs2) s = .next (s.akTrapHere m 0xB rs2 v.fill))) ∧
  (∀ (m rd rs1 rs2 : Nat) (s : State), s.presents m (encR 0x22 rd rs1 rs2 0x500) 0 ⟨[rd, rs1], [rs2]⟩ →
    let v := (s.mason m).line rs2
    (v.poison = false → ∃ t, exec (.lsum32 m 0 rd rs1 rs2) s = .next t ∧
      s.scalarResult t m rd ((s.mason m).reg rs1 +
        BitVec.ofNat 64 ((List.range 16).map (fun i => (v.data.extractLsb' (32 * i) 32).toNat)).sum)
        ((s.mason m).pc + 1)) ∧
    (v.poison = true → exec (.lsum32 m 0 rd rs1 rs2) s = .next (s.akTrapHere m 0xB rs2 v.fill))) ∧
  (∀ (m rd rs1 : Nat) (s : State), s.presents m (encR 0x22 rd rs1 0 0x600) ignC ⟨[rd], [rs1]⟩ →
    ∃ t, exec (.lpsn m 0 rd rs1) s = .next t ∧
      s.scalarResult t m rd (if ((s.mason m).line rs1).poison then 1 else 0) ((s.mason m).pc + 1)) ∧
  (∀ (m rs2 rs1 imm : Nat) (s : State), imm < 2 ^ 16 → s.presents m (encI 0x21 rs2 rs1 imm) 0 ⟨[rs1], [rs2]⟩ →
    scratchFits m ((s.mason m).reg rs1 + (BitVec.ofNat 16 imm).signExtend 64) 64 →
    ((s.mason m).line rs2).poison = true →
      exec (.sls m 0 rs2 rs1 imm) s = .next (s.akTrapHere m 0xB rs2 ((s.mason m).line rs2).fill))

/-- Loads, stores, walk loads and AMO instructions: what an issued request carries (R55, R240, R277, R278, R279, R280,
R281). LD, ST, LL, SL, SLM and WLD whose address is aligned, translates and decodes, with room in the core, issue one
request: its opcode, size, address, data, byte enables and poison are those of R277, R278 and R280, its result goes to
rd or the line register, rt takes a posted status, and a posted instruction goes on to the next word while another
waits. AMO_ADD, OR, AND, XOR, SWAP, CAS, MIN, MAX, UMIN, UMAX on 4 or 8 bytes and AMO_SETAD on 8 bytes issue their port
atomic at rs1 with operand A from rs2 and, for CAS, B from rd; the returned value goes to rd, and rd = s0 asks for none.
-/
def Obligations.AkletMemoryRequests : Prop :=
  ((∀ (m rd rs1 rt : Nat) (posted : Bool) (size : Nat) (sign : Bool) (off ga : Nat) (slots : List Nat) (s : State),
     size < 4 → off < 2 ^ 7 → s.presents m (encX 0x28 rd rs1 rt posted size sign off) 0 ⟨[rd, rs1, rt], []⟩ →
     let q : Ask := ⟨.rdPart, size,
       ((s.mason m).reg rs1 + ((BitVec.ofNat 7 off).signExtend 64 <<< size)).toNat, true, false, false, none, 0, false, 0, false,
       .load, if rd = 0 then .none else .scalar rd, rt, posted, sign⟩
     s.mayIssue m (2 ^ size) q ga slots →
     exec (.ld m 0 rd rs1 rt posted size sign off) s = .next (s.issued m q ga slots)) ∧
   (∀ (m rs2 rs1 rt : Nat) (posted : Bool) (size off ga : Nat) (slots : List Nat) (s : State),
     size < 4 → off < 2 ^ 7 → s.presents m (encX 0x29 rs2 rs1 rt posted size false off) 0 ⟨[rs2, rs1, rt], []⟩ →
     let va := ((s.mason m).reg rs1 + ((BitVec.ofNat 7 off).signExtend 64 <<< size)).toNat
     let q : Ask := ⟨.wrPart, size, va, false, true, false,
       some (BitVec.ofNat 512 (((s.mason m).reg rs2).toNat % 2 ^ (8 * 2 ^ size) * 2 ^ (8 * (va % 64)))),
       enables (va % 64) (2 ^ size), false, 0, false, .store, .none, rt, posted, false⟩
     s.mayIssue m (2 ^ size) q ga slots →
     exec (.st m 0 rs2 rs1 rt posted size off) s = .next (s.issued m q ga slots)) ∧
   (∀ (m l rs1 rt : Nat) (posted : Bool) (off ga : Nat) (slots : List Nat) (s : State),
     off < 2 ^ 10 → s.presents m (encL 0x2A l rs1 rt posted off) 0 ⟨[rs1, rt], [l]⟩ →
     let q : Ask := ⟨.rdLine, 0, ((s.mason m).reg rs1 + ((BitVec.ofNat 10 off).signExtend 64 <<< 6)).toNat,
       true, false, false, none, 0, false, 0, false, .load, .line l, rt, posted, false⟩
     s.mayIssue m 64 q ga slots → exec (.ll m 0 l rs1 rt posted off) s = .next (s.issued m q ga slots)) ∧
   (∀ (m l rs1 rt : Nat) (posted : Bool) (off ga : Nat) (slots : List Nat) (s : State),
     off < 2 ^ 10 → s.presents m (encL 0x2B l rs1 rt posted off) 0 ⟨[rs1, rt], [l]⟩ →
     let q : Ask := ⟨.wrLine, 0, ((s.mason m).reg rs1 + ((BitVec.ofNat 10 off).signExtend 64 <<< 6)).toNat,
       false, true, false, some ((s.mason m).line l).data, 0, ((s.mason m).line l).poison, 0, false, .store, .none, rt,
       posted, false⟩
     s.mayIssue m 64 q ga slots → exec (.sl m 0 l rs1 rt posted off) s = .next (s.issued m q ga slots)) ∧
   (∀ (m l rs1 rt : Nat) (posted : Bool) (rm ga : Nat) (slots : List Nat) (s : State),
     rm < 32 → s.presents m (encL 0x2C l rs1 rt posted (32 * rm)) 0 ⟨[rs1, rt, rm], [l]⟩ →
     let q : Ask := ⟨.wrPart, 0, ((s.mason m).reg rs1).toNat,
       false, true, false, some ((s.mason m).line l).data, (s.mason m).reg rm, ((s.mason m).line l).poison,
       0, false, .store, .none, rt, posted, false⟩
     s.mayIssue m 64 q ga slots → exec (.slm m 0 l rs1 rt posted rm) s = .next (s.issued m q ga slots)) ∧
   (∀ (m rd rs1 imm ga : Nat) (slots : List Nat) (s : State),
     imm < 2 ^ 16 → s.presents m (encI 0x2E rd rs1 imm) 0 ⟨[rd, rs1], []⟩ →
     let q : Ask := ⟨.rdPart, 3, ((s.mason m).reg rs1 + (BitVec.ofNat 16 imm).signExtend 64).toNat,
       true, false, true, none, 0, false, 0, false, .walkLoad, if rd = 0 then .none else .scalar rd, 0, false, false⟩
     s.mayIssue m 8 q ga slots → exec (.wld m 0 rd rs1 imm) s = .next (s.issued m q ga slots))) ∧
  ((∀ e ∈ amoRows, ∀ (m rd rs1 rs2 rt : Nat) (posted wide : Bool) (ga : Nat) (slots : List Nat) (s : State),
     s.presents m (encM 0x2D rd rs1 rs2 rt posted ((if wide then 16 else 0) + e.2.1)) 0 ⟨[rd, rs1, rs2, rt], []⟩ →
     let size := if wide then 3 else 2
     let q : Ask := ⟨e.2.2, size, ((s.mason m).reg rs1).toNat, true, true, false,
       some (BitVec.ofNat 512 (((s.mason m).reg rs2).toNat +
         (if e.2.2 = .atCas then ((s.mason m).reg rd).toNat else 0) * 2 ^ 64)), 0, false, 0,
       decide (rd = 0), .atomic, if rd = 0 then .none else .scalar rd, rt, posted, false⟩
     s.mayIssue m (2 ^ size) q ga slots →
     exec (e.1 m 0 rd rs1 rs2 rt posted wide) s = .next (s.issued m q ga slots)) ∧
   (∀ (m rd rs1 rs2 rt : Nat) (posted : Bool) (ga : Nat) (slots : List Nat) (s : State),
     s.presents m (encM 0x2D rd rs1 rs2 rt posted 26) 0 ⟨[rd, rs1, rs2, rt], []⟩ →
     let q : Ask := ⟨.setad, 3, ((s.mason m).reg rs1).toNat, true, true, true,
       some (BitVec.ofNat 512 ((s.mason m).reg rs2).toNat), 0, false, 0,
       decide (rd = 0), .atomic, if rd = 0 then .none else .scalar rd, rt, posted, false⟩
     s.mayIssue m 8 q ga slots →
     exec (.amoSetad m 0 rd rs1 rs2 rt posted) s = .next (s.issued m q ga slots)))

/-- FENCE, ERET, TEND, TRAP, WAIT, HALT, CSRR and CSRW; handler-only instructions in task mode trap PRIV (R242, R271,
R283, R289, R290, R291, R294). FENCE with nothing outstanding delivers the kept status and clears it; ERET resumes the
handler or the task at its saved PC; TEND in task mode and TRAP trap TASK_END and SWTRAP with the next PC saved; WAIT
ends after rs1 (at most 65,535) times 64 ns, or at once where a halt is due, HALT leaves the Mason HALTED with PC at the
next instruction; CSRR delivers the register that R289 numbers, CSRW writes it in its width. For a Mason in task mode
whose next word is legal and handler-only (SETAD, WLD, HOD, ERET, HALT, the handler's system registers, the template
instructions), the commands WLD, HPUSH, HPOP, HCOUNT, ERET, HALT, CSRW, TPL_WRITE, TPL_INV, TPL_INVALL and TPL_SYNC that
name it trap PRIV with the word as trap value. -/
def Obligations.AkletSystemAndPrivilege : Prop :=
  ((∀ (m rd : Nat) (s : State), s.presents m (encR 0x38 rd 0 0 0) (ignB + ignC) ⟨[rd], []⟩ → (s.mason m).outs = [] →
     exec (.fence m 0 rd) s = .next (s.modMason m (fun x =>
       ({ x.setReg rd (BitVec.ofNat 64 (match x.fence with | none => 0 | some e => e.1.code)) with
         faddr := (match x.fence with | none => x.faddr | some e => e.2), fence := none }).goto (x.pc + 1)))) ∧
   (∀ (m : Nat) (s : State), s.presents m (encR 0x38 0 0 0 1) (ignA + ignB + ignC) ⟨[], []⟩ →
     ((s.mason m).nested = true → exec (.eret m 0) s = .next (s.modMason m (fun x =>
       ({ x with nested := false }).goto (Tbl.get x.csr 0 3).toNat))) ∧
     ((s.mason m).nested = false → exec (.eret m 0) s = .next (s.modMason m (fun x =>
       ({ x with handler := false }).goto (Tbl.get x.csr 0 0).toNat)))) ∧
   (∀ (m : Nat) (s : State), s.presents m (encR 0x38 0 0 0 2) (ignA + ignB + ignC) ⟨[], []⟩ →
     (s.mason m).handler = false → exec (.tend m 0) s = .next (s.akTrap m 0xD 0 0 ((s.mason m).pc + 1))) ∧
   (∀ (m rs1 : Nat) (s : State), s.presents m (encR 0x38 0 rs1 0 3) (ignA + ignC) ⟨[rs1], []⟩ →
     exec (.trap m 0 rs1) s = .next (s.akTrap m 0xE 0 ((s.mason m).reg rs1).toNat ((s.mason m).pc + 1))) ∧
   (∀ (m rs1 : Nat) (s : State), s.presents m (encR 0x38 0 rs1 0 4) (ignA + ignC) ⟨[rs1], []⟩ →
     ((s.mason m).haltDue = false ∧ (s.mason m).dbgDue = false →
       exec (.wait m 0 rs1) s = .next (s.modMason m (fun x => { x with
         waitEnd := some (s.uptime + 64 * min 65535 (x.reg rs1).toNat), stalled := false }))) ∧
     ((s.mason m).haltDue = true ∨ (s.mason m).dbgDue = true →
       exec (.wait m 0 rs1) s = .next (s.modMason m (fun x => x.goto (x.pc + 1))))) ∧
   (∀ (m e : Nat) (s : State), s.cold = false → (s.mason m).waitEnd = some e → e ≤ s.uptime →
     exec (.waitExpiry m) s = .next (s.modMason m (fun x =>
       ({ x with waitEnd := none, pc := x.pc + 1 }).finish))) ∧
   (∀ (m : Nat) (s : State), s.presents m (encR 0x38 0 0 0 5) (ignA + ignB + ignC) ⟨[], []⟩ →
     exec (.halt m 0) s = .next (s.modMason m (fun x => { x.goto (x.pc + 1) with st := 0 }))) ∧
   (∀ (m rd n : Nat) (s : State), s.presents m (encR 0x38 rd 0 n 8) ignB ⟨[rd], []⟩ →
     ∃ t, exec (.csrr m 0 rd n) s = .next t ∧ s.scalarResult t m rd
       (match n with
        | 6 => BitVec.ofNat 64 (s.mason m).task
        | 7 => BitVec.ofNat 64 (match (s.mason m).fence with
            | none => 0
            | some e => e.1.code + (if e.1.code = 0 then 0 else 16))
        | 8 => BitVec.ofNat 64 (s.mason m).faddr
        | 9 => BitVec.ofNat 64 s.uptime
        | 10 => BitVec.ofNat 64 s.straps.node
        | 11 => BitVec.ofNat 64 (if m < 192 then m else 0xFF)
        | 12 => BitVec.ofNat 64 ((s.mason m).outstanding + 32 * (s.mason m).runs)
        | n => Tbl.get (s.mason m).csr 0 n) ((s.mason m).pc + 1)) ∧
   (∀ (m n rs1 : Nat) (s : State), s.presents m (encR 0x38 0 rs1 n 9) ignA ⟨[rs1], []⟩ →
     exec (.csrw m 0 n rs1) s = .next (s.modMason m (fun x =>
       (match n with
        | 0 | 3 => { x with csr := Tbl.set x.csr 0 n (BitVec.ofNat 64 ((x.reg rs1).toNat % 2 ^ 12)) }
        | 1 | 4 => { x with csr := Tbl.set x.csr 0 n (BitVec.ofNat 64 ((x.reg rs1).toNat % 2 ^ 16)) }
        | 2 | 5 => { x with csr := Tbl.set x.csr 0 n (x.reg rs1) }
        | 6 => { x with task := Nat.land (x.reg rs1).toNat 0x1CFFF }
        | _ => x).goto (x.pc + 1))))) ∧
  (∀ (m : Nat) (s : State), s.cold = false → s.hasEngine m = true → (s.mason m).ready = true → (s.mason m).pc < 4096 →
     akLegal (s.mason m).word = true → akPriv (s.mason m).word = true → (s.mason m).handler = false →
     let trapped : Host.Outcome State Fault Refusal := .next (s.akTrapHere m 2 0 (s.mason m).word)
     (∀ rd rs1 imm, (s.mason m).word = encI 0x2E rd rs1 imm → exec (.wld m 0 rd rs1 imm) s = trapped) ∧
     (∀ rd rs1 rs2, (s.mason m).word = encM 0x30 rd rs1 rs2 0 false 0 → exec (.hpushLo m 0 rd rs1 rs2) s = trapped) ∧
     (∀ rd rs1 rs2, (s.mason m).word = encM 0x30 rd rs1 rs2 0 false 4 → exec (.hpushHi m 0 rd rs1 rs2) s = trapped) ∧
     (∀ rd rs1 rt, (s.mason m).word = encM 0x30 rd rs1 0 rt false 1 → exec (.hpopLo m 0 rd rs1 rt) s = trapped) ∧
     (∀ rd rs1 rt, (s.mason m).word = encM 0x30 rd rs1 0 rt false 5 → exec (.hpopHi m 0 rd rs1 rt) s = trapped) ∧
     (∀ rd rs1, (s.mason m).word = encM 0x30 rd rs1 0 0 false 2 → exec (.hcount m 0 rd rs1) s = trapped) ∧
     ((s.mason m).word = encR 0x38 0 0 0 1 → exec (.eret m 0) s = trapped) ∧
     ((s.mason m).word = encR 0x38 0 0 0 5 → exec (.halt m 0) s = trapped) ∧
     (∀ n rs1, (s.mason m).word = encR 0x38 0 rs1 n 9 → exec (.csrw m 0 n rs1) s = trapped) ∧
     (∀ rs1, (s.mason m).word = encR 0x38 0 rs1 0 0x10 → exec (.tplWrite m 0 rs1) s = trapped) ∧
     (∀ rs1, (s.mason m).word = encR 0x38 0 rs1 0 0x11 → exec (.tplInv m 0 rs1) s = trapped) ∧
     ((s.mason m).word = encR 0x38 0 0 0 0x12 → exec (.tplInvall m 0) s = trapped) ∧
     ((s.mason m).word = encR 0x38 0 0 0 0x13 → exec (.tplSync m 0) s = trapped))

/-- A trap saves PC, cause and value and enters its vector; a third one stops the Mason (R242). For every cause,
sub-cause, trap value and saved PC: in task mode EPC, CAUSE (cause plus 256 times the sub-cause) and TVAL are written,
the mode becomes handler and PC is 8 times the cause; in handler mode HEPC, HCAUSE and HTVAL are written, NESTED is set,
the task's saved state is kept and PC is 8 times the cause; while NESTED the Mason stops in FAULT with DOUBLE_TRAP set
and nothing saved. No register, line register, scratch byte, template entry or outstanding request changes, and no other
Mason. ILLEGAL_INSTRUCTION takes that trap, cause 1 with the word, and with the PC past the store cause 3, sub-cause 5.
ERET resumes the handler and clears NESTED, or resumes the task. -/
def Obligations.AkletTrapEntry : Prop :=
  (∀ (m cause sub tval epc : Nat) (s : State),
    let t := s.akTrap m cause sub tval epc
    (∀ k, k ≠ m → t.mason k = s.mason k) ∧ (t.mason m).regs = (s.mason m).regs ∧
    (t.mason m).lregs = (s.mason m).lregs ∧ (t.mason m).scratch = (s.mason m).scratch ∧
    (t.mason m).tpl = (s.mason m).tpl ∧ (t.mason m).outs = (s.mason m).outs ∧
    ((s.mason m).handler = false →
      (t.mason m).handler = true ∧ (t.mason m).nested = (s.mason m).nested ∧ (t.mason m).pc = 8 * cause ∧
      (∀ n, Tbl.get (t.mason m).csr 0 n =
        if n = 0 then BitVec.ofNat 64 (epc % 4096) else if n = 1 then BitVec.ofNat 64 (cause + 256 * sub)
        else if n = 2 then BitVec.ofNat 64 tval else Tbl.get (s.mason m).csr 0 n)) ∧
    ((s.mason m).handler = true → (s.mason m).nested = false →
      (t.mason m).handler = true ∧ (t.mason m).nested = true ∧ (t.mason m).pc = 8 * cause ∧
      (∀ n, Tbl.get (t.mason m).csr 0 n =
        if n = 3 then BitVec.ofNat 64 (epc % 4096) else if n = 4 then BitVec.ofNat 64 (cause + 256 * sub)
        else if n = 5 then BitVec.ofNat 64 tval else Tbl.get (s.mason m).csr 0 n)) ∧
    ((s.mason m).handler = true → (s.mason m).nested = true →
      (t.mason m).st = 2 ∧ (m < 192 → (t.rawF MAS_ERR_BITS m 0 0).testBit 5 = true) ∧
      (t.mason m).csr = (s.mason m).csr ∧ (t.mason m).handler = true ∧ (t.mason m).nested = true)) ∧
  (∀ (m cause sub tval : Nat) (s : State), s.akTrapHere m cause sub tval = s.akTrap m cause sub tval (s.mason m).pc) ∧
  (∀ (m : Nat) (s : State), s.cold = false → s.hasEngine m = true → (s.mason m).ready = true →
    ((s.mason m).pc < 4096 → akLegal (s.mason m).word = false →
      exec (.illegalInstruction m 0) s = .next (s.akTrap m 1 0 (s.mason m).word (s.mason m).pc)) ∧
    (4096 ≤ (s.mason m).pc → exec (.illegalInstruction m 0) s = .next (s.akTrap m 3 5 (s.mason m).pc (s.mason m).pc))) ∧
  (∀ (m : Nat) (s : State), s.presents m (encR 0x38 0 0 0 1) (ignA + ignB + ignC) ⟨[], []⟩ →
    ((s.mason m).nested = true → exec (.eret m 0) s = .next (s.modMason m (fun x =>
      ({ x with nested := false }).goto (Tbl.get x.csr 0 3).toNat))) ∧
    ((s.mason m).nested = false → exec (.eret m 0) s = .next (s.modMason m (fun x =>
      ({ x with handler := false }).goto (Tbl.get x.csr 0 0).toNat))))

/-- RUN ZERO, FILL and COPY: the operand traps, and what an issued run leaves (R245, R283, R285, R291, R292). A run
traps OPERAND: with a misaligned base sub-cause ALIGN and the lowest such base; else with a count of 0 or over 1,024
COUNT and the count; else with a range beyond the address limit RANGE and the first address beyond (the order of the
three and RANGE's trap value are the model's choice, log 98). One whose operands are good, whose lines all translate and
decode, which is in one channel where it is individual, with fewer than two runs outstanding, no line of it under
another run, and room for its requests, becomes one outstanding run of exactly those requests; a posted one goes on to
the next word and will put its status in rt, another waits. That a run enters the core whole or not at all is the
model's choice (log 100). -/
def Obligations.AkletRuns : Prop :=
  (∀ (q : RunAsk) (handler : Bool),
    let lim := 2 ^ (if handler then 52 else 48)
    let base := fun b : Nat => b = q.dst ∨ (q.kind = 2 ∧ b = q.src)
    (∀ b, base b → b % 64 ≠ 0 → (∀ k, base k → k % 64 ≠ 0 → b ≤ k) → q.fault handler = some (1, b)) ∧
    ((∀ b, base b → b % 64 = 0) → q.count = 0 ∨ 1024 < q.count → q.fault handler = some (3, q.count)) ∧
    (∀ b, (∀ k, base k → k % 64 = 0) → 1 ≤ q.count → q.count ≤ 1024 → base b → lim < b + 64 * q.count →
      (∀ k, base k → lim < k + 64 * q.count → b ≤ k) → q.fault handler = some (2, max b lim)) ∧
    ((∀ b, base b → b % 64 = 0 ∧ b + 64 * q.count ≤ lim) → 1 ≤ q.count → q.count ≤ 1024 →
      q.fault handler = none)) ∧
  (∀ (m rd rs1 rt : Nat) (posted indiv : Bool) (s : State),
    s.presents m (encM 0x2F rd rs1 0 rt posted (if indiv then 4 else 0)) 0 ⟨[rd, rs1, rt], []⟩ →
    s.runAnswers m ⟨0, ((s.mason m).reg rs1).toNat, 0, ((s.mason m).reg rd).toNat, 0, false, indiv, rt, posted⟩
      (exec (.runZero m 0 rd rs1 rt posted indiv) s)) ∧
  (∀ (m rd rs1 rs2 rt : Nat) (posted indiv : Bool) (s : State),
    s.presents m (encM 0x2F rd rs1 rs2 rt posted (if indiv then 5 else 1)) 0 ⟨[rd, rs1, rt], [rs2]⟩ →
    s.runAnswers m ⟨1, ((s.mason m).reg rs1).toNat, 0, ((s.mason m).reg rd).toNat, ((s.mason m).line rs2).data,
      ((s.mason m).line rs2).poison, indiv, rt, posted⟩ (exec (.runFill m 0 rd rs1 rs2 rt posted indiv) s)) ∧
  (∀ (m rd rs1 rs2 rt : Nat) (posted indiv : Bool) (s : State),
    s.presents m (encM 0x2F rd rs1 rs2 rt posted (if indiv then 6 else 2)) 0 ⟨[rd, rs1, rs2, rt], []⟩ →
    s.runAnswers m ⟨2, ((s.mason m).reg rs1).toNat, ((s.mason m).reg rs2).toNat, ((s.mason m).reg rd).toNat, 0, false,
      indiv, rt, posted⟩ (exec (.runCopy m 0 rd rs1 rs2 rt posted indiv) s))

/-- HPUSH, HPOP, HCOUNT, LOCK and UNLOCK (R286, R287, R288, R295, R299, R308, R309). HPUSH of the low or high half of an
unmarked line into a hod that the Mason may push puts 1 into rd where the hod takes it, else 0; a marked line traps
POISON_USE, a hod the Mason may not use HOD. HPOP puts the item into the half and its low byte into rt, and waits while
the hod refills; that it keeps the other half's poison mark is the model's choice (log 101). HCOUNT delivers the items
held, of any hod that exists (log 97). LOCK of a good range in one page, for which no permission is asked (log 102),
puts the Keystone's answer into rd; a bad one traps, whoever else asks in its cycle; a Screed sequencer, which is no
lock requester of R307, gets outcome 3 (the model's choice, log 142). Alone in its cycle the LOCK is judged by itself;
two Masons' LOCKs of one cycle are judged one after the other in the order of R308, the second seeing what the first was
granted; other units' requests of the cycle are ranked and judged with it, and one that was so judged collects its
answer at its own command (log 151). UNLOCK of a slot that the Mason holds, with no request of its own under way there,
frees that slot and puts 0 into rd, of any other 1. -/
def Obligations.AkletHodsAndLocks : Prop :=
  (∀ (m rd rs1 rs2 : Nat) (s : State),
    let h := ((s.mason m).reg rs1).toNat
    let v := (s.mason m).line rs2
    (s.presents m (encM 0x30 rd rs1 rs2 0 false 0) 0 ⟨[rd, rs1], [rs2]⟩ →
      (s.hasHod h = false ∨ masonPush m h = false → exec (.hpushLo m 0 rd rs1 rs2) s = .next (s.akTrapHere m 0xF 0 h)) ∧
      (s.hasHod h = true → masonPush m h = true → v.poison = true →
        exec (.hpushLo m 0 rd rs1 rs2) s = .next (s.akTrapHere m 0xB rs2 v.fill)) ∧
      (s.hasHod h = true → masonPush m h = true → v.poison = false →
        ∃ u : State, exec (.hpushLo m 0 rd rs1 rs2) s = .next u.settle ∧ (u.mason m).pc = (s.mason m).pc + 1 ∧
          u.hods = (s.hodPush h (v.data.extractLsb' 0 256) false).1.hods ∧
          (rd ≠ 0 → (u.mason m).reg rd = if (s.hod h).full then 0 else 1))) ∧
    (s.presents m (encM 0x30 rd rs1 rs2 0 false 4) 0 ⟨[rd, rs1], [rs2]⟩ →
      (s.hasHod h = false ∨ masonPush m h = false → exec (.hpushHi m 0 rd rs1 rs2) s = .next (s.akTrapHere m 0xF 0 h)) ∧
      (s.hasHod h = true → masonPush m h = true → v.poison = true →
        exec (.hpushHi m 0 rd rs1 rs2) s = .next (s.akTrapHere m 0xB rs2 v.fill)) ∧
      (s.hasHod h = true → masonPush m h = true → v.poison = false →
        ∃ u : State, exec (.hpushHi m 0 rd rs1 rs2) s = .next u.settle ∧ (u.mason m).pc = (s.mason m).pc + 1 ∧
          u.hods = (s.hodPush h (v.data.extractLsb' 256 256) false).1.hods ∧
          (rd ≠ 0 → (u.mason m).reg rd = if (s.hod h).full then 0 else 1)))) ∧
  (∀ (m rd rs1 rt : Nat) (hi : Bool) (s : State),
    s.presents m (encM 0x30 rd rs1 0 rt false (if hi then 5 else 1)) ignC ⟨[rs1, rt], [rd]⟩ →
    let h := ((s.mason m).reg rs1).toNat
    let out := if hi then exec (.hpopHi m 0 rd rs1 rt) s else exec (.hpopLo m 0 rd rs1 rt) s
    let l := (s.mason m).line rd
    (s.hasHod h = false ∨ masonPop m h = false → out = .next (s.akTrapHere m 0xF 0 h)) ∧
    (s.hasHod h = true → masonPop m h = true →
      (s.hodPop h m false = none → out = .next ((s.hodWait h m).akStall m)) ∧
      (∀ v i, s.hodPop h m false = some (v, i) → ∃ u : State, out = .next u.settle ∧ u.hods = v.hods ∧
        (u.mason m).pc = (s.mason m).pc + 1 ∧ (rt ≠ 0 → (u.mason m).reg rt = (i.setWidth 8).setWidth 64) ∧
        ((u.mason m).line rd).poison = l.poison ∧
        ((u.mason m).line rd).data.extractLsb' (if hi then 256 else 0) 256 = i ∧
        ((u.mason m).line rd).data.extractLsb' (if hi then 0 else 256) 256 =
          l.data.extractLsb' (if hi then 0 else 256) 256))) ∧
  (∀ (m rd rs1 : Nat) (s : State), s.presents m (encM 0x30 rd rs1 0 0 false 2) ignC ⟨[rd, rs1], []⟩ →
    let h := ((s.mason m).reg rs1).toNat
    (s.hasHod h = true → ∃ t, exec (.hcount m 0 rd rs1) s = .next t ∧
      s.scalarResult t m rd (BitVec.ofNat 64 (s.hod h).count) ((s.mason m).pc + 1)) ∧
    (s.hasHod h = false → exec (.hcount m 0 rd rs1) s = .next (s.akTrapHere m 0xF 0 h))) ∧
  (∀ (m rd rs1 rs2 : Nat) (s : State), s.presents m (encR 0x31 rd rs1 rs2 0) 0 ⟨[rd, rs1, rs2], []⟩ →
    let n := ((s.mason m).reg rs2).toNat
    (∀ cause sub v also rivals, (s.mason m).lockAt ((s.mason m).reg rs1).toNat n = .trap cause sub v →
      exec (.lock m 0 rd rs1 rs2 also rivals) s = .next (s.akTrapHere m cause sub v)) ∧
    (∀ ga slots also rivals, (s.mason m).lockAt ((s.mason m).reg rs1).toNat n = .go ga slots → 192 ≤ m →
      exec (.lock m 0 rd rs1 rs2 also rivals) s = .next (s.akPut m rd (BitVec.ofNat 64 (lockResult 3 0 0)))) ∧
    (∀ ga slots rivals, (s.mason m).lockAt ((s.mason m).reg rs1).toNat n = .go ga slots → m < 192 →
      let ans := (s.touch m slots).keyAsked ⟨m, 0, m, ga, n⟩ rivals
      exec (.lock m 0 rd rs1 rs2 [] rivals) s = .next (ans.1.akPut m rd (BitVec.ofNat 64 ans.2))) ∧
    (∀ ga slots, (s.mason m).lockAt ((s.mason m).reg rs1).toNat n = .go ga slots → m < 192 →
      let u := s.touch m slots
      (s.keyGiven ⟨m, 0, m, ga, n⟩ = none →
        exec (.lock m 0 rd rs1 rs2 [] []) s =
          .next ((u.keyLock ⟨m, 0, m, ga, n⟩).1.akPut m rd (BitVec.ofNat 64 (u.keyLock ⟨m, 0, m, ga, n⟩).2))) ∧
      (∀ v, s.keyGiven ⟨m, 0, m, ga, n⟩ = some v →
        exec (.lock m 0 rd rs1 rs2 [] []) s = .next (({ u with key := { u.key with
          given := u.key.given.filter (fun e => decide (lockRival e.1 ≠ some (⟨m, 0, m, ga, n⟩ : KeyReq))) } }).akPut m rd
            (BitVec.ofNat 64 v)))) ∧
    (∀ ga slots k q dst used, (s.mason m).lockAt ((s.mason m).reg rs1).toNat n = .go ga slots → m < 192 → k ≠ m →
      s.lockAsk k = some (q, dst, used) → s.keyGiven ⟨m, 0, m, ga, n⟩ = none → s.keyGiven q = none →
      let u := (s.touch m slots).touch k used
      (s.keyRank 0 m < s.keyRank 0 k →
        let a := u.keyLock ⟨m, 0, m, ga, n⟩
        let b := a.1.keyLock q
        exec (.lock m 0 rd rs1 rs2 [k] []) s =
          .next ((b.1.akPut m rd (BitVec.ofNat 64 a.2)).akPut k dst (BitVec.ofNat 64 b.2))) ∧
      (s.keyRank 0 k < s.keyRank 0 m →
        let b := u.keyLock q
        let a := b.1.keyLock ⟨m, 0, m, ga, n⟩
        exec (.lock m 0 rd rs1 rs2 [k] []) s =
          .next ((a.1.akPut m rd (BitVec.ofNat 64 a.2)).akPut k dst (BitVec.ofNat 64 b.2))))) ∧
  (∀ (m rd rs1 : Nat) (s : State), s.presents m (encR 0x31 rd rs1 0 1) ignC ⟨[rd, rs1], []⟩ →
    let slot := ((s.mason m).reg rs1).toNat
    (∀ k, Tbl.find s.key.slots slot = some k → k.torn = false → k.kind = 0 → k.owner = m →
      (s.lockBusy m k = true → exec (.unlock m 0 rd rs1) s = .next (s.akStall m)) ∧
      (s.lockBusy m k = false → ∃ t, exec (.unlock m 0 rd rs1) s = .next t ∧
        (∀ i, Tbl.find t.key.slots i = if i = slot then none else Tbl.find s.key.slots i) ∧
        (rd ≠ 0 → (t.mason m).reg rd = 0) ∧ (t.mason m).pc = (s.mason m).pc + 1)) ∧
    ((∀ k, Tbl.find s.key.slots slot = some k → k.torn = true ∨ k.kind ≠ 0 ∨ k.owner ≠ m) →
      ∃ t, exec (.unlock m 0 rd rs1) s = .next t ∧ s.scalarResult t m rd 1 ((s.mason m).pc + 1)))

/-- TPL_WRITE, TPL_INV, TPL_INVALL and TPL_SYNC on a Mason's template (R247, R249, R250, R253, R290). TPL_WRITE of a
well-formed, unpoisoned entry that overlaps no valid one puts it, REF set, into one slot and changes no other but for
REF; an ill-formed or poisoned one traps TPL_FORMAT, an overlapping one TPL_OVERLAP. TPL_INV leaves no entry that hits
the address and takes nothing else away, TPL_INVALL leaves no valid entry. TPL_SYNC waits while an outstanding request
went through an invalidated entry, and otherwise changes nothing but the PC. (The premises that the clock is a slot
number and that the template's keys rise hold of every reachable state.) -/
def Obligations.AkletTemplates : Prop :=
  (∀ (m rs1 : Nat) (s : State), s.presents m (encR 0x38 0 rs1 0 0x10) (ignA + ignC) ⟨[], [rs1]⟩ →
    let v := (s.mason m).line rs1
    let e := entryOf v.data
    (v.poison = true ∨ tplGood e = false → exec (.tplWrite m 0 rs1) s = .next (s.akTrapHere m 7 0 e.w0.toNat)) ∧
    (v.poison = false → tplGood e = true → (∃ b ∈ (s.mason m).tpl, tplMeets e b.2 = true) →
      exec (.tplWrite m 0 rs1) s = .next (s.akTrapHere m 6 0 e.w0.toNat)) ∧
    (v.poison = false → tplGood e = true → (∀ b ∈ (s.mason m).tpl, tplMeets e b.2 = false) → (s.mason m).clock < 64 →
      ∃ t slot, exec (.tplWrite m 0 rs1) s = .next t ∧ slot < 64 ∧
        Tbl.find (t.mason m).tpl slot = some { e with w0 := e.w0 ||| BitVec.ofNat 64 (2 ^ 54) } ∧
        (∀ k, k ≠ slot → (Tbl.find (t.mason m).tpl k).map TplEnt.body = (Tbl.find (s.mason m).tpl k).map TplEnt.body) ∧
        (t.mason m).pc = (s.mason m).pc + 1 ∧ (t.mason m).regs = (s.mason m).regs ∧
        (t.mason m).lregs = (s.mason m).lregs ∧ s.masonFrame t m)) ∧
  (∀ (m rs1 : Nat) (s : State), s.presents m (encR 0x38 0 rs1 0 0x11) (ignA + ignC) ⟨[rs1], []⟩ →
    Tbl.sorted (s.mason m).tpl = true →
    ∃ t, exec (.tplInv m 0 rs1) s = .next t ∧ (t.mason m).pc = (s.mason m).pc + 1 ∧ s.masonFrame t m ∧
      (t.mason m).regs = (s.mason m).regs ∧ (t.mason m).lregs = (s.mason m).lregs ∧
      ∀ k e, Tbl.find (t.mason m).tpl k = some e ↔
        Tbl.find (s.mason m).tpl k = some e ∧ e.hits ((s.mason m).reg rs1).toNat = false) ∧
  (∀ (m : Nat) (s : State), s.presents m (encR 0x38 0 0 0 0x12) (ignA + ignB + ignC) ⟨[], []⟩ →
    ∃ t, exec (.tplInvall m 0) s = .next t ∧ (t.mason m).pc = (s.mason m).pc + 1 ∧ s.masonFrame t m ∧
      (t.mason m).regs = (s.mason m).regs ∧ (t.mason m).lregs = (s.mason m).lregs ∧
      ∀ e ∈ (t.mason m).tpl, e.2.valid = false) ∧
  (∀ (m : Nat) (s : State), s.presents m (encR 0x38 0 0 0 0x13) (ignA + ignB + ignC) ⟨[], []⟩ →
    ((s.mason m).outs.any (fun o => o.stale) = true → exec (.tplSync m 0) s = .next (s.akStall m)) ∧
    ((s.mason m).outs.any (fun o => o.stale) = false →
      ∃ t, exec (.tplSync m 0) s = .next t ∧ s.scalarResult t m 0 0 ((s.mason m).pc + 1)))

/-- A step runs the front command on the state with the queue's rest; an empty queue idles; every command answers (R81,
R403, R405). For every state whose queue begins with a command, step answers what exec answers for that command on the
state with the rest of the queue; with an empty queue step answers the state itself. The queue is the model's own (log
entry 1): the rules cited say what arrives as a command. No command ends in a fault or a refusal, whatever its operands
and whatever the state. -/
def Obligations.StepRunsFront : Prop :=
  (∀ (c : Instr) (rest : List Instr) (s : State), s.pending = c :: rest →
    step s = exec c { s with pending := rest }) ∧
  (∀ s : State, s.pending = [] → step s = .next s) ∧
  (∀ (c : Instr) (s : State), ∃ t, exec c s = .next t)

/-- Only the resets and RCLK touch uptime, straps, cold and warm reset and the queue (R403, R404, R405, R31, R44, R47).
Every command but cold reset's two, warm reset's four, RCLK_LOSS and RCLK_CYCLE leaves the build, cold reset, the warm
reset's phase and instant, blk_warm_safe, the loss of RCLK, the straps and fuses, BLK_UPTIME and the queue as they were.
-/
def Obligations.CoreFrame : Prop :=
  ∀ (c : Instr) (s t : State), touchesCore c = false → exec c s = .next t → t.core = s.core

/-- Every step keeps the register file, the DRAM and Plinth in canonical form (R14, R15, R179, R221). If the tables of
registers, expert values, frozen selectors and DRAM codewords have strictly rising keys and Plinth's rows are listed
once, in order and never as zero, then so they are after any step. -/
def Obligations.TablesKept : Prop :=
  ∀ s t : State, s.tablesWf = true → step s = .next t → t.tablesWf = true

/-- The tables are in canonical form at reset (R14, R15). State.reset meets the invariant of TablesKept. -/
def Obligations.ResetTables : Prop :=
  State.reset.tablesWf = true

/-- The fatal output stays asserted until cold reset (R44, R46, R48). Once blk_fatal_t is asserted, no command but
COLD_RESET_ASSERT and no step that runs another one takes it back. -/
def Obligations.FatalLatched : Prop :=
  (∀ (c : Instr) (s t : State), c ≠ .coldResetAssert → s.fatal = true → exec c s = .next t → t.fatal = true) ∧
  (∀ s t : State, s.pending.head? ≠ some .coldResetAssert → s.fatal = true → step s = .next t → t.fatal = true)

/-- Cold reset: what it clears, what acts under it, and what its release samples and starts (R44, R47, R48, R221, R229,
R403, R404, R405, R422). With blk_cold_rst_n low, every command but COLD_RESET_ASSERT and COLD_RESET_RELEASE leaves the
whole state as it is (the model's choice, log 5). After COLD_RESET_ASSERT the state is State.reset with the build, the
error-signalling form, the queue, the rows of Plinth (with which of them cannot be corrected, and the model's note of
what was handed to them, log entry 137) and, channel by channel, the DIMMs outside the macro as they were; but for the
row of a store or RAW_WRITE in progress, whose content the spec leaves open (log entry 32) and which leaves the record
in force the same. In cold reset, COLD_RESET_RELEASE samples the straps and fuses in their widths, puts BLK_UPTIME at 0,
leaves BLK_BOOT.STEP at 0010, where Plinth starts up (the model's choice, log 6), and keeps the queue; with cold reset
already released it changes nothing, so later strap changes are ignored. -/
def Obligations.ColdReset : Prop :=
  (∀ (c : Instr) (s : State), s.cold = true → c ≠ .coldResetAssert → (∀ x corr lost, c ≠ .coldResetRelease x corr lost) →
     exec c s = .next s) ∧
  (∀ s : State, ∃ t, exec .coldResetAssert s = .next t ∧
     t = { State.reset with
       build := s.build, pair := s.pair, pending := s.pending, chans := t.chans,
       pln := { PlnSt.init with rows := t.pln.rows, bad := t.pln.bad, handed := s.pln.handed } } ∧
     (s.rowUnderWrite = none → t.pln.rows = s.pln.rows ∧ t.pln.bad = s.pln.bad) ∧
     (∀ r rec, s.rowUnderWrite = some (r, rec) → ∀ k, k ≠ r → t.plnRow k = s.plnRow k) ∧
     (∀ r type index, s.rowUnderWrite = some (r, some (type, index)) →
       t.inForce type index = s.inForce type index) ∧
     (Tbl.sorted s.chans = true → ∀ c, t.chan c = { Chan.init with dimm := (s.chan c).dimm })) ∧
  (∀ (x : Straps) (corr : Bool) (lost : List Nat) (s : State),
     (s.cold = true → ∃ t, exec (.coldResetRelease x corr lost) s = .next t ∧ t.cold = false ∧ t.uptime = 0 ∧
       t.straps = { x with node := x.node % 64, keyDigest := x.keyDigest % 2 ^ 384, nonce := x.nonce % 2 ^ 32,
                           vcoreMv := x.vcoreMv % 1024 } ∧
       t.rawF BLK_BOOT_STEP 0 0 0 = 2 ∧ t.pending = s.pending ∧ t.build = s.build) ∧
     (s.cold = false → exec (.coldResetRelease x corr lost) s = .next s))

/-- The phases of a warm reset, each only from the one before; RCLK and uptime (R31, R33, R45, R48, R96, R404, R409).
WARM_RESET_REQUEST latches the request, and the model notes the boot step it met, once, and not the 1001 of a warm
restart not yet over; DRAIN_DONE acts after it, when nothing that step 2 waits for is unfinished (what a sleeping
channel still has to issue is not waited for: the model's choice, log 124); APPLIED acts when every channel that was
trained is in self-refresh and Plinth's start-up is over, raises blk_warm_safe, and sets DERATE by the first measurement
after it; RELEASE acts after that and lowers it: every channel that was trained starts its exit, and BLK_BOOT.STEP reads
1001 while one of them with its PLL in lock has to exit (log 162); with none, W2 is over at once and STEP reads 0101
where the reset came before step 5, or in step 6 with a valid channel UNTRAINED, else 0111. In every other phase each
changes nothing. Uptime and straps stay. An RCLK cycle adds 10 to BLK_UPTIME and changes nothing else of the core,
whatever errors it meets; once RCLK is lost it changes nothing at all. RCLK_LOSS asserts the fatal output, leaves Plinth
no store, row or command in progress, the row under its write free (log 32), and acts once. -/
def Obligations.WarmResetAndUptime : Prop :=
  (∀ s : State, s.cold = false →
     (s.warm = 0 → ∃ t, exec .warmResetRequest s = .next t ∧
       t.core = { s with warm := 1, warmAt :=
         (if s.rawF BLK_BOOT_STEP 0 0 0 = 9 then s.warmAt else s.rawF BLK_BOOT_STEP 0 0 0) }.core) ∧
     (s.warm ≠ 0 → exec .warmResetRequest s = .next s) ∧
     (s.warm = 1 → (∀ r ∈ s.reqs, s.drainWaits r = false) →
       ∃ t, exec .warmResetDrainDone s = .next t ∧ t.core = { s with warm := 2 }.core) ∧
     (s.warm ≠ 1 → exec .warmResetDrainDone s = .next s) ∧
     (∀ nonce low vdd mv, s.warm = 2 → s.rawF BLK_BOOT_STEP 0 0 0 ≠ 2 →
       (∀ c, c < s.build → (s.chan c).wasTrained = true → s.lpState c = 2) →
       ∃ t, exec (.warmResetApplied nonce low vdd mv) s = .next t ∧ t.core = { s with warm := 3, warmSafe := true }.core ∧
         t.rawF MOR_STATUS_DERATE 0 0 0 = if low = true ∧ vdd < 720 then 1 else 0) ∧
     (∀ nonce low vdd mv, s.warm ≠ 2 ∨ s.rawF BLK_BOOT_STEP 0 0 0 = 2 →
       exec (.warmResetApplied nonce low vdd mv) s = .next s) ∧
     (s.warm = 3 → s.build ≤ 24 → ∃ t, exec .warmResetRelease s = .next t ∧
       t.core = { s with warm := 0, warmSafe := false }.core ∧
       (∀ c, c < s.build → (s.chan c).wasTrained = true → t.lpState c = 3) ∧
       ((∃ c, c < s.build ∧ (s.chan c).wasTrained = true ∧ (s.chan c).pllLost = false) →
         t.rawF BLK_BOOT_STEP 0 0 0 = 9) ∧
       ((∀ c, c < s.build → (s.chan c).wasTrained = true → (s.chan c).pllLost = true) →
         t.rawF BLK_BOOT_STEP 0 0 0 =
           if s.warmAt < 5 ∨ (s.warmAt = 6 ∧ ∃ c ∈ s.validChans, s.scrState c = 0) then 5 else 7)) ∧
     (s.warm ≠ 3 → exec .warmResetRelease s = .next s)) ∧
  (∀ s : State, s.cold = false →
     (∀ upsets, s.rclkLost = false →
       ∃ t, exec (.rclkCycle upsets) s = .next t ∧ t.core = { s with uptime := s.uptime + 10 }.core) ∧
     (∀ upsets, s.rclkLost = true → exec (.rclkCycle upsets) s = .next s) ∧
     (s.rclkLost = true → exec .rclkLoss s = .next s) ∧
     (s.rclkLost = false → ∃ t, exec .rclkLoss s = .next t ∧ t.core = { s with rclkLost := true }.core ∧
       t.fatal = true ∧ t.pln.stores = [] ∧ t.pln.row = none ∧ t.pln.cmd = none ∧
       ∀ r, s.rowUnderWrite.all (fun e => decide (e.1 ≠ r)) = true → t.plnRow r = s.plnRow r))

/-- A command that misses a timing rule is not issued: capture, CHK_VIOLATION and fence (R136, R151, R152). A PREsb,
PREab, REFab, REFsb, RFMab, RFMsb, SRE, SRX, PDE, PDX, idle close, MRR, MRW or MPC in a free slot of a live channel that
the checker faults takes the violation of R152 with the rule and the shortfall, and none of its own effect (a command
that a self-refresh entry may need asks for the entry's path before it is judged); that violation fences the channel and
sets CHK_VIOLATION, and a deselect takes the slot, so that no other command has it. -/
def Obligations.ViolationFences : Prop :=
  (∀ e ∈ ownRows, ∀ (cmd : Cmd) (rule short : Nat) (s : State),
    let u := s.judgedOwn cmd e.2
    u.mustFail cmd.chan (Cmd.passed cmd e.2) rule short →
    exec (e.1 cmd) s = .next (u.block cmd.chan (Cmd.passed cmd e.2) rule short)) ∧
  (∀ e ∈ mntRows, ∀ (cmd : Cmd) (addr data rule short : Nat) (s : State),
    s.mustFail cmd.chan (Cmd.mnt cmd e.2 (if e.2 = .mpc then data else 0)) rule short →
    exec (e.1 cmd addr data) s =
      .next (s.block cmd.chan (Cmd.mnt cmd e.2 (if e.2 = .mpc then data else 0)) rule short)) ∧
  (∀ (c rule short : Nat) (n : Passed) (who : Option Req) (s : State),
    ((s.violate c n rule short who).chan c).fenced = true ∧ ((s.block c n rule short who).chan c).fenced = true ∧
    (s.block c n rule short who).rawF TIM_ERR_CHK_VIOLATION c 0 0 = 1 ∧
    (s.block c n rule short who).slotFree c n.sub n.cyc = false)

/-- ACT, PRE, RD, RDA, WR and WRA: the slot, the banks, the page predictor, the burst, the DRAM (R124, R136, R145, R146,
R151, R182, R183, R186). An ACT that is the issuer's choice takes its slot, opens its row in the issuer's and the
checker's bank, and moves the bank's predictor: up to 3 when the row is the last one, down to 0 when it is another,
unmoved at the first. A command that is the issuer's choice takes its slot. PRE, RDA and WRA close the one bank in the
checker's model and leave every other as it was; RD and WR leave all banks open. A read puts one burst, of its request,
line, place and instant, behind those under way. A write takes its slot; at its place DRAM then holds the encoded
codeword of the line's data, its global address and its poison (80 symbols: 64 of data, all 0 when poisoned, and 16 of
check), and every other place of every channel as before; WRA of a host write closes its bank, WR none. -/
def Obligations.IssuerCommands : Prop :=
  (∀ (cmd : Cmd) (k : Cand) (s : State), s.takes cmd .act k →
     ∃ t, exec (.act cmd) s = .next t ∧ (s.judgedFor cmd).tookSlot t cmd.chan (Cmd.passed cmd .act) ∧
       t.openRow cmd.chan k.pos.bank = some k.pos.row ∧
       (t.bank cmd.chan k.pos.bank).openRow = some k.pos.row ∧
       (t.bank cmd.chan k.pos.bank).lastRow = some k.pos.row ∧
       (t.bank cmd.chan k.pos.bank).used = cmd.cyc ∧
       let b := (s.judgedFor cmd).bank cmd.chan k.pos.bank
       (t.bank cmd.chan k.pos.bank).pred =
         if b.lastRow = none then b.pred else if b.lastRow = some k.pos.row then min 3 (b.pred + 1) else b.pred - 1) ∧
  ((∀ (cmd : Cmd) (k : Cand) (s : State), s.takes cmd .pre k →
     ∃ t, exec (.pre cmd) s = .next t ∧ (s.judgedFor cmd).tookSlot t cmd.chan (Cmd.passed cmd .pre) ∧
       ∀ b, t.openRow cmd.chan b = if b = k.pos.bank then none else (s.judgedFor cmd).openRow cmd.chan b) ∧
   (∀ (auto : Bool) (cmd : Cmd) (k : Cand) (s : State), s.takes cmd (if auto then .rda else .rd) k →
     ∃ t, exec (if auto then .rda cmd else .rd cmd) s = .next t ∧
       (s.judgedFor cmd).tookSlot t cmd.chan (Cmd.passed cmd (if auto then .rda else .rd)) ∧
       (∀ b, t.openRow cmd.chan b =
         if auto = true ∧ b = k.pos.bank then none else (s.judgedFor cmd).openRow cmd.chan b) ∧
       (t.chan cmd.chan).tim.bursts =
         ((s.judgedFor cmd).chan cmd.chan).tim.bursts ++ [⟨k.req.rid, k.line.addr, k.pos, cmd.cyc⟩]) ∧
   (∀ (auto : Bool) (cmd : Cmd) (k : Cand) (s : State), s.takes cmd (if auto then .wra else .wr) k →
     let u := ((s.judgedFor cmd).choice cmd.chan cmd.sub cmd.cyc).1
     let t := (u.doWrite cmd.chan cmd.cyc k auto).modChan cmd.chan
       (fun x => { x with tim := x.tim.record (Cmd.passed cmd (if auto then .wra else .wr)), now := cmd.cyc })
     let line := (k.req.lineData k.line).getD 0
     let bad := if k.line.stage = .writeHalf ∨ k.line.wdata.isSome then k.line.wpoison else k.req.dataPoison
     let key := dramKey cmd.chan k.pos
     exec (if auto then .wra cmd else .wr cmd) s = .next t ∧
     (s.judgedFor cmd).tookSlot t cmd.chan (Cmd.passed cmd (if auto then .wra else .wr)) ∧
     (∀ p, p ≠ key → Tbl.find t.dram p = Tbl.find s.dram p) ∧
     (k.req.isSpare = false → ∃ w, Tbl.find t.dram key = some w ∧ w = rsEncode (s.x8 cmd.chan) line k.line.addr bad ∧
       w.take 64 = (if bad then List.replicate 64 0 else lineSyms (s.x8 cmd.chan) line) ∧ w.length = 80) ∧
     (k.req.isScrub = false → ∀ b, t.openRow cmd.chan b =
       if auto = true ∧ b = k.pos.bank then none else (s.judgedFor cmd).openRow cmd.chan b)))

/-- PREsb, PREab and the idle close; REFab, REFsb and RFMsb; the refresh tick (R147, R159, R160, R162, R163, R166,
R167). A PREsb or PREab of a rank of which Pointing wants a bank closed takes its slot and closes the banks of its
index, or all banks of the rank, in the checker's model, and no other. An idle close does so for its one bank, once the
bank is open, unwanted, and unused for IDLE_CLOSE times 16 cycles, since its last use and since the last request for it
went, and not during a replay. A REFab of NORMAL or FINE mode, or a REFsb of the unit's next bank index in SAME_BANK
mode, whose unit Pointing may refresh and whose banks are closed, takes its slot and lowers owed of that unit by one, no
other unit's. (A unit with an extra refresh due is the case of EXTRA_REF.) At a REFab, table copies or bank models that
differ fence the channel. REFsb moves the index on, modulo 4. An RFMsb that is due takes its slot, clears the due banks
of its index and lowers their RAA counts by IMT, to no less than 0. At the tick instant of a refresh unit of a channel
not in self-refresh, owed of the unit rises by one, no other unit's, and, in NORMAL or FINE mode, its next tick is one
interval later at the rate it now runs at; a tick that the credit cannot hold is a violation of rule 0x3E besides. At
any other instant nothing happens. -/
def Obligations.PrechargesAndRefresh : Prop :=
  ((∀ (cmd : Cmd) (s : State), let u := s.judgedOwn cmd .presb
     u.mayPass cmd.chan (Cmd.passed cmd .presb) →
     (∃ e ∈ (u.chan cmd.chan).tim.chkOpen, inIndex cmd.sub cmd.rank cmd.ba e.1 = true ∧
       u.wantsClosed cmd.chan cmd.cyc e.1 = true) →
     ∃ t, exec (.presb cmd) s = .next t ∧ u.tookSlot t cmd.chan (Cmd.passed cmd .presb) ∧
       ∀ b, t.openRow cmd.chan b = if inIndex cmd.sub cmd.rank cmd.ba b then none else u.openRow cmd.chan b) ∧
   (∀ (cmd : Cmd) (s : State), let u := s.judgedOwn cmd .preab
     u.mayPass cmd.chan (Cmd.passed cmd .preab) →
     (∃ e ∈ (u.chan cmd.chan).tim.chkOpen, inUnit cmd.sub cmd.rank e.1 = true ∧
       u.wantsClosed cmd.chan cmd.cyc e.1 = true) →
     ∃ t, exec (.preab cmd) s = .next t ∧ u.tookSlot t cmd.chan (Cmd.passed cmd .preab) ∧
       ∀ b, t.openRow cmd.chan b = if inUnit cmd.sub cmd.rank b then none else u.openRow cmd.chan b) ∧
   (∀ (cmd : Cmd) (s : State), s.mayPass cmd.chan (Cmd.passed cmd .pre) →
     let n := s.fld TIM_ISSUE_IDLE_CLOSE cmd.chan 0 0
     let b := (Cmd.passed cmd .pre).bankKey
     n ≠ 0 → (s.chan cmd.chan).tim.replaying = false → s.bankOpen cmd.chan b = true → s.bankWanted cmd.chan b = false →
     (s.bank cmd.chan b).used + 16 * n ≤ cmd.cyc → Tbl.get (s.chan cmd.chan).tim.left 0 b + 16 * n ≤ cmd.cyc →
     ∃ t, exec (.idleCloseExpiry cmd) s = .next t ∧ s.tookSlot t cmd.chan (Cmd.passed cmd .pre) ∧
       ∀ k, t.openRow cmd.chan k = if k = b then none else s.openRow cmd.chan k)) ∧
  ((∀ (cmd : Cmd) (s0 : State), let s := s0.judgedOwn cmd .refab
     s.mayPass cmd.chan (Cmd.passed cmd .refab) →
     let u := 4 * cmd.sub + cmd.rank
     s.refMode cmd.chan ≠ 2 → cmd.fine = decide (s.refMode cmd.chan = 1) → u ∈ s.units cmd.chan →
     s.mayRefresh cmd.chan u cmd.cyc = true → s.backingOff cmd.chan u cmd.cyc = false →
     s.anyOpen cmd.chan (inUnit cmd.sub cmd.rank) = false → (∀ e ∈ (s.chan cmd.chan).pnt.extraDue, e / 4 ≠ u) →
     ∃ t, exec (.refab cmd) s0 = .next t ∧ (t.chan cmd.chan).now = cmd.cyc ∧
       (∀ v, t.owed cmd.chan v = if v = u then s.owed cmd.chan u - 1 else s.owed cmd.chan v) ∧
       ((s.chan cmd.chan).tim.tabI ≠ (s.chan cmd.chan).tim.tabC ∨ s.banksDiffer cmd.chan = true →
         (t.chan cmd.chan).fenced = true)) ∧
   (∀ (cmd : Cmd) (s0 : State), let s := s0.judgedOwn cmd .refsb
     s.mayPass cmd.chan (Cmd.passed cmd .refsb) →
     let u := 4 * cmd.sub + cmd.rank
     s.refMode cmd.chan = 2 → Tbl.get (s.chan cmd.chan).pnt.nextSb 0 u = cmd.ba → u ∈ s.units cmd.chan →
     s.mayRefresh cmd.chan u cmd.cyc = true → s.backingOff cmd.chan u cmd.cyc = false →
     s.anyOpen cmd.chan (inIndex cmd.sub cmd.rank cmd.ba) = false → (∀ e ∈ (s.chan cmd.chan).pnt.extraDue, e / 4 ≠ u) →
     ∃ t, exec (.refsb cmd) s0 = .next t ∧ (t.chan cmd.chan).now = cmd.cyc ∧
       Tbl.get (t.chan cmd.chan).pnt.nextSb 0 u = (cmd.ba + 1) % 4 ∧
       ∀ v, t.owed cmd.chan v = if v = u then s.owed cmd.chan u - 1 else s.owed cmd.chan v) ∧
   (∀ (cmd : Cmd) (s : State), s.mayPass cmd.chan (Cmd.passed cmd .rfmsb) →
     let idx := inIndex cmd.sub cmd.rank cmd.ba
     (∃ b ∈ (s.chan cmd.chan).pnt.rfmDue, idx b = true) → s.anyOpen cmd.chan idx = false →
     ∃ t, exec (.rfmsb cmd) s = .next t ∧ s.tookSlot t cmd.chan (Cmd.passed cmd .rfmsb) ∧
       (∀ b, b ∈ (t.chan cmd.chan).pnt.rfmDue ↔ b ∈ (s.chan cmd.chan).pnt.rfmDue ∧ idx b = false) ∧
       (Tbl.sorted (s.chan cmd.chan).pnt.raa = true → ∀ b, Tbl.get (t.chan cmd.chan).pnt.raa 0 b =
         if idx b then Tbl.get (s.chan cmd.chan).pnt.raa 0 b - s.imt cmd.chan
         else Tbl.get (s.chan cmd.chan).pnt.raa 0 b))) ∧
  (∀ (c u cyc : Nat) (s : State), s.cold = false → s.hasChan c = true → u ∈ s.units c → s.lpState c ≠ 2 →
     (Tbl.find (s.chan c).pnt.nextTick u = some cyc → s.owed c u ≤ s.postLim c →
       ∃ t, exec (.refreshTick c u cyc) s = .next t ∧
         (∀ v, t.owed c v = if v = u then s.owed c u + 1 else s.owed c v) ∧
         (s.refMode c ≠ 2 → Tbl.find (t.chan c).pnt.nextTick u =
           some (cyc + t.interval c (s.refMode c) (t.unitTwice c u)))) ∧
     (Tbl.find (s.chan c).pnt.nextTick u = some cyc → s.postLim c < s.owed c u →
       ∃ t, exec (.refreshTick c u cyc) s = .next t ∧ t.rawF TIM_ERR_CHK_VIOLATION c 0 0 = 1 ∧
         (t.chan c).fenced = true) ∧
     (Tbl.find (s.chan c).pnt.nextTick u ≠ some cyc → exec (.refreshTick c u cyc) s = .next s))

/-- ALERT_N and RFMab in a back-off; SRE, SRX, PDE and PDX: which physical ranks sleep (R149, R150, R157, R168, R172,
R173, R174). A PRAC alert of legal width outside tABO_DELAY, under the PRAC method, puts its onset to the physical rank
of both subchannels (the model's choice, log 72), in a replay not before step 3 of R150: until then it is kept; a pulse
below two cycles is a glitch, and starts nothing; any other, with no replay under way, is a parity alert, and starts a
replay of what the buffer holds (which that is is the model's choice, log 126), but for one in the cycle of a checker
violation, which starts none. An RFMab at or after tABO_ACT, every bank of its physical rank closed, lowers its unit's
count; when no unit of the physical rank has one left, the back-off ends tRFM1 later. An SRE under LPSTATE 1, path held,
the channel quiet, all its banks closed and nothing owed, puts its physical rank into self-refresh; SRX under LPSTATE 3,
the PLL running or back, takes it out with the path held, and does nothing while the debug port holds it. PDE puts an
idle rank into power-down at its cycle, PDX wakes one that is wanted. Each takes its slot and touches no other rank's
state. -/
def Obligations.BackoffAndRankStates : Prop :=
  ((∀ (c cyc width rank : Nat) (s : State), s.cold = false → s.alertOn c = true →
     2 ≤ width → s.fld TIM_ALERT_PW_MIN c 0 0 ≤ width → width ≤ s.fld TIM_ALERT_PW_MAX c 0 0 → s.method c = 0 →
     (∀ sub, sub < 2 → (s.chan c).tim.backLive (physKey sub rank) (cyc - width) = none ∧
       ∀ e, Tbl.find (s.chan c).tim.backoffEnd (physKey sub rank) = some e → e + s.row c 36 ≤ cyc - width) →
     ((s.chan c).tim.replaying = false ∨ (s.chan c).tim.replayPre = true →
       ∃ t, exec (.alertNPulse c cyc width rank) s = .next t ∧
         ∀ k, Tbl.find (t.chan c).tim.backoff k =
           if k = physKey 0 rank ∨ k = physKey 1 rank then some (cyc - width)
           else Tbl.find (s.chan c).tim.backoff k) ∧
     ((s.chan c).tim.replaying = true → (s.chan c).tim.replayPre = false →
       exec (.alertNPulse c cyc width rank) s = .next (s.modTim c (fun x => { x with pracLater :=
         (if (Tbl.find x.pracLater rank).isSome then x.pracLater else Tbl.put x.pracLater rank (cyc - width)) })))) ∧
   (∀ (c cyc width rank : Nat) (s : State), s.cold = false → s.alertOn c = true → 2 ≤ width →
     (width < s.fld TIM_ALERT_PW_MIN c 0 0 ∨ s.fld TIM_ALERT_PW_MAX c 0 0 < width ∨ s.method c ≠ 0) →
     ((s.chan c).tim.replaying = false → (∀ e ∈ (s.chan c).tim.desel, e.2 ≠ cyc) →
       ∃ t, exec (.alertNPulse c cyc width rank) s = .next t ∧ (t.chan c).tim.replaying = true ∧
         (t.chan c).tim.replayPre = false ∧ (t.chan c).tim.alertAt = cyc ∧
         (t.chan c).tim.replayBuf = s.heldCmds c (cyc - width)) ∧
     ((∃ e ∈ (s.chan c).tim.desel, e.2 = cyc) → exec (.alertNPulse c cyc width rank) s = .next s)) ∧
   (∀ (c cyc width rank : Nat) (s : State), s.cold = false → s.alertOn c = true →
     width < 2 → ∃ t, exec (.alertNPulse c cyc width rank) s = .next t ∧
       t.rawF TIM_ERR_ALERT_GLITCH c 0 0 = 1 ∧ t.chan c = s.chan c) ∧
   (∀ (cmd : Cmd) (s : State), s.mayPass cmd.chan (Cmd.passed cmd .rfmab) →
     let u := 4 * cmd.sub + cmd.rank
     let n := Tbl.get (s.chan cmd.chan).pnt.aboLeft 0 u
     ∀ onset, Tbl.find (s.chan cmd.chan).tim.backoff (s.unitPhys cmd.chan u) = some onset → 0 < n →
     s.backingOff cmd.chan u cmd.cyc = true →
     onset + s.row cmd.chan 35 ≤ cmd.cyc →
     s.anyOpen cmd.chan (inPhys (s.stack cmd.chan) cmd.sub (physRank (s.stack cmd.chan) cmd.rank)) = false →
     u ∈ s.units cmd.chan →
     ∃ t, exec (.rfmab cmd) s = .next t ∧ s.tookSlot t cmd.chan (Cmd.passed cmd .rfmab) ∧
       (∀ v, Tbl.get (t.chan cmd.chan).pnt.aboLeft 0 v =
         if v = u then n - 1 else Tbl.get (s.chan cmd.chan).pnt.aboLeft 0 v) ∧
       (n = 1 → (∀ v ∈ s.units cmd.chan, v ≠ u → s.unitPhys cmd.chan v = s.unitPhys cmd.chan u →
           Tbl.get (s.chan cmd.chan).pnt.aboLeft 0 v = 0) →
         Tbl.find (t.chan cmd.chan).tim.backoffEnd (s.unitPhys cmd.chan u) =
           some (cmd.cyc + s.row cmd.chan 33)) ∧
       (1 < n → (t.chan cmd.chan).tim.backoffEnd = (s.chan cmd.chan).tim.backoffEnd))) ∧
  ((∀ (cmd : Cmd) (s0 : State), let s := s0.judgedOwn cmd .sre
     s.mayPass cmd.chan (Cmd.passed cmd .sre) →
     let key := physKey cmd.sub cmd.rank
     s.srReady cmd.chan cmd.cyc = true → key ∈ s.physUnits cmd.chan →
     (s.chan cmd.chan).tim.chkOpen = [] →
     (∀ u ∈ s.units cmd.chan, s.owed cmd.chan u ≤ 0) →
     ∃ t, exec (.sre cmd) s0 = .next t ∧ (t.chan cmd.chan).now = cmd.cyc ∧
       ∀ k, k ∈ (t.chan cmd.chan).pnt.sr ↔ k = key ∨ k ∈ (s.chan cmd.chan).pnt.sr) ∧
   (∀ (cmd : Cmd) (s : State), s.mayPass cmd.chan (Cmd.passed cmd .srx) → s.lpState cmd.chan = 3 →
     s.pllBack cmd.chan = true → physKey cmd.sub cmd.rank ∈ (s.chan cmd.chan).pnt.sr →
     (s.pntHolds cmd.chan = true →
       ∃ t, exec (.srx cmd) s = .next t ∧ s.tookSlot t cmd.chan (Cmd.passed cmd .srx) ∧
         ∀ k, k ∈ (t.chan cmd.chan).pnt.sr ↔ k ≠ physKey cmd.sub cmd.rank ∧ k ∈ (s.chan cmd.chan).pnt.sr) ∧
     ((s.chan cmd.chan).mntHolder = some 257 → exec (.srx cmd) s = .next s)) ∧
   (∀ (cmd : Cmd) (s : State), s.mayPass cmd.chan (Cmd.passed cmd .pde) → s.lpState cmd.chan = 0 →
     let key := physKey cmd.sub cmd.rank
     key ∈ s.physUnits cmd.chan → Tbl.find (s.chan cmd.chan).pnt.pd key = none →
     s.pdDue cmd.chan cmd.sub cmd.rank cmd.cyc = true →
     ∃ t, exec (.pde cmd) s = .next t ∧ s.tookSlot t cmd.chan (Cmd.passed cmd .pde) ∧
       Tbl.find (t.chan cmd.chan).pnt.pd key = some cmd.cyc ∧
       ∀ k, k ≠ key → (Tbl.find (t.chan cmd.chan).pnt.pd k).isSome = (Tbl.find (s.chan cmd.chan).pnt.pd k).isSome) ∧
   (∀ (cmd : Cmd) (s : State), s.mayPass cmd.chan (Cmd.passed cmd .pdx) →
     let key := physKey cmd.sub cmd.rank
     (Tbl.find (s.chan cmd.chan).pnt.pd key).isSome = true →
     (s.physOf cmd.chan cmd.sub cmd.rank).any (fun u => s.unitWanted cmd.chan u || s.urgent cmd.chan u) = true →
     ∃ t, exec (.pdx cmd) s = .next t ∧ s.tookSlot t cmd.chan (Cmd.passed cmd .pdx) ∧
       Tbl.find (t.chan cmd.chan).pnt.pd key = none ∧
       ∀ k, k ≠ key → (Tbl.find (t.chan cmd.chan).pnt.pd k).isSome = (Tbl.find (s.chan cmd.chan).pnt.pd k).isSome))

/-- MRR, MRW and MPC of Pointing, MR4 polls, and ZQ calibration (R163, R164, R170, R314). With the path of the channel
held by Pointing, MRR, MRW and MPC take their slots. MRW of the refresh-mode setting of a mode change that waits, every
unit owing nothing, writes its own unit, and no other MRW does (which register and value that is stands open: log entry
132; that step 2 of R164 needs one such write to each rank is the model's choice, log 74); MPC 5 notes a ZQ calibration
started at its cycle and at the present uptime, MPC 4 its end (opcodes PRESUMED, log 73). A poll that is due, with every
rank awake and the path held, or free for the poll (log 74) with no request of its cycle that goes first (log 151), asks
for the doubled rate when a device needs it, keeps it at the first calm poll, gives it up at the second in a row, and
notes its instant; beyond the range TEMP_LIMIT is set besides. With the path held by Pointing and its slot free, the
start notes its cycle for the rank once ZQ_PERIOD milliseconds have passed since the last start, in no low-power state,
none started, and puts the rank's last start at the present uptime; the latch, not before tZQCAL after the start, clears
that note. -/
def Obligations.MaintenanceAndCalibration : Prop :=
  (∀ (cmd : Cmd) (addr data : Nat) (s : State), s.pntHolds cmd.chan = true →
     (s.mayPass cmd.chan (Cmd.mnt cmd .mrr 0) → ∃ t, exec (.mrr cmd addr data) s = .next t ∧
       s.tookSlot t cmd.chan (Cmd.mnt cmd .mrr 0) ∧ (t.chan cmd.chan).pnt = (s.chan cmd.chan).pnt) ∧
     (s.mayPass cmd.chan (Cmd.mnt cmd .mrw 0) → ∃ t, exec (.mrw cmd addr data) s = .next t ∧
       s.tookSlot t cmd.chan (Cmd.mnt cmd .mrw 0) ∧
       let u := 4 * cmd.sub + cmd.rank
       let p := (s.chan cmd.chan).pnt
       (t.chan cmd.chan).pnt = { p with
         modeWritten := if p.modePend.any (fun m => decide (addr = Config.refModeReg % 256) &&
             decide (data = Config.refModeVal (s.modeOf cmd.chan m) % 256)) = true ∧
             (s.units cmd.chan).all (fun v => decide (s.owed cmd.chan v ≤ 0)) = true ∧ u ∉ p.modeWritten
           then u :: p.modeWritten else p.modeWritten }) ∧
     (s.mayPass cmd.chan (Cmd.mnt cmd .mpc data) → ∃ t, exec (.mpc cmd addr data) s = .next t ∧
       s.tookSlot t cmd.chan (Cmd.mnt cmd .mpc data) ∧
       (data = 5 → Tbl.find (t.chan cmd.chan).pnt.zqOpen (s.cmdPhys cmd) = some cmd.cyc ∧
         Tbl.find (t.chan cmd.chan).pnt.zqLast (s.cmdPhys cmd) = some s.uptime) ∧
       (data = 4 → Tbl.find (t.chan cmd.chan).pnt.zqOpen (s.cmdPhys cmd) = none ∧
         (t.chan cmd.chan).pnt.zqLast = (s.chan cmd.chan).pnt.zqLast) ∧
       (data ≠ 4 → data ≠ 5 → (t.chan cmd.chan).pnt = (s.chan cmd.chan).pnt))) ∧
  (∀ (c hot : Nat) (s : State), s.cold = false → s.hasChan c = true → s.lpState c = 0 → s.pollDue c = true →
     (s.chan c).pnt.pd = [] → ∀ rivals : List KeyAsk,
     s.pntHolds c = true ∨ ((s.chan c).mntHolder = none ∧ ∀ k ∈ rivals, s.pathRival c (205 + c) k = false) →
     ∃ t, exec (.mr4Poll c hot rivals) s = .next t ∧
       (t.chan c).pnt.want2x = (decide (hot ≠ 0) || ((s.chan c).pnt.want2x && decide ((s.chan c).pnt.calmPolls = 0))) ∧
       (hot = 0 → (s.chan c).pnt.want2x = true → (s.chan c).pnt.calmPolls = 0 → (t.chan c).pnt.calmPolls = 1) ∧
       (t.chan c).pnt.lastPoll = max 1 s.uptime ∧ (1 < hot → t.rawF PNT_ERR_TEMP_LIMIT c 0 0 = 1)) ∧
  ((∀ (cmd : Cmd) (s : State), s.pntHolds cmd.chan = true → s.mayPass cmd.chan (Cmd.mnt cmd .mpc 5) →
     let n := s.fld PNT_CFG_ZQ_PERIOD cmd.chan 0 0
     n ≠ 0 → Tbl.find (s.chan cmd.chan).pnt.zqOpen (s.cmdPhys cmd) = none →
     Tbl.get (s.chan cmd.chan).pnt.zqLast 0 (s.cmdPhys cmd) + n * 1000000 ≤ s.uptime → s.lpState cmd.chan = 0 →
     ∃ t, exec (.zqPeriodExpiry cmd) s = .next t ∧ s.tookSlot t cmd.chan (Cmd.mnt cmd .mpc 5) ∧
       Tbl.find (t.chan cmd.chan).pnt.zqOpen (s.cmdPhys cmd) = some cmd.cyc ∧
       Tbl.find (t.chan cmd.chan).pnt.zqLast (s.cmdPhys cmd) = some s.uptime) ∧
   (∀ (cmd : Cmd) (t0 : Nat) (s : State), s.pntHolds cmd.chan = true → s.mayPass cmd.chan (Cmd.mnt cmd .mpc 4) →
     Tbl.find (s.chan cmd.chan).pnt.zqOpen (s.cmdPhys cmd) = some t0 → t0 + s.row cmd.chan 41 ≤ cmd.cyc →
     ∃ t, exec (.zqcalLatchDue cmd) s = .next t ∧ s.tookSlot t cmd.chan (Cmd.mnt cmd .mpc 4) ∧
       Tbl.find (t.chan cmd.chan).pnt.zqOpen (s.cmdPhys cmd) = none))

/-- TIM_APPLY, TABLE_COMPARE and REPLAY; PHASE_CHANGE and SLOT (R139, R140, R141, R150, R153, R154, R155). timApply of a
pending copy that fails the checks sets the bit of the first failure and records its row; of one that passes, keeps the
copy until a seam point with PEND = 1. At a tableCompare, copies that differ, or CRCs that do, set TABLE_DIVERGE and
fence the channel through the violation with code 0x3B; equal ones change nothing (the bank models are compared at a
REFab: PrechargesAndRefresh). A replay under way that has step 3 of R150 before it goes on, once that step's wakes and
precharges have gone, to where it is over (replayMid), with the PRAC alerts kept until then; before that instant nothing
changes. With step 3 over and no back-off RFM left to issue, it ends by the instant at which its last command has gone:
the replay is over, REPLAY is set, and the history is that of the reissued commands, each as early as the table admits;
before that instant, or with back-off RFMs left, nothing changes (that each of the two parts is one step is the model's
choice, logs 72 and 126, and that the replay is complete as its last command issues is log 176). A command that the
checker refuses ends the replay with the channel fenced. phaseChange, when due at the channel's last instant or one
history span later (log 71) on a subchannel the issuer works on, flips PHASE_A or PHASE_B, and clears its count of
drained writes. slot of a live channel, its decision cycle `late` cycles back and the channel not gone on past it, whose
slot starts on an even cycle and is not yet classified, no channel reset under way, counts the class of R155 (log 158)
and marks the slot; in a replay one with no request queued is kept until the replay's end, which counts it by what was
reissued. A slot before one marked is not counted again (log 71), and one whose decision cycle is long over changes
nothing (log 158). -/
def Obligations.TableReplayPhasesSlots : Prop :=
  ((∀ (c bit row : Nat) (s : State), s.cold = false → s.quo.st = 0 → s.hasChan c = true →
     s.tabFault c (s.pendList c) = some (bit, row) →
     exec (.timApply c) s = .next (s.tabRefused c bit row)) ∧
   (∀ (c : Nat) (s : State), s.cold = false → s.quo.st = 0 → s.hasChan c = true → s.tabFault c (s.pendList c) = none →
     ∃ t, exec (.timApply c) s = .next t ∧ (t.chan c).tim.pendTab = some (s.pendList c) ∧
       t.rawF TIM_STATUS_PEND c 0 0 = 1 ∧ (t.chan c).tim.tabI = (s.chan c).tim.tabI) ∧
   (∀ (c upset : Nat) (s : State), s.cold = false → s.hasChan c = true →
     (upset ≠ 0 ∨ (s.chan c).tim.tabI ≠ (s.chan c).tim.tabC → exec (.tableCompare c upset) s =
       .next ((s.timErr c TIM_ERR_TABLE_DIVERGE 7 2).violate c noCmd 0x3B 0)) ∧
     (upset = 0 → (s.chan c).tim.tabI = (s.chan c).tim.tabC → exec (.tableCompare c upset) s = .next s)) ∧
   (∀ (c cyc : Nat) (s : State), s.cold = false → s.hasChan c = true → (s.chan c).tim.replaying = true →
     (s.chan c).tim.replayPre = true →
     ((s.chan c).pnt.aboLeft ≠ [] → exec (.replay c cyc) s = .next s) ∧
     ((s.chan c).pnt.aboLeft = [] →
       let out := s.replayed c
       (out.2 = true → (out.1.chan c).now ≤ cyc →
         ∃ t, exec (.replay c cyc) s = .next t ∧ (t.chan c).tim.replaying = false ∧ (t.chan c).tim.replayFails = 0 ∧
           (t.chan c).tim.replayBuf = [] ∧ t.rawF TIM_ERR_REPLAY c 0 0 = 1 ∧ (t.chan c).now = (out.1.chan c).now ∧
           (t.chan c).tim.replayEnd = (out.1.chan c).now ∧ (t.chan c).tim.hist = (out.1.chan c).tim.hist ∧
           (t.chan c).tim.slotWait = []) ∧
       (out.2 = true → cyc < (out.1.chan c).now → exec (.replay c cyc) s = .next s) ∧
       (out.2 = false → ∃ t, exec (.replay c cyc) s = .next t ∧ (t.chan c).tim.replaying = false ∧
         (t.chan c).fenced = true))) ∧
   (∀ (c cyc : Nat) (s : State), s.cold = false → s.hasChan c = true → (s.chan c).tim.replaying = true →
     (s.chan c).tim.replayPre = false →
     let out := s.replayShut c
     (out.2 = true → (out.1.chan c).now ≤ cyc →
       ((s.replayMid c).chan c).tim.replaying = true ∧ ((s.replayMid c).chan c).tim.replayPre = true ∧
       ((s.replayMid c).chan c).tim.pracLater = [] ∧ ((s.replayMid c).chan c).tim.hist = (out.1.chan c).tim.hist ∧
       exec (.replay c cyc) s = exec (.replay c cyc) (s.replayMid c)) ∧
     (out.2 = true → cyc < (out.1.chan c).now → exec (.replay c cyc) s = .next s) ∧
     (out.2 = false → ∃ t, exec (.replay c cyc) s = .next t ∧ (t.chan c).tim.replaying = false ∧
       (t.chan c).fenced = true))) ∧
  ((∀ (c sub : Nat) (s : State), s.cold = false → s.hasChan c = true → sub < 2 → s.issuerOn c sub = true →
     s.phaseDue c sub (s.chan c).now = true ∨ s.phaseDue c sub ((s.chan c).now + histSpan) = true →
     ∃ t, exec (.phaseChange c sub) s = .next t ∧ t.phase c sub = 1 - s.phase c sub ∧
       t.phase c (1 - sub) = s.phase c (1 - sub) ∧
       (t.chan c).tim.drained = if sub = 0 then (0, (s.chan c).tim.drained.2) else ((s.chan c).tim.drained.1, 0)) ∧
   (∀ (c sub cyc late : Nat) (s : State), s.cold = false → s.hasChan c = true → sub < 2 → late ≤ cyc →
     let seen := if sub = 0 then (s.chan c).tim.slotAt.1 else (s.chan c).tim.slotAt.2
     let start := cyc - late + (if s.phase c sub = 0 then s.row c 14 else s.row c 15)
     let cls := s.slotClass c sub start (cyc - late)
     (s.rawF TIM_STATUS_LIVE c 0 0 = 1 → (s.chan c).rstStep = 0 → start % 2 = 0 → seen ≤ start →
       (s.chan c).now ≤ cyc - late + 1 →
       ((s.chan c).tim.replaying = false → exec (.slot c sub cyc late) s = .next ((s.modChan c (fun y => { y with
         now := max y.now (cyc - late + 1),
         tim := { y.tim with
           slotAt := if sub = 0 then (start + 1, y.tim.slotAt.2) else (y.tim.slotAt.1, start + 1) } })).count
         (0x20 + cls) c Ev.nothing)) ∧
       ((s.chan c).tim.replaying = true →
         let u := s.modTim c (fun y => { y with
           slotAt := if sub = 0 then (start + 1, y.slotAt.2) else (y.slotAt.1, start + 1) })
         (cls ≠ 2 → exec (.slot c sub cyc late) s = .next (u.count (0x20 + cls) c Ev.nothing)) ∧
         (cls = 2 → exec (.slot c sub cyc late) s =
           .next (u.modTim c (fun y => { y with slotWait := y.slotWait ++ [(sub, start)] }))))) ∧
     (start < seen ∨ cyc - late + 1 < (s.chan c).now → exec (.slot c sub cyc late) s = .next s)))

/-- A port request is accepted with exactly its fields, or not ready (R53, R57, R61, R69, R70). For each of RD_LINE,
RD_PART, WR_LINE, WR_PART, WR_ZERO, AT_ADD, AT_OR, AT_AND, AT_XOR, AT_SWAP, AT_CAS, AT_MIN, AT_MAX, AT_UMIN, AT_UMAX,
SETAD and FLUSH: a slot that handshakes at an open port, with a free tag, good parity and a well-formed size, address
and attributes, becomes one new request at the end of the acceptance order, with the slot's fields and no status yet; a
data-bearing one awaits one write-data slot from the present uptime. With ready low and no open pair, with slot 0 behind
a slot 0 that announced its slot 1, or beyond port 11, a request of any opcode, reserved ones included, leaves the state
as it is. -/
def Obligations.PortRequests : Prop :=
  (∀ e ∈ portRows, ∀ (p : PReq) (s : State), s.handshakes p → ¬ s.tagInUse p → (s.port p.port).st = 1 →
     p.parBad e.2.code = false → e.2.wellFormed p.size p.addr p.attr = true →
     ∃ t r, exec (e.1 p) s = .next t ∧ t.reqs = s.reqs ++ [r] ∧ t.nextRid = s.nextRid + 1 ∧
       r.rid = s.nextRid ∧ r.src = .port p.port ∧ r.op = e.2 ∧ r.size = p.size ∧ r.addr = p.addr ∧ r.tag = p.tag ∧
       r.sid = p.sid ∧ r.qid = p.qid ∧ r.priv = p.priv ∧ r.ns = p.ns ∧ r.attr = p.attr ∧ r.col = colourOf p.col ∧
       r.walk = ((e.2.isRead && p.attr.testBit 1) || e.2 == .setad) ∧ r.stage = .atPort ∧ r.part = none ∧
       r.status = none ∧ r.tAccept = s.uptime ∧ s.awaitsData t p e.2.dataBearing) ∧
  (∀ (p : PReq) (s : State), s.cold = false →
     12 ≤ p.port ∨ (s.port p.port).pairOpen = true ∧ p.slot ≠ 1 ∨
       (s.port p.port).pairOpen = false ∧ s.reqReady p.port = false →
     (∀ e ∈ portRows, exec (e.1 p) s = .next s) ∧ ∀ code, exec (.reservedOpcode p code) s = .next s)

/-- A port request answered at its port (R53, R63, R64, R65, R69, R70, R71). For each of RD_LINE, RD_PART, WR_LINE,
WR_PART, WR_ZERO, AT_ADD, AT_OR, AT_AND, AT_XOR, AT_SWAP, AT_CAS, AT_MIN, AT_MAX, AT_UMIN, AT_UMAX, SETAD and FLUSH, a
slot that handshakes answers RETIRED_TAG, with TAG_DUP set, where its tag is in use; else FENCED where the port is; else
DECODE_ERR where its parity is bad or its size, address or attributes ill formed. Bad parity sets REQ_PARITY in each of
these cases. The slot still awaits its data where its opcode bears it, at a FENCED port too. A reserved opcode is
answered RETIRED_TAG, FENCED or DECODE_ERR in the same order, and awaits no data. -/
def Obligations.PortAnswers : Prop :=
  (∀ e ∈ portRows, ∀ (p : PReq) (s : State), s.handshakes p →
     ∃ t, exec (e.1 p) s = .next t ∧
       (s.tagInUse p → s.answeredWith t p .retiredTag ∧ t.rawF HDR_ERR_TAG_DUP p.port 0 0 = 1) ∧
       (¬ s.tagInUse p → (s.port p.port).st = 3 → s.answeredWith t p .fenced) ∧
       (¬ s.tagInUse p → (s.port p.port).st ≠ 3 →
         p.parBad e.2.code = true ∨ e.2.wellFormed p.size p.addr p.attr = false → s.answeredWith t p .decodeErr) ∧
       (p.parBad e.2.code = true → t.rawF HDR_ERR_REQ_PARITY p.port 0 0 = 1) ∧
       s.awaitsData t p e.2.dataBearing) ∧
  (∀ (p : PReq) (code : Nat) (s : State), s.handshakes p →
     ∃ t, exec (.reservedOpcode p code) s = .next t ∧
       (s.tagInUse p → s.answeredWith t p .retiredTag ∧ t.rawF HDR_ERR_TAG_DUP p.port 0 0 = 1) ∧
       (¬ s.tagInUse p → (s.port p.port).st = 3 → s.answeredWith t p .fenced) ∧
       (¬ s.tagInUse p → (s.port p.port).st ≠ 3 → s.answeredWith t p .decodeErr) ∧
       (p.parBad code = true → t.rawF HDR_ERR_REQ_PARITY p.port 0 0 = 1) ∧
       s.awaitsData t p false)

/-- Write-data slots, WD_TIMEOUT and CPL_STALL (R49, R61, R63, R65, R68, R71, R75). A slot that handshakes, with the tag
of the oldest request that awaits data and good parity, gives that request its data, mask and poison and takes it off
the list; one with another tag sets WD_ORDER, one that nothing awaits WD_EARLY, and the port is FENCED, its awaited data
no longer waited for; bad parity sets WD_PARITY in each of these cases; one at a FENCED port is discarded unchecked, and
the oldest awaited slot with it, whatever its tag (the model's choice, log 153). A slot that finds no handshake leaves
the state as it is. What the Mortar then does by itself is `settle`. Once the oldest awaited data is WD_LIMIT old (0 is
used as 1), WD_TIMEOUT sets its bit, answers that request FENCED and fences the port; before, with nothing awaited, or
at a FENCED port, it changes nothing. Once an offered completion is STALL_LIMIT old, CPL_STALL sets its bit and marks
it, and a second one changes nothing, nor one before that time or with a limit of 0. -/
def Obligations.PortWriteDataAndTimers : Prop :=
  ((∀ (w : WSlot) (s : State), s.dataHandshakes w →
     (∀ a rest r, (s.port w.port).st ≠ 3 → (s.port w.port).awaits = a :: rest →
       a.tag = w.tag → s.req a.rid = some r → r.status = none → w.parBad = false → w.upset = 0 →
       ∃ u : State, exec (.writeDataSlot w) s = .next u.settle ∧ (u.port w.port).awaits = rest ∧
         u.req a.rid = some { r with data := some w.data, mask := w.mask, wpoison := w.poison, wparity := false,
                                     inBuf := true } ∧
         ∀ k, k ≠ a.rid → u.req k = s.req k) ∧
     (∀ a rest, (s.port w.port).st ≠ 3 → (s.port w.port).awaits = a :: rest → a.tag ≠ w.tag →
       ∃ u : State, exec (.writeDataSlot w) s = .next u.settle ∧
         u.rawF HDR_ERR_WD_ORDER w.port 0 0 = 1 ∧ (u.port w.port).st = 3 ∧
         (u.port w.port).awaits = (s.port w.port).awaits.map (fun b => { b with dropped := true })) ∧
     ((s.port w.port).st ≠ 3 → (s.port w.port).awaits = [] → ∃ u : State, exec (.writeDataSlot w) s = .next u.settle ∧
       u.rawF HDR_ERR_WD_EARLY w.port 0 0 = 1 ∧ (u.port w.port).st = 3 ∧ (u.port w.port).awaits = []) ∧
     ((s.port w.port).st ≠ 3 → w.parBad = true → ∃ u : State, exec (.writeDataSlot w) s = .next u.settle ∧
       u.rawF HDR_ERR_WD_PARITY w.port 0 0 = 1) ∧
     ((s.port w.port).st = 3 → ∃ t, exec (.writeDataSlot w) s = .next t ∧ t.reqs = s.reqs ∧
       (t.port w.port).st = 3 ∧ (t.port w.port).awaits = (s.port w.port).awaits.drop 1 ∧
       ∀ k, k ≠ w.port → t.port k = s.port k)) ∧
   (∀ (w : WSlot) (s : State), s.cold = false →
     12 ≤ w.port ∨ (s.port w.port).wdPair = true ∧ w.slot ≠ 1 ∨
       (s.port w.port).wdPair = false ∧ s.wdReady w.port = false → exec (.writeDataSlot w) s = .next s)) ∧
  ((∀ (n : Nat) (a : Await) (rest : List Await) (s : State), s.cold = false → (s.port n).awaits = a :: rest →
     let due := a.since + 1000 * max 1 (s.fld HDR_CREDIT_CFG_WD_LIMIT n 0 0)
     ((s.port n).st ≠ 3 → due ≤ s.uptime → ∀ r, s.req a.rid = some r → r.src = .port n → r.status = none →
       ∃ u : State, exec (.wdTimeout n) s = .next u.settle ∧ u.rawF HDR_ERR_WD_TIMEOUT n 0 0 = 1 ∧ (u.port n).st = 3 ∧
         (u.req a.rid).map Req.status = some (some .fenced)) ∧
     ((s.port n).st = 3 ∨ s.uptime < due → exec (.wdTimeout n) s = .next s)) ∧
   (∀ (n : Nat) (s : State), s.cold = false → (s.port n).awaits = [] → exec (.wdTimeout n) s = .next s) ∧
   (∀ (n rid : Nat) (r : Req) (s : State), s.cold = false → s.offering n rid = some r →
     let lim := s.fld HDR_CREDIT_CFG_STALL_LIMIT n 0 0
     (lim ≠ 0 → r.offered + 1000 * lim ≤ s.uptime → rid ∉ (s.port n).stalled →
       ∃ t, exec (.cplStall n rid) s = .next t ∧ t.rawF HDR_ERR_CPL_STALL n 0 0 = 1 ∧
         (t.port n).stalled = rid :: (s.port n).stalled ∧ t.reqs = s.reqs) ∧
     (lim = 0 ∨ s.uptime < r.offered + 1000 * lim ∨ rid ∈ (s.port n).stalled → exec (.cplStall n rid) s = .next s)) ∧
   (∀ (n rid : Nat) (s : State), s.cold = false → s.offering n rid = none → exec (.cplStall n rid) s = .next s))

/-- An accepted completion, and the port state machine of R64 (R51, R52, R60, R61, R64, R65, R69, R73, R75, R82, R405).
When the fabric takes the completion that port n offers for a request, its clock running and no storage error, exactly
that request leaves the list, and the port's last completion is its channel, tag, status code, data and parity, the data
zero on the response channel. Nothing offered, or the clock stopped: nothing happens. OPEN = 1 opens a CLOSED port with
the credits of HDR_CREDIT_CFG and, in boot step 0111, moves STEP to 1000; at a FENCED or a draining port it is only
stored. OPEN = 0 drains an OPEN port, to CLOSED at once when nothing is outstanding and no write data held. FENCE
fences; data that the fence no longer waits for is marked. UNFENCE closes a FENCED port with nothing outstanding and no
write data held (log 65) whose clock has run within range for 1 microsecond (counted from its last fault: the model's
choice, log 36), forgets the data that the fence stopped awaiting (the model's choice, log 153), and clears OPEN;
otherwise it does nothing. -/
def Obligations.PortCompletionsAndStates : Prop :=
  ((∀ (n rid : Nat) (same : Bool) (r : Req) (s : State), s.cold = false → s.offering n rid = some r →
     (s.port n).stopped = false →
     ∃ u : State, exec (.completionAccepted n rid 0 same) s = .next u.settle ∧
       u.reqs.map Req.rid = (s.reqs.map Req.rid).filter (fun k => decide (k ≠ r.rid)) ∧
       (u.port n).lastCpl =
         ⟨b2n r.onRead, r.tag, (r.status.map Status.code).getD 0, if r.onRead then r.rdata else 0,
          cplPar r.onRead r.tag ((r.status.map Status.code).getD 0)
            (if r.onRead then r.rdata else (0 : BitVec 512)).toNat⟩) ∧
   (∀ (n rid upset : Nat) (same : Bool) (s : State), s.cold = false →
     s.offering n rid = none ∨ (s.port n).stopped = true →
     exec (.completionAccepted n rid upset same) s = .next s)) ∧
  (∀ (n : Nat) (s : State), s.serves → n < 12 →
     ((s.port n).st = 0 → ∃ t, exec (.portOpen n) s = .next t ∧ (t.port n).st = 1 ∧
       (t.port n).reqCredits = s.fld HDR_CREDIT_CFG_REQ_CREDITS n 0 0 ∧
       (t.port n).wdCredits = s.fld HDR_CREDIT_CFG_WD_CREDITS n 0 0 ∧ t.rawF HDR_CTRL_OPEN n 0 0 = 1 ∧
       (s.rawF BLK_BOOT_STEP 0 0 0 = 7 → t.rawF BLK_BOOT_STEP 0 0 0 = 8)) ∧
     ((s.port n).st = 2 ∨ (s.port n).st = 3 → ∃ t, exec (.portOpen n) s = .next t ∧ t.port n = s.port n ∧
       t.rawF HDR_CTRL_OPEN n 0 0 = 1) ∧
     ((s.port n).st = 1 → ∃ t, exec (.portDrain n) s = .next t ∧
       (t.port n).st = (if s.outstanding n = 0 ∧ s.wdHeld n = 0 then 0 else 2) ∧ t.rawF HDR_CTRL_OPEN n 0 0 = 0 ∧
       t.reqs = s.reqs) ∧
     (∃ u : State, exec (.portFence n) s = .next u.settle ∧ (u.port n).st = 3 ∧
       (u.port n).awaits = if (s.port n).st = 3 then (s.port n).awaits
         else (s.port n).awaits.map (fun a => { a with dropped := true })) ∧
     ((s.port n).st = 3 → s.outstanding n = 0 → s.wdHeld n = 0 → (s.port n).stopped = false →
       ∃ t, exec (.portUnfence n) s = .next t ∧ (t.port n).st = 0 ∧ t.rawF HDR_CTRL_OPEN n 0 0 = 0 ∧
         (t.port n).awaits = (s.port n).awaits.filter (fun a => !a.dropped) ∧
         ∀ k, k ≠ n → t.port k = s.port k) ∧
     ((s.port n).st ≠ 3 ∨ s.outstanding n ≠ 0 ∨ s.wdHeld n ≠ 0 ∨ (s.port n).stopped = true →
       exec (.portUnfence n) s = .next s))

/-- MORTAR_ADMIT, FLUSH_COMPLETE, HANDSHAKE_STALL, DERATE and PEAK_CLR (R69, R81, R84, R87, R91, R93, R95, R96). The
request at the head of a port that decodes, with room in its partition, moves to the end of the acceptance order with an
entry of that partition, HELD, allocated now; one that is refused before the tracker is answered with that status,
unless it is ORDERED, its chain not open, and 512 chains are; one that the Mortar cannot take stays, and nothing changes
(it is decoded afresh the next time: the model's choice, log 152); a port without a head changes nothing, nor does any
port from the request of a warm reset on. A port's FLUSH whose count is zero and whose earlier FLUSHes are complete
completes OK. A stalled handshake loses its transaction, alone, and sets the STALL bit of its class (which class a place
makes is the model's choice, log 122). DERATE_SET below 720 mV sets DERATE and DERATE_SEEN, from 720 mV up it changes
nothing (the operand is the model's choice, log 65); DERATE_CLEAR clears DERATE; each leaves the sensed voltage in
VCORE_MV and writes no other register. PEAK_CLR puts every partition's PEAK at its present occupancy (the model's
choice, log 19). -/
def Obligations.MortarCommands : Prop :=
  (∀ (n : Nat) (rivals : List KeyAsk) (s : State), s.cold = false → n < 12 →
     (s.headOf n = none → exec (.mortarAdmit n 0 rivals) s = .next s) ∧
     (∀ r r', s.headOf n = some r → s.locate r = (none, r') → s.blockedBy n r' = true →
       exec (.mortarAdmit n 0 rivals) s = .next s) ∧
     (s.warm ≠ 0 → exec (.mortarAdmit n 0 rivals) s = .next s) ∧
     (∀ r r' c, s.headOf n = some r → s.locate r = (none, r') → s.blockedBy n r' = false →
       s.partFor r'.src r'.dest = some c →
       ∃ (u : State) (q : Req), exec (.mortarAdmit n 0 rivals) s = .next u.settle ∧ u.reqs.getLast? = some q ∧ q.rid = r.rid ∧
         q.part = some c ∧ q.stage = .held ∧ q.dest = r'.dest ∧ q.lines = r'.lines ∧ q.tAlloc = s.uptime ∧
         u.reqs.filter (fun x => decide (x.rid ≠ r.rid)) = s.reqs.filter (fun x => decide (x.rid ≠ r.rid))) ∧
     (∀ r r' st, s.headOf n = some r → s.locate r = (some st, r') → s.req r.rid = some r → r.status = none →
       r.src = .port n → st ≠ .poison → s.warm = 0 →
       (s.chainsFull n r = false →
         ∃ u : State, exec (.mortarAdmit n 0 rivals) s = .next u.settle ∧ (u.req r.rid).map Req.status = some (some st)) ∧
       (s.chainsFull n r = true → exec (.mortarAdmit n 0 rivals) s = .next s))) ∧
  ((∀ (rid n : Nat) (f : Req) (s : State), s.cold = false → s.req rid = some f → s.flushReady f = true →
     f.src = .port n → f.entryBad = false →
     ∃ u : State, exec (.flushComplete rid) s = .next u.settle ∧ (u.req rid).map Req.status = some (some .ok)) ∧
   (∀ (rid : Nat) (r : Req) (s : State), s.cold = false → s.req rid = some r →
     ∃ u : State, exec (.handshakeStall rid) s = .next u.settle ∧
       u.reqs = s.reqs.filter (fun q => decide (q.rid ≠ rid)) ∧
       (u.rawF MOR_ERR_STALL 0 0 0).testBit r.handshakeClass = true) ∧
   (∀ (vdd mv : Nat) (s : State), s.cold = false →
     (vdd < 720 → ∃ t, exec (.derateSet vdd mv) s = .next t ∧ t.rawF MOR_STATUS_DERATE 0 0 0 = 1 ∧
       t.rawF MOR_STATUS_DERATE_SEEN 0 0 0 = 1 ∧ t.rawF MOR_STATUS_VCORE_MV 0 0 0 = mv % 1024 ∧
       s.onlyRegs t [MOR_STATUS_VCORE_MV.key 0 0 0, MOR_STATUS_DERATE.key 0 0 0, MOR_STATUS_DERATE_SEEN.key 0 0 0]) ∧
     (720 ≤ vdd → exec (.derateSet vdd mv) s = .next s) ∧
     ∃ t, exec (.derateClear mv) s = .next t ∧ t.rawF MOR_STATUS_DERATE 0 0 0 = 0 ∧
       t.rawF MOR_STATUS_VCORE_MV 0 0 0 = mv % 1024 ∧
       s.onlyRegs t [MOR_STATUS_VCORE_MV.key 0 0 0, MOR_STATUS_DERATE.key 0 0 0]) ∧
   (∀ s : State, s.serves → ∃ t, exec .peakClr s = .next t ∧
     (∀ c, c < s.build → t.rawF MOR_PART_STATUS_PEAK c 0 0 = s.occ c % 2 ^ 12) ∧
     s.onlyRegs t ((List.range s.build).map (fun c => MOR_PART_STATUS_PEAK.key c 0 0))))

/-- MAP_RGN_CTL and MAP_GEOM: checked on enabling, refused while in use (R102, R103, R107, R110). A host write of entry
r of the region table. Enabled and kept enabled, a write that would change a field sets LIVE_WRITE and changes nothing
else. Otherwise the entry's fields take the written bits, and VALID becomes 1 exactly where it is written 1 and the
checks of R102 pass over the entry as written; written 1 and failing, it keeps its value, BAD_ENTRY is set, and ENTRY
holds the first failing entry. Written 0, it is 0. A host write of a channel's geometry while an enabled local region
names the channel sets LIVE_WRITE and changes nothing else. Otherwise the fields take the written bits, and VALID
becomes 1 where it is written 1 and R107 supports the geometry, BANK_HASH taken from the profile with it while expert
bit 1 is 0; written 1 and unsupported it is 0 with GEOM_BAD (of a geometry that was valid, the model's choice: log entry
127); written 0 it is 0. After either write the walks of Ashlar go on under the tables as they then are (walksOn), and
after a geometry's the bring-up is judged again (bootCheck). -/
def Obligations.MapperWrites : Prop :=
  (∀ (r : Nat) (w : RegW) (s : State), s.serves → r < 64 →
     let was := if s.rawF MAP_RGN_CTL_VALID r 0 0 = 1 then 1 else 0
     let now := w.merge MAP_RGN_CTL_VALID was
     (was = 1 → now = 1 → (∃ f ∈ rgnCtlFields, w.merge f (s.rawF f r 0 0) ≠ s.rawF f r 0 0) →
       ∃ u : State, exec (.mapRgnCtlWrite r w) s = .next u.walksOn ∧ u.rawF MAP_ERR_LIVE_WRITE 0 0 0 = 1 ∧
         s.onlyRegs u [MAP_ERR_LIVE_WRITE.key 0 0 0]) ∧
     (¬ (was = 1 ∧ now = 1) →
       ∃ t, exec (.mapRgnCtlWrite r w) s = .next t ∧
         (∀ f ∈ rgnCtlFields, t.rawF f r 0 0 = w.merge f (s.rawF f r 0 0) % 2 ^ f.width) ∧
         let good := rgnPasses s.build s.straps.node (t.rawF MAP_RGN_BASE_BASE r 0 0) (t.rawF MAP_RGN_LIMIT_LIMIT r 0 0)
           (t.rawF MAP_RGN_CTL_TYPE r 0 0) (t.rawF MAP_RGN_CTL_WAYS r 0 0) (t.rawF MAP_RGN_CTL_CH_MASK r 0 0)
           (t.rawF MAP_RGN_CTL_CHOFF r 0 0)
         (now ≠ 1 → t.rawF MAP_RGN_CTL_VALID r 0 0 = 0) ∧
         (now = 1 → good = true → t.rawF MAP_RGN_CTL_VALID r 0 0 = 1) ∧
         (now = 1 → good = false → t.rawF MAP_RGN_CTL_VALID r 0 0 = s.rawF MAP_RGN_CTL_VALID r 0 0 ∧
           t.rawF MAP_ERR_BAD_ENTRY 0 0 0 = 1 ∧
           (s.rawF MAP_ERR_BAD_ENTRY 0 0 0 = 0 → t.rawF MAP_ERR_ENTRY 0 0 0 = r)))) ∧
  (∀ (c : Nat) (w : RegW) (s : State), s.serves → s.hasChan c = true →
     ((∃ r, r < 64 ∧ s.rgnNames c r = true) →
       ∃ u : State, exec (.mapGeomWrite c w) s = .next u.walksOn.bootCheck ∧ u.rawF MAP_ERR_LIVE_WRITE 0 0 0 = 1 ∧
         s.onlyRegs u [MAP_ERR_LIVE_WRITE.key 0 0 0]) ∧
     ((∀ r, r < 64 → s.rgnNames c r = false) →
       let now := w.merge MAP_GEOM_VALID (if s.rawF MAP_GEOM_VALID c 0 0 = 1 then 1 else 0)
       (∃ u : State, exec (.mapGeomWrite c w) s = .next u.bootCheck) ∧
       ∃ t, exec (.mapGeomWrite c w) s = .next t ∧
         (∀ f ∈ geomFields, t.rawF f c 0 0 = w.merge f (s.rawF f c 0 0) % 2 ^ f.width) ∧
         (now ≠ 1 → t.rawF MAP_GEOM_VALID c 0 0 = 0) ∧
         (now = 1 → t.geomGood c = true → t.rawF MAP_GEOM_VALID c 0 0 = 1 ∧
           (w.bits MAP_GEOM_VALID = 1 → s.expert 1 = false →
             t.rawF MAP_GEOM_BANK_HASH c 0 0 = s.mapProfile MAP_GEOM_BANK_HASH)) ∧
         (now = 1 → t.geomGood c = false → t.rawF MAP_GEOM_VALID c 0 0 = 0 ∧
           t.rawF MAP_ERR_GEOM_BAD 0 0 0 = 1)))

/-- The interleave loses no address: the channel, its offset and the entry give the address back (R105, R100, R102). For
an entry whose WAYS is not reserved and equals the number of channels its mask names, and any address not below its
base, the address is recovered from the entry and the channel and channel offset of R105, whatever the granule and the
hash; so no two addresses of an entry share a place. (The inverse is the one patrol and the repair commands use.) -/
def Obligations.InterleaveInverse : Prop :=
  ∀ (a r : Nat) (s : State), waysOf (s.rawF MAP_RGN_CTL_WAYS r 0 0) ≠ 0 →
    ones (s.rawF MAP_RGN_CTL_CH_MASK r 0 0) 24 = waysOf (s.rawF MAP_RGN_CTL_WAYS r 0 0) →
    s.rawF MAP_RGN_CTL_GRAN r 0 0 < 4 → s.rawF MAP_RGN_BASE_BASE r 0 0 * 2 ^ 21 ≤ a →
    s.globalOf (s.interleave a r).1 r (s.interleave a r).2 = a ∧ (s.interleave a r).1 < 24

/-- The gauge meters: refills, rate and burst writes, and what each colour charges (R115, R116, R117, R118, R120, R121).
A tick adds CIR and PIR (at least CIR) to the buckets of every meter, up to CBS and PBS, once for each 100 ns of uptime,
also where it comes late. A refill fills the selected meter, or all of the channel. A write of GAU_RATE or GAU_BURST
changes the selected meter alone, a burst write cuts balances and debts to the new sizes, and a PIR below CIR sets
RATE_CLAMP, a PBS below CBS or a zero burst BURST_CLAMP. MODE takes a value under the expert bit alone. With metering
off a request is green and nothing is charged. Else it is red, and charges nothing, when its honoured pre-colour is red
or the peak bucket is empty; yellow, and charges the peak bucket, when its honoured pre-colour is yellow or the
committed bucket is empty; green, and charges both, otherwise. A pre-colour is honoured in mode AWARE alone. A balance
falls by the cost in bytes, to no less than the debt of one PBS. -/
def Obligations.GaugeMeters : Prop :=
  ((∀ (c q : Nat) (s : State), s.cold = false → s.hasChan c = true → Tbl.sorted (s.chan c).set.meters = true →
     ∃ t, exec .refillTick s = .next t ∧
       t.meter c q = (if (s.chan c).set.lastTick < s.uptime / 100 then
         { s.meter c q with
           tc := min ((s.meter c q).tc + (s.uptime / 100 - (s.chan c).set.lastTick : Nat) * (s.meter c q).cir)
             (max 1 (s.meter c q).cbs * 16384),
           tp := min ((s.meter c q).tp + (s.uptime / 100 - (s.chan c).set.lastTick : Nat) *
             max (s.meter c q).pir (s.meter c q).cir) (s.meter c q).pbsB }
         else s.meter c q) ∧
       (t.chan c).set.lastTick = max (s.chan c).set.lastTick (s.uptime / 100)) ∧
   (∀ (c : Nat) (s : State), s.serves → s.hasChan c = true →
     (∃ t, exec (.gauRefill c) s = .next t ∧ ∀ q, t.meter c q =
       if q = s.rawF GAU_SEL_QID c 0 0 then { s.meter c q with tc := (s.meter c q).cbsB, tp := (s.meter c q).pbsB }
       else s.meter c q) ∧
     (Tbl.sorted (s.chan c).set.meters = true → ∃ t, exec (.gauRefillAll c) s = .next t ∧
       ∀ q, t.meter c q = { s.meter c q with tc := (s.meter c q).cbsB, tp := (s.meter c q).pbsB })) ∧
   (∀ (c : Nat) (w : RegW) (s : State), s.serves → s.hasChan c = true →
     let q := s.rawF GAU_SEL_QID c 0 0
     let m := s.meter c q
     (∃ t, exec (.gauRateWrite c w) s = .next t ∧
       (∀ k, t.meter c k = if k = q then { m with
           cir := w.merge GAU_RATE_CIR m.cir, pir := w.merge GAU_RATE_PIR m.pir,
           mode := if s.expert 4 then w.merge GAU_RATE_MODE m.mode else 0 }
         else s.meter c k) ∧
       (w.merge GAU_RATE_PIR m.pir < w.merge GAU_RATE_CIR m.cir → t.rawF GAU_ERR_RATE_CLAMP c 0 0 = 1)) ∧
     (∃ t, exec (.gauBurstWrite c w) s = .next t ∧
       (∀ k, k ≠ q → t.meter c k = s.meter c k) ∧
       (t.meter c q).cbs = w.merge GAU_BURST_CBS m.cbs ∧ (t.meter c q).pbs = w.merge GAU_BURST_PBS m.pbs ∧
       (t.meter c q).cir = m.cir ∧ (t.meter c q).pir = m.pir ∧
       -(t.meter c q).pbsB ≤ (t.meter c q).tc ∧ (t.meter c q).tc ≤ (t.meter c q).cbsB ∧
       -(t.meter c q).pbsB ≤ (t.meter c q).tp ∧ (t.meter c q).tp ≤ (t.meter c q).pbsB ∧
       (w.merge GAU_BURST_PBS m.pbs < w.merge GAU_BURST_CBS m.cbs ∨ w.merge GAU_BURST_CBS m.cbs = 0 ∨
         w.merge GAU_BURST_PBS m.pbs = 0 → t.rawF GAU_ERR_BURST_CLAMP c 0 0 = 1)))) ∧
  (∀ (m : Meter) (mode b : Nat) (pre : Colour),
     let charged (x : Int) : Int := max (x - b * 256) (-m.pbsB)
     let red := mode = 2 ∧ pre = .red ∨ m.tp ≤ 0
     let yellow := mode = 2 ∧ pre = .yellow ∨ m.tc ≤ 0
     (mode = 0 → m.colour mode b pre = (m, .green)) ∧
     (mode ≠ 0 → red → m.colour mode b pre = (m, .red)) ∧
     (mode ≠ 0 → ¬ red → yellow → m.colour mode b pre = ({ m with tp := charged m.tp }, .yellow)) ∧
     (mode ≠ 0 → ¬ red → ¬ yellow →
       m.colour mode b pre = ({ m with tp := charged m.tp, tc := charged m.tc }, .green)))

/-- SETTER_ENQUEUE colours, charges and queues a request; QUEUE_SAMPLE samples each channel once (R69, R113, R114, R116,
R118, R122, R132). A request that may enter the Setter of a channel that serves gets the colour of its meter, the queue
of that colour, and the present instant as its entry, and its meter is charged as the colouring says, no other; at a
channel that does not serve and drains nothing it is answered FENCED. A sample notes the present multiple of 256 ns in
every channel of the build that has not been sampled at it, and touches no request; where all channels have been, it
changes nothing. -/
def Obligations.SetterQueues : Prop :=
  (∀ (rid c : Nat) (r : Req) (s : State), s.cold = false → s.req rid = some r → r.dest = .local c →
     s.enqueueReady r = true →
     let m := s.meter c r.qid
     let out := m.colour (s.meterMode c m) r.cost r.col
     (s.chanUp c = true → ∃ t q, exec (.setterEnqueue rid 0) s = .next t ∧ t.req rid = some q ∧
       q.stage = .queued ∧ q.colour = out.2 ∧ q.queue = queueOf (Tbl.get (s.chan c).set.qidClass 4 r.qid) out.2 ∧
       q.tEnq = s.uptime ∧ q.bypassed = 0 ∧ q.charged = false ∧ t.meter c r.qid = out.1 ∧
       ∀ k, k ≠ r.qid → t.meter c k = s.meter c k) ∧
     (∀ n, s.chanUp c = false → s.drainsOut c = false → r.src = .port n → r.status = none →
       ∃ u : State, exec (.setterEnqueue rid 0) s = .next u.settle ∧ (u.req rid).map Req.status = some (some .fenced))) ∧
  (∀ s : State, s.cold = false →
     (∃ t, exec .queueSample s = .next t ∧ t.reqs = s.reqs ∧
       ∀ c, c < s.build → (t.chan c).set.lastSample = max (s.chan c).set.lastSample (s.uptime / 256)) ∧
     ((∀ c, c < s.build → s.uptime / 256 ≤ (s.chan c).set.lastSample) → exec .queueSample s = .next s))

/-- Refresh modes, TRACKER_HALVING and COLD_START_END (R159, R164, R167, R169). A write of PNT_CTRL.MODE is stored; on a
trained channel and for another mode it pends. It comes in force only with the mode written to every rank (the model's
choice, log 74), every unit owing nothing, at the tick instant of logical rank 0 that no unit's tick precedes and that
lies no earlier than the channel's present cycle (that it is the earliest of all units' is log 80); then MODE_IN is what
the DIMM offers of it and nothing pends. Once 8,192 times tREFI have passed since the last halving, every count of the
row trackers is halved, an odd one rounded down (the model's choice, log 130), the instant moves by that span, and
nothing else changes. At or after its end instant, cold-start mode ends. Before, each changes nothing. -/
def Obligations.RefreshModesAndTracker : Prop :=
  ((∀ (c mode : Nat) (s : State), s.serves → s.hasChan c = true →
     ∃ t, exec (.refreshModeWrite c mode) s = .next t ∧ t.rawF PNT_CTRL_MODE c 0 0 = mode % 4 ∧
       t.refMode c = s.refMode c ∧
       (s.isTrained c = true → s.modeOf c mode ≠ s.refMode c → (t.chan c).pnt.modePend = some mode) ∧
       (s.isTrained c = false → t.chan c = s.chan c)) ∧
   (∀ (c m t0 : Nat) (s : State), s.cold = false → s.hasChan c = true → (s.chan c).pnt.modePend = some m →
     Tbl.find (s.chan c).pnt.nextTick 0 = some t0 →
     ((∀ u ∈ s.units c, u ∈ (s.chan c).pnt.modeWritten) → (∀ u ∈ s.units c, s.owed c u ≤ 0) →
       (∀ e ∈ (s.chan c).pnt.nextTick, t0 ≤ e.2) → (s.chan c).now ≤ t0 →
       ∃ t, exec (.refreshModeSwitch c) s = .next t ∧ t.refMode c = s.modeOf c m % 4 ∧
         (t.chan c).pnt.modePend = none ∧ (t.chan c).now = t0) ∧
     ((∃ u ∈ s.units c, u ∉ (s.chan c).pnt.modeWritten) ∨ t0 < (s.chan c).now →
       exec (.refreshModeSwitch c) s = .next s))) ∧
  (∀ (c : Nat) (s : State), s.cold = false → s.hasChan c = true →
     let span := 8192 * s.row c 28
     ((s.chan c).pnt.lastHalve + span ≤ (s.chan c).now → ∃ t, exec (.trackerHalving c) s = .next t ∧
       (t.chan c).pnt.lastHalve = (s.chan c).pnt.lastHalve + span ∧
       (∀ b, Tbl.find (t.chan c).pnt.track b =
         (Tbl.find (s.chan c).pnt.track b).map (fun es => es.map (fun e => (e.1, e.2 / 2)))) ∧
       (∀ k, k ≠ c → t.chan k = s.chan k) ∧ t = { s with chans := t.chans }) ∧
     ((s.chan c).now < (s.chan c).pnt.lastHalve + span → exec (.trackerHalving c) s = .next s) ∧
     (∀ e, (s.chan c).pnt.coldEnd = some e →
       (e ≤ (s.chan c).now → ∃ t, exec (.coldStartEnd c) s = .next t ∧ t.coldMode c = false ∧
         (t.chan c).pnt.coldEnd = none) ∧
       ((s.chan c).now < e → exec (.coldStartEnd c) s = .next s)))

/-- Self-refresh: who starts it, what ends it, and the refresh credit after it (R173, R174). SR_REQ on a trained, active
channel starts the entry with cause 1, SR_IDLE with cause 2; on any other it only stores the bit (for an untrained one
the model's choice, log 178). SR_EXIT_REQUEST clears SR_REQ; in self-refresh by SR_REQ or by idleness it starts the
exit; in self-refresh for a reset it does not. The exit's end, tXS after the last SRX with no rank left asleep and the
path held, leaves every unit owing 1 (in SAME_BANK too: the model's choice, log 159) and starts the exit correction;
while the debug port holds the path it does not come. -/
def Obligations.SelfRefresh : Prop :=
  ∀ (c : Nat) (s : State), s.cold = false → s.hasChan c = true →
    (s.serves → ∃ t, exec (.srRequest c) s = .next t ∧ t.rawF PNT_CTRL_SR_REQ c 0 0 = 1 ∧
      (s.isTrained c = true → s.lpState c = 0 → t.lpState c = 1 ∧ (t.chan c).pnt.srWhy = 1) ∧
      (s.isTrained c = false ∨ s.lpState c ≠ 0 → t.chan c = s.chan c)) ∧
    (s.scrState c = 2 → s.lpState c = 0 → s.srIdle c = true →
      ∃ t, exec (.srIdleExpiry c) s = .next t ∧ t.lpState c = 1 ∧ (t.chan c).pnt.srWhy = 2) ∧
    (s.srIdle c = false → exec (.srIdleExpiry c) s = .next s) ∧
    (∃ t, exec (.srExitRequest c) s = .next t ∧ t.rawF PNT_CTRL_SR_REQ c 0 0 = 0 ∧
      (s.lpState c = 2 → (s.chan c).pnt.srWhy = 1 ∨ (s.chan c).pnt.srWhy = 2 → t.lpState c = 3) ∧
      (s.lpState c = 2 → (s.chan c).pnt.srWhy ≠ 1 → (s.chan c).pnt.srWhy ≠ 2 → t.lpState c = 2) ∧
      (s.lpState c ≠ 2 → t.lpState c = s.lpState c)) ∧
    (∀ hot t0 rivals, s.lastSrx c = some t0 → s.lpState c = 3 → (s.chan c).pnt.sr = [] → (s.chan c).pnt.srStep = 4 →
      (s.pntHolds c = true →
        ∃ t, exec (.srExitDone c hot rivals) s = .next t ∧ (∀ u ∈ s.units c, t.owed c u = 1) ∧ t.scrState c = 3 ∧
          (t.chan c).scr.run = 3 ∧ (t.chan c).now = max (s.chan c).now (t0 + s.row c 47)) ∧
      ((s.chan c).mntHolder = some 257 → exec (.srExitDone c hot rivals) s = .next s))

/-- BURST_DECODE takes the oldest burst; a host read gets its line, or POISON and zero data (R59, R60, R67, R183, R195).
The oldest burst of a channel leaves the list. A host's RD_LINE whose burst Ashlar judges clean completes OK with the
line, corrected, OK_CORRECTED with the line corrected; judged uncorrectable, it completes POISON, POISON_WALK for a
walk, with zero data, and the bit of the error is set: 5 where the decoder's own check failed, else 2. Without a burst,
or with one that a replay under way will read again, nothing happens. -/
def Obligations.BurstVerdicts : Prop :=
  (∀ (c upset : Nat) (errs : List (Nat × Nat)) (s : State), s.cold = false → s.hasChan c = true →
    (s.chan c).tim.bursts = [] ∨ s.burstStale c = true → exec (.burstDecode c errs upset) s = .next s) ∧
  (∀ (c n : Nat) (errs : List (Nat × Nat)) (b : Burst) (rest : List Burst) (r : Req) (l : LineJob) (s : State),
    s.cold = false → s.hasChan c = true → s.burstStale c = false → (s.chan c).tim.bursts = b :: rest →
    s.req b.rid = some r → r.lineOfBurst b = some l → r.src = .port n → r.op = .rdLine → r.run = none → r.status = none →
    let j := s.judgeBurst c b errs false
    let answers (st : Status) (d : BitVec 512) (bits : State → Prop) : Prop :=
      ∃ (u : State) (q : Req), exec (.burstDecode c errs 0) s = .next u.settle ∧ u.req b.rid = some q ∧
        q.status = some st ∧ q.rdata = d ∧ (u.chan c).tim.bursts = rest ∧ bits u
    (j.verdict = .clean → answers .ok j.line (fun _ => True)) ∧
    (j.verdict = .corrected → answers .okCorrected j.line (fun u => (u.rawF ASH_ERR_BITS c b.pos.sub 0).testBit 0 = true)) ∧
    (j.verdict = .uncorrectable → answers (if r.walk then .poisonWalk else .poison) 0
      (fun u => (u.rawF ASH_ERR_BITS c b.pos.sub 0).testBit (if j.decChk then 5 else 2) = true)))

/-- PATROL_LINE_DUE and PATROL_LATE; ASH_INIT_START and ASH_INIT_DONE (R189, R190, R195, R196). When the pace makes a
line due, the first mapped line at or after the cursor, or at the end of the walk the first of all, becomes one scrub
read, at its global address, the cursor goes past it, a pass is under way, and the next line is due one pace interval
after this one was (when a pass begins is the model's choice, log 168); before that instant, or while patrol does not
run, nothing happens. A pass more than 1 % over its period sets PATROL_LATE and bit 9 of ASH_ERR of subchannel A (the
model's choice, log 160), once. START while BUSY changes nothing. Over a range that holds a mapped line of the channel
it sets BUSY and clears DONE; over one that holds none it sets DONE alone. DONE comes when the cursor is at the end of
its range and no line of it is waiting, and clears BUSY. -/
def Obligations.PatrolAndInitialisation : Prop :=
  (∀ (c : Nat) (s : State), s.cold = false → s.hasChan c = true →
     (∀ L, s.patrolOn c = true → (s.chan c).ash.dueAt.1 ≤ s.uptime →
       s.nextMapped c (s.chan c).ash.patrol = some L ∨
         s.nextMapped c (s.chan c).ash.patrol = none ∧ s.nextMapped c 0 = some L →
       ∃ t r, exec (.patrolLineDue c) s = .next t ∧ t.reqs = s.reqs ++ [r] ∧ r.src = .scrub 1 ∧ r.op = .rdLine ∧
         r.addr = s.lineAddr c L ∧ r.dest = .local c ∧ r.stage = .queued ∧ (t.chan c).ash.patrol = L + 1 ∧
         (t.chan c).ash.passOn = true ∧
         (t.chan c).ash.dueAt = paceOn (s.patrolNs c) (s.mappedLines c) (s.chan c).ash.dueAt) ∧
     (s.patrolOn c = false ∨ s.uptime < (s.chan c).ash.dueAt.1 → exec (.patrolLineDue c) s = .next s) ∧
     (0 < s.fld ASH_SCRUB_PERIOD c 0 0 → 0 < s.mappedLines c → (s.chan c).ash.passOn = true →
       s.patrolNs c * 101 < (s.uptime - (s.chan c).ash.passStart) * 100 →
       (s.rawF ASH_STATUS_PATROL_LATE c 0 0 = 0 → ∃ t, exec (.patrolLate c) s = .next t ∧
         t.rawF ASH_STATUS_PATROL_LATE c 0 0 = 1 ∧ (t.rawF ASH_ERR_BITS c 0 0).testBit 9 = true) ∧
       (s.rawF ASH_STATUS_PATROL_LATE c 0 0 ≠ 0 → exec (.patrolLate c) s = .next s))) ∧
  (∀ (c : Nat) (s : State), s.hasChan c = true →
     let first := s.rawF ASH_INIT_START_OFF c 0 0 * 2 ^ 15
     let n := s.rawF ASH_INIT_COUNT c 0 0
     let last := if n = 0 then s.chanLines c else min (s.chanLines c) (first + n * 2 ^ 15)
     (s.serves → s.rawF ASH_INIT_BUSY c 0 0 = 1 → exec (.ashInitStart c) s = .next s) ∧
     (∀ L, s.serves → s.rawF ASH_INIT_BUSY c 0 0 ≠ 1 → s.nextMapped c first = some L → first < s.chanLines c → L < last →
       ∃ t, exec (.ashInitStart c) s = .next t ∧ t.rawF ASH_INIT_BUSY c 0 0 = 1 ∧ t.rawF ASH_INIT_DONE c 0 0 = 0 ∧
         (t.chan c).ash.initRun.map Prod.snd = some last) ∧
     (s.serves → s.rawF ASH_INIT_BUSY c 0 0 ≠ 1 →
       (∀ L, s.nextMapped c first = some L → s.chanLines c ≤ first ∨ last ≤ L) →
       ∃ t, exec (.ashInitStart c) s = .next t ∧ t.rawF ASH_INIT_DONE c 0 0 = 1 ∧
         s.onlyRegs t [ASH_INIT_DONE.key c 0 0]) ∧
     (∀ a b, s.cold = false → (s.chan c).ash.initRun = some (a, b) → b ≤ a → s.scrubs c 3 = [] →
       ∃ t, exec (.ashInitDone c) s = .next t ∧ t.rawF ASH_INIT_DONE c 0 0 = 1 ∧ t.rawF ASH_INIT_BUSY c 0 0 = 0 ∧
         (t.chan c).ash.initRun = none))

/-- COUNTER_LEAK, ASH_MARK_WRITE, ASH_THRESH_WRITE and SPARING_DONE on device counters and marks (R191, R193). Each LEAK
seconds every device counter of the subchannel above 0 falls by one. A host write of ASH_MARK takes, under the expert
bit, each rank's field that the population admits, and refuses the rest; without the bit nothing changes. ASH_THRESH
writes take effect under the expert bit alone. The end of sparing clears the marks and counters of the spared rank. -/
def Obligations.CountersAndMarks : Prop :=
  (∀ (c sub : Nat) (s : State), s.cold = false → s.hasChan c = true → sub < 2 →
    (if sub = 0 then (s.chan c).ash.lastLeak.1 else (s.chan c).ash.lastLeak.2) +
      1000000000 * max 1 (s.fld ASH_THRESH_LEAK c sub 0) ≤ s.uptime →
    ∃ t, exec (.counterLeak c sub) s = .next t ∧
      (∀ k d, k < 4 → d < 10 → t.devCnt c sub k d = s.devCnt c sub k d - 1) ∧
      (if sub = 0 then (t.chan c).ash.lastLeak.1 else (t.chan c).ash.lastLeak.2) = s.uptime) ∧
  (∀ (c sub : Nat) (w : RegW) (s : State), s.serves → s.hasChan c = true → sub < 2 →
    (s.expert 6 = false → exec (.ashMarkWrite c sub w) s = .next s ∧ exec (.ashThreshWrite c sub w) s = .next s) ∧
    (s.expert 6 = true → ∃ t, exec (.ashMarkWrite c sub w) s = .next t ∧
      ∀ k, k < 4 →
        let v := nfield (w.merge ASH_MARK_MARKS (s.rawF ASH_MARK_MARKS c sub 0)) (5 * k) 5
        nfield (t.rawF ASH_MARK_MARKS c sub 0) (5 * k) 5 =
          if s.markFits c v then v else nfield (s.rawF ASH_MARK_MARKS c sub 0) (5 * k) 5) ∧
    (s.expert 6 = true → ∃ t, exec (.ashThreshWrite c sub w) s = .next t ∧
      t.fld ASH_THRESH_LEAK c sub 0 = w.merge ASH_THRESH_LEAK (s.fld ASH_THRESH_LEAK c sub 0) % 2 ^ ASH_THRESH_LEAK.width ∧
      t.fld ASH_THRESH_MARK c sub 0 = w.merge ASH_THRESH_MARK (s.fld ASH_THRESH_MARK c sub 0) % 2 ^ ASH_THRESH_MARK.width)) ∧
  (∀ (c : Nat) (s : State), s.cold = false → s.hasChan c = true → s.rawF ASH_SPARE_STATE c 0 0 = 1 →
    s.scrubs c 2 = [] → s.chanLines c ≤ (s.chan c).ash.spareAt → s.rawF ASH_SPARE_FROM c 0 0 < 4 →
    ∃ t, exec (.sparingDone c) s = .next t ∧ t.rawF ASH_SPARE_STATE c 0 0 = 2 ∧
      ∀ sub, sub < 2 → t.markOf c sub (s.rawF ASH_SPARE_FROM c 0 0) = none ∧
        t.rawF ASH_DEV_CNT_CNT c sub (s.rawF ASH_SPARE_FROM c 0 0) = 0)

/-- TRAIN, RETRAIN, STORE and TRAIN_GO, and the steps of a full training rank by rank (R198, R201, R203, R204, R205,
R211, R213, R217, R218, R405). TRAIN starts attempt 1 of a full training at step 0 on an UNTRAINED or FAILED channel
with a valid geometry and a rate that R29 admits, outside any reset, whoever else asks for the path; refused, it sets
CMD_REFUSED alone. RETRAIN is noted for the next tick. STORE hands the values of a TRAINED channel to Plinth, and acts
on no other. TRAIN_GO acts in boot step 0101 alone: it moves STEP on and starts every valid channel that is UNTRAINED,
whatever error its stored record meets, and no other changes its state. The end of a step on a rank, within its time,
moves its subchannel to the next rank, and its result row of the subchannel is FAIL from the first rank with a failing
lane on. With the last rank of both subchannels ended and no lane failed, a step up to 6 leads to the next, step 7 to
step 8, or below N = 32 to the seam point, step 8 to the seam point; with a failed lane the attempt fails: the next one
starts at step 0, and after the last one the channel is FAILED with TRAIN_FAIL. STEP_TIMEOUT of a step whose clock has
run out on the last rank fails the attempt the same way, and so it does for all ranks left once the attempt's time is
over or its path was taken; before that it changes nothing. -/
def Obligations.FullTraining : Prop :=
  ((∀ (c : Nat) (rivals : List KeyAsk) (s : State), s.serves → s.hasChan c = true →
     (s.scrState c = 0 ∨ s.scrState c = 4 → s.rawF MAP_GEOM_VALID c 0 0 = 1 → s.warm = 0 → (s.chan c).rstStep = 0 →
       s.rateOk c = true →
       ∃ t, exec (.train c rivals) s = .next t ∧ t.scrState c = 1 ∧ t.rawF SCR_STATUS_STEP c 0 0 = 0 ∧
         t.rawF SCR_STATUS_ATTEMPT c 0 0 = 1 ∧ (t.chan c).scr.run = 1) ∧
     (s.scrState c ≠ 0 → s.scrState c ≠ 4 → ∃ t, exec (.train c rivals) s = .next t ∧
       t.rawF SCR_ERR_CMD_REFUSED c 0 0 = 1 ∧ s.onlyRegs t [SCR_ERR_CMD_REFUSED.key c 0 0]) ∧
     (∃ t, exec (.retrain c) s = .next t ∧ (t.chan c).scr = { (s.chan c).scr with wantRetrain := true } ∧
       t = { s with chans := t.chans }) ∧
     (s.scrState c = 2 → ∃ t, exec (.store c) s = .next t ∧ t = { s with pln := t.pln } ∧ t.pln.rows = s.pln.rows ∧
       t.pln.stores = s.pln.stores ++ [plnStoreOf 0x10 c (s.trainBody c) s.uptime]) ∧
     (s.scrState c ≠ 2 → exec (.store c) s = .next s)) ∧
   (∀ (rivals : List KeyAsk) (stored : List (Nat × Nat)) (s : State), s.serves →
     (s.rawF BLK_BOOT_STEP 0 0 0 = 5 → s.warm = 0 → ∃ t, exec (.trainGo rivals stored) s = .next t ∧
       (t.rawF BLK_BOOT_STEP 0 0 0 = 6 ∨ t.rawF BLK_BOOT_STEP 0 0 0 = 7) ∧
       (∀ c ∈ s.validChans, s.scrState c = 0 → t.scrState c ≠ 0) ∧
       ∀ c, c < 24 → s.scrState c ≠ 0 ∨ c ∉ s.validChans → t.scrState c = s.scrState c) ∧
     (s.rawF BLK_BOOT_STEP 0 0 0 ≠ 5 → exec (.trainGo rivals stored) s = .next s))) ∧
  (∀ (c k sub : Nat) (e : StepEnd) (rivals : List KeyAsk) (s : State), s.trainsAt c k → k ≤ 8 → sub < 2 →
     let x := (s.chan c).scr
     let bad := s.badLanes c k sub (x.at sub) e false
     let good := bad = 0 ∧ x.rowFailed sub k = false ∧ x.rowPassed (1 - sub) k = true
     (s.runLate c = false → s.stepLate c sub = false →
       (x.at sub < s.stepUnits c k → x.at sub + 1 < s.stepUnits c k ∨ x.at (1 - sub) < s.stepUnits c k →
         ∃ t, exec (.trainingStepEnd c e sub rivals) s = .next t ∧ t.rawF SCR_STATUS_STEP c 0 0 = k ∧
           (t.chan c).scr.at sub = x.at sub + 1 ∧ (t.chan c).scr.at (1 - sub) = x.at (1 - sub) ∧
           (t.chan c).scr.run = 1 ∧ (t.chan c).scr.passed = 0 ∧
           (bad = 0 → x.rowFailed sub k = false → (t.chan c).scr.rowPassed sub k = true) ∧
           (bad ≠ 0 ∨ x.rowFailed sub k = true → (t.chan c).scr.rowFailed sub k = true)) ∧
       (s.lastRank c sub k →
         (good → ∃ t, exec (.trainingStepEnd c e sub rivals) s = .next t ∧ (t.chan c).scr.run = 1 ∧
           t.rawF SCR_STATUS_STEP c 0 0 = min 8 (k + 1) ∧
           (t.chan c).scr.passed = (if k = 8 ∨ k = 7 ∧ nth x.latched 3 < 32 then 3 else 0) ∧
           (k ≤ 6 → (t.chan c).scr.prog = (0, 0))) ∧
         (¬ good → s.attemptFails c (exec (.trainingStepEnd c e sub rivals) s)))) ∧
     (s.runLate c = false → s.stepLate c sub = true → s.lastRank c sub k →
       s.attemptFails c (exec (.stepTimeout c e sub) s)) ∧
     (s.runLate c = true → s.stepUnits c k ≤ 4 → x.at 0 < s.stepUnits c k ∨ x.at 1 < s.stepUnits c k →
       s.attemptFails c (exec (.stepTimeout c e sub) s)) ∧
     (s.runLate c = false → s.stepLate c sub = false → exec (.stepTimeout c e sub) s = .next s))

/-- RETRAIN_TICK measures only through its gate; what a seam point brings (R139, R198, R208, R209, R211, R214, R217,
R236). At a retraining tick of a TRAINED, awake channel with no run, the temperature is noted; with the gate shut
nothing else starts, with it open a measurement run does, and the wish for one is used up: where no table copy waits, of
subchannel A first, whose rows turn STALE, those of B do not. Where no tick is due nothing happens. With Screed on the
path: a copy that waits on a TRAINED channel, both subchannels drained, comes in force in the issuer and the checker,
PEND falls and LIVE rises, and the result rows of a run that had no result read NOT_RUN; not drained, the tables stay. A
retraining of A at its seam point, A drained, writes A's row RETRAIN as not STALE, goes on to B, whose rows are STALE
from then, and B's seam point ends the run; the measurement that lost the path ends too, A's going on to B. The seam
point of a passed training makes the channel TRAINED and lifts its fence; that of a passed fast resume loads the stored
values and leads to its checks; one whose record met an error that cannot be corrected, and is valid no more, has failed
with RESUME_FAIL (the model's choice, log 141). -/
def Obligations.RetrainAndSeamPoints : Prop :=
  (∀ (c temp : Nat) (rivals : List KeyAsk) (s : State), s.cold = false → s.hasChan c = true →
     (s.tickDue c = false → exec (.retrainTick c temp rivals) s = .next s) ∧
     (s.tickDue c = true → s.scrState c = 2 → s.lpState c = 0 → (s.chan c).scr.run = 0 → s.allAsleep c = false →
       let s0 := s.modScr c (fun x => { x with lastTick := s.uptime, sinceMeas := x.sinceMeas + 1 })
       ∃ t, exec (.retrainTick c temp rivals) s = .next t ∧ t.rawF SCR_STATUS_TEMP c 0 0 = temp % 256 ∧
         (t.chan c).scr.lastTick = s.uptime ∧
         (s0.gateOpen c temp = false → t.scrState c = 2 ∧ (t.chan c).scr.run = 0) ∧
         (s0.gateOpen c temp = true → t.scrState c = 3 ∧ (t.chan c).scr.run = 4 ∧ (t.chan c).scr.wantRetrain = false ∧
           ((s.chan c).tim.pendTab = none → ∀ k, k < 10 → t.rawF SCR_RESULT_STALE c 0 k = 1 ∧
             t.rawF SCR_RESULT_STALE c 1 k = s.rawF SCR_RESULT_STALE c 1 k)))) ∧
  (∀ (c : Nat) (e : StepEnd) (rivals : List KeyAsk) (s : State), s.cold = false → s.hasChan c = true →
     (s.chan c).mntHolder = some (229 + c) →
     (∀ tab, (s.chan c).scr.run = 5 → (s.chan c).tim.pendTab = some tab → s.subDrained c 0 = true →
       s.subDrained c 1 = true → ∃ t, exec (.seamPoint c e rivals) s = .next t ∧ (t.chan c).tim.tabI = tab ∧
         (t.chan c).tim.tabC = tab ∧ (t.chan c).tim.pendTab = none ∧ t.rawF TIM_STATUS_PEND c 0 0 = 0 ∧
         t.rawF TIM_STATUS_LIVE c 0 0 = 1 ∧ (t.chan c).scr.run = 0 ∧
         ((s.chan c).scr.newRes = [] → ∀ sub k, sub < 2 → k < 10 → t.rawF SCR_RESULT_VERDICT c sub k = 0)) ∧
     ((s.chan c).scr.run = 5 → s.subDrained c 0 = false → exec (.seamPoint c e rivals) s = .next s) ∧
     ((s.chan c).scr.run = 4 → (s.chan c).scr.quiet ≠ 3 → (s.chan c).scr.preempted = false →
       ((s.chan c).scr.passed = 0 → s.subDrained c 0 = true → ∃ t, exec (.seamPoint c e rivals) s = .next t ∧
         (t.chan c).scr.run = 4 ∧ (t.chan c).scr.passed = 1 ∧ t.rawF SCR_RESULT_STALE c 0 9 = 0 ∧
         t.rawF SCR_RESULT_STALE c 1 9 = 1) ∧
       ((s.chan c).scr.passed = 1 → s.subDrained c 1 = true → ∃ t, exec (.seamPoint c e rivals) s = .next t ∧
         (t.chan c).scr.run = 0 ∧ t.scrState c = 2 ∧ t.rawF SCR_RESULT_STALE c 1 9 = 0)) ∧
     ((s.chan c).scr.run = 4 → (s.chan c).scr.quiet ≠ 3 → (s.chan c).scr.preempted = true →
       ((s.chan c).scr.passed = 0 → ∃ t, exec (.seamPoint c e rivals) s = .next t ∧ (t.chan c).scr.run = 4 ∧
         (t.chan c).scr.passed = 1 ∧ (t.chan c).scr.preempted = false ∧ t.rawF SCR_RESULT_STALE c 1 9 = 1) ∧
       ((s.chan c).scr.passed = 1 → ∃ t, exec (.seamPoint c e rivals) s = .next t ∧ (t.chan c).scr.run = 0 ∧
         t.scrState c = 2)) ∧
     ((s.chan c).scr.run = 1 → (s.chan c).scr.passed = 3 → ∃ t, exec (.seamPoint c e rivals) s = .next t ∧
       t.scrState c = 2 ∧ (t.chan c).scr.run = 0 ∧ (t.chan c).scr.trainFence = false) ∧
     ((s.chan c).scr.run = 2 → (s.chan c).scr.passed = 3 →
       (e.stored ≠ 2 → ∃ t, exec (.seamPoint c e rivals) s = .next t ∧ (t.chan c).scr.passed = 4 ∧
         (t.chan c).scr.active = s.storedValues c ∧ (t.chan c).scr.shadow = s.storedValues c) ∧
       (e.stored = 2 → (s.recordUpset 0x10 c 2).storedValid c = false →
         ∃ t, exec (.seamPoint c e rivals) s = .next t ∧ t.rawF SCR_ERR_RESUME_FAIL c 0 0 = 1)))

/-- A Plinth store row by row; RAW_READ, RAW_WRITE and READ_REC (R222, R227, R228, R232, R233, R234, R235, R236, R260,
R405). The oldest waiting store begins at row 0 with the present uptime, when no row is being written and no command
runs. A verified row stands at its ring place, every other row unchanged, and the next row follows; after the commit row
the store is gone and the window's start has moved past it. A bad row is tried again while RETRY allows, then WRITE_FAIL
ends the store, the record in force unchanged; a word corrected in what is read back changes none of this. What the
rows, the ring and WRITE_FAIL hold at a store's end is said for every store behind which no command waits; that the
store is gone then and the record in force unchanged, for those that are not the CYCLE store and have neither an image
operation nor a FATAL record behind them; a LOAD_STORE whose own store fails ends with result 8, no image changed. With
the CYCLE store of the start-up, committed or failed, Plinth is READY and STEP 0101, which the model has that store's
end do (logs 6, 141); a READ_REC of a TYPE that is not 1 to 3 fails, also the model's choice (log 89). With nothing in
progress, RAW_READ puts a PLATFORM row into the buffer, READ_REC the body of the record in force or zero, and neither
changes the array; RAW_WRITE goes to its row, which then holds the buffer, every other row unchanged. During a store, or
before READY, each of the three commands waits. A row beyond 1,439 in a RAW_READ or RAW_WRITE, or a TYPE that is not 1
to 3 in a READ_REC, sets CMD_FAIL; each of the three on top of another sets CMD_REFUSED and nothing else. -/
def Obligations.PlinthRecords : Prop :=
  ((∀ (st : PlnStore) (rest : List PlnStore) (s : State), s.cold = false → s.pln.stores = st :: rest →
     (s.pln.row = none → s.cmdRuns = false → exec .plinthStore s = .next (s.modPln (fun p => { p with
       stores := { st with time := s.uptime } :: rest, row := some 0, tries := 0, dropping := false }))) ∧
     (s.pln.row ≠ none ∨ s.cmdRuns = true → exec .plinthStore s = .next s)) ∧
   (∀ s : State, s.cold = false → s.pln.stores = [] → exec .plinthStore s = .next s) ∧
   (∀ (k : Nat) (st : PlnStore) (rest : List PlnStore) (pl : PlnPlan) (s : State), s.cold = false →
     s.pln.row = some k → s.pln.stores = st :: rest → s.plnPlan st.type st.index = some pl →
     let place := pl.base + (pl.start + k) % pl.size
     let plain := s.pln.cmd = none ∧ s.quo.img = none ∧ st.type ≠ 2 ∧ (∀ x, rest.head? = some x → x.type ≠ 3)
     (∀ corr, k ≤ st.bodyRows → s.pln.dropping = false →
       ∃ t, exec (.plinthRowWriteDone true corr) s = .next t ∧ t.pln.row = some (k + 1) ∧
         t.pln.stores = s.pln.stores ∧ ∀ r, t.plnRow r = if r = place then s.storeRow st pl k else s.plnRow r) ∧
     (∀ corr, k = st.bodyRows + 1 → s.pln.dropping = false → s.pln.cmd = none →
       ∃ t, exec (.plinthRowWriteDone true corr) s = .next t ∧ (plain → t.pln.row = none ∧ t.pln.stores = rest) ∧
         Tbl.get t.pln.nextStart 0 pl.base = (pl.start + k + 1) % pl.size ∧
         ∀ r, t.plnRow r = if r = place then s.storeRow st pl k else s.plnRow r) ∧
     (∀ corr, s.pln.tries < s.fld PLN_CTRL_RETRY 0 0 0 → exec (.plinthRowWriteDone false corr) s = .next
       ((s.plnUpset (b2n corr)).modPln (fun p => { p with tries := p.tries + 1 }))) ∧
     (∀ corr, s.fld PLN_CTRL_RETRY 0 0 0 ≤ s.pln.tries → s.pln.cmd = none →
       ∃ t, exec (.plinthRowWriteDone false corr) s = .next t ∧ t.rawF PLN_ERR_WRITE_FAIL 0 0 0 = 1 ∧
         (plain → t.pln.row = none ∧ t.pln.stores = rest ∧ t.inForce st.type st.index = s.inForce st.type st.index) ∧
         (∀ r, r ≠ place → t.plnRow r = s.plnRow r) ∧
         (∀ (i : ImgOp) (b : List Nat), s.quo.img = some i → i.op = 2 → i.image = some b → i.kind < 2 →
           st.type = imgType i.kind → (∀ x ∈ rest, x.type ≠ st.type) →
           t.rawF MAS_IMG_STATUS_RESULT i.kind 0 0 = 8 ∧ t.quo.img = none ∧ t.imgs = s.imgs)) ∧
     (∀ good corr, st.type = 2 → s.rawF BLK_BOOT_STEP 0 0 0 = 2 → s.quo.img = none →
       good = true ∧ st.bodyRows < k ∨ good = false ∧ s.fld PLN_CTRL_RETRY 0 0 0 ≤ s.pln.tries →
       ∃ t, exec (.plinthRowWriteDone good corr) s = .next t ∧ t.rawF PLN_STATUS_READY 0 0 0 = 1 ∧
         t.rawF BLK_BOOT_STEP 0 0 0 = 5))) ∧
  ((∀ (w : RegW) (s : State), s.serves → s.pln.cmd = none →
     (s.pln.row = none → s.rawF PLN_STATUS_READY 0 0 0 = 1 →
       (w.bits PLN_CMD_OP = 1 → w.bits PLN_CMD_ROW ≤ 1439 → s.rowOk (platRow (w.bits PLN_CMD_ROW)) = true →
         ∃ t, exec (.rawRead w 0) s = .next t ∧ t.bufRow = s.plnRow (platRow (w.bits PLN_CMD_ROW)) ∧
           t.rawF PLN_STATUS_CMD_FAIL 0 0 0 = 0 ∧ t.pln = s.pln) ∧
       (w.bits PLN_CMD_OP = 3 → w.bits PLN_CMD_TYPE ≠ 0 → w.bits PLN_CMD_TYPE ≤ 3 →
         ∃ t, exec (.readRec w 0) s = .next t ∧ t.pln = s.pln ∧ t.rawF PLN_STATUS_CMD_FAIL 0 0 0 = 0 ∧
           t.bufRow = match s.plnRecord (w.bits PLN_CMD_TYPE) 0 with | none => 0 | some e => bytesLine e.2) ∧
       (w.bits PLN_CMD_OP = 2 → w.bits PLN_CMD_ROW ≤ 1439 → ∃ t, exec (.rawWrite w) s = .next t ∧
         t.pln.cmd = some ⟨2, w.bits PLN_CMD_TYPE, w.bits PLN_CMD_ROW, 0, true⟩ ∧ t.pln.rows = s.pln.rows)) ∧
     (∀ e ∈ plnCmds, ∀ upset, w.bits PLN_CMD_OP = e.1 →
       let good := if e.1 = 3 then 0 < w.bits PLN_CMD_TYPE ∧ w.bits PLN_CMD_TYPE ≤ 3 else w.bits PLN_CMD_ROW ≤ 1439
       let kept : PlnCmd := ⟨e.1, w.bits PLN_CMD_TYPE, w.bits PLN_CMD_ROW, if e.1 = 2 then 0 else upset, false⟩
       (s.pln.row ≠ none ∨ s.rawF PLN_STATUS_READY 0 0 0 = 0 → good → ∃ t, exec (e.2 w upset) s = .next t ∧
         t.pln = { s.pln with cmd := some kept }) ∧
       (¬ good → ∃ t, exec (e.2 w upset) s = .next t ∧ t.rawF PLN_STATUS_CMD_FAIL 0 0 0 = 1 ∧ t.pln = s.pln))) ∧
   (∀ e ∈ plnCmds, ∀ (w : RegW) (upset : Nat) (s : State), s.serves → s.pln.cmd ≠ none → w.bits PLN_CMD_OP = e.1 →
     ∃ t, exec (e.2 w upset) s = .next t ∧ t.rawF PLN_ERR_CMD_REFUSED 0 0 0 = 1 ∧
       s.onlyRegs t [PLN_ERR_CMD_REFUSED.key 0 0 0]) ∧
   (∀ (x : PlnCmd) (corr : Bool) (s : State), s.cold = false → s.pln.row = none → s.pln.cmd = some x → x.runs = true →
     ∃ t, exec (.plinthRowWriteDone true corr) s = .next t ∧ t.pln.cmd = none ∧
       ∀ r, t.plnRow r = if r = platRow x.row then s.bufRow else s.plnRow r))

/-- A result arrives: destination, next word, trap or posted status (R88, R93, R240, R246, R251, R277, R280, R281, R283,
R291). The completed request of a Mason whose turn it is (over the direct lane always; one whose crossbar turn it is not
waits, nothing changing, with log 150's reading of the turns) leaves the core and the Mason's outstanding list. A load's
good result goes to its scalar register; a line's to its line register with its fill address, or zero, with the poison
mark where it was POISON. A waiting instruction that completed well goes on to the next word; one that did not traps MEM
with the status as sub-cause, or WALK, for WLD, with UNCORR (1), NONMEM (2) or BUS (3), its address the trap value. A
posted one puts its status code into rt, and the first bad one into the fence record; a result slot met by an
uncorrectable error delivers POISON so, with MOR_ERR. A good A/D update leaves the PC where it is, the instruction to be
presented again (the model's choice, log 95); a bad one traps WALK. A completed part of a run leaves the rest of it
outstanding; the last ends the run, whose status goes into rt and, where bad and the first, into the fence record, or,
where the Mason waits for the run, takes it to the next word or traps MEM. A result that no outstanding request of its
Mason awaits changes no Mason. A number that no request has changes nothing. -/
def Obligations.MasonResults : Prop :=
  (∀ (rid m : Nat) (r : Req) (st : Status) (o : MasOut) (s : State), s.cold = false → s.req rid = some r →
    r.src = .mason m → r.status = some st →
    s.resultTurn m r = true →
    (s.mason m).outs.find? (fun (o : MasOut) => o.rids.contains rid) = some o → o.kind ≠ .run → o.kind ≠ .adUpdate →
    (o.waiting = false → o.dst = .none → ∃ u : State, exec (.masonResultArrival rid 2) s = .next u.settle ∧
      u.req rid = none ∧ (u.rawF MOR_ERR_UNCORR 0 0 0).testBit 2 = true ∧
      (o.rt ≠ 0 → (u.mason m).reg o.rt = BitVec.ofNat 64 r.poisonStatus.code) ∧
      (u.mason m).fence = some ((s.mason m).fence.getD (r.poisonStatus, o.gaddr))) ∧
    ∃ u : State, exec (.masonResultArrival rid) s = .next u.settle ∧ u.req rid = none ∧
      (u.mason m).outs = (s.mason m).outs.filter (fun x => decide (x.id ≠ o.id)) ∧
      (∀ k, k ≠ m → u.mason k = s.mason k) ∧
      (∀ l, o.dst = .line l → (u.mason m).line l =
        if st.good then ⟨r.rdata, false, o.addr⟩ else ⟨0, decide (st = .poison), o.addr⟩) ∧
      (∀ d, o.dst = .scalar d → d ≠ 0 → st.good = true → o.waiting = true ∨ o.rt ≠ d →
        (u.mason m).reg d = o.value r.rdata) ∧
      (o.waiting = true → st.good = true → (u.mason m).pc = (s.mason m).pc + 1) ∧
      (o.waiting = true → st.good = false → o.kind ≠ .walkLoad → (s.mason m).handler = false →
        (u.mason m).pc = 80 ∧ (u.mason m).handler = true ∧
        Tbl.get (u.mason m).csr 0 1 = BitVec.ofNat 64 (10 + 256 * st.code)) ∧
      (o.waiting = true → st.good = false → o.kind ≠ .walkLoad → (s.mason m).handler = true →
        (s.mason m).nested = false → (u.mason m).pc = 80 ∧ (u.mason m).nested = true ∧
        Tbl.get (u.mason m).csr 0 4 = BitVec.ofNat 64 (10 + 256 * st.code)) ∧
      (o.waiting = true → st.good = false → o.kind = .walkLoad → (s.mason m).handler = true →
        (s.mason m).nested = false → (u.mason m).pc = 64 ∧ (u.mason m).nested = true ∧
        Tbl.get (u.mason m).csr 0 4 =
          BitVec.ofNat 64 (8 + 256 * (if st = .poisonWalk then 1 else if st = .nonmem then 2 else 3)) ∧
        Tbl.get (u.mason m).csr 0 5 = BitVec.ofNat 64 o.addr) ∧
      (o.waiting = false → (u.mason m).pc = (s.mason m).pc ∧
        (o.rt ≠ 0 → (u.mason m).reg o.rt = BitVec.ofNat 64 st.code) ∧
        (st.good = true → (u.mason m).fence = (s.mason m).fence) ∧
        (st.good = false → (u.mason m).fence = some ((s.mason m).fence.getD (st, o.gaddr))))) ∧
  (∀ (rid m : Nat) (r : Req) (st : Status) (o : MasOut) (s : State), s.cold = false → s.req rid = some r →
    r.src = .mason m → r.status = some st → s.resultTurn m r = true →
    (s.mason m).outs.find? (fun (o : MasOut) => o.rids.contains rid) = some o →
    (o.kind = .adUpdate → ∃ u : State, exec (.masonResultArrival rid) s = .next u.settle ∧ u.req rid = none ∧
      (u.mason m).outs = (s.mason m).outs.filter (fun x => decide (x.id ≠ o.id)) ∧
      (st.good = true → (u.mason m).pc = (s.mason m).pc ∧ (u.mason m).stalled = true ∧
        (u.mason m).regs = (s.mason m).regs) ∧
      (st.good = false → (s.mason m).handler = false → (u.mason m).pc = 64 ∧ (u.mason m).handler = true ∧
        Tbl.get (u.mason m).csr 0 1 =
          BitVec.ofNat 64 (8 + 256 * (if st = .poisonWalk then 1 else if st = .nonmem then 2 else 3)))) ∧
    (o.kind = .run → ∃ u : State, exec (.masonResultArrival rid) s = .next u.settle ∧
      (o.rids ≠ [rid] → (∃ x ∈ (u.mason m).outs, x.id = o.id ∧ x.rids = o.rids.erase rid ∧
          x.got = o.got ++ [st]) ∧ (u.mason m).regs = (s.mason m).regs ∧ (u.mason m).fence = (s.mason m).fence) ∧
      (o.rids = [rid] → o.dst = .none → o.waiting = false →
        let whole := runStatus (o.got ++ [st])
        (u.mason m).outs = (s.mason m).outs.filter (fun x => decide (x.id ≠ o.id)) ∧
        (u.mason m).pc = (s.mason m).pc ∧ (o.rt ≠ 0 → (u.mason m).reg o.rt = BitVec.ofNat 64 whole.code) ∧
        (u.mason m).fence = if whole.good then (s.mason m).fence
          else some ((s.mason m).fence.getD (whole, o.gaddr))) ∧
      (o.rids = [rid] → o.dst = .none → o.waiting = true →
        let whole := runStatus (o.got ++ [st])
        (whole.good = true → (u.mason m).pc = (s.mason m).pc + 1) ∧
        (whole.good = false → (s.mason m).handler = false → (u.mason m).pc = 80 ∧ (u.mason m).handler = true ∧
          Tbl.get (u.mason m).csr 0 1 = BitVec.ofNat 64 (10 + 256 * whole.code))))) ∧
  (∀ (rid m : Nat) (r : Req) (st : Status) (s : State), s.cold = false → s.req rid = some r → r.src = .mason m →
    r.status = some st → s.resultTurn m r = true →
    (s.mason m).outs.find? (fun (o : MasOut) => o.rids.contains rid) = none → r.run = none →
    ∃ u : State, exec (.masonResultArrival rid) s = .next u.settle ∧ u.req rid = none ∧ u.masons = s.masons) ∧
  (∀ (rid m : Nat) (r : Req) (s : State), s.req rid = some r → r.src = .mason m → s.resultTurn m r = false →
    exec (.masonResultArrival rid) s = .next s) ∧
  (∀ (rid : Nat) (s : State), s.cold = false → s.req rid = none → exec (.masonResultArrival rid) s = .next s)

/-- RUN, PROFILE, reset and the store windows of a Mason (R238, R258, R261, R263, R264, R265). RUN written under the
expert bit is what MAS_CTRL.RUN reads and starts a HALTED Mason in handler mode at PC 0, or halts one that waits for
nothing; without the bit nothing changes. PROFILE 10 starts every HALTED Mason of the build, once a training image is in
force. MAS_CMD.RESET clears all but the store and run control, the scratch taking the runtime's data, and no pop of the
Mason waits at a hod any more, until RESET_COMPLETE leaves the Mason HALTED, or starts it where its run control passed
to run meanwhile (that the passage is remembered is the model's choice, log 103). A host write of a store window writes
exactly its halves, of a HALTED Mason, the instruction store under the expert bit with the program seal intact; else
STORE_REFUSED is set. -/
def Obligations.MasonControl : Prop :=
  (∀ (m : Nat) (run : Bool) (s : State), s.serves → s.hasMason m = true →
    (s.expert 9 = false → exec (.masRunWrite m run) s = .next s) ∧
    (s.expert 9 = true → ∃ t, exec (.masRunWrite m run) s = .next t ∧
      t.fld MAS_CTRL_RUN m 0 0 = (if run then 1 else 0) ∧ (∀ k, k ≠ m → t.mason k = s.mason k) ∧
      (run = true → s.warm = 0 → (Tbl.find s.imgs 0).isSome = true → (s.mason m).asked = false → (s.mason m).st = 0 →
        (t.mason m).st = 1 ∧ (t.mason m).pc = 0 ∧ (t.mason m).handler = true) ∧
      (run = false → (s.mason m).asked = true → (s.mason m).st = 1 → (∀ o ∈ (s.mason m).outs, o.waiting = false) →
        (s.mason m).stalled = false → (t.mason m).st = 0))) ∧
  (∀ (p : Nat) (s : State), s.serves → p < 4 →
    ∃ t, exec (.masGlobalProfileWrite p) s = .next t ∧ t.rawF MAS_GLOBAL_PROFILE 0 0 0 = p ∧
      (p = 2 → s.rawF MAS_GLOBAL_PROFILE 0 0 0 ≠ 2 → s.warm = 0 → s.expert 9 = false →
        (Tbl.find s.imgs 0).isSome = true →
        ∀ m, s.hasMason m = true → (s.mason m).asked = false → (s.mason m).st = 0 →
          (t.mason m).st = 1 ∧ (t.mason m).pc = 0 ∧ (t.mason m).handler = true)) ∧
  (∀ (m : Nat) (s : State), s.hasMason m = true →
    (s.serves → ∃ t, exec (.masonReset m) s = .next t ∧ (∀ k, k ≠ m → t.mason k = s.mason k) ∧
      (∀ h, m ∉ (t.hod h).waits) ∧
      t.mason m = { Mason.init with
        st := 3, istore := (s.mason m).istore, asked := (s.mason m).asked,
        scratch := match Tbl.find s.imgs 1 with | some i => cellsOf i.data | none => (s.mason m).scratch }) ∧
    (s.cold = false → (s.mason m).st = 3 → ∃ t, exec (.masonResetComplete m) s = .next t ∧ s.masonFrame t m ∧
      (s.masonWanted m false = (s.mason m).asked → t.mason m = { s.mason m with st := 0 }) ∧
      (s.masonWanted m false = true → (s.mason m).asked = false →
        (t.mason m).st = 1 ∧ (t.mason m).pc = 0 ∧ (t.mason m).handler = true)) ∧
    ((s.mason m).st ≠ 3 → exec (.masonResetComplete m) s = .next s)) ∧
  (∀ (m off : Nat) (w : RegW) (s : State), s.serves → s.hasMason m = true →
    (off < 0x4000 → (s.mason m).st = 0 → s.straps.programSeal = false → s.expert 9 = true →
      ∃ t, exec (.masonStoreWrite m off w) s = .next t ∧ s.masonFrame t m ∧
        (t.mason m).scratch = (s.mason m).scratch ∧ (t.mason m).pc = (s.mason m).pc ∧
        ∀ i, Tbl.get (t.mason m).istore 0 i =
          if i = off / 8 * 2 ∧ w.lo = true then w.val.extractLsb' 0 32
          else if i = off / 8 * 2 + 1 ∧ w.hi = true then w.val.extractLsb' 32 32
          else Tbl.get (s.mason m).istore 0 i) ∧
    (0x4000 ≤ off → off < 0xC000 → (s.mason m).st = 0 →
      ∃ t, exec (.masonStoreWrite m off w) s = .next t ∧ s.masonFrame t m ∧
        (t.mason m).istore = (s.mason m).istore ∧ (t.mason m).pc = (s.mason m).pc ∧
        let a := (off - 0x4000) / 8 * 8
        ∀ k, (t.mason m).scratchByte k =
          if a ≤ k ∧ k < a + 8 ∧ (if k < a + 4 then w.lo else w.hi) = true then w.val.extractLsb' (8 * (k - a)) 8
          else (s.mason m).scratchByte k) ∧
    (off < 0xC000 → (s.mason m).st ≠ 0 ∨ off < 0x4000 ∧ (s.straps.programSeal = true ∨ s.expert 9 = false) →
      ∃ t, exec (.masonStoreWrite m off w) s = .next t ∧ (t.rawF MAS_ERR_BITS m 0 0).testBit 6 = true ∧
        s.onlyRegs t [MAS_ERR_BITS.key m 0 0]))

/-- Image commands: started, refused, and what a whole image comes to (R257, R258, R260, R398). CHECK, LOAD and
LOAD_STORE with nothing in progress and Bus Master set begin to read the image, BUSY set; a load of a runtime while a
Mason runs ends with result 6 at once, one without Bus Master with result 7. A whole image that fails its checks ends
with their result, one whose pair does not match with 5, each leaving the images in force; a checked one ends with 1,
changing none; a loaded one is in force with result 1, or, during a Plinth store, is kept until that ends; one to be
stored is kept until its own store ends. -/
def Obligations.MasonImages : Prop :=
  (∀ e ∈ ([(.imgCheck, 0), (.imgLoad, 1), (.imgLoadStore, 2)] : List ((Nat → Nat → Instr) × Nat)),
    ∀ (kind len : Nat) (s : State), s.serves → kind < 2 → s.quo.img = none → s.quo.tags = [] →
    let refused := kind = 1 ∧ e.2 ≠ 0 ∧ s.masonsBusy = true
    (refused → ∃ t, exec (e.1 kind len) s = .next t ∧ t.rawF MAS_IMG_STATUS_RESULT kind 0 0 = 6 ∧
      t.rawF MAS_IMG_STATUS_BUSY kind 0 0 = 0 ∧ t.imgs = s.imgs ∧ t.quo.img = none) ∧
    (¬ refused → s.busMaster = false → ∃ t, exec (e.1 kind len) s = .next t ∧
      t.rawF MAS_IMG_STATUS_RESULT kind 0 0 = 7 ∧ t.imgs = s.imgs ∧ t.quo.img = none) ∧
    (¬ refused → s.busMaster = true → ∃ t i, exec (e.1 kind len) s = .next t ∧ t.quo.img = some i ∧ i.op = e.2 ∧
      i.kind = kind ∧ i.len = len ∧ i.image = none ∧ t.rawF MAS_IMG_STATUS_BUSY kind 0 0 = 1 ∧ t.imgs = s.imgs)) ∧
  (∀ (i : ImgOp) (bytes : List Nat) (s : State), s.cold = false → s.quo.img = some i → bytes.length = i.len →
    i.left = 0 → s.quo.tags = [] → i.image = none → i.kind < 2 →
    let out := exec (.imageCheckOrLoadComplete bytes) s
    let r := s.imgCheck i.kind true bytes
    let mine := some (imgOf bytes 3)
    let paired := if i.kind = 0 then pairOk mine (Tbl.find s.imgs 1) else pairOk (Tbl.find s.imgs 0) mine
    (r ≠ 1 → ∃ t, out = .next t ∧ t.rawF MAS_IMG_STATUS_RESULT i.kind 0 0 = r ∧ t.imgs = s.imgs ∧ t.quo.img = none) ∧
    (r = 1 → paired = false → ∃ t, out = .next t ∧ t.rawF MAS_IMG_STATUS_RESULT i.kind 0 0 = 5 ∧ t.imgs = s.imgs ∧
      t.quo.img = none) ∧
    (r = 1 → paired = true → i.op = 0 → ∃ t, out = .next t ∧ t.rawF MAS_IMG_STATUS_RESULT i.kind 0 0 = 1 ∧
      t.imgs = s.imgs ∧ t.quo.img = none) ∧
    (r = 1 → paired = true → i.op = 1 → i.kind = 0 ∨ s.masonsBusy = false → s.pln.row = none → ∃ t, out = .next t ∧
      t.rawF MAS_IMG_STATUS_RESULT i.kind 0 0 = 1 ∧ t.quo.img = none ∧
      (∀ k, Tbl.find t.imgs k = if k = i.kind then mine else Tbl.find s.imgs k)) ∧
    (r = 1 → paired = true → i.op = 1 → i.kind = 0 ∨ s.masonsBusy = false → s.pln.row ≠ none → ∃ t, out = .next t ∧
      t.imgs = s.imgs ∧ t.quo.img = some { i with image := some bytes }) ∧
    (r = 1 → paired = true → i.op = 2 → i.kind = 0 ∨ s.masonsBusy = false → ∃ t, out = .next t ∧
      t.imgs = s.imgs ∧ t.quo.img = some { i with image := some bytes }))

/-- DEBUG_HALT, STEP, RESUME and ACCESS, and a set seal's silence (R262, R294, R413). With the debug seal intact: HALT
takes a Mason that waits for nothing into DEBUG from its state, and marks one that waits; STEP owes one instruction, but
not to a Mason halted from FAULT; RESUME returns the Mason to where it was halted; ACCESS reads registers, the system
registers, the PC, lines, template entries, both stores and the windows MAS_CTRL, MAS_CMD, MAS_STATUS, MAS_TASK, MAS_ERR
and TPL_CFG of a Mason in DEBUG, and writes its registers, lines and entries, and what a host write of a window would.
(That a Mason halted from FAULT owes no step, and the numbers of the registers, are the model's choices, log 104.) With
the seal set, none of the four changes anything. -/
def Obligations.DebugPort : Prop :=
  (∀ (m : Nat) (a : DbgAccess) (s : State), s.straps.debugSeal = true →
    exec (.debugHalt m) s = .next s ∧ exec (.debugStep m) s = .next s ∧ exec (.debugResume m) s = .next s ∧
    exec (.debugAccess m a) s = .next s) ∧
  (∀ (m : Nat) (s : State), s.cold = false → s.straps.debugSeal = false → s.hasMason m = true →
    ∃ t, exec (.debugHalt m) s = .next t ∧ s.masonFrame t m ∧
      ((s.mason m).st = 0 ∨ (s.mason m).st = 2 →
        t.mason m = { s.mason m with st := 4, dbgFrom := (s.mason m).st }) ∧
      ((s.mason m).st = 1 → (∀ o ∈ (s.mason m).outs, o.waiting = false) → (s.mason m).stalled = false →
        (t.mason m).st = 4 ∧ (t.mason m).dbgFrom = 1 ∧ (t.mason m).regs = (s.mason m).regs) ∧
      ((s.mason m).st = 1 → (∃ o ∈ (s.mason m).outs, o.waiting = true) ∨ (s.mason m).stalled = true →
        (t.mason m).st = 1 ∧ (t.mason m).dbgDue = true)) ∧
  (∀ (m : Nat) (s : State), s.inDebug m →
    ((s.mason m).dbgFrom ≠ 2 → ∃ t, exec (.debugStep m) s = .next t ∧ s.masonFrame t m ∧
      t.mason m = { s.mason m with dbgStep := true }) ∧
    ((s.mason m).dbgFrom = 2 → exec (.debugStep m) s = .next s) ∧
    (∃ t, exec (.debugResume m) s = .next t ∧ s.masonFrame t m ∧
      t.mason m = { s.mason m with st := (s.mason m).dbgFrom, dbgFrom := 0, dbgStep := false }) ∧
    (∀ r, r < 32 → exec (.debugAccess m (.readReg r)) s =
      .next { s with dbgOut := (((s.mason m).reg r).setWidth 512, false) }) ∧
    (∀ l, exec (.debugAccess m (.readLine l)) s =
      .next { s with dbgOut := (((s.mason m).line l).data, ((s.mason m).line l).poison) }) ∧
    (∀ k, k < 13 → exec (.debugAccess m (.readReg (32 + k))) s =
      .next { s with dbgOut := ((s.csrGet m k).setWidth 512, false) }) ∧
    exec (.debugAccess m (.readReg 45)) s =
      .next { s with dbgOut := ((BitVec.ofNat 64 (s.mason m).pc).setWidth 512, false) } ∧
    (∀ k x, [MAS_CTRL, MAS_CMD, MAS_STATUS, MAS_TASK, MAS_ERR, TPL_CFG][k]? = some x →
      exec (.debugAccess m (.readReg (47 + k))) s =
        .next { s with dbgOut := ((BitVec.ofNat 64 (s.peek (x.off m 0 0))).setWidth 512, false) } ∧
      ∀ v, exec (.debugAccess m (.writeReg (47 + k) v)) s = .next (s.writeOffset (x.off m 0 0) ⟨v, true, true⟩)) ∧
    (∀ e, let x := Tbl.get (s.mason m).tpl TplEnt.none e
      exec (.debugAccess m (.readTpl e)) s = .next { s with dbgOut :=
        (BitVec.ofNat 512 (x.w0.toNat + x.w1.toNat * 2 ^ 64 + x.w2.toNat * 2 ^ 128), false) }) ∧
    (∀ a, ∃ v : BitVec 512, exec (.debugAccess m (.readScratch a)) s = .next { s with dbgOut := (v, false) } ∧
      v / 2 ^ 64 = 0 ∧ ∀ i, i < 8 → v.extractLsb' (8 * i) 8 = (s.mason m).scratchByte (a / 8 * 8 + i)) ∧
    (∀ i, exec (.debugAccess m (.readStore i)) s =
      .next { s with dbgOut := ((Tbl.get (s.mason m).istore 0 i).setWidth 512, false) }) ∧
    (∀ r v, r < 32 → ∃ t, exec (.debugAccess m (.writeReg r v)) s = .next t ∧ s.masonFrame t m ∧
      (t.mason m).pc = (s.mason m).pc ∧ (t.mason m).lregs = (s.mason m).lregs ∧
      ∀ k, (t.mason m).reg k = if k = r ∧ k ≠ 0 then v else (s.mason m).reg k) ∧
    (∀ l v p, ∃ t, exec (.debugAccess m (.writeLine l v p)) s = .next t ∧ s.masonFrame t m ∧
      (t.mason m).regs = (s.mason m).regs ∧
      ∀ k, (t.mason m).line k = if k = l then ⟨v, p, ((s.mason m).line l).fill⟩ else (s.mason m).line k) ∧
    (∀ e a b c, ∃ t, exec (.debugAccess m (.writeTpl e a b c)) s = .next t ∧ s.masonFrame t m ∧
      ∀ k, Tbl.find (t.mason m).tpl k = if k = e then some ⟨a, b, c⟩ else Tbl.find (s.mason m).tpl k))

/-- The hods: host pushes and pops, spill completions, and configuration (R295, R296, R298, R299, R300, R301, R303,
R305, R306). A push that R295 gives the host: into a full hod it sets OVERRUN and changes no item; into a NATIVE one
with room, one more item is held; into a ring, the item stands at the write pointer, which moves on; with a pointer
mismatch the hod is empty and PTR_FAULT set. A pop of an empty hod returns the idle item, of a ring the one at the read
pointer, of a NATIVE hod its oldest, one fewer being held, and waits for a refill or for its turn. A pop that is granted
moves the one turn of all hods past the host. A pop that waits never gets the idle item, and turns are taken among the
pops that wait at the hod (the model's choices, log 140). A direction R295 does not give the host is answered UR (the
model's choice, log 107); a hod the build lacks takes nothing and reads zero. A good spill write leaves as many items
held and its request is gone. The oldest line's read puts its two items, low half first, behind those of the head, in
place of which a lost line or a bad status puts two LOST items and sets SPILL_ERR. (Premises: request numbers are fresh
and the hod is in NATIVE mode, as where it spills.) HOD_CFG or HOD_CARVE written under the expert bit to an idle hod
comes in force at once, in their widths, RING for hods 384 to 447 only; to a hod that is not idle it sets CFG_REFUSED
alone. -/
def Obligations.Hods : Prop :=
  (∀ (h : Nat) (s : State), s.serves → s.build ≤ 24 →
     (∀ item upset, s.hasHod h = false → exec (.hodItemPush h item upset) s = .next s) ∧
     (∀ item upset, s.hasHod h = true → hostPush h = false → ∃ t, exec (.hodItemPush h item upset) s = .next t ∧
       t.hods = s.hods ∧ t.rawF QUO_ERR_UR_SENT 0 0 0 = 1) ∧
     (∀ item, s.hasHod h = true → hostPush h = true →
       (∃ u : State, exec (.hodItemPush h item true) s = .next u.settle ∧ u.rawF HOD_STATUS_PTR_FAULT h 0 0 = 1 ∧
         (u.hod h).count = 0) ∧
       ((s.hod h).full = true → ∃ u : State, exec (.hodItemPush h item false) s = .next u.settle ∧
         u.rawF HOD_STATUS_OVERRUN h 0 0 = 1 ∧ u.hods = s.hods) ∧
       ((s.hod h).full = false → (s.hod h).ring = false → ∃ u : State, exec (.hodItemPush h item false) s = .next u.settle ∧
         (u.hod h).count = (s.hod h).count + 1 ∧ ∀ k, k ≠ h → u.hod k = s.hod k) ∧
       ((s.hod h).full = false → (s.hod h).ring = true → ∃ u : State, exec (.hodItemPush h item false) s = .next u.settle ∧
         (u.hod h).wp = ((s.hod h).wp + 1) % 1024 ∧ (u.hod h).rp = (s.hod h).rp ∧
         (∀ i, Tbl.get (u.hod h).slots 0 i =
           if i = (s.hod h).wp % 512 then item else Tbl.get (s.hod h).slots 0 i) ∧
         ∀ k, k ≠ h → u.hod k = s.hod k)) ∧
     (s.hasHod h = false → exec (.hodItemPop h false) s = .next { s with hodOut := 0 }) ∧
     (s.hasHod h = true → hostPop h = false → ∃ t, exec (.hodItemPop h false) s = .next t ∧ t.hods = s.hods ∧
       t.rawF QUO_ERR_UR_SENT 0 0 0 = 1) ∧
     (s.hasHod h = true → hostPop h = true →
       ((s.hod h).count = 0 → 193 ∉ (s.hod h).waits → ∃ u : State, exec (.hodItemPop h false) s = .next u.settle ∧
         u.hodOut = 0 ∧ u.hods = s.hods ∧ u.popNext = 194) ∧
       ((s.hod h).count ≠ 0 → (s.hod h).ring = true → ∃ u : State, exec (.hodItemPop h false) s = .next u.settle ∧
         u.hodOut = Tbl.get (s.hod h).slots 0 ((s.hod h).rp % 512) ∧ u.popNext = 194) ∧
       (∀ i rest, (s.hod h).ring = false → (s.hod h).head = i :: rest → s.popTurn h 193 = true →
         ∃ u : State, exec (.hodItemPop h false) s = .next u.settle ∧ u.hodOut = i ∧ u.popNext = 194 ∧
           (u.hod h).count + 1 = (s.hod h).count ∧ ∀ k, k ≠ h → u.hod k = s.hod k) ∧
       ((s.hod h).count = 0 → 193 ∈ (s.hod h).waits → exec (.hodItemPop h false) s = .next s) ∧
       ((s.hod h).count ≠ 0 → (s.hod h).ring = false → (s.hod h).head = [] ∨ s.popTurn h 193 = false →
         exec (.hodItemPop h false) s = .next (s.hodWait h 193)))) ∧
  ((∀ (rid h : Nat) (r : Req) (st : Status) (l : HodLine) (s : State), s.cold = false → s.req rid = some r →
     r.src = .hod h → r.status = some st → rid < s.nextRid → (s.hod h).ring = false →
     (s.hod h).mid.find? (fun k => decide (k.rid = rid) && decide (k.st ≠ 1)) = some l →
     (l.st = 0 → st.good = true → ∃ u : State, exec (.spillComplete rid) s = .next u.settle ∧ u.req rid = none ∧
       (u.hod h).count = (s.hod h).count) ∧
     (l.st = 2 → (s.hod h).isFirst l = true →
       ∃ (u : State) (more : List (BitVec 256)), exec (.spillComplete rid) s = .next u.settle ∧ u.req rid = none ∧
         (u.hod h).head = (s.hod h).head ++
           (if st.good = true ∧ l.lost = false then [r.rdata.extractLsb' 0 256, r.rdata.extractLsb' 256 256]
            else [0xFE, 0xFE]) ++ more ∧
         (st.good = false ∨ l.lost = true → s.build ≤ 24 → h < 448 → u.rawF HOD_STATUS_SPILL_ERR h 0 0 = 1)) ∧
     (l.st = 2 → (s.hod h).isFirst l = false → exec (.spillComplete rid) s = .next s)) ∧
   (∀ (rid : Nat) (s : State), s.req rid = none → exec (.spillComplete rid) s = .next s) ∧
   (∀ (h : Nat) (carve : Bool) (w : RegW) (s : State), s.serves → s.hasHod h = true →
     (s.expert 11 = false → exec (.hodCfgWrite h carve w) s = .next s) ∧
     (s.expert 11 = true → s.hodIdle h = false → ∃ t, exec (.hodCfgWrite h carve w) s = .next t ∧
       t.rawF HOD_STATUS_CFG_REFUSED h 0 0 = 1 ∧ s.onlyRegs t [HOD_STATUS_CFG_REFUSED.key h 0 0]) ∧
     (s.expert 11 = true → s.hodIdle h = true →
       (∃ t, exec (.hodCfgWrite h false w) s = .next t ∧ t.regs = s.regs ∧ t.reqs = s.reqs ∧
         let mode := w.merge HOD_CFG_MODE (s.fld HOD_CFG_MODE h 0 0) % 2
         (t.hod h).ring = (decide (mode = 1) && decide (384 ≤ h)) ∧ t.fld HOD_CFG_MODE h 0 0 = mode ∧
         (t.hod h).pages = min 256 (w.merge HOD_CFG_CARVE_PAGES (s.fld HOD_CFG_CARVE_PAGES h 0 0) % 2 ^ 9) ∧
         ∀ k, k ≠ h → t.hod k = s.hod k) ∧
       (∃ t, exec (.hodCfgWrite h true w) s = .next t ∧ t.regs = s.regs ∧ t.reqs = s.reqs ∧
         (t.hod h).base = w.merge HOD_CARVE_BASE (s.fld HOD_CARVE_BASE h 0 0) % 2 ^ 40 * 4096 ∧
         ∀ k, k ≠ h → t.hod k = s.hod k))))

/-- The host's locks: granted, busy, torn, refused; unlock, CLEAR_TORN and the watchdog (R288, R307, R308, R309, R310,
R311, R312, R315). KEY_HOST_REQ of a bad count, another node's line, or a range the host already holds is REFUSED; one
on a range another holds is BUSY with the backoff of its losses, which rise; one on a range that nothing meets takes the
lowest free slot with its range, owner and instant; one that meets only TORN slots frees them, takes a slot, and answers
TORN. All that (but for the bad count, which no other request bears on) where every other request of its MCLK cycle
ranks after it; what slots stand besides is said for a request alone in its cycle. Behind one that ranks before it, is
granted, and shares a line with it, it is BUSY; the other takes the lowest free slot at that moment and collects its
answer at its own command, as the host's does one that it was given so (the model's choice, log 151). UNLOCK frees a
slot that the host holds, CLEAR_TORN a TORN one, and neither any other. A held slot older than LOCK_US becomes TORN with
WDOG_LOCK, its range kept. (The premises on the table's keys hold of every reachable state.) -/
def Obligations.LockTable : Prop :=
  (∀ (line : Nat) (rivals : List KeyAsk) (s : State), s.serves →
    let n := s.rawF KEY_HOST_CNT_COUNT 0 0 0
    let leads := ∀ k ∈ rivals, ∀ r, lockRival k = some r → s.keyRank 0 204 < s.keyRank 0 r.idx
    let q := hostAsk line n
    let held (e : Nat × KeySlot) : Bool := !e.2.torn && q.meets e.2
    let own : Bool := s.key.slots.any (fun e => held e && decide (e.2.kind = 2 ∧ e.2.owner = 0))
    let mine : KeySlot := ⟨false, line, n, 2, 0, s.uptime, false⟩
    (n = 0 ∨ 1024 < n → ∃ t, exec (.keyHostLock line rivals) s = .next t ∧ t.key.hostRes = some 3 ∧
      t.key.slots = s.key.slots) ∧
    (∀ v, 1 ≤ n → n ≤ 1024 → s.keyGiven q = some v → ∃ t, exec (.keyHostLock line rivals) s = .next t ∧
      t.key.hostRes = some v ∧ (rivals = [] → t.key.slots = s.key.slots)) ∧
    (leads → 1 ≤ n → n ≤ 1024 → s.keyGiven q = none →
      (line * 64 / 2 ^ 46 ≠ s.straps.node ∨ own = true → ∃ t, exec (.keyHostLock line rivals) s = .next t ∧
        t.key.hostRes = some 3 ∧ (rivals = [] → t.key.slots = s.key.slots)) ∧
      (line * 64 / 2 ^ 46 = s.straps.node → own = false → s.key.slots.any held = true →
        let k := Tbl.get s.key.losses 0 204
        ∃ t, exec (.keyHostLock line rivals) s = .next t ∧ t.key.hostRes = some (1 + 2 ^ min k 12 * 2 ^ 32) ∧
          Tbl.get t.key.losses 0 204 = min (k + 1) 12 ∧ (rivals = [] → t.key.slots = s.key.slots)) ∧
      (∀ i, line * 64 / 2 ^ 46 = s.straps.node → (∀ e ∈ s.key.slots, q.meets e.2 = false) → s.keyFree = some i →
        ∃ t, exec (.keyHostLock line rivals) s = .next t ∧ t.key.hostRes = some (i * 2 ^ 16) ∧
          Tbl.get t.key.losses 0 204 = 0 ∧ Tbl.find t.key.slots i = some mine ∧
          (rivals = [] → ∀ j, j ≠ i → Tbl.find t.key.slots j = Tbl.find s.key.slots j)) ∧
      (line * 64 / 2 ^ 46 = s.straps.node → s.key.slots.any held = false → (∃ e ∈ s.key.slots, q.meets e.2 = true) →
        Tbl.sorted s.key.slots = true → (∀ e ∈ s.key.slots, e.1 < 1024) →
        ∃ t i, exec (.keyHostLock line rivals) s = .next t ∧ t.key.hostRes = some (2 + i * 2 ^ 16) ∧ i < 1024 ∧
          Tbl.find t.key.slots i = some mine ∧
          (rivals = [] → ∀ j, j ≠ i →
            Tbl.find t.key.slots j = (Tbl.find s.key.slots j).filter (fun k => !q.meets k)))) ∧
    (∀ k r i, rivals = [k] → lockRival k = some r → s.keyRank 0 r.idx < s.keyRank 0 204 →
      r.base / 2 ^ 46 = s.straps.node → (∀ e ∈ s.key.slots, r.meets e.2 = false) → s.keyFree = some i →
      1 ≤ n → n ≤ 1024 → line * 64 / 2 ^ 46 = s.straps.node → own = false → s.keyGiven q = none → s.keyGiven r = none →
      rangesMeet line n (r.base / 64) r.count = true →
      let lost := Tbl.get s.key.losses 0 204
      ∃ t, exec (.keyHostLock line rivals) s = .next t ∧ t.key.hostRes = some (1 + 2 ^ min lost 12 * 2 ^ 32) ∧
        Tbl.get t.key.losses 0 204 = min (lost + 1) 12 ∧ t.keyGiven r = some (i * 2 ^ 16) ∧
        ∀ j, Tbl.find t.key.slots j =
          if j = i then some ⟨false, r.base / 64, r.count, r.kind, r.owner, s.uptime, false⟩
          else Tbl.find s.key.slots j)) ∧
  (∀ (slot : Nat) (k : KeySlot) (s : State), s.serves → Tbl.find s.key.slots slot = some k →
    (k.torn = false → k.kind = 2 → k.owner = 0 → ∃ t, exec (.keyHostUnlock slot) s = .next t ∧
      t.key.hostRes = some 0 ∧ ∀ j, Tbl.find t.key.slots j = if j = slot then none else Tbl.find s.key.slots j) ∧
    (k.torn = true ∨ k.kind ≠ 2 ∨ k.owner ≠ 0 → ∃ t, exec (.keyHostUnlock slot) s = .next t ∧
      t.key.hostRes = some 1 ∧ t.key.slots = s.key.slots) ∧
    (k.torn = true → ∃ t, exec (.clearTorn slot) s = .next t ∧ t.key.hostRes = s.key.hostRes ∧
      ∀ j, Tbl.find t.key.slots j = if j = slot then none else Tbl.find s.key.slots j) ∧
    (k.torn = false → exec (.clearTorn slot) s = .next s)) ∧
  (∀ (slot : Nat) (k : KeySlot) (s : State), s.cold = false → Tbl.find s.key.slots slot = some k →
    let due := k.since + 1000 * max 1 (s.fld KEY_WDOG_LOCK_US 0 0 0) ≤ s.uptime
    (k.torn = false → k.kind ≠ 3 → due → ∃ t, exec (.lockWatchdog slot) s = .next t ∧
      t.rawF KEY_ERR_WDOG_LOCK 0 0 0 = 1 ∧
      ∀ j, Tbl.find t.key.slots j =
        if j = slot then some { k with torn := true, taken := false } else Tbl.find s.key.slots j) ∧
    (k.torn = true ∨ k.kind = 3 ∨ ¬ due → exec (.lockWatchdog slot) s = .next s))

/-- The maintenance path of a channel: requested, released, watched, used, and taken by the debug port (R207, R308,
R310, R311, R314). MNT_REQ takes a free path for the Quoin where no request of its cycle ranks before it; where one
does, or the path is held, it loses, and the path stays as it is (that the other takes the path at its own command is
the model's choice, log 151). MNT_RELEASE and, after MNT_US, MNT_WATCHDOG, with LOST and WDOG_MNT, free the path that
the Quoin holds, and no other. MRR, MRW and MPC through KEY_MNT_CMD, while the Quoin holds the path, take a slot on each
subchannel (that one command goes to both is the model's choice, log 109); while it does not, nothing happens. The debug
port, its seal intact, takes a held slot or a path over, the Quoin's with LOST, Screed's with its step ended, but no
emergency hold of Pointing, no path it has, no TORN slot; and gives up what it took: the slot TORN, the path free, or
Pointing's again where that holds it across a self-refresh (R314); of anything else it gives up nothing. -/
def Obligations.MaintenancePath : Prop :=
  (∀ (c : Nat) (s : State), s.serves → s.hasChan c = true →
    (∀ rivals, (s.chan c).mntHolder = none → rivals.any (s.pathRival c 204) = false →
      ∃ t, exec (.mntReq c rivals) s = .next t ∧ (t.chan c).mntHolder = some 204 ∧
      (t.chan c).mntSince = s.uptime ∧ Tbl.get t.key.losses 0 204 = 0 ∧ ∀ k, k ≠ c → t.chan k = s.chan k) ∧
    (∀ rivals, (s.chan c).mntHolder ≠ none ∨ rivals.any (s.pathRival c 204) = true →
      ∃ t, exec (.mntReq c rivals) s = .next t ∧ t.chans = s.chans ∧
      Tbl.get t.key.losses 0 204 = min (Tbl.get s.key.losses 0 204 + 1) 12) ∧
    ((s.chan c).mntHolder = some 204 → ∃ t, exec (.mntRelease c) s = .next t ∧ (t.chan c).mntHolder = none ∧
      ∀ k, k ≠ c → t.chan k = s.chan k) ∧
    ((s.chan c).mntHolder ≠ some 204 → exec (.mntRelease c) s = .next s) ∧
    (∀ cyc rank addr data, (s.chan c).mntHolder ≠ some 204 →
      exec (.keyMntMrr c cyc rank addr data) s = .next s ∧ exec (.keyMntMrw c cyc rank addr data) s = .next s ∧
      exec (.keyMntMpc c cyc rank addr data) s = .next s) ∧
    (∀ cyc rank addr data, (s.chan c).mntHolder = some 204 →
      (let n := mntPair c cyc rank .mrr 0
       let u := (s.setF KEY_MNT_CTRL_MRR_DATA c 0 0 data).afterSlot c n.1
       s.mayPass c n.1 → u.mayPass c n.2 → exec (.keyMntMrr c cyc rank addr data) s = .next (u.afterSlot c n.2)) ∧
      (let n := mntPair c cyc rank .mrw 0
       let u := s.afterSlot c n.1
       s.mayPass c n.1 → u.mayPass c n.2 → exec (.keyMntMrw c cyc rank addr data) s = .next (u.afterSlot c n.2)) ∧
      (let n := mntPair c cyc rank .mpc addr
       let u := s.afterSlot c n.1
       s.mayPass c n.1 → u.mayPass c n.2 → exec (.keyMntMpc c cyc rank addr data) s = .next (u.afterSlot c n.2)))) ∧
  (∀ (c : Nat) (s : State), s.cold = false → s.hasChan c = true →
    let due := (s.chan c).mntSince + 1000 * max 1 (s.fld KEY_WDOG_MNT_US 0 0 0) ≤ s.uptime
    ((s.chan c).mntHolder = some 204 → due → ∃ t, exec (.mntWatchdog c) s = .next t ∧
      (t.chan c).mntHolder = none ∧ (∀ k, k ≠ c → t.chan k = s.chan k) ∧ t.rawF KEY_MNT_CTRL_LOST c 0 0 = 1 ∧ t.rawF KEY_ERR_WDOG_MNT 0 0 0 = 1) ∧
    ((s.chan c).mntHolder ≠ some 204 ∨ ¬ due → exec (.mntWatchdog c) s = .next s)) ∧
  (∀ (slot : Option Nat) (c : Nat) (s : State), s.straps.debugSeal = true →
    exec (.debugTakeover slot c) s = .next s ∧ exec (.debugRelease slot c) s = .next s) ∧
  (∀ (slot c : Nat) (s : State), s.cold = false → s.straps.debugSeal = false →
    (∀ k, Tbl.find s.key.slots slot = some k → k.torn = false → ∃ t, exec (.debugTakeover (some slot) c) s = .next t ∧
      ∀ j, Tbl.find t.key.slots j =
        if j = slot then some { k with kind := 3, owner := 0, taken := true } else Tbl.find s.key.slots j) ∧
    (∀ k, Tbl.find s.key.slots slot = some k → k.torn = true → exec (.debugTakeover (some slot) c) s = .next s) ∧
    (∀ k, Tbl.find s.key.slots slot = some k → k.taken = false → exec (.debugRelease (some slot) c) s = .next s) ∧
    (Tbl.find s.key.slots slot = none →
      exec (.debugTakeover (some slot) c) s = .next s ∧ exec (.debugRelease (some slot) c) s = .next s) ∧
    (∀ k, Tbl.find s.key.slots slot = some k → k.taken = true → ∃ t, exec (.debugRelease (some slot) c) s = .next t ∧
      ∀ j, Tbl.find t.key.slots j =
        if j = slot then some { k with torn := true, taken := false } else Tbl.find s.key.slots j) ∧
    (s.hasChan c = true → (s.chan c).mntHolder ≠ some 256 → (s.chan c).mntHolder ≠ some 257 →
      ∃ t, exec (.debugTakeover none c) s = .next t ∧ (t.chan c).mntHolder = some 257 ∧
        (∀ k, k ≠ c → t.chan k = s.chan k) ∧
        ((s.chan c).mntHolder = some 204 → t.rawF KEY_MNT_CTRL_LOST c 0 0 = 1) ∧
        ((s.chan c).mntHolder = some (229 + c) → (t.chan c).scr.preempted = true)) ∧
    ((s.chan c).mntHolder = some 256 ∨ (s.chan c).mntHolder = some 257 →
      exec (.debugTakeover none c) s = .next s) ∧
    (s.hasChan c = true → (s.chan c).mntHolder = some 257 → ∃ t, exec (.debugRelease none c) s = .next t ∧
      (∀ k, k ≠ c → t.chan k = s.chan k) ∧
      (t.chan c).mntHolder = if s.srHolds c = true then
        (if (s.chan c).pnt.srWhy = 3 ∨ (s.chan c).pnt.srWhy = 4 then some 256 else some (205 + c)) else none) ∧
    ((s.chan c).mntHolder ≠ some 257 → exec (.debugRelease none c) s = .next s))

/-- Inbound Bond requests: accepted in sequence, answered, discarded, or sent on (R318, R320, R329, R331, R332, R335,
R339). BOND_RD_LINE, BOND_RD_PART, BOND_WR_ZERO, BOND_WR_LINE, BOND_WR_PART, BOND_AT_ADD, BOND_AT_OR, BOND_AT_AND,
BOND_AT_XOR, BOND_AT_SWAP, BOND_AT_CAS, BOND_AT_MIN, BOND_AT_MAX, BOND_AT_UMIN, BOND_AT_UMAX and BOND_SETAD, each with a
message whose CRC is good, on an up link: for this node, and its lane not taking it, it waits in its receive buffer, its
credits kept and the instant of its last flit with it. Its lane taking it: with its pair's expected number, it becomes
one new request with the message's fields, to be answered to its sender, bad where an uncorrectable error met it in the
lane (the model's choice, log 139), accepted at this instant, and the number moves on; with the pair in INIT, or ahead
of its number, it is answered REMOTE_TIMEOUT without being performed; behind it, it is discarded with SEQ. (That the
number is judged as a request leaves its buffer is the model's choice, log 149.) For another node it is sent on one hop
further along the route, sealed with its own CRC, or waits for the next link's credits, keeping its own; or, without a
route or after seven hops, it is discarded with DROP; met by an uncorrectable error, discarded (the model's choice, log
139). Its receive credits are returned as its flits leave the buffer. -/
def Obligations.BondRequests : Prop :=
  ∀ e ∈ ([(.bondRdLine, .rdLine), (.bondRdPart, .rdPart), (.bondWrZero, .wrZero), (.bondWrLine, .wrLine),
      (.bondWrPart, .wrPart), (.bondAtAdd, .atAdd), (.bondAtOr, .atOr), (.bondAtAnd, .atAnd), (.bondAtXor, .atXor),
      (.bondAtSwap, .atSwap), (.bondAtCas, .atCas), (.bondAtMin, .atMin), (.bondAtMax, .atMax),
      (.bondAtUmin, .atUmin), (.bondAtUmax, .atUmax), (.bondSetad, .setad)] : List ((Nat → Msg → Instr) × Op)),
    ∀ (p : Nat) (m0 : Msg) (s : State),
    let m := { m0 with opc := e.2.code }
    let n := opcFlits m.opc
    let k := m.rxKey p
    s.receives p m n →
    (m.dst = s.straps.node → s.laneTakes p e.2 m = false →
      ∃ t, exec (e.1 p m0) s = .next t ∧ t.reqs = s.reqs ∧ t.bnd.pairExp = s.bnd.pairExp ∧
        t.bnd.rxCred = s.bnd.rxCred ∧ t.bnd.sent = s.bnd.sent ∧
        Tbl.get t.bnd.rxq [] p = Tbl.get s.bnd.rxq [] p ++ [⟨e.2, m, s.uptime⟩]) ∧
    (m.dst = s.straps.node → s.laneTakes p e.2 m = true →
    (∀ nonce, Tbl.find s.bnd.pairExp m.src = some (m.pseq, nonce) →
      ∃ (u : State) (r : Req), exec (e.1 p m0) s = .next u.settle ∧ u.reqs = s.reqs ++ [r] ∧ r.rid = s.nextRid ∧ r.src = .bond p ∧
        r.op = e.2 ∧ r.addr = m.addr ∧ r.size = m.size ∧ r.qid = m.qid ∧ r.priv = m.priv ∧ r.ns = m.ns ∧
        r.sid = m.mid ∧ r.mask = m.value ∧ r.wpoison = m.poison ∧
        r.entryBad = decide (m.upset = 2) ∧ r.wparity = (e.2.dataBearing && decide (m.upset = 4)) ∧ r.status = none ∧ r.stage = .atPort ∧
        r.data = (if e.2.dataBearing then some m.data else none) ∧
        r.peerTag = m.tag ∧ r.peerNode = m.src ∧ r.peerHop = m.lh ∧ r.tAccept = s.uptime ∧
        Tbl.find u.bnd.pairExp m.src = some ((m.pseq + 1) % 2 ^ 15, nonce) ∧
        Tbl.get u.bnd.rxCred 0 k = Tbl.get s.bnd.rxCred 0 k + n) ∧
    (Tbl.find s.bnd.pairExp m.src = none ∨
        (∃ x nonce, Tbl.find s.bnd.pairExp m.src = some (x, nonce) ∧ m.pseq ≠ x ∧
          (m.pseq + 2 ^ 15 - x) % 2 ^ 15 < 2 ^ 14) →
      ∃ t, exec (e.1 p m0) s = .next t ∧ t.reqs = s.reqs ∧ t.bnd.pairExp = s.bnd.pairExp ∧
        (Tbl.get s.bnd.txq [] p = [] → Tbl.get t.bnd.rxCred 0 k = Tbl.get s.bnd.rxCred 0 k + n) ∧
        let answer := { Msg.blank with
          opc := 0x40, nh := m.lh, src := s.straps.node, dst := m.src, tag := m.tag, status := 7,
          lh := s.straps.node, addr := m.addr }
        (s.freeFor p answer → Tbl.find t.bnd.sent p = some answer.sealed)) ∧
    (∀ x nonce, Tbl.find s.bnd.pairExp m.src = some (x, nonce) → m.pseq ≠ x →
      2 ^ 14 ≤ (m.pseq + 2 ^ 15 - x) % 2 ^ 15 →
      ∃ t, exec (e.1 p m0) s = .next t ∧ t.reqs = s.reqs ∧ t.bnd.pairExp = s.bnd.pairExp ∧
        t.bnd.sent = s.bnd.sent ∧ Tbl.get t.bnd.rxCred 0 k = Tbl.get s.bnd.rxCred 0 k + n ∧
        (t.rawF BND_ERR_BITS p 0 0).testBit 3 = true)) ∧
    (∀ rt, m.dst ≠ s.straps.node → m.upset ≠ 2 → s.routeTo m.dst = some rt → m.hops < 7 →
      ∃ t, exec (e.1 p m0) s = .next t ∧ t.reqs = s.reqs ∧
        let on := { m with upset := 0, hops := m.hops + 1, lh := s.straps.node, nh := rt.nh }
        (s.freeFor rt.port on → Tbl.find t.bnd.sent rt.port = some on.sealed ∧
          Tbl.get t.bnd.rxCred 0 k = Tbl.get s.bnd.rxCred 0 k + n) ∧
        (s.linkUp rt.port = true → Tbl.get s.bnd.txq [] rt.port = [] →
          Tbl.get s.bnd.txCred 0 (credKey rt.port 0 on.hops) < n →
          Tbl.get t.bnd.txq [] rt.port = [⟨on.sealed, some (k, n), none⟩] ∧ t.bnd.rxCred = s.bnd.rxCred ∧
          t.bnd.sent = s.bnd.sent)) ∧
    (m.dst ≠ s.straps.node → m.upset ≠ 2 → s.routeTo m.dst = none ∨ 7 ≤ m.hops →
      ∃ t, exec (e.1 p m0) s = .next t ∧ t.reqs = s.reqs ∧ t.bnd.sent = s.bnd.sent ∧
        Tbl.get t.bnd.rxCred 0 k = Tbl.get s.bnd.rxCred 0 k + n ∧ (t.rawF BND_ERR_BITS p 0 0).testBit 2 = true) ∧
    (m.dst ≠ s.straps.node → m.upset = 2 →
      ∃ t, exec (e.1 p m0) s = .next t ∧ t.reqs = s.reqs ∧ t.bnd.sent = s.bnd.sent ∧
        Tbl.get t.bnd.rxCred 0 k = Tbl.get s.bnd.rxCred 0 k + n)

/-- SYNC, completions, timeouts and the requests that this node sends (R329, R330, R333, R338, R339). A SYNC of an INIT
pair records number and nonce. A completion for a tag whose request was sent frees it and gives the request its status
and, where good, CPL_DATA's line; met by an uncorrectable error it completes as poison; a tag that is free, or whose
request was not sent (the model's choice, log 149), sets bit 4; a quarantined one is freed and counted late. A request
without a route completes REMOTE_TIMEOUT; one with a route, credits, its tag, a read-return line and a synced pair,
whose turn it is at the peer port among those that could leave there, leaves as its message, sealed with its CRC, number
used and tag timed; lacking one of these it stays. SYNC_SEND sends the pair's next number without using it. A tag whose
end is past is quarantined for four timeouts and its request completes REMOTE_TIMEOUT, where it is still there; in the
instant of its end nothing happens yet; a quarantined one past its end is free. -/
def Obligations.BondAnswers : Prop :=
  (∀ (p : Nat) (m0 : Msg) (s : State),
    let m := { m0 with opc := 0x20 }
    s.receives p m 1 → m.upset ≠ 2 → m.dst = s.straps.node → Tbl.find s.bnd.pairExp m.src = none →
    ∃ t, exec (.sync p m0) s = .next t ∧ t.reqs = s.reqs ∧
      Tbl.find t.bnd.pairExp m.src = some (m.pseq, m.value.toNat % 2 ^ 32)) ∧
  (∀ (data : Bool) (p : Nat) (m0 : Msg) (s : State),
    let m := { m0 with opc := if data then 0x41 else 0x40 }
    let c := if data then Instr.cplData p m0 else Instr.cpl p m0
    s.receives p m (if data then 3 else 1) → m.dst = s.straps.node →
    (∀ t r n, Tbl.find s.bnd.tags m.tag = some t → t.live = true → t.quar = false → s.req t.rid = some r →
      r.src = .port n → r.status = none →
      let st := if m.upset = 2 then .poison else statusOf m.status
      ∃ (u : State) (q : Req), exec c s = .next u.settle ∧ Tbl.find u.bnd.tags m.tag = none ∧ u.req t.rid = some q ∧
        q.status = some (if st = .poison then r.poisonStatus else st) ∧
        (st.good = true → data = true → q.rdata = m.data) ∧ (st.good = false → q.rdata = 0)) ∧
    (∀ t, Tbl.find s.bnd.tags m.tag = some t → t.live = true → t.quar = true →
      ∃ u : State, exec c s = .next u ∧ Tbl.find u.bnd.tags m.tag = none ∧ u.reqs = s.reqs ∧
        u.rawF BND_COUNT_LATE_CPL 0 0 0 = min (s.rawF BND_COUNT_LATE_CPL 0 0 0 + 1) (2 ^ 32 - 1)) ∧
    ((∀ t, Tbl.find s.bnd.tags m.tag = some t → t.live = false) → ∃ u : State, exec c s = .next u ∧
      u.reqs = s.reqs ∧ u.bnd.tags = s.bnd.tags ∧
      (u.rawF BND_ERR_BITS p 0 0).testBit 4 = true)) ∧
  (∀ (r : Req) (n : Nat) (s : State), s.outbound r n →
    (∀ k, s.routeTo n = none → r.src = .port k →
      ∃ u : State, exec (.remoteRequestSend r.rid) s = .next u.settle ∧
        (u.req r.rid).map Req.status = some (some .remoteTimeout)) ∧
    (∀ rt tag s1, s.routeTo n = some rt → s.sendNext rt.port = some r → s.tagOf r.rid = some tag →
      s.reserveReturn r = some s1 →
      let seq := Tbl.get s.bnd.pairNext 0 n
      ∃ u : State, exec (.remoteRequestSend r.rid) s = .next u.settle ∧
        Tbl.find u.bnd.tags tag = some ⟨r.rid, n, rt.port, s.uptime + s.bondTimeoutNs, false, true⟩ ∧
        Tbl.get u.bnd.pairNext 0 n = (seq + 1) % 2 ^ 15 ∧
        (u.req r.rid).map Req.stage = some .issued ∧
        Tbl.find u.bnd.sent rt.port = some (s.outMsg r n rt.nh tag seq).sealed) ∧
    (∀ rt, s.routeTo n = some rt → s.tagOf r.rid = none ∨ s.reserveReturn r = none →
      exec (.remoteRequestSend r.rid) s = .next s) ∧
    (∀ rt, s.routeTo n = some rt → n ∉ s.bnd.synced ∨ s.canSend rt.port 0 (opcFlits r.op.code) = false ∨
        s.sendNext rt.port ≠ some r →
      exec (.remoteRequestSend r.rid) s = .next s)) ∧
  (∀ (n : Nat) (s : State), s.cold = false →
    (s.routeTo n = none → exec (.syncSend n) s = .next s) ∧
    (∀ rt, s.routeTo n = some rt → n ∉ s.bnd.synced → s.pairBusy n = false → s.canSend rt.port 0 1 = true →
      ∃ t, exec (.syncSend n) s = .next t ∧ n ∈ t.bnd.synced ∧ t.bnd.pairNext = s.bnd.pairNext ∧
        (Tbl.find t.bnd.sent rt.port).map (fun m => (m.opc, m.dst, m.pseq, m.value)) =
          some (0x20, n, Tbl.get s.bnd.pairNext 0 n, BitVec.ofNat 64 s.bnd.nonce))) ∧
  (∀ (tag : Nat) (t : OutTag) (s : State), s.cold = false → Tbl.find s.bnd.tags tag = some t →
    (∀ r n, t.live = true → t.quar = false → t.ends < s.uptime → t.port < 2 → s.req t.rid = some r → r.src = .port n →
      r.status = none →
      ∃ u : State, exec (.bondTimeout tag) s = .next u.settle ∧
        Tbl.find u.bnd.tags tag = some { t with quar := true, ends := s.uptime + 4 * s.bondTimeoutNs } ∧
        t.node ∉ u.bnd.synced ∧ (u.req t.rid).map Req.status = some (some .remoteTimeout) ∧
        (u.rawF BND_ERR_BITS t.port 0 0).testBit 5 = true) ∧
    (t.live = true → t.quar = false → t.ends < s.uptime → t.port < 2 → s.req t.rid = none →
      ∃ u : State, exec (.bondTimeout tag) s = .next u ∧ u.reqs = s.reqs ∧
        Tbl.find u.bnd.tags tag = some { t with quar := true, ends := s.uptime + 4 * s.bondTimeoutNs } ∧
        t.node ∉ u.bnd.synced ∧ (u.rawF BND_ERR_BITS t.port 0 0).testBit 5 = true) ∧
    (t.quar = true ∨ t.live = false ∨ s.uptime ≤ t.ends → exec (.bondTimeout tag) s = .next s) ∧
    (t.quar = true → t.ends ≤ s.uptime → ∃ u : State, exec (.tagQuarantineExpiry tag) s = .next u ∧
      Tbl.find u.bnd.tags tag = none ∧ u.reqs = s.reqs) ∧
    (t.quar = false ∨ s.uptime < t.ends → exec (.tagQuarantineExpiry tag) s = .next s))

/-- Links, credits, HELLO, neighbour timeouts and malformed messages (R318, R321, R323, R324, R325, R336, R339, R351).
LINK_UP of a port that is down and not held returns 8 credits of each of its 16 pairs; LINK_DOWN of an up one ends its
neighbours, its queue and, the model's choice (log 149), what waits in its receive buffers, with bit 6; a credit return
adds one. A HELLO of another node with this node's nonce as its echo makes it an UP neighbour, with another echo TRYING;
one with this node's number and another nonce sets bit 7 and is ignored from then on. The HELLO timer sends at its
instant alone. A neighbour not heard for three intervals is DOWN, an LSA then due. A malformed message is discarded with
bit 1, one whose CRC does not match counted with bit 0, the credits of each returned. -/
def Obligations.BondLinks : Prop :=
  (∀ (p : Nat) (s : State), s.cold = false → p < 2 →
    (p ∈ s.bnd.link → exec (.linkUp p) s = .next s) ∧
    (p ∉ s.bnd.link → p ∉ s.bnd.held → ∃ t, exec (.linkUp p) s = .next t ∧ t.linkUp p = true ∧
      (∀ k, k < 16 → Tbl.get t.bnd.rxCred 0 (16 * p + k) = 8) ∧ t.bnd.nbr = s.bnd.nbr) ∧
    (p ∉ s.bnd.link → exec (.linkDown p) s = .next s) ∧
    (p ∈ s.bnd.link → p ∉ s.bnd.held → ∃ t, exec (.linkDown p) s = .next t ∧ p ∉ t.bnd.link ∧
      (∀ n, n < 64 → Tbl.find t.bnd.nbr (64 * p + n) = none) ∧ Tbl.get t.bnd.txq [] p = [] ∧
      Tbl.get t.bnd.rxq [] p = [] ∧ t.bnd.lsaDue = true ∧ t.bnd.routeDue.isSome = true ∧ (t.rawF BND_ERR_BITS p 0 0).testBit 6 = true) ∧
    (∀ lane cls, s.linkUp p = true → Tbl.get s.bnd.txq [] p = [] → ∃ t, exec (.txCreditReturn p lane cls) s = .next t ∧
      ∀ k, Tbl.get t.bnd.txCred 0 k = Tbl.get s.bnd.txCred 0 k + if k = credKey p lane cls then 1 else 0) ∧
    (∀ lane cls, s.linkUp p = false → exec (.txCreditReturn p lane cls) s = .next s)) ∧
  (∀ (p : Nat) (m0 : Msg) (s : State),
    let m := { m0 with opc := 0x80 }
    let key := 64 * p + m.src
    let nonce := m.value.toNat % 2 ^ 32
    s.receives p m 1 → m.upset ≠ 2 → key ∉ s.bnd.ignored →
    (m.src ≠ s.straps.node → Tbl.find s.bnd.nbr key = none →
      ∃ t, exec (.hello p m0) s = .next t ∧
        Tbl.find t.bnd.nbr key = some ⟨decide (m.value.toNat / 2 ^ 32 = s.bnd.nonce), nonce, s.uptime⟩ ∧
        (m.value.toNat / 2 ^ 32 = s.bnd.nonce → t.bnd.lsaDue = true ∧ t.bnd.routeDue.isSome = true)) ∧
    (∀ x, m.src ≠ s.straps.node → Tbl.find s.bnd.nbr key = some x → x.up = true →
      ∃ t, exec (.hello p m0) s = .next t ∧ Tbl.find t.bnd.nbr key = some ⟨decide (x.nonce = nonce), nonce, s.uptime⟩ ∧
        (x.nonce ≠ nonce → Tbl.find t.bnd.pairExp m.src = none ∧
          (t.rawF BND_ERR_BITS p 0 0).testBit 6 = true)) ∧
    (m.src = s.straps.node → nonce ≠ s.bnd.nonce → ∃ t, exec (.hello p m0) s = .next t ∧ key ∈ t.bnd.ignored ∧
      (t.rawF BND_ERR_BITS p 0 0).testBit 7 = true)) ∧
  (∀ (p : Nat) (s : State), s.cold = false → p < 2 → s.linkUp p = true → s.bondOn = true →
    let due := ∀ t0, Tbl.find s.bnd.lastHello p = some t0 → t0 + s.helloNs p ≤ s.uptime
    (due → ∃ t, exec (.helloTimer p) s = .next t ∧ Tbl.find t.bnd.lastHello p = some s.uptime ∧
      ∀ hello, hello = { Msg.blank with
          opc := 0x80, bc := true, src := s.straps.node, lh := s.straps.node,
          value := BitVec.ofNat 64 (s.echo p * 2 ^ 32 + s.bnd.nonce) } →
        s.freeFor p hello → Tbl.find t.bnd.sent p = some hello.sealed) ∧
    (¬ due → exec (.helloTimer p) s = .next s)) ∧
  (∀ (p n : Nat) (x : Nbr) (s : State), s.cold = false → Tbl.find s.bnd.nbr (64 * p + n) = some x →
    (p < 2 → x.heard + 3000 * s.helloUs ≤ s.uptime → ∃ t, exec (.neighbourTimeout p n) s = .next t ∧
      Tbl.find t.bnd.nbr (64 * p + n) = none ∧ (∀ k, k ≠ 64 * p + n → Tbl.find t.bnd.nbr k = Tbl.find s.bnd.nbr k) ∧
      t.bnd.lsaDue = true ∧ t.bnd.routeDue.isSome = true ∧ (t.rawF BND_ERR_BITS p 0 0).testBit 6 = true) ∧
    (s.uptime < x.heard + 3000 * s.helloUs → exec (.neighbourTimeout p n) s = .next s)) ∧
  (∀ (p flits : Nat) (m : Msg) (s : State), s.cold = false → p < 2 → s.linkUp p = true → s.bondOn = true →
    (m.crcOk flits = false → ∃ t, exec (.malformedMessage p m flits) s = .next t ∧ t.reqs = s.reqs ∧
      Tbl.get t.bnd.rxCred 0 (m.rxKey p) = Tbl.get s.bnd.rxCred 0 (m.rxKey p) + flits ∧
      (t.rawF BND_ERR_BITS p 0 0).testBit 0 = true ∧
      t.rawF BND_COUNT_CRC 0 0 0 = min (s.rawF BND_COUNT_CRC 0 0 0 + 1) (2 ^ 32 - 1)) ∧
    (m.crcOk flits = true → msgMalformed m flits = true → ∃ t, exec (.malformedMessage p m flits) s = .next t ∧
      Tbl.get t.bnd.rxCred 0 (m.rxKey p) = Tbl.get s.bnd.rxCred 0 (m.rxKey p) + flits ∧ t.reqs = s.reqs ∧ (t.rawF BND_ERR_BITS p 0 0).testBit 1 = true) ∧
    (m.crcOk flits = true → msgMalformed m flits = false → exec (.malformedMessage p m flits) s = .next s))

/-- LSAs and routes: stored when newer, originated when due, expired, computed in one instant (R325, R326, R327, R328).
An LSA of another node that is new or newer than the stored one, by its nonce or by its number, is stored with this
instant, routes are due, and it is sent as received on the other peer port where that can send; an older one is
discarded, and one exactly 2^31 ahead counts as older (the model's choice, log 60). LSA_ORIGINATE, due every 500
microseconds or 50 after a change, uses the next number; LSA_EXPIRY drops one not heard for 2 ms. ROUTE_COMPUTE, where a
change has not been taken in, replaces every route that is not pinned by the computed table and keeps the pinned. After
2 ms without a change routes are stable. Outside their instants none changes anything. -/
def Obligations.BondRoutes : Prop :=
  (∀ (p : Nat) (m0 : Msg) (s : State),
    let m := { m0 with opc := 0x81 }
    let nonce := m.value.toNat / 2 ^ 32
    let seq := m.value.toNat % 2 ^ 32
    s.receives p m 2 → m.upset ≠ 2 → m.src ≠ s.straps.node →
    ((∀ a, Tbl.find s.bnd.lsa m.src = some a → a.nonce ≠ nonce ∨
        a.seq ≠ seq ∧ (seq + 2 ^ 32 - a.seq) % 2 ^ 32 < 2 ^ 31) →
      ∃ t, exec (.lsa p m0) s = .next t ∧ t.bnd.routeDue.isSome = true ∧
        Tbl.find t.bnd.lsa m.src =
          some ⟨nonce, seq, (m.data.extractLsb' 0 64).toNat, (m.data.extractLsb' 64 64).toNat, s.uptime⟩ ∧
        (s.freeFor (1 - p) m → Tbl.find t.bnd.sent (1 - p) = some (Msg.sealed { m with upset := 0 })) ∧
        ∀ k, k ≠ m.src → Tbl.find t.bnd.lsa k = Tbl.find s.bnd.lsa k) ∧
    (∀ a, Tbl.find s.bnd.lsa m.src = some a → a.nonce = nonce →
      a.seq = seq ∨ 2 ^ 31 ≤ (seq + 2 ^ 32 - a.seq) % 2 ^ 32 →
      ∃ t, exec (.lsa p m0) s = .next t ∧ t.bnd.lsa = s.bnd.lsa ∧ t.bnd.routeDue = s.bnd.routeDue ∧
        t.bnd.sent = s.bnd.sent)) ∧
  (∀ s : State, s.cold = false → s.bondOn = true →
    let due := ∀ t0, s.bnd.lsaLast = some t0 →
      t0 + 500000 ≤ s.uptime ∨ s.bnd.lsaDue = true ∧ t0 + 50000 ≤ s.uptime
    (due → ∃ t, exec .lsaOriginate s = .next t ∧ t.bnd.lsaSeq = (s.bnd.lsaSeq + 1) % 2 ^ 32 ∧
      t.bnd.lsaLast = some s.uptime ∧ t.bnd.lsaDue = false) ∧
    (¬ due → exec .lsaOriginate s = .next s)) ∧
  (∀ (n : Nat) (a : LsaRec) (s : State), s.cold = false → Tbl.find s.bnd.lsa n = some a →
    (a.heard + 2000000 ≤ s.uptime → ∃ t, exec (.lsaExpiry n) s = .next t ∧ t.bnd.routeDue.isSome = true ∧
      ∀ k, Tbl.find t.bnd.lsa k = if k = n then none else Tbl.find s.bnd.lsa k) ∧
    (s.uptime < a.heard + 2000000 → exec (.lsaExpiry n) s = .next s)) ∧
  (∀ s : State, s.cold = false →
    (s.bnd.routeDue.isSome = true → ∃ t, exec .routeCompute s = .next t ∧ t.bnd.routeDue = none ∧
      (∀ n, s.pinned n = false → Tbl.find t.bnd.routes n = Tbl.find s.routeTable n) ∧
      (Tbl.sorted s.bnd.routes = true → ∀ n, s.pinned n = true →
        Tbl.find t.bnd.routes n = Tbl.find s.bnd.routes n)) ∧
    (s.bnd.routeDue = none → exec .routeCompute s = .next s) ∧
    (s.bnd.routeAt + 2000000 ≤ s.uptime → ∃ t, exec .routesStable s = .next t ∧ t.bnd.stable = true) ∧
    (s.uptime < s.bnd.routeAt + 2000000 → exec .routesStable s = .next s))

/-- Reports read and forced, wire faults, acknowledgement and the capture (R342, R343, R347, R348, R349, R350). A read
report of a lone source of severity below 3 leaves its queue, sets its status bit, raises SEV_MAX and COUNT, is captured
where no capture is held and merged otherwise, and, UCNA from IDLE, makes the source PENDING with its grace timer; a
parity error is fatal. A wire fault, of a source that signals with its queue empty or of lines that read equal, sets the
wire bit once and makes an IDLE source PENDING; its end lets the source's reports be read again and leaves the bit; a
fault of neither kind is none. FORCE, under the expert bit, queues a forced report, or marks the real one made at that
instant with the coincidence; where the full queue has merged that real one, it counts no more and the coincidence is
marked at the source (how the capture shows it is the model's choice, log 183). BUT_ACK makes a source IDLE, after the
reaction of a timer that had already run out (DEDUCED, log 143); CAPTURE_RELEASE frees the capture alone. -/
def Obligations.ButtressRecording : Prop :=
  (∀ (src : Nat) (r : Report) (s : State), s.cold = false → s.sampleOrder = [(src, r)] → s.hasSource src = true →
    r.sev < 3 →
    ∃ t, exec (.reportRead false) s = .next t ∧ t.srcStatus src = true ∧ t.reports src = (s.reports src).drop 1 ∧
      (∀ k, k ≠ src → t.reports k = s.reports k) ∧
      t.rawF BUT_SRC_SEV_MAX src 0 0 = max (s.rawF BUT_SRC_SEV_MAX src 0 0) r.sev % 4 ∧
      t.rawF BUT_SRC_COUNT src 0 0 = min (s.rawF BUT_SRC_COUNT src 0 0 + 1) (2 ^ 16 - 1) ∧
      (s.rawF BUT_CAP_INFO_VALID 0 0 0 = 0 → t.rawF BUT_CAP_INFO_VALID 0 0 0 = 1 ∧
        t.rawF BUT_CAP_INFO_SOURCE 0 0 0 = src ∧ t.rawF BUT_CAP_INFO_SEV 0 0 0 = r.sev ∧
        t.rawF BUT_CAP_INFO_INJ 0 0 0 = (if r.forced then 1 else 0)) ∧
      (s.rawF BUT_CAP_INFO_VALID 0 0 0 ≠ 0 → t.rawF BUT_CAP_INFO_SOURCE 0 0 0 = s.rawF BUT_CAP_INFO_SOURCE 0 0 0 ∧
        t.rawF BUT_CAP_INFO_MERGE_COUNT 0 0 0 = min (s.rawF BUT_CAP_INFO_MERGE_COUNT 0 0 0 + 1) (2 ^ 16 - 1)) ∧
      (r.sev = 2 → s.srcState src = 0 → t.srcState src = 1 ∧
        Tbl.find t.but.expiry src = some (s.uptime + s.graceNs)) ∧
      (r.sev ≠ 2 ∨ s.srcState src ≠ 0 → t.srcState src = s.srcState src ∧ t.but.expiry = s.but.expiry)) ∧
  (∀ s : State, s.cold = false → (s.sampleOrder = [] → exec (.reportRead false) s = .next s) ∧
    ∃ t, exec (.reportRead true) s = .next t ∧ t.fatal = true) ∧
  (∀ (src : Nat) (s : State), s.cold = false →
    (∀ equal ended, s.hasSource src = false → exec (.wireFault src equal ended) s = .next s) ∧
    (∀ equal, src ∈ s.but.wire ∨ (if equal = true then s.pair = false else s.reports src ≠ []) →
      exec (.wireFault src equal false) s = .next s) ∧
    (∀ equal, s.hasSource src = true → ∃ t, exec (.wireFault src equal true) s = .next t ∧ src ∉ t.but.wire ∧
      t.regs = s.regs ∧ t.but.queue = s.but.queue ∧ ∀ k, k ≠ src → (k ∈ t.but.wire ↔ k ∈ s.but.wire)) ∧
    (∀ equal, s.hasSource src = true → src ∉ s.but.wire →
      (if equal = true then s.pair = true else s.reports src = []) →
      ∃ t, exec (.wireFault src equal false) s = .next t ∧ src ∈ t.but.wire ∧
      t.srcStatus src = true ∧ t.but.queue = s.but.queue ∧
      (if src < 64 then (t.rawF BUT_WIRE0_SRC 0 0 0).testBit src
        else (t.rawF BUT_WIRE1_SRC 0 0 0).testBit (src - 64)) = true ∧
      (s.srcState src = 0 → t.srcState src = 1 ∧ Tbl.find t.but.expiry src = some (s.uptime + s.graceNs)))) ∧
  (∀ (src sev : Nat) (s : State), s.serves → s.hasSource src = true →
    (∀ b, s.expert 14 = false → exec (.force src sev b) s = .next s) ∧
    (∀ b, s.expert 14 = true → (s.reports src).length < 8 →
      (b = true → Tbl.find s.but.merged src ≠ some s.uptime ∧
        ∀ n, (s.reports src).getLast? = some n → n.forced = true ∨ n.time ≠ s.uptime) →
      ∃ t r, exec (.force src sev b) s = .next t ∧
      t.reports src = s.reports src ++ [r] ∧ r.sev = sev ∧ r.forced = true ∧ t.regs = s.regs ∧
      ∀ k, k ≠ src → t.reports k = s.reports k) ∧
    (∀ q r, s.expert 14 = true → s.reports src = q ++ [r] → r.forced = false → r.time = s.uptime → ∃ t, exec (.force src sev true) s = .next t ∧
      t.reports src = q ++ [{ r with sev := max r.sev sev, coincide := true }] ∧ t.regs = s.regs) ∧
    (∀ q r, s.expert 14 = true → s.reports src = q ++ [r] → r.forced = true ∨ r.time ≠ s.uptime →
      Tbl.find s.but.merged src = some s.uptime → ∃ t, exec (.force src sev true) s = .next t ∧
      t.reports src = q ++ [{ r with sev := max r.sev sev }] ∧ t.rawF BUT_SRC_INJ_COINCIDE src 0 0 = 1 ∧
      s.onlyRegs { t with but := s.but } [BUT_SRC_INJ_COINCIDE.key src 0 0]) ∧
    (s.srcState src = 0 → exec (.butAck src) s = .next s) ∧
    (s.srcState src ≠ 0 → ∃ t, exec (.butAck src) s = .next t ∧ t.srcState src = 0 ∧
      Tbl.find t.but.expiry src = none ∧ (84 ≤ src → src - 84 ∉ t.bnd.held) ∧
      (s.srcState src = 1 → s.graceOver src = true → 4 ∈ t.quo.pba))) ∧
  (∀ s : State, s.serves → ∃ t, exec .captureRelease s = .next t ∧ t.rawF BUT_CAP_INFO_VALID 0 0 0 = 0 ∧
    s.onlyRegs t [BUT_CAP_INFO_VALID.key 0 0 0])

/-- Grace expiry reacts as REACT says; the sweep's passes (R341, R350, R351, R352, R353, R358). A grace timer that has
run out, Buttress not paused, escalates its source: REACT 00 raises vector 4 and nothing else, 01 fences a port source's
port, any other asserts the fatal output; one that has not, or of a paused Buttress, does nothing. A sweep that is due
starts a pass, or is deferred while one runs. The end of a pass with nothing failed counts it; with an item of a source
of the build failed, SWEEP_FAIL and the first failing source are set, or, for the source's line, its wire bit; one of a
channel under reset is skipped. PASSES stays at 2^32 - 1 once there (the model's choice, log 55). (Of these the write
stores' counts, R354, are in agreement.) -/
def Obligations.ButtressReactions : Prop :=
  (∀ (src t0 : Nat) (s : State), s.cold = false → Tbl.find s.but.expiry src = some t0 →
    (s.but.paused = true ∨ s.uptime < t0 → exec (.graceExpiry src) s = .next s) ∧
    (s.but.paused = false → t0 ≤ s.uptime → s.hasSource src = true →
      (s.fld BUT_SRC_REACT src 0 0 = 0 → ∃ t, exec (.graceExpiry src) s = .next t ∧ t.srcState src = 2 ∧
        4 ∈ t.quo.pba ∧ Tbl.find t.but.expiry src = none ∧ t.fatal = s.fatal ∧ t.ports = s.ports ∧
        s.onlyRegs { t with quo := s.quo, but := s.but } [BUT_SRC_STATE.key src 0 0]) ∧
      (s.fld BUT_SRC_REACT src 0 0 = 1 → 72 ≤ src → src < 84 → ∃ u : State, exec (.graceExpiry src) s = .next u.settle ∧
        (u.port (src - 72)).st = 3 ∧ 4 ∈ u.quo.pba) ∧
      (2 ≤ s.fld BUT_SRC_REACT src 0 0 → ∃ t, exec (.graceExpiry src) s = .next t ∧ t.fatal = true))) ∧
  (∀ (src : Nat) (s : State), s.cold = false → Tbl.find s.but.expiry src = none →
    exec (.graceExpiry src) s = .next s) ∧
  (∀ s : State, s.cold = false →
    (s.sweepDue = false ∨ s.but.paused = true → exec .sweepStart s = .next s) ∧
    (s.sweepDue = true → s.but.paused = false → s.but.pass = none → exec .sweepStart s =
      .next { s with but := { s.but with pass := some s.uptime, deferred := false, lastSweep := s.uptime } }) ∧
    (s.sweepDue = true → s.but.paused = false → s.but.pass.isSome = true → exec .sweepStart s =
      .next { s with but := { s.but with deferred := true, lastSweep := s.uptime } }) ∧
    (s.but.pass = none ∨ s.but.paused = true → ∀ l, exec (.sweepPassEnd l) s = .next s) ∧
    (s.but.pass.isSome = true → s.but.paused = false → s.but.deferred = false →
      (∀ c, c < s.build → s.sweepSkips c = true ∨ (s.chan c).set.wsResident = s.storeUsed c) →
      (∃ t, exec (.sweepPassEnd []) s = .next t ∧ t.but.pass = none ∧
        t.rawF BUT_SAFETY_PASSES 0 0 0 = min (s.rawF BUT_SAFETY_PASSES 0 0 0 + 1) (2 ^ 32 - 1) ∧
        (s.allSettled = true → t.but.unsafeUntilPass = false) ∧ t.chans = s.chans ∧ t.reqs = s.reqs) ∧
      (∀ k src, s.sweepSkips src = true → exec (.sweepPassEnd [⟨k, src⟩]) s = exec (.sweepPassEnd []) s) ∧
      (∀ src, src < 112 → s.hasSource src = true → s.sweepSkips src = false →
        (∃ t, exec (.sweepPassEnd [⟨0, src⟩]) s = .next t ∧ t.but.pass = none ∧
          t.rawF BUT_SAFETY_SWEEP_FAIL 0 0 0 = s.rawF BUT_SAFETY_SWEEP_FAIL 0 0 0 ∧
          (if src < 64 then (t.rawF BUT_WIRE0_SRC 0 0 0).testBit src
            else (t.rawF BUT_WIRE1_SRC 0 0 0).testBit (src - 64)) = true) ∧
        (∀ k, k ≠ 0 → k ≠ 4 → ∃ t, exec (.sweepPassEnd [⟨k, src⟩]) s = .next t ∧ t.but.pass = none ∧
          t.rawF BUT_SAFETY_SWEEP_FAIL 0 0 0 = 1 ∧
          (s.rawF BUT_SAFETY_SWEEP_FAIL 0 0 0 = 0 → t.rawF BUT_SAFETY_FAIL_SRC 0 0 0 = src)))))

/-- Plumb: freeze, clear, the sampler's registers and the tag buffer (R366, R367, R369, R370, R381). FREEZE and UNFREEZE
set and clear PLB_CTRL.FREEZE and CLEAR asks for a clear, and nothing else; after the next cycle of RCLK the counters
are stopped exactly where FREEZE is 1, and a clear asked for has zeroed every counter and overflow bit. PLB_TAG_CFG
takes its fields under the expert bit, and every LFSR and sequence number starts anew. PLB_TAG_RD takes the written
number, or WR where that is ahead of WR. The oldest finished record enters the buffer at WR modulo 1,024, and WR moves
on modulo 2,048; one that an error met which cannot be corrected enters ABORTED with every interval all ones, and sets
UNCORR; with none nothing happens. -/
def Obligations.PlumbCommands : Prop :=
  (∀ (w : RegW) (s : State), s.serves →
    (∃ t, exec .plbFreeze s = .next t ∧ t.rawF PLB_CTRL_FREEZE 0 0 0 = 1 ∧
      s.onlyRegs t [PLB_CTRL_FREEZE.key 0 0 0]) ∧
    (∃ t, exec .plbUnfreeze s = .next t ∧ t.rawF PLB_CTRL_FREEZE 0 0 0 = 0 ∧
      s.onlyRegs t [PLB_CTRL_FREEZE.key 0 0 0]) ∧
    exec .plbClear s = .next { s with plb := { s.plb with clearDue := true } } ∧
    (∃ t, exec (.plbTagCfgWrite w) s = .next t ∧ t.plb = { s.plb with lfsr := [], seq := [] } ∧ t.regs = s.regs ∧
      ∀ f ∈ [PLB_TAG_CFG_SEED, PLB_TAG_CFG_K, PLB_TAG_CFG_EN], t.fld f 0 0 0 =
        if s.expert 15 ∧ w.covers f then w.merge f (s.fld f 0 0 0) % 2 ^ f.width else s.fld f 0 0 0) ∧
    (∃ t, exec (.plbTagRdWrite w) s = .next t ∧ s.onlyRegs t [PLB_TAG_RD_RD.key 0 0 0] ∧
      let wr := s.rawF PLB_TAG_STATUS_WR 0 0 0
      let v := w.merge PLB_TAG_RD_RD (s.rawF PLB_TAG_RD_RD 0 0 0)
      t.rawF PLB_TAG_RD_RD 0 0 0 = (if 1024 < (wr + 2048 - v) % 2048 then wr else v) % 2048)) ∧
  (∀ (l : List PlbUpset) (s : State), s.cold = false → s.rclkLost = false → ∃ t, exec (.rclkCycle l) s = .next t ∧
    t.plb.stopped = decide (t.rawF PLB_CTRL_FREEZE 0 0 0 = 1) ∧ t.plb.clearDue = false ∧ t.plb.ctlOld = [] ∧
    (s.plb.clearDue = true → t.plb.cnt = [] ∧ t.plb.ovf = [])) ∧
  (∀ s : State, s.cold = false →
    (s.plb.doneRecs = [] → ∀ n, exec (.tagRecordWrite n) s = .next s) ∧
    (∀ r rest, s.plb.doneRecs = r :: rest → ∃ t, exec (.tagRecordWrite 0) s = .next t ∧ t.plb.doneRecs = rest ∧
      let wr := s.rawF PLB_TAG_STATUS_WR 0 0 0
      (∀ k, Tbl.find t.plb.ring k = if k = wr % 1024 then some r else Tbl.find s.plb.ring k) ∧
      t.rawF PLB_TAG_STATUS_WR 0 0 0 = (wr + 1) % 2048 ∧ t.plb.cnt = s.plb.cnt ∧ t.plb.recNo = s.plb.recNo + 1 ∧
      s.onlyRegs { t with plb := s.plb } [PLB_TAG_STATUS_WR.key 0 0 0]) ∧
    (∀ r rest, s.plb.doneRecs = r :: rest → ∃ t, exec (.tagRecordWrite 2) s = .next t ∧ t.plb.doneRecs = rest ∧
      Tbl.find t.plb.ring (s.rawF PLB_TAG_STATUS_WR 0 0 0 % 1024) = some (recordSpoiled r) ∧
      t.rawF PLB_ERR_UNCORR 0 0 0 = 1))

/-- The Datestone: clears, triggers, snapshots, modes, freeze and the window (R371, R372, R373, R374, R375, R376, R378,
R379, R380). EXT_CLEAR and HIST_CLEAR empty their store and change nothing else; LOG_CLEAR empties the log, clears
LOG_FULL, and discards and counts a snapshot being taken. SNAP and a period that is due add a trigger in mode SNAPSHOT,
dropped and counted where frozen, full, or behind nine. The oldest trigger's entries join the log where they fit; where
not, LOG_FULL is set. MODE under the expert bit is what it reads; a change drops the triggers (the model's choice, log
46), and empties the histograms where the log takes the store that the two share or they take it back, and the log where
that takes it, OFF between them or not (that OFF makes no difference is the model's choice, log 165). HIST_CFG clears
the histograms. A window read returns its word, and word 7 moves the cursor, which beyond its region wraps to 0 (the
model's choice, log 48). FREEZE written 1 is in force after the next cycle of RCLK, written 0 at once (the model's
choice, log 49). -/
def Obligations.DatestoneCommands : Prop :=
  (∀ (w : RegW) (s : State), s.serves →
    exec .extClear s = .next { s with dst := { s.dst with ext := [] } } ∧
    exec .histClear s = .next { s with dst := { s.dst with hist := [] } } ∧
    (∃ t, exec .logClear s = .next t ∧ t.dst = { s.dst with log := [], trig := s.dst.trig.drop 1 } ∧
      t.rawF DST_STATUS_LOG_FULL 0 0 0 = 0 ∧
      t.rawF DST_STATUS_DROPPED 0 0 0 = (if s.dst.trig = [] then s.rawF DST_STATUS_DROPPED 0 0 0
        else min (s.rawF DST_STATUS_DROPPED 0 0 0 + 1) (2 ^ 16 - 1))) ∧
    (s.dstMode ≠ 1 → exec .snap s = .next s) ∧
    (s.dstMode = 1 → s.dstFrozen = false → s.rawF DST_STATUS_LOG_FULL 0 0 0 ≠ 1 → s.dst.trig.length < 9 →
      exec .snap s = .next { s with dst := { s.dst with trig := s.dst.trig ++ [(1, 0, s.uptime)] } }) ∧
    (s.dstMode = 1 → s.dstFrozen = true ∨ s.rawF DST_STATUS_LOG_FULL 0 0 0 = 1 ∨ 9 ≤ s.dst.trig.length →
      ∃ t, exec .snap s = .next t ∧ t.dst = s.dst ∧
        t.rawF DST_STATUS_DROPPED 0 0 0 = min (s.rawF DST_STATUS_DROPPED 0 0 0 + 1) (2 ^ 16 - 1)) ∧
    (∀ mode, s.expert 15 = false → exec (.dstModeWrite mode) s = .next s) ∧
    (∀ mode, s.expert 15 = true → mode < 3 → ∃ t, exec (.dstModeWrite mode) s = .next t ∧ t.dstMode = mode ∧
      (mode ≠ s.dstMode → t.dst.trig = []) ∧ (mode = s.dstMode → t.dst = s.dst) ∧
      (mode ≠ s.dstMode → mode = 1 → s.dstMode = 0 ∨ s.dst.logHeld = false →
        t.dst = { s.dst with trig := [], hist := [], log := [], logHeld := true }) ∧
      (mode ≠ s.dstMode → mode = 0 → s.dstMode = 1 ∨ s.dst.logHeld = true →
        t.dst = { s.dst with trig := [], hist := [], logHeld := false }) ∧
      (mode ≠ s.dstMode → mode = 2 → t.dst = { s.dst with trig := [] })) ∧
    (∀ on, ∃ t, exec (.dstFreezeWrite on) s = .next t ∧ t.rawF DST_CTRL_FREEZE 0 0 0 = b2n on ∧
      t.dst = { s.dst with frozen := s.dst.frozen && on } ∧
      s.onlyRegs { t with dst := s.dst } [DST_CTRL_FREEZE.key 0 0 0]) ∧
    (s.expert 15 = false → exec (.dstHistCfgWrite w) s = .next s) ∧
    (s.expert 15 = true → ∃ t, exec (.dstHistCfgWrite w) s = .next t ∧ t.dst = { s.dst with hist := [] } ∧
      ∀ f ∈ [DST_HIST_CFG_LAT_UNIT, DST_HIST_CFG_DLY_UNIT, DST_HIST_CFG_DEPTH_UNIT], w.covers f = true →
        t.fld f 0 0 0 = w.merge f (s.fld f 0 0 0) % 2 ^ f.width) ∧
    (∀ word top, word < 8 → ∃ t, exec (.dstWindowRead word top 0) s = .next t ∧
      let region := s.rawF DST_CURSOR_REGION 0 0 0
      let n := s.rawF DST_CURSOR_INDEX 0 0 0
      t.dst = { s.dst with winOut := s.itemWord region n word } ∧
      (word = 7 ∧ top = true ∧ s.rawF DST_CURSOR_AUTOINC 0 0 0 = 1 →
        t.rawF DST_CURSOR_INDEX 0 0 0 = (if regionSize region ≤ n + 1 then 0 else n + 1) % 2 ^ 13) ∧
      (¬ (word = 7 ∧ top = true ∧ s.rawF DST_CURSOR_AUTOINC 0 0 0 = 1) → t.regs = s.regs))) ∧
  (∀ (l : List PlbUpset) (s : State), s.cold = false → s.rclkLost = false → ∃ t, exec (.rclkCycle l) s = .next t ∧
    t.dstFrozen = decide (t.rawF DST_CTRL_FREEZE 0 0 0 = 1)) ∧
  (∀ s : State, s.cold = false →
    (s.periodDue = false → exec .snapshotPeriod s = .next s) ∧
    (s.periodDue = true → s.dstMode = 1 → s.dstFrozen = false → s.rawF DST_STATUS_LOG_FULL 0 0 0 ≠ 1 →
      s.dst.trig.length < 9 → exec .snapshotPeriod s =
        .next { s with dst := { s.dst with lastPeriod := s.uptime, trig := s.dst.trig ++ [(2, 0, s.uptime)] } }) ∧
    (s.dst.trig = [] → exec .snapshotTaken s = .next s) ∧
    (∀ code detail time rest, s.dst.trig = (code, detail, time) :: rest → s.dstFrozen = false →
      s.rawF DST_STATUS_LOG_FULL 0 0 0 ≠ 1 →
      let es := snapEntries code detail time s.snapValues
      (s.dst.log.length + es.length ≤ 4096 → exec .snapshotTaken s =
        .next { s with dst := { s.dst with trig := rest, log := s.dst.log ++ es } }) ∧
      (4096 < s.dst.log.length + es.length → ∃ t, exec .snapshotTaken s = .next t ∧
        t.dst = { s.dst with trig := rest } ∧ t.rawF DST_STATUS_LOG_FULL 0 0 0 = 1 ∧ 6 ∈ t.quo.pba)))

/-- Configuration writes bit by bit, the power state, Bus Master, and Unsupported Requests (R383, R384, R386, R387,
R389, R398, R399). With no FLR in progress, a configuration write sets, in the dword it addresses, the writable bits
that its byte enables cover to its data, clears the write-one bits it writes 1, and keeps every other bit and dword
(dword 17, and a write that initiates an FLR, apart; which bits are writable or cleared where the spec leaves them to
the PCI Express Base Specification is the model's choice, log 3). The power state takes D0 and D3hot and no other (the
model's choice, log 44). Bus Master cleared ends an image operation with 7 and a drain with 2 and quarantines every tag.
During an FLR a configuration write does nothing. A malformed request sets MALFORMED, one that R389 does not support
UR_SENT, any other nothing; none contains the Quoin (that a malformed one does not is the model's choice, log 170). -/
def Obligations.QuoinConfiguration : Prop :=
  (∀ (off data bytes : Nat) (s : State), s.cold = false → s.quo.flr = none →
    (∀ i, s.quo.img = some i → i.kind < 2) →
    let n := off / 4 % 1024
    n ≠ 17 → (n = 30 → bytes.testBit 1 = true → data.testBit 15 = false) →
    ∃ t, exec (.configWrite off data bytes) s = .next t ∧
      (∀ i, i < 32 → (t.cfgWord n).testBit i =
        if bytes.testBit (i / 8) && (cfgMask n).testBit i then data.testBit i
        else (s.cfgWord n).testBit i && !(bytes.testBit (i / 8) && (cfgClear n).testBit i && data.testBit i)) ∧
      ∀ k, k ≠ n → t.cfgWord k = s.cfgWord k) ∧
  (∀ (off data bytes x : Nat) (s : State), s.cold = false → s.quo.flr = some x →
    exec (.configWrite off data bytes) s = .next s) ∧
  (∀ (d : Nat) (s : State), s.cold = false → s.quo.flr = none → d < 4 →
    ∃ t, exec (.powerStateChange d) s = .next t ∧
      t.powerState = if d = 0 ∨ d = 3 then d else s.powerState) ∧
  (∀ s : State, s.cold = false → s.quo.flr = none →
    ∃ t, exec .busMasterDisable s = .next t ∧ t.busMaster = false ∧
      (s.busMaster = true → t.quo.img = none ∧ t.quo.drain = none ∧ (∀ e ∈ t.quo.tags, e.2.quar = true) ∧
        (∀ i, s.quo.img = some i → i.kind < 2 → t.rawF MAS_IMG_STATUS_RESULT i.kind 0 0 = 7) ∧
        (∀ d, s.quo.drain = some d → t.quo.drainStatus = (2, d.done)))) ∧
  (∀ (x : InTlp) (s : State), s.cold = false →
    (x.malformed = false → s.unsupported x = false → exec (.unsupportedRequest x) s = .next s) ∧
    (x.malformed = true → ∃ t, exec (.unsupportedRequest x) s = .next t ∧ t.rawF QUO_ERR_MALFORMED 0 0 0 = 1 ∧
      t.reqs = s.reqs ∧ t.quo.st = s.quo.st) ∧
    (x.malformed = false → s.unsupported x = true → ∃ t, exec (.unsupportedRequest x) s = .next t ∧ t.rawF QUO_ERR_UR_SENT 0 0 0 = 1 ∧
      t.reqs = s.reqs ∧ t.quo.st = s.quo.st))

/-- Poison, bad completions, timeouts, release and FLR (R385, R386, R389, R396, R397, R398, R399, R401). A poisoned
write, a poisoned or unexpected completion, or a timed-out read takes the Quoin from NORMAL to CONTAINED with its bit
and cause, export off, drain and image operation ended, every tag quarantined; in the MCLK cycle of the trigger that
contained it, a second sets its bit too, a tag quarantined by the first being no hindrance, and the lower cause stands;
later the cause stays. A good completion, and any of a quarantined tag, frees its tag. RELEASE leads to NORMAL once no
tag is quarantined, waiting until then. While CONTAINED, a host write of any other register is discarded; in D3hot, an
FLR, or with Memory Space Enable 0 it is a UR. FLR begins once, ends outbound work, and completes with the function at
reset once every tag is free. (That errors are recorded while CONTAINED is the model's choice, log 40; that the MSI-X
table is as after cold reset then, log 148.) -/
def Obligations.QuoinContainment : Prop :=
  (∀ s : State, s.cold = false → (∀ i, s.quo.img = some i → i.kind < 2) →
    (∀ same, ∃ t, exec (.poisonedWriteRx same) s = .next t ∧ t.rawF QUO_ERR_POISON_RX 0 0 0 = 1 ∧
      (s.quo.st = 0 → t.quo.st = 1 ∧ t.quo.cause = 1 ∧ t.rawF QUO_EXPORT_CTL_EN 0 0 0 = 0 ∧ t.quo.drain = none ∧
        t.quo.img = none ∧ 10 ∈ t.quo.pba ∧ ∀ e ∈ t.quo.tags, e.2.quar = true) ∧
      (s.quo.st ≠ 0 → t.quo.st = s.quo.st ∧
        t.quo.cause = if s.coincides same then min s.quo.cause 1 else s.quo.cause)) ∧
    (∀ tag t0 good same, Tbl.find s.quo.tags tag = some t0 → t0.quar = false → s.busMaster = true →
      (s.quo.img = none → s.quo.st = 0 → ∃ t, exec (.quoCompletionRx tag good false false same) s = .next t ∧
        Tbl.find t.quo.tags tag = none ∧ t.quo.st = 0 ∧ t.regs = s.regs) ∧
      (s.quo.st = 0 → ∃ t, exec (.quoCompletionRx tag good true false same) s = .next t ∧ t.quo.st = 1 ∧
        t.quo.cause = 2 ∧ t.rawF QUO_ERR_POISON_RX 0 0 0 = 1) ∧
      (s.quo.st = 0 → t0.ends ≤ s.uptime → ∃ t, exec (.quoCplTimeout tag same) s = .next t ∧ t.quo.st = 1 ∧
        t.quo.cause = 3 ∧ t.rawF QUO_ERR_CPL_TIMEOUT 0 0 0 = 1 ∧ Tbl.find t.quo.tags tag = none) ∧
      (s.uptime < t0.ends → exec (.quoCplTimeout tag same) s = .next s)) ∧
    (∀ tag t0 good x out, Tbl.find s.quo.tags tag = some t0 → s.coincides true = true → s.busMaster = true →
      s.quo.entry = some (x, out) → tag ∈ out →
      (∃ t, exec (.quoCompletionRx tag good true false true) s = .next t ∧ t.quo.cause = min s.quo.cause 2 ∧
        t.rawF QUO_ERR_POISON_RX 0 0 0 = 1 ∧ Tbl.find t.quo.tags tag = none) ∧
      (t0.ends ≤ s.uptime → ∃ t, exec (.quoCplTimeout tag true) s = .next t ∧ t.quo.cause = min s.quo.cause 3 ∧
        t.rawF QUO_ERR_CPL_TIMEOUT 0 0 0 = 1 ∧ Tbl.find t.quo.tags tag = none)) ∧
    (∀ tag t0 good poisoned malformed same, Tbl.find s.quo.tags tag = some t0 → s.tagQuar tag t0 same = true →
      ∃ t, exec (.quoCompletionRx tag good poisoned malformed same) s = .next t ∧ Tbl.find t.quo.tags tag = none ∧
        t.regs = s.regs) ∧
    (∀ tag good, Tbl.find s.quo.tags tag = none → s.busMaster = true → s.quo.flr = none → s.quo.st = 0 →
      ∃ t, exec (.quoCompletionRx tag good false false) s = .next t ∧ t.quo.st = 1 ∧ t.quo.cause = 5 ∧
        t.rawF QUO_ERR_UNEXP_CPL 0 0 0 = 1)) ∧
  (∀ s : State, s.cold = false → s.bar0Off = false →
    (s.quo.st = 1 → s.quarTags = 0 → exec .quoRelease s = .next { s with quo := { s.quo with st := 0, cause := 0 } }) ∧
    (s.quo.st = 1 → s.quarTags ≠ 0 → exec .quoRelease s = .next { s with quo := { s.quo with st := 2 } }) ∧
    (s.quo.st ≠ 1 → exec .quoRelease s = .next s) ∧
    (s.quo.st ≠ 0 → ∀ off w, off / 8 * 8 ≠ QUO_RELEASE.base → exec (.registerWrite off w) s = .next s)) ∧
  (∀ s : State, s.cold = false → s.bar0Off = true →
    (∃ t, exec .quoRelease s = .next t ∧ t.rawF QUO_ERR_UR_SENT 0 0 0 = 1 ∧ t.quo.st = s.quo.st) ∧
    ∀ off w, ∃ t, exec (.registerWrite off w) s = .next t ∧ t.rawF QUO_ERR_UR_SENT 0 0 0 = 1 ∧ t.chans = s.chans ∧
      t.ports = s.ports ∧ t.masons = s.masons) ∧
  (∀ s : State, s.cold = false → (∀ i, s.quo.img = some i → i.kind < 2) → s.build ≤ 24 →
    (∀ x, s.quo.flr = some x → exec .flrInitiate s = .next s) ∧
    (s.quo.flr = none → ∃ t, exec .flrInitiate s = .next t ∧ t.quo.flr = some s.uptime ∧ t.quo.drain = none ∧
      t.quo.img = none ∧ t.rawF QUO_EXPORT_CTL_EN 0 0 0 = 0 ∧
      (∀ e ∈ t.quo.tags, e.2.quar = true ∧ e.2.ends ≤ s.uptime + 32000000) ∧
      ∀ c, c < s.build → (s.chan c).mntHolder = some 204 → (t.chan c).mntHolder = none ∧
        t.rawF KEY_MNT_CTRL_LOST c 0 0 = 1) ∧
    (s.quo.tags ≠ [] → exec .flrComplete s = .next s) ∧
    (∀ x, s.quo.flr = some x → s.quo.tags = [] → ∃ t, exec .flrComplete s = .next t ∧ t.quo.flr = none ∧
      t.quo.cfg = [] ∧ t.quo.msix = [] ∧ t.quo.pba = [] ∧ t.quo.st = 0 ∧ t.quo.drainStatus = (0, 0) ∧
      t.rawF QUO_EXPORT_CTL_EN 0 0 0 = 0 ∧ t.rawF QUO_ERR_UR_SENT 0 0 0 = 0 ∧ t.chans = s.chans))

/-- Drains, exported records and MSI-X messages (R390, R391, R392, R393, R395). GO starts a drain of the programmed
region, item and count; while one runs it sets DRAIN_BUSY, without Bus Master it leaves status 2 without a drain, with
tags quarantined it does nothing (the two the model's choices, log 42). The end of a drain, the Quoin allowed outbound,
leaves status 1 with all items done, vector 7, and its completion record, with the instant of its last item, as the last
write (which instant that of a drain of no items holds the spec leaves open, log 42). A record that can be exported is
written to its slot with the producer index, released, and raises vector 8; the index skips records that the host has
released (the model's choice, log 43). A message of a pending, unmasked vector is one write of its address and data, and
clears its pending bit. -/
def Obligations.QuoinOutbound : Prop :=
  (∀ s : State, s.serves →
    (s.quo.drain.isSome = true → ∃ t, exec .drainStart s = .next t ∧ t.rawF QUO_ERR_DRAIN_BUSY 0 0 0 = 1 ∧
      s.onlyRegs t [QUO_ERR_DRAIN_BUSY.key 0 0 0]) ∧
    (s.quo.drain = none → s.quarTags ≠ 0 → exec .drainStart s = .next s) ∧
    (s.quo.drain = none → s.quarTags = 0 → s.busMaster = false →
      exec .drainStart s = .next { s with quo := { s.quo with drainStatus := (2, 0) } }) ∧
    (s.quo.drain = none → s.quarTags = 0 → s.busMaster = true → ∃ d, exec .drainStart s =
      .next { s with quo := { s.quo with drain := some d } } ∧ d.region = s.rawF QUO_DRAIN_CTL_REGION 0 0 0 ∧
      d.start = s.rawF QUO_DRAIN_CTL_START 0 0 0 ∧ d.count = s.rawF QUO_DRAIN_CTL_COUNT 0 0 0 ∧ d.done = 0)) ∧
  (∀ s : State, s.cold = false →
    (s.quo.drain = none ∨ s.quoOut = false → exec .drainComplete s = .next s) ∧
    (∀ d, s.quo.drain = some d → s.quoOut = true → d.done ≤ d.count → ∃ t, exec .drainComplete s = .next t ∧
      t.quo.drain = none ∧ t.quo.drainStatus = (1, d.count) ∧ 7 ∈ t.quo.pba ∧ t.regs = s.regs ∧
      let time := if d.done < d.count then s.uptime else d.time
      (d.count ≠ 0 → t.quo.out.getLast? = some ⟨64 * s.rawF QUO_DRAIN_CPL_ADDR 0 0 0,
        [time % 2 ^ 32, time / 2 ^ 32, d.count, 1], false⟩)) ∧
    (s.exportReady = false → exec .exportRecord s = .next s) ∧
    (s.exportReady = true → ∃ t w, exec .exportRecord s = .next t ∧
      let n := s.exportAt
      let size := 2 ^ (s.rawF QUO_EXPORT_CTL_SIZE 0 0 0 + 8)
      t.quo.nextExport = n + 1 ∧ t.rawF PLB_TAG_RD_RD 0 0 0 = (n + 1) % 2048 ∧ 8 ∈ t.quo.pba ∧
      t.quo.out = [w, ⟨8 * s.rawF QUO_EXPORT_CTL_PI_ADDR 0 0 0, [(n + 1) % 2 ^ 32, (n + 1) / 2 ^ 32 % 2 ^ 32], false⟩] ∧
      w.addr = 64 * (s.rawF QUO_EXPORT_BASE_BASE 0 0 0 + n % size) ∧ w.words.length = 16) ∧
    (∀ v, s.msixReady v = false → exec (.msixSend v) s = .next s) ∧
    (∀ v, s.msixReady v = true → ∃ t, exec (.msixSend v) s = .next t ∧ (∀ k, k ∈ t.quo.pba ↔ k ∈ s.quo.pba ∧ k ≠ v) ∧
      t.quo.out = [⟨s.msixWord (4 * v) / 4 * 4 + s.msixWord (4 * v + 1) * 2 ^ 32, [s.msixWord (4 * v + 2)], false⟩] ∧
      t = { s with quo := t.quo }))

/-- Plain fields, expert fields, write-one-to-clear bits, reserved offsets, and the expert bits (R7, R15, R18, R389,
R417, R420, R421). A host write of a plain read-write register sets each of its fields to the written bits where the
write covers it, and changes no other register; of an instance of an expert register, those of an expert register with
effects of its own apart, it does so where the function's bit of BLK_EXPERT_EN is 1, and nothing where it is 0; of
QUO_ERR it clears exactly the bits written 1; at any offset that holds no register, Mason store, item port or vector of
the MSI-X table, or of the KEY_CLASS of a requester that the build lacks (R7), it changes nothing. A write of
BLK_EXPERT_EN leaves each expert bit as written where covered; a function whose bit falls loses its expert values. -/
def Obligations.RegisterWrites : Prop :=
  (∀ e ∈ plainRegs, ∀ (w : RegW) (s : State), s.serves → ∃ t, exec (.registerWrite e.1.base w) s = .next t ∧
    s.onlyRegs t (e.2.map (fun f => f.key 0 0 0)) ∧
    ∀ f ∈ e.2, t.rawF f 0 0 0 = if w.covers f then w.merge f (s.rawF f 0 0 0) % 2 ^ f.width else s.rawF f 0 0 0) ∧
  (∀ (w : RegW) (s : State), s.serves → ∃ t, exec (.registerWrite QUO_ERR.base w) s = .next t ∧
    s.onlyRegs t ([QUO_ERR_DRAIN_BUSY, QUO_ERR_UR_SENT, QUO_ERR_UNEXP_CPL, QUO_ERR_MALFORMED, QUO_ERR_CPL_TIMEOUT,
      QUO_ERR_POISON_RX].map (fun f => f.key 0 0 0)) ∧
    ∀ f ∈ [QUO_ERR_DRAIN_BUSY, QUO_ERR_UR_SENT, QUO_ERR_UNEXP_CPL, QUO_ERR_MALFORMED, QUO_ERR_CPL_TIMEOUT,
      QUO_ERR_POISON_RX], s.rawF f 0 0 0 ≤ 1 →
      t.rawF f 0 0 0 = if w.lo = true ∧ w.val.getLsbD f.lo = true then 0 else s.rawF f 0 0 0) ∧
  (∀ e ∈ expertRegs, ∀ (i : Nat) (w : RegW) (s : State), s.serves → i < e.1.n0 → s.hasUnit e.1.base i = true →
    ((∀ f ∈ e.2, s.expert f.fn = false) → exec (.registerWrite (e.1.off i 0 0) w) s = .next s) ∧
    ((∀ f ∈ e.2, s.expert f.fn = true) → ∃ t, exec (.registerWrite (e.1.off i 0 0) w) s = .next t ∧
      t = { s with xregs := t.xregs } ∧
      (∀ k, k ∉ e.2.map (fun f => f.key i 0 0) → Tbl.find t.xregs k = Tbl.find s.xregs k) ∧
      ∀ f ∈ e.2, t.fld f i 0 0 =
        if w.covers f then w.merge f (s.fld f i 0 0) % 2 ^ f.width else s.fld f i 0 0)) ∧
  (∀ (off : Nat) (w : RegW) (s : State), s.serves →
    let o := off / 8 * 8
    regAt o = none → ¬ (0x2000000 ≤ o ∧ o < 0x2C00000 ∧ o % 0x10000 < 0xC000) →
    ¬ (0x3000000 ≤ o ∧ o < 0x31C0000 ∧ o % 0x1000 < 0x20) → ¬ (0x3E00000 ≤ o ∧ o < 0x3E00800) →
    exec (.registerWrite off w) s = .next s) ∧
  (∀ (i : Nat) (w : RegW) (s : State), s.serves → i < 253 → s.hasRequester i = false →
    exec (.registerWrite (KEY_CLASS.off i 0 0) w) s = .next s) ∧
  (∀ (w : RegW) (s : State), s.serves → ∃ t, exec (.expertEnWrite w) s = .next t ∧
    ∀ fn, fn < 16 → t.expert fn = (w.merge BLK_EXPERT_EN_EN (s.rawF BLK_EXPERT_EN_EN 0 0 0)).testBit fn ∧
      (s.expert fn = true → t.expert fn = false → ∀ f ∈ gatedBy fn, ∀ i j k,
        (f.reg.at (f.reg.off i j k)).isSome = true → Tbl.find t.xregs (f.key i j k) = none))

/-- Clock faults, the loss of a PLL, and channel reset (R32, R33, R34, R35, R69, R73, R336, R410). A CLOCK_FAULT of MCLK
asserts the fatal output, once. Of HCLKn, where it stops, it fences a port n that is not closed, which then awaits
nothing and holds no request of its own; where it runs out of range, it fences the port under R65, once, so that what
was not issued is answered FENCED; a closed port only notes the instant, a stop that lasts acting at the first fault
after it opens. (One report for each excursion is the model's choice, log 35, and so is when the clock counts as back,
log 36.) Of PCLKx it takes the link of port x down. PLL_LOSS_OF_LOCK of a running PLL sets PLL_LOCK, fences the channel
and loses its DRAM contents, no other channel's; in step 2 or 4 of a channel reset it makes that reset skip the rest of
step 4, the channel UNTRAINED (for step 4 the model's choice, log 163). CHANNEL_RESET answers FENCED what was not yet
issued to the channel; one UNTRAINED, FAILED or without lock has its logic reset at once, its fence lifted, and is
UNTRAINED where lock was lost; a TRAINED one begins self-refresh, its path to be taken at step 3. CHANNEL_RESET_DONE
ends the reset after its last step. In any other condition each changes nothing. -/
def Obligations.ClocksAndChannelReset : Prop :=
  (∀ (d : Nat) (stopped : Bool) (s : State), s.cold = false →
    (15 ≤ d ∨ d ∈ s.clkBad ∧ (d = 0 ∨ 13 ≤ d) → exec (.clockFault d stopped) s = .next s) ∧
    (d = 0 → d ∉ s.clkBad → ∃ t, exec (.clockFault d stopped) s = .next t ∧ t.fatal = true ∧ t.clkBad = 0 :: s.clkBad ∧
      t = { s with fatal := t.fatal, clkBad := t.clkBad, but := t.but, pln := t.pln, regs := t.regs }) ∧
    (∀ n, n < 12 → d = 1 + n →
      ((s.port n).st = 0 → ∃ t, exec (.clockFault d stopped) s = .next t ∧
        t.port n = { s.port n with clkSince := s.uptime, stopped := (s.port n).stopped || stopped } ∧ (∀ k, k ≠ n → t.port k = s.port k) ∧
        t = { s with ports := t.ports }) ∧
      ((s.port n).st ≠ 0 → (s.port n).abandoned = false → stopped = true →
        ∃ u : State, exec (.clockFault d stopped) s = .next u.settle ∧ (u.port n).st = 3 ∧ (u.port n).stopped = true ∧
        (u.port n).abandoned = true ∧ (u.port n).clkOk = false ∧ (u.port n).awaits = [] ∧ d ∈ u.clkBad ∧ (∀ q ∈ u.reqs, q.src ≠ .port n) ∧
        ∀ k, k ≠ n → u.port k = s.port k) ∧
      ((s.port n).st ≠ 0 → d ∉ s.clkBad → stopped = false →
        ∃ u : State, exec (.clockFault d stopped) s = .next u.settle ∧ (u.port n).st = 3 ∧ (u.port n).clkOk = false ∧
        d ∈ u.clkBad ∧ (∀ k, k ≠ n → u.port k = s.port k) ∧
        ∀ r, s.req r.rid = some r → r.src = .port n → r.status = none → r.op ≠ .flush → r.stage ≠ .issued →
          r.inStore = false → r.performed = false → (u.req r.rid).map Req.status = some (some .fenced)) ∧
      ((s.port n).st ≠ 0 → d ∈ s.clkBad → (stopped = true → (s.port n).abandoned = true) → ∃ t, exec (.clockFault d stopped) s = .next t ∧
        t.reqs = s.reqs ∧ (t.port n).st = (s.port n).st ∧ (t.port n).clkOk = false ∧ t.clkBad = s.clkBad)) ∧
    (∀ p, p < 2 → d = 13 + p →
      (p ∉ s.bnd.link → exec (.clockFault d stopped) s = .next s) ∧
      (p ∈ s.bnd.link → p ∉ s.bnd.held → d ∉ s.clkBad → ∃ t, exec (.clockFault d stopped) s = .next t ∧ p ∉ t.bnd.link ∧
        d ∈ t.clkBad ∧ (∀ n, n < 64 → Tbl.find t.bnd.nbr (64 * p + n) = none) ∧ t.bnd.lsaDue = true ∧
        (t.rawF BND_ERR_BITS p 0 0).testBit 6 = true))) ∧
  (∀ (c : Nat) (s : State), s.cold = false →
    (s.pllRuns c = false → exec (.pllLossOfLock c) s = .next s) ∧
    (s.pllRuns c = true → (s.chan c).rstStep = 1 ∨ (s.chan c).rstStep = 2 → ∃ u : State,
      exec (.pllLossOfLock c) s = .next u.settle.bootCheck ∧ (u.chan c).pllLost = false ∧ (u.chan c).rstStep = 3 ∧
      u.scrState c = 0 ∧ ∀ k, Tbl.find u.dram k = if k / 2 ^ 48 = c then none else Tbl.find s.dram k) ∧
    (s.pllRuns c = true → (s.chan c).rstStep ≠ 1 → (s.chan c).rstStep ≠ 2 → ∃ u : State,
      exec (.pllLossOfLock c) s = .next u.settle.bootCheck ∧ (u.chan c).pllLost = true ∧
      (u.chan c).fenced = true ∧ (u.chan c).tim.bursts = [] ∧ u.rawF SCR_ERR_PLL_LOCK c 0 0 = 1 ∧
      ∀ k, Tbl.find u.dram k = if k / 2 ^ 48 = c then none else Tbl.find s.dram k)) ∧
  (∀ (mask : Nat) (s : State), s.serves →
    (∀ c, c < s.build → mask.testBit c = true → s.resetTaken c = false) → exec (.channelReset mask) s = .next s) ∧
  (∀ (mask c : Nat) (s : State), s.serves → mask.testBit c = true → s.resetTaken c = true →
    (∀ k, k < s.build → k ≠ c → mask.testBit k = false) → (s.chan c).scr.run = 0 →
    ((s.chan c).pllLost = true ∨ s.isTrained c = false → ∃ u : State,
      exec (.channelReset mask) s = .next u.settle.bootCheck ∧
      (u.chan c).rstStep = 3 ∧ (u.chan c).fenced = false ∧ (u.chan c).pllLost = false ∧
      (u.chan c).tim.chkOpen = [] ∧ u.scrState c = (if (s.chan c).pllLost then 0 else s.scrState c) ∧
      ∀ r n, s.req r.rid = some r → r.src = .port n → r.onChan c = true → r.hasEntry = true → r.status = none →
        r.begun = false → (u.req r.rid).map Req.status = some (some .fenced)) ∧
    ((s.chan c).pllLost = false → s.isTrained c = true → s.lpState c = 0 →
      (∃ k ∈ s.physUnits c, k ∉ (s.chan c).pnt.sr) → ∃ u : State,
      exec (.channelReset mask) s = .next u.settle.bootCheck ∧
      (u.chan c).rstStep = 1 ∧ u.lpState c = 1 ∧ (u.chan c).pnt.srWhy = 4 ∧ (u.chan c).pnt.srStep = 1 ∧
      u.scrState c = s.scrState c ∧
      ∀ r n, s.req r.rid = some r → r.src = .port n → r.onChan c = true → r.hasEntry = true → r.status = none →
        r.begun = false → (u.req r.rid).map Req.status = some (some .fenced))) ∧
  (∀ (c : Nat) (s : State), s.cold = false → s.hasChan c = true →
    ((s.chan c).rstStep = 3 ∨ (s.chan c).rstStep = 2 ∧ s.lpState c = 0 ∧ (s.chan c).scr.run = 0 →
      ∃ u : State, exec (.channelResetDone c) s = .next u.settle.bootCheck ∧ u.chan c = { s.chan c with rstStep := 0 } ∧
        (∀ k, k ≠ c → u.chan k = s.chan k) ∧ u = { s with chans := u.chans }) ∧
    ((s.chan c).rstStep < 2 ∨ (s.chan c).rstStep = 2 ∧ (s.lpState c ≠ 0 ∨ (s.chan c).scr.run ≠ 0) →
      exec (.channelResetDone c) s = .next s))
end

