-- ==== Sys2Proof/Laws/Core.lean ====
section
/-! SUPPORT. The core of the state: how it reads through a record, a conditional, a fold and an option. -/

set_option Elab.async false
set_option linter.unusedSimpArgs false
set_option linter.unusedVariables false
set_option linter.unusedTactic false
set_option linter.unreachableTactic false

namespace Sys2Proof.Machine
@[simp] theorem core_eta (s : State) : (s.build, s.pair, s.cold, s.warm, s.warmAt, s.warmSafe, s.rclkLost, s.straps, s.uptime, s.pending) = s.core := rfl
@[simp] theorem core_mk (build pair cold warm warmAt warmSafe fatal straps uptime rclkLost clkBad regs xregs frozen ports reqs xbar nextRid chans
   dram but plb dst pln masons imgs dbgOut hods popNext hodOut key bnd quo pending) :
   (State.mk build pair cold warm warmAt warmSafe fatal straps uptime rclkLost clkBad regs xregs frozen ports reqs xbar nextRid chans
   dram but plb dst pln masons imgs dbgOut hods popNext hodOut key bnd quo pending).core = (build, pair, cold, warm, warmAt, warmSafe, rclkLost, straps, uptime, pending) := by simp only [State.core]
@[simp] theorem core_ite (c : Prop) [Decidable c] (a b : State) : (if c then a else b).core = if c then a.core else b.core := by
  split <;> rfl
@[simp] theorem core_foldl {α : Type} (f : State → α → State) (l : List α) (s : State) (h : ∀ t x, (f t x).core = t.core) :
    (l.foldl f s).core = s.core := by
  induction l generalizing s with
  | nil => rfl
  | cons x l ih => rw [List.foldl_cons, ih, h]
@[simp] theorem core_foldl_pair {α β : Type} (f : State × β → α → State × β) (l : List α) (a : State × β)
    (h : ∀ t x, (f t x).1.core = t.1.core) : (l.foldl f a).1.core = a.1.core := by
  induction l generalizing a with
  | nil => rfl
  | cons x l ih => rw [List.foldl_cons, ih, h]
@[simp] theorem core_elim {α : Type} (o : Option α) (s : State) (f : α → State) (h : ∀ x, (f x).core = s.core) :
    (o.elim s f).core = s.core := by cases o <;> simp [h]
theorem core_opt_ite {c : Nat × Bool × Bool × Nat × Nat × Bool × Bool × Straps × Nat × List Instr} {p : Prop} [Decidable p] {a b : Option State}
    (ha : ∀ t, a = some t → t.core = c) (hb : ∀ t, b = some t → t.core = c) :
    ∀ t, (if p then a else b) = some t → t.core = c := by split <;> assumption
theorem core_opt_some {c : Nat × Bool × Bool × Nat × Nat × Bool × Bool × Straps × Nat × List Instr} {s : State} (h : s.core = c) :
    ∀ t, some s = some t → t.core = c := by rintro t ⟨⟩; exact h
theorem core_opt_none {c : Nat × Bool × Bool × Nat × Nat × Bool × Bool × Straps × Nat × List Instr} :
    ∀ t, (none : Option State) = some t → t.core = c := by rintro t ⟨⟩
end Sys2Proof.Machine
end

