-- ==== Sys2Proof/Laws/CoreShared.lean ====
section
/-! SUPPORT. The core of the state: what the shared operations keep. Each lemma says that an operation
leaves the build, the pair, cold reset, the straps, the uptime and the queue of commands as they were. -/

set_option Elab.async false
set_option linter.unusedSimpArgs false
set_option linter.unusedVariables false
set_option linter.unusedTactic false
set_option linter.unreachableTactic false

namespace Sys2Proof.Machine

/-! Operations of Ops. -/

@[simp] theorem State.live_core (s : State) (f : State → State) (hf : ∀ t, (f t).core = t.core) : (State.live s f).core = s.core := by
  unfold State.live
  try simp [hf]
  all_goals (repeat' (first | (apply core_foldl; intro t x; try simp [hf]) | (apply core_foldl_pair; intro t x; try simp [hf]) | (split <;> (try simp [hf])) | (simp_all; done)))

@[simp] theorem State.whenTrue_core (s : State) (c : Bool) (f : State → State) (hf : ∀ t, (f t).core = t.core) : (State.whenTrue s c f).core = s.core := by
  unfold State.whenTrue
  try simp [hf]
  all_goals (repeat' (first | (apply core_foldl; intro t x; try simp [hf]) | (apply core_foldl_pair; intro t x; try simp [hf]) | (split <;> (try simp [hf])) | (simp_all; done)))

@[simp] theorem State.setPort_core (s : State) (n : Nat) (p : PortSt) : (State.setPort s n p).core = s.core := by
  unfold State.setPort
  try simp
  all_goals (repeat' (first | (apply core_foldl; intro t x; try simp) | (apply core_foldl_pair; intro t x; try simp) | (split <;> (try simp)) | (simp_all; done)))

@[simp] theorem State.setChan_core (s : State) (c : Nat) (x : Chan) : (State.setChan s c x).core = s.core := by
  unfold State.setChan
  try simp
  all_goals (repeat' (first | (apply core_foldl; intro t x; try simp) | (apply core_foldl_pair; intro t x; try simp) | (split <;> (try simp)) | (simp_all; done)))

@[simp] theorem State.modChan_core (s : State) (c : Nat) (f : Chan → Chan) : (State.modChan s c f).core = s.core := by
  unfold State.modChan
  try simp
  all_goals (repeat' (first | (apply core_foldl; intro t x; try simp) | (apply core_foldl_pair; intro t x; try simp) | (split <;> (try simp)) | (simp_all; done)))

@[simp] theorem State.setMason_core (s : State) (m : Nat) (x : Mason) : (State.setMason s m x).core = s.core := by
  unfold State.setMason
  try simp
  all_goals (repeat' (first | (apply core_foldl; intro t x; try simp) | (apply core_foldl_pair; intro t x; try simp) | (split <;> (try simp)) | (simp_all; done)))

@[simp] theorem State.modMason_core (s : State) (m : Nat) (f : Mason → Mason) : (State.modMason s m f).core = s.core := by
  unfold State.modMason
  try simp
  all_goals (repeat' (first | (apply core_foldl; intro t x; try simp) | (apply core_foldl_pair; intro t x; try simp) | (split <;> (try simp)) | (simp_all; done)))

@[simp] theorem State.setHod_core (s : State) (h : Nat) (x : Hod) : (State.setHod s h x).core = s.core := by
  unfold State.setHod
  try simp
  all_goals (repeat' (first | (apply core_foldl; intro t x; try simp) | (apply core_foldl_pair; intro t x; try simp) | (split <;> (try simp)) | (simp_all; done)))

@[simp] theorem State.modReq_core (s : State) (rid : Nat) (f : Req → Req) : (State.modReq s rid f).core = s.core := by
  unfold State.modReq
  try simp
  all_goals (repeat' (first | (apply core_foldl; intro t x; try simp) | (apply core_foldl_pair; intro t x; try simp) | (split <;> (try simp)) | (simp_all; done)))

@[simp] theorem State.dropReq_core (s : State) (rid : Nat) : (State.dropReq s rid).core = s.core := by
  unfold State.dropReq
  try simp
  all_goals (repeat' (first | (apply core_foldl; intro t x; try simp) | (apply core_foldl_pair; intro t x; try simp) | (split <;> (try simp)) | (simp_all; done)))

@[simp] theorem State.setF_core (s : State) (f : Field) (i j k v : Nat) : (State.setF s f i j k v).core = s.core := by
  unfold State.setF
  try simp
  all_goals (repeat' (first | (apply core_foldl; intro t x; try simp) | (apply core_foldl_pair; intro t x; try simp) | (split <;> (try simp)) | (simp_all; done)))

@[simp] theorem State.setBit_core (s : State) (f : Field) (i j k : Nat) : (State.setBit s f i j k).core = s.core := by
  unfold State.setBit
  try simp
  all_goals (repeat' (first | (apply core_foldl; intro t x; try simp) | (apply core_foldl_pair; intro t x; try simp) | (split <;> (try simp)) | (simp_all; done)))

@[simp] theorem State.setX_core (s : State) (f : Field) (i j k v : Nat) : (State.setX s f i j k v).core = s.core := by
  unfold State.setX
  try simp
  all_goals (repeat' (first | (apply core_foldl; intro t x; try simp) | (apply core_foldl_pair; intro t x; try simp) | (split <;> (try simp)) | (simp_all; done)))

@[simp] theorem State.bumpF_core (s : State) (f : Field) (i j k : Nat) : (State.bumpF s f i j k).core = s.core := by
  unfold State.bumpF
  try simp
  all_goals (repeat' (first | (apply core_foldl; intro t x; try simp) | (apply core_foldl_pair; intro t x; try simp) | (split <;> (try simp)) | (simp_all; done)))

/-! Operations of Flags. -/

@[simp] theorem State.raiseVec_core (s : State) (v : Nat) : (State.raiseVec s v).core = s.core := by
  unfold State.raiseVec
  try simp
  all_goals (repeat' (first | (apply core_foldl; intro t x; try simp) | (apply core_foldl_pair; intro t x; try simp) | (split <;> (try simp)) | (simp_all; done)))

@[simp] theorem State.dstDrop_core (s : State) : (State.dstDrop s).core = s.core := by
  unfold State.dstDrop
  try simp
  all_goals (repeat' (first | (apply core_foldl; intro t x; try simp) | (apply core_foldl_pair; intro t x; try simp) | (split <;> (try simp)) | (simp_all; done)))

@[simp] theorem State.trigger_core (s : State) (code detail : Nat) : (State.trigger s code detail).core = s.core := by
  unfold State.trigger
  try simp
  all_goals (repeat' (first | (apply core_foldl; intro t x; try simp) | (apply core_foldl_pair; intro t x; try simp) | (split <;> (try simp)) | (simp_all; done)))

@[simp] theorem State.dstUpdate_core (s : State) (f : DstSt → DstSt) : (State.dstUpdate s f).core = s.core := by
  unfold State.dstUpdate
  try simp
  all_goals (repeat' (first | (apply core_foldl; intro t x; try simp) | (apply core_foldl_pair; intro t x; try simp) | (split <;> (try simp)) | (simp_all; done)))

@[simp] theorem State.histAdd_core (s : State) (c bin : Nat) : (State.histAdd s c bin).core = s.core := by
  unfold State.histAdd
  try simp
  all_goals (repeat' (first | (apply core_foldl; intro t x; try simp) | (apply core_foldl_pair; intro t x; try simp) | (split <;> (try simp)) | (simp_all; done)))

@[simp] theorem State.extreme_core (s : State) (key : Nat) (least : Bool) (v : Nat) : (State.extreme s key least v).core = s.core := by
  unfold State.extreme
  try simp
  all_goals (repeat' (first | (apply core_foldl; intro t x; try simp) | (apply core_foldl_pair; intro t x; try simp) | (split <;> (try simp)) | (simp_all; done)))

@[simp] theorem State.readLatency_core (s : State) (c v : Nat) : (State.readLatency s c v).core = s.core := by
  unfold State.readLatency
  try simp
  all_goals (repeat' (first | (apply core_foldl; intro t x; try simp) | (apply core_foldl_pair; intro t x; try simp) | (split <;> (try simp)) | (simp_all; done)))

@[simp] theorem State.writeLatency_core (s : State) (c v : Nat) : (State.writeLatency s c v).core = s.core := by
  unfold State.writeLatency
  try simp
  all_goals (repeat' (first | (apply core_foldl; intro t x; try simp) | (apply core_foldl_pair; intro t x; try simp) | (split <;> (try simp)) | (simp_all; done)))

@[simp] theorem State.queueDelay_core (s : State) (c q v : Nat) : (State.queueDelay s c q v).core = s.core := by
  unfold State.queueDelay
  try simp
  all_goals (repeat' (first | (apply core_foldl; intro t x; try simp) | (apply core_foldl_pair; intro t x; try simp) | (split <;> (try simp)) | (simp_all; done)))

@[simp] theorem State.hodDepth_core (s : State) (h n : Nat) : (State.hodDepth s h n).core = s.core := by
  unfold State.hodDepth
  try simp
  all_goals (repeat' (first | (apply core_foldl; intro t x; try simp) | (apply core_foldl_pair; intro t x; try simp) | (split <;> (try simp)) | (simp_all; done)))

@[simp] theorem State.cntPin_core (s : State) (n : Nat) : (State.cntPin s n).core = s.core := rfl

@[simp] theorem State.rclkEdge_core (s : State) (clear : Bool) : (State.rclkEdge s clear).core = s.core := rfl

@[simp] theorem State.addCnt_core (s : State) (k n : Nat) : (State.addCnt s k n).core = s.core := by
  unfold State.addCnt
  try simp
  all_goals (repeat' (first | (apply core_foldl; intro t x; try simp) | (apply core_foldl_pair; intro t x; try simp) | (split <;> (try simp)) | (simp_all; done)))

@[simp] theorem State.countN_core (s : State) (code c : Nat) (e : Ev) (n : Nat) : (State.countN s code c e n).core = s.core := by
  unfold State.countN
  try simp
  all_goals (repeat' (first | (apply core_foldl; intro t x; try simp) | (apply core_foldl_pair; intro t x; try simp) | (split <;> (try simp)) | (simp_all; done)))

@[simp] theorem State.count_core (s : State) (code c : Nat) (e : Ev) : (State.count s code c e).core = s.core := by
  unfold State.count
  try simp
  all_goals (repeat' (first | (apply core_foldl; intro t x; try simp) | (apply core_foldl_pair; intro t x; try simp) | (split <;> (try simp)) | (simp_all; done)))

@[simp] theorem State.sampleTag_core (s : State) (p : Nat) (e : Ev) : (State.sampleTag s p e).1.core = s.core := by
  unfold State.sampleTag
  try simp
  all_goals (repeat' (first | (apply core_foldl; intro t x; try simp) | (apply core_foldl_pair; intro t x; try simp) | (split <;> (try simp)) | (simp_all; done)))

@[simp] theorem State.keepRecord_core (s : State) (ws : List Nat) : (State.keepRecord s ws).core = s.core := by
  unfold State.keepRecord
  try simp
  all_goals (repeat' (first | (apply core_foldl; intro t x; try simp) | (apply core_foldl_pair; intro t x; try simp) | (split <;> (try simp)) | (simp_all; done)))

@[simp] theorem State.tagDone_core (s : State) (r : Req) (aborted : Bool) : (State.tagDone s r aborted).core = s.core := by
  unfold State.tagDone
  try simp
  all_goals (repeat' (first | (apply core_foldl; intro t x; try simp) | (apply core_foldl_pair; intro t x; try simp) | (split <;> (try simp)) | (simp_all; done)))

@[simp] theorem State.report_core (s : State) (src : Nat) (r : Report) : (State.report s src r).core = s.core := by
  unfold State.report
  try simp
  all_goals (repeat' (first | (apply core_foldl; intro t x; try simp) | (apply core_foldl_pair; intro t x; try simp) | (split <;> (try simp)) | (simp_all; done)))

@[simp] theorem State.reportUnit_core (s : State) (src sev access reg kind : Nat) (addr : Option Nat) : (State.reportUnit s src sev access reg kind addr).core = s.core := by
  unfold State.reportUnit
  try simp
  all_goals (repeat' (first | (apply core_foldl; intro t x; try simp) | (apply core_foldl_pair; intro t x; try simp) | (split <;> (try simp)) | (simp_all; done)))

@[simp] theorem State.reportReq_core (s : State) (src sev reg kind : Nat) (r : Req) : (State.reportReq s src sev reg kind r).core = s.core := by
  unfold State.reportReq
  try simp
  all_goals (repeat' (first | (apply core_foldl; intro t x; try simp) | (apply core_foldl_pair; intro t x; try simp) | (split <;> (try simp)) | (simp_all; done)))

@[simp] theorem State.orF_core (s : State) (f : Field) (i j k mask : Nat) : (State.orF s f i j k mask).core = s.core := by
  unfold State.orF
  try simp
  all_goals (repeat' (first | (apply core_foldl; intro t x; try simp) | (apply core_foldl_pair; intro t x; try simp) | (split <;> (try simp)) | (simp_all; done)))

/-! Operations of Bar0. -/

@[simp] theorem State.modQuo_core (s : State) (f : QuoSt → QuoSt) : (State.modQuo s f).core = s.core := by
  unfold State.modQuo
  try simp
  all_goals (repeat' (first | (apply core_foldl; intro t x; try simp) | (apply core_foldl_pair; intro t x; try simp) | (split <;> (try simp)) | (simp_all; done)))

@[simp] theorem State.setCfg_core (s : State) (n v : Nat) : (State.setCfg s n v).core = s.core := by
  unfold State.setCfg
  try simp
  all_goals (repeat' (first | (apply core_foldl; intro t x; try simp) | (apply core_foldl_pair; intro t x; try simp) | (split <;> (try simp)) | (simp_all; done)))

@[simp] theorem State.cfgOr_core (s : State) (n bits : Nat) : (State.cfgOr s n bits).core = s.core := by
  unfold State.cfgOr
  try simp
  all_goals (repeat' (first | (apply core_foldl; intro t x; try simp) | (apply core_foldl_pair; intro t x; try simp) | (split <;> (try simp)) | (simp_all; done)))

@[simp] theorem State.aerFirst_core (s : State) (bit : Nat) (logs : Bool) : (State.aerFirst s bit logs).core = s.core := by
  unfold State.aerFirst
  try simp
  all_goals (repeat' (first | (apply core_foldl; intro t x; try simp) | (apply core_foldl_pair; intro t x; try simp) | (split <;> (try simp)) | (simp_all; done)))

@[simp] theorem State.aerLog_core (s : State) (bit : Nat) (logs : Bool) : (State.aerLog s bit logs).core = s.core := by
  unfold State.aerLog
  try simp
  all_goals (repeat' (first | (apply core_foldl; intro t x; try simp) | (apply core_foldl_pair; intro t x; try simp) | (split <;> (try simp)) | (simp_all; done)))

@[simp] theorem State.aer_core (s : State) (bit : Nat) (adv logs : Bool) : (State.aer s bit adv logs).core = s.core := by
  unfold State.aer
  try simp
  all_goals (repeat' (first | (apply core_foldl; intro t x; try simp) | (apply core_foldl_pair; intro t x; try simp) | (split <;> (try simp)) | (simp_all; done)))

@[simp] theorem State.quoErr_core (s : State) (f : Field) (kind sev aer : Nat) (adv : Bool) (logs : Bool) : (State.quoErr s f kind sev aer adv logs).core = s.core := by
  unfold State.quoErr
  try simp
  all_goals (repeat' (first | (apply core_foldl; intro t x; try simp) | (apply core_foldl_pair; intro t x; try simp) | (split <;> (try simp)) | (simp_all; done)))

@[simp] theorem State.urSent_core (s : State) (posted : Bool) : (State.urSent s posted).core = s.core := by
  unfold State.urSent
  try simp
  all_goals (repeat' (first | (apply core_foldl; intro t x; try simp) | (apply core_foldl_pair; intro t x; try simp) | (split <;> (try simp)) | (simp_all; done)))

@[simp] theorem State.hostWrite_core (s : State) (f : State → State) (hf : ∀ t, (f t).core = t.core) : (State.hostWrite s f).core = s.core := by
  unfold State.hostWrite
  try simp [hf]
  all_goals (repeat' (first | (apply core_foldl; intro t x; try simp [hf]) | (apply core_foldl_pair; intro t x; try simp [hf]) | (split <;> (try simp [hf])) | (simp_all; done)))

@[simp] theorem State.hostRead_core (s : State) (f : State → State) (hf : ∀ t, (f t).core = t.core) : (State.hostRead s f).core = s.core := by
  unfold State.hostRead
  try simp [hf]
  all_goals (repeat' (first | (apply core_foldl; intro t x; try simp [hf]) | (apply core_foldl_pair; intro t x; try simp [hf]) | (split <;> (try simp [hf])) | (simp_all; done)))

@[simp] theorem State.host_core (s : State) (f : State → State) (hf : ∀ t, (f t).core = t.core) : (State.host s f).core = s.core := by
  unfold State.host
  try simp [hf]
  all_goals (repeat' (first | (apply core_foldl; intro t x; try simp [hf]) | (apply core_foldl_pair; intro t x; try simp [hf]) | (split <;> (try simp [hf])) | (simp_all; done)))

@[simp] theorem State.hostRd_core (s : State) (f : State → State) (hf : ∀ t, (f t).core = t.core) : (State.hostRd s f).core = s.core := by
  unfold State.hostRd
  try simp [hf]
  all_goals (repeat' (first | (apply core_foldl; intro t x; try simp [hf]) | (apply core_foldl_pair; intro t x; try simp [hf]) | (split <;> (try simp [hf])) | (simp_all; done)))

/-! Operations of Mapper. -/

@[simp] theorem State.badEntry_core (s : State) (r : Nat) : (State.badEntry s r).core = s.core := by
  unfold State.badEntry
  try simp
  all_goals (repeat' (first | (apply core_foldl; intro t x; try simp) | (apply core_foldl_pair; intro t x; try simp) | (split <;> (try simp)) | (simp_all; done)))

@[simp] theorem State.writeRgnCtl_core (s : State) (r : Nat) (w : RegW) : (State.writeRgnCtl s r w).core = s.core := by
  unfold State.writeRgnCtl
  try simp
  all_goals (repeat' (first | (apply core_foldl; intro t x; try simp) | (apply core_foldl_pair; intro t x; try simp) | (split <;> (try simp)) | (simp_all; done)))

@[simp] theorem State.writeRgnBound_core (s : State) (f : Field) (r : Nat) (w : RegW) : (State.writeRgnBound s f r w).core = s.core := by
  unfold State.writeRgnBound
  try simp
  all_goals (repeat' (first | (apply core_foldl; intro t x; try simp) | (apply core_foldl_pair; intro t x; try simp) | (split <;> (try simp)) | (simp_all; done)))

@[simp] theorem State.writeGeom_core (s : State) (c : Nat) (w : RegW) : (State.writeGeom s c w).core = s.core := by
  unfold State.writeGeom
  try simp
  all_goals (repeat' (first | (apply core_foldl; intro t x; try simp) | (apply core_foldl_pair; intro t x; try simp) | (split <;> (try simp)) | (simp_all; done)))

/-! Operations of Reqs. -/

@[simp] theorem State.storageUpset_core (s : State) (k upset : Nat) (r : Req) : (State.storageUpset s k upset r).core = s.core := by
  unfold State.storageUpset
  try simp
  all_goals (repeat' (first | (apply core_foldl; intro t x; try simp) | (apply core_foldl_pair; intro t x; try simp) | (split <;> (try simp)) | (simp_all; done)))

@[simp] theorem State.newRid_core (s : State) : (State.newRid s).1.core = s.core := by
  unfold State.newRid
  try simp
  all_goals (repeat' (first | (apply core_foldl; intro t x; try simp) | (apply core_foldl_pair; intro t x; try simp) | (split <;> (try simp)) | (simp_all; done)))

@[simp] theorem State.addReq_core (s : State) (r : Req) : (State.addReq s r).core = s.core := by
  unfold State.addReq
  try simp
  all_goals (repeat' (first | (apply core_foldl; intro t x; try simp) | (apply core_foldl_pair; intro t x; try simp) | (split <;> (try simp)) | (simp_all; done)))

@[simp] theorem State.toEnd_core (s : State) (rid : Nat) : (State.toEnd s rid).core = s.core := by
  unfold State.toEnd
  try simp
  all_goals (repeat' (first | (apply core_foldl; intro t x; try simp) | (apply core_foldl_pair; intro t x; try simp) | (split <;> (try simp)) | (simp_all; done)))

@[simp] theorem State.rrHold_core (s : State) (c rid : Nat) : (State.rrHold s c rid).core = s.core := by
  unfold State.rrHold
  try simp
  all_goals (repeat' (first | (apply core_foldl; intro t x; try simp) | (apply core_foldl_pair; intro t x; try simp) | (split <;> (try simp)) | (simp_all; done)))

@[simp] theorem State.rrDrop_core (s : State) (c rid : Nat) : (State.rrDrop s c rid).core = s.core := by
  unfold State.rrDrop
  try simp
  all_goals (repeat' (first | (apply core_foldl; intro t x; try simp) | (apply core_foldl_pair; intro t x; try simp) | (split <;> (try simp)) | (simp_all; done)))

@[simp] theorem State.rrDropAll_core (s : State) (rid : Nat) : (State.rrDropAll s rid).core = s.core := by
  unfold State.rrDropAll
  try simp
  all_goals (repeat' (first | (apply core_foldl; intro t x; try simp) | (apply core_foldl_pair; intro t x; try simp) | (split <;> (try simp)) | (simp_all; done)))

@[simp] theorem State.untag_core (s : State) (rid : Nat) : (State.untag s rid).core = s.core := by
  unfold State.untag
  try simp
  all_goals (repeat' (first | (apply core_foldl; intro t x; try simp) | (apply core_foldl_pair; intro t x; try simp) | (split <;> (try simp)) | (simp_all; done)))

theorem State.reserveReturn_core (s : State) (r : Req) : ∀ t, (State.reserveReturn s r) = some t → t.core = s.core := by
  intro t h
  unfold State.reserveReturn at h
  revert h
  try dsimp only
  repeat' split
  all_goals (intro h; first | (rw [← Option.some.inj h]; simp; done) | (cases h; done) | (cases h; rfl))

@[simp] theorem State.takeTag_core (s : State) (rid n : Nat) : (State.takeTag s rid n).core = s.core := by
  unfold State.takeTag
  split
  · rfl
  · dsimp only
    rename_i tag _
    cases h : (State.req { s with bnd := { s.bnd with tags := Tbl.put s.bnd.tags tag ⟨rid, n, 0, 0, false, false⟩ } } rid).bind
        (State.reserveReturn { s with bnd := { s.bnd with tags := Tbl.put s.bnd.tags tag ⟨rid, n, 0, 0, false, false⟩ } }) with
    | none => simp
    | some u =>
      obtain ⟨r, -, hr⟩ := Option.bind_eq_some_iff.mp h
      simp [State.reserveReturn_core _ _ _ hr]

@[simp] theorem State.alloc_core (s : State) (rid c : Nat) : (State.alloc s rid c).core = s.core := by
  unfold State.alloc
  try simp
  all_goals (repeat' (first | (apply core_foldl; intro t x; try simp) | (apply core_foldl_pair; intro t x; try simp) | (split <;> (try simp)) | (simp_all; done)))

@[simp] theorem State.xbarPass_core (s : State) (out i : Nat) : (State.xbarPass s out i).core = s.core := rfl

@[simp] theorem State.xbarGrants_core (out : Nat) (from' : Req → Nat) (ready : State → Req → Bool) (move : State → Req → State) (x : Nat) (y : State) (hmove : ∀ t a, (move t a).core = t.core) : (State.xbarGrants out from' ready move x y).core = y.core := by
  induction x generalizing y with
  | zero => rfl
  | succ k ih =>
    unfold State.xbarGrants
    split
    · rfl
    · rw [ih]; simp [hmove]

@[simp] theorem State.stageMove_core (s : State) (n : Nat) : (State.stageMove s n).core = s.core := by
  unfold State.stageMove
  try simp
  all_goals (repeat' (first | (apply core_foldl; intro t x; try simp) | (apply core_foldl_pair; intro t x; try simp) | (split <;> (try simp)) | (simp_all; done)))

@[simp] theorem State.classUpset_core (s : State) (k upset access : Nat) (addr : Option Nat) : (State.classUpset s k upset access addr).core = s.core := by
  unfold State.classUpset
  try simp
  all_goals (repeat' (first | (apply core_foldl; intro t x; try simp) | (apply core_foldl_pair; intro t x; try simp) | (split <;> (try simp)) | (simp_all; done)))

@[simp] theorem State.rxReturn_core (s : State) (k n : Nat) : (State.rxReturn s k n).core = s.core := by
  unfold State.rxReturn
  try simp
  all_goals (repeat' (first | (apply core_foldl; intro t x; try simp) | (apply core_foldl_pair; intro t x; try simp) | (split <;> (try simp)) | (simp_all; done)))

@[simp] theorem State.txLeave_core (s : State) (sent : Bool) (e : TxEnt) : (State.txLeave s sent e).core = s.core := by
  unfold State.txLeave
  try simp
  all_goals (repeat' (first | (apply core_foldl; intro t x; try simp) | (apply core_foldl_pair; intro t x; try simp) | (split <;> (try simp)) | (simp_all; done)))

@[simp] theorem State.bondDrain_core (s : State) (p : Nat) : (State.bondDrain s p).core = s.core := by
  unfold State.bondDrain
  try simp
  all_goals (repeat' (first | (apply core_foldl; intro t x; try simp) | (apply core_foldl_pair; intro t x; try simp) | (split <;> (try simp)) | (simp_all; done)))

@[simp] theorem State.bondPut_core (s : State) (p : Nat) (e : TxEnt) : (State.bondPut s p e).core = s.core := by
  unfold State.bondPut
  try simp
  all_goals (repeat' (first | (apply core_foldl; intro t x; try simp) | (apply core_foldl_pair; intro t x; try simp) | (split <;> (try simp)) | (simp_all; done)))

@[simp] theorem State.bondSend_core (s : State) (p : Nat) (m : Msg) : (State.bondSend s p m).core = s.core := by
  unfold State.bondSend
  try simp
  all_goals (repeat' (first | (apply core_foldl; intro t x; try simp) | (apply core_foldl_pair; intro t x; try simp) | (split <;> (try simp)) | (simp_all; done)))

@[simp] theorem State.checkStore_core (s : State) (c : Nat) : (State.checkStore s c).core = s.core := by
  unfold State.checkStore
  try simp
  all_goals (repeat' (first | (apply core_foldl; intro t x; try simp) | (apply core_foldl_pair; intro t x; try simp) | (split <;> (try simp)) | (simp_all; done)))

@[simp] theorem State.releaseStore_core (s : State) (r : Req) : (State.releaseStore s r).core = s.core := by
  unfold State.releaseStore
  try simp
  all_goals (repeat' (first | (apply core_foldl; intro t x; try simp) | (apply core_foldl_pair; intro t x; try simp) | (split <;> (try simp)) | (simp_all; done)))

@[simp] theorem State.leaveBanks_core (s : State) (r : Req) : (State.leaveBanks s r).core = s.core := by
  unfold State.leaveBanks
  try simp
  all_goals (repeat' (first | (apply core_foldl; intro t x; try simp) | (apply core_foldl_pair; intro t x; try simp) | (split <;> (try simp)) | (simp_all; done)))

@[simp] theorem State.patrolLost_core (s : State) (r : Req) : (State.patrolLost s r).core = s.core := by
  unfold State.patrolLost
  try simp
  all_goals (repeat' (first | (apply core_foldl; intro t x; try simp) | (apply core_foldl_pair; intro t x; try simp) | (split <;> (try simp)) | (simp_all; done)))

@[simp] theorem State.fix_core (s : State) (rid : Nat) (st : Status) (data : BitVec 512) : (State.fix s rid st data).core = s.core := by
  unfold State.fix
  try simp
  all_goals (repeat' (first | (apply core_foldl; intro t x; try simp) | (apply core_foldl_pair; intro t x; try simp) | (split <;> (try simp)) | (simp_all; done)))

@[simp] theorem State.fixAll_core (s : State) (p : Req → Bool) (st : Status) : (State.fixAll s p st).core = s.core := by
  unfold State.fixAll
  try simp
  all_goals (repeat' (first | (apply core_foldl; intro t x; try simp) | (apply core_foldl_pair; intro t x; try simp) | (split <;> (try simp)) | (simp_all; done)))

@[simp] theorem State.fenceReqs_core (s : State) (c : Nat) : (State.fenceReqs s c).core = s.core := by
  unfold State.fenceReqs
  try simp
  all_goals (repeat' (first | (apply core_foldl; intro t x; try simp) | (apply core_foldl_pair; intro t x; try simp) | (split <;> (try simp)) | (simp_all; done)))

@[simp] theorem State.fenceChan_core (s : State) (c : Nat) : (State.fenceChan s c).core = s.core := by
  unfold State.fenceChan
  try simp
  all_goals (repeat' (first | (apply core_foldl; intro t x; try simp) | (apply core_foldl_pair; intro t x; try simp) | (split <;> (try simp)) | (simp_all; done)))

@[simp] theorem State.fencePort_core (s : State) (n : Nat) : (State.fencePort s n).core = s.core := by
  unfold State.fencePort
  try simp
  all_goals (repeat' (first | (apply core_foldl; intro t x; try simp) | (apply core_foldl_pair; intro t x; try simp) | (split <;> (try simp)) | (simp_all; done)))

/-! Operations of HodOps. -/

@[simp] theorem State.hodApply_core (s : State) (h : Nat) : (State.hodApply s h).core = s.core := by
  unfold State.hodApply
  try simp
  all_goals (repeat' (first | (apply core_foldl; intro t x; try simp) | (apply core_foldl_pair; intro t x; try simp) | (split <;> (try simp)) | (simp_all; done)))

@[simp] theorem State.hodApplyAll_core (s : State) : (State.hodApplyAll s).core = s.core := by
  unfold State.hodApplyAll
  try simp
  all_goals (repeat' (first | (apply core_foldl; intro t x; try simp) | (apply core_foldl_pair; intro t x; try simp) | (split <;> (try simp)) | (simp_all; done)))

@[simp] theorem State.spillReq_core (s : State) (h idx : Nat) (op : Op) (data : BitVec 512) : (State.spillReq s h idx op data).1.core = s.core := by
  unfold State.spillReq
  try simp
  all_goals (repeat' (first | (apply core_foldl; intro t x; try simp) | (apply core_foldl_pair; intro t x; try simp) | (split <;> (try simp)) | (simp_all; done)))

@[simp] theorem State.hodSpill_core (s : State) (h : Nat) : (State.hodSpill s h).core = s.core := by
  unfold State.hodSpill
  try simp
  all_goals (repeat' (first | (apply core_foldl; intro t x; try simp) | (apply core_foldl_pair; intro t x; try simp) | (split <;> (try simp)) | (simp_all; done)))

@[simp] theorem State.hodRefill_core (s : State) (h : Nat) : (State.hodRefill s h).core = s.core := by
  unfold State.hodRefill
  try simp
  all_goals (repeat' (first | (apply core_foldl; intro t x; try simp) | (apply core_foldl_pair; intro t x; try simp) | (split <;> (try simp)) | (simp_all; done)))

@[simp] theorem State.hodMove_core (s : State) (h : Nat) : (State.hodMove s h).core = s.core := by
  unfold State.hodMove
  try simp
  all_goals (repeat' (first | (apply core_foldl; intro t x; try simp) | (apply core_foldl_pair; intro t x; try simp) | (split <;> (try simp)) | (simp_all; done)))

@[simp] theorem State.hodPtrFault_core (s : State) (h : Nat) : (State.hodPtrFault s h).core = s.core := by
  unfold State.hodPtrFault
  try simp
  all_goals (repeat' (first | (apply core_foldl; intro t x; try simp) | (apply core_foldl_pair; intro t x; try simp) | (split <;> (try simp)) | (simp_all; done)))

@[simp] theorem State.hodPush_core (s : State) (h : Nat) (item : BitVec 256) (bad : Bool) : (State.hodPush s h item bad).1.core = s.core := by
  unfold State.hodPush
  try simp
  all_goals (repeat' (first | (apply core_foldl; intro t x; try simp) | (apply core_foldl_pair; intro t x; try simp) | (split <;> (try simp)) | (simp_all; done)))

@[simp] theorem State.hodWait_core (s : State) (h who : Nat) : (State.hodWait s h who).core = s.core := by
  unfold State.hodWait
  try simp
  all_goals (repeat' (first | (apply core_foldl; intro t x; try simp) | (apply core_foldl_pair; intro t x; try simp) | (split <;> (try simp)) | (simp_all; done)))

@[simp] theorem State.popGrant_core (s : State) (who : Nat) : (State.popGrant s who).core = s.core := by
  unfold State.popGrant
  try simp
  all_goals (repeat' (first | (apply core_foldl; intro t x; try simp) | (apply core_foldl_pair; intro t x; try simp) | (split <;> (try simp)) | (simp_all; done)))

@[simp] theorem State.hodsForget_core (s : State) (who : Nat) : (State.hodsForget s who).core = s.core := by
  unfold State.hodsForget
  try simp
  all_goals (repeat' (first | (apply core_foldl; intro t x; try simp) | (apply core_foldl_pair; intro t x; try simp) | (split <;> (try simp)) | (simp_all; done)))

theorem State.hodPop_core (s : State) (h who : Nat) (bad : Bool) : ∀ t, (State.hodPop s h who bad) = some t → t.1.core = s.core := by
  intro t h
  unfold State.hodPop at h
  revert h
  try dsimp only
  repeat' split
  all_goals (intro h; first | (rw [← Option.some.inj h]; simp; done) | (cases h; done) | (cases h; rfl))

@[simp] theorem State.servePops_core (s : State) : (State.servePops s).core = s.core := by
  unfold State.servePops
  try simp
  all_goals (repeat' (first | (apply core_foldl; intro t x; try simp) | (apply core_foldl_pair; intro t x; try simp) | (split <;> (try simp)) | (simp_all; done) | (intros; have hx := State.hodPop_core _ _ _ _ _ (by assumption); simp_all; done)))

/-! Operations of LockOps. -/

@[simp] theorem State.keyLose_core (s : State) (idx : Nat) : (State.keyLose s idx).1.core = s.core := by
  unfold State.keyLose
  try simp
  all_goals (repeat' (first | (apply core_foldl; intro t x; try simp) | (apply core_foldl_pair; intro t x; try simp) | (split <;> (try simp)) | (simp_all; done)))

@[simp] theorem State.keyWon_core (s : State) (res cls idx : Nat) : (State.keyWon s res cls idx).core = s.core := by
  unfold State.keyWon
  try simp
  all_goals (repeat' (first | (apply core_foldl; intro t x; try simp) | (apply core_foldl_pair; intro t x; try simp) | (split <;> (try simp)) | (simp_all; done)))

@[simp] theorem State.keyLock_core (s : State) (q : KeyReq) : (State.keyLock s q).1.core = s.core := by
  unfold State.keyLock
  dsimp only
  split
  · rfl
  · split
    · generalize h : s.keyLose q.idx = x
      have hc : x.1.core = s.core := by rw [← h]; exact State.keyLose_core ..
      obtain ⟨s1, b⟩ := x
      simp at hc
      simp [hc]
    · split <;> simp

@[simp] theorem State.keyCycle_core (s : State) (qs : List KeyReq) : (State.keyCycle s qs).1.core = s.core := by
  unfold State.keyCycle
  try simp
  all_goals (repeat' (first | (apply core_foldl; intro t x; try simp) | (apply core_foldl_pair; intro t x; try simp) | (split <;> (try simp)) | (simp_all; done)))

@[simp] theorem State.keyAmong_core (s : State) (qs : List KeyReq) (rivals : List KeyAsk) : (State.keyAmong s qs rivals).1.core = s.core := by
  unfold State.keyAmong
  try simp
  all_goals (repeat' (first | (apply core_foldl; intro t x; try simp) | (apply core_foldl_pair; intro t x; try simp) | (split <;> (try simp)) | (simp_all; done)))

@[simp] theorem State.keyAsked_core (s : State) (q : KeyReq) (rivals : List KeyAsk) : (State.keyAsked s q rivals).1.core = s.core := by
  unfold State.keyAsked
  try simp
  all_goals (repeat' (first | (apply core_foldl; intro t x; try simp) | (apply core_foldl_pair; intro t x; try simp) | (split <;> (try simp)) | (simp_all; done)))

@[simp] theorem State.keyUnlock_core (s : State) (kind owner slot : Nat) : (State.keyUnlock s kind owner slot).1.core = s.core := by
  unfold State.keyUnlock
  try simp
  all_goals (repeat' (first | (apply core_foldl; intro t x; try simp) | (apply core_foldl_pair; intro t x; try simp) | (split <;> (try simp)) | (simp_all; done)))

@[simp] theorem State.keyTear_core (s : State) (slot : Nat) : (State.keyTear s slot).core = s.core := by
  unfold State.keyTear
  try simp
  all_goals (repeat' (first | (apply core_foldl; intro t x; try simp) | (apply core_foldl_pair; intro t x; try simp) | (split <;> (try simp)) | (simp_all; done)))

@[simp] theorem State.keyErr_core (s : State) (bit : Field) (kind sev slot : Nat) (addr : Option Nat) : (State.keyErr s bit kind sev slot addr).core = s.core := by
  unfold State.keyErr
  try simp
  all_goals (repeat' (first | (apply core_foldl; intro t x; try simp) | (apply core_foldl_pair; intro t x; try simp) | (split <;> (try simp)) | (simp_all; done)))

@[simp] theorem State.keyParity_core (s : State) (slot : Nat) : (State.keyParity s slot).core = s.core := by
  unfold State.keyParity
  try simp
  all_goals (repeat' (first | (apply core_foldl; intro t x; try simp) | (apply core_foldl_pair; intro t x; try simp) | (split <;> (try simp)) | (simp_all; done)))

@[simp] theorem State.mailOp_core (s : State) (k port sid : Nat) (rivals : List KeyAsk) : (State.mailOp s k port sid rivals).1.core = s.core := by
  unfold State.mailOp
  try simp
  all_goals (repeat' (first | (apply core_foldl; intro t x; try simp) | (apply core_foldl_pair; intro t x; try simp) | (split <;> (try simp)) | (simp_all; done)))

/-! Operations of BondOps. -/

@[simp] theorem State.modBnd_core (s : State) (f : BndSt → BndSt) : (State.modBnd s f).core = s.core := by
  unfold State.modBnd
  try simp
  all_goals (repeat' (first | (apply core_foldl; intro t x; try simp) | (apply core_foldl_pair; intro t x; try simp) | (split <;> (try simp)) | (simp_all; done)))

@[simp] theorem State.bndErr_core (s : State) (p bit node : Nat) (addr : Option Nat) (access mkind master : Nat) : (State.bndErr s p bit node addr access mkind master).core = s.core := by
  unfold State.bndErr
  try simp
  all_goals (repeat' (first | (apply core_foldl; intro t x; try simp) | (apply core_foldl_pair; intro t x; try simp) | (split <;> (try simp)) | (simp_all; done)))

@[simp] theorem State.msgErr_core (s : State) (p bit : Nat) (m : Msg) : (State.msgErr s p bit m).core = s.core := by
  unfold State.msgErr
  try simp
  all_goals (repeat' (first | (apply core_foldl; intro t x; try simp) | (apply core_foldl_pair; intro t x; try simp) | (split <;> (try simp)) | (simp_all; done)))

@[simp] theorem State.creditBack_core (s : State) (p : Nat) (m : Msg) (flits : Nat) : (State.creditBack s p m flits).core = s.core := by
  unfold State.creditBack
  try simp
  all_goals (repeat' (first | (apply core_foldl; intro t x; try simp) | (apply core_foldl_pair; intro t x; try simp) | (split <;> (try simp)) | (simp_all; done)))

@[simp] theorem State.malformed_core (s : State) (p : Nat) (m : Msg) (flits : Nat) : (State.malformed s p m flits).core = s.core := by
  unfold State.malformed
  try simp
  all_goals (repeat' (first | (apply core_foldl; intro t x; try simp) | (apply core_foldl_pair; intro t x; try simp) | (split <;> (try simp)) | (simp_all; done)))

@[simp] theorem State.laneUpset_core (s : State) (m : Msg) : (State.laneUpset s m).core = s.core := by
  unfold State.laneUpset
  try simp
  all_goals (repeat' (first | (apply core_foldl; intro t x; try simp) | (apply core_foldl_pair; intro t x; try simp) | (split <;> (try simp)) | (simp_all; done)))

@[simp] theorem State.bondRx_core (s : State) (p : Nat) (m : Msg) (flits : Nat) (f : State → State) (hf : ∀ t, (f t).core = t.core) : (State.bondRx s p m flits f).core = s.core := by
  unfold State.bondRx
  try simp [hf]
  all_goals (repeat' (first | (apply core_foldl; intro t x; try simp [hf]) | (apply core_foldl_pair; intro t x; try simp [hf]) | (split <;> (try simp [hf])) | (simp_all; done)))

@[simp] theorem State.transit_core (s : State) (p : Nat) (m : Msg) (flits : Nat) : (State.transit s p m flits).core = s.core := by
  unfold State.transit
  try simp
  all_goals (repeat' (first | (apply core_foldl; intro t x; try simp) | (apply core_foldl_pair; intro t x; try simp) | (split <;> (try simp)) | (simp_all; done)))

@[simp] theorem State.bondIn_core (s : State) (p : Nat) (m : Msg) (flits : Nat) (f : State → State) (hf : ∀ t, (f t).core = t.core) : (State.bondIn s p m flits f).core = s.core := by
  unfold State.bondIn
  try simp [hf]
  all_goals (repeat' (first | (apply core_foldl; intro t x; try simp [hf]) | (apply core_foldl_pair; intro t x; try simp [hf]) | (split <;> (try simp [hf])) | (simp_all; done)))

@[simp] theorem State.resync_core (s old : State) : (State.resync s old).core = s.core := by
  unfold State.resync
  try simp
  all_goals (repeat' (first | (apply core_foldl; intro t x; try simp) | (apply core_foldl_pair; intro t x; try simp) | (split <;> (try simp)) | (simp_all; done)))

@[simp] theorem State.unsync_core (s : State) (n : Nat) : (State.unsync s n).core = s.core := by
  unfold State.unsync
  try simp
  all_goals (repeat' (first | (apply core_foldl; intro t x; try simp) | (apply core_foldl_pair; intro t x; try simp) | (split <;> (try simp)) | (simp_all; done)))

@[simp] theorem State.pairInit_core (s : State) (n : Nat) : (State.pairInit s n).core = s.core := by
  unfold State.pairInit
  try simp
  all_goals (repeat' (first | (apply core_foldl; intro t x; try simp) | (apply core_foldl_pair; intro t x; try simp) | (split <;> (try simp)) | (simp_all; done)))

@[simp] theorem State.routesDue_core (s : State) : (State.routesDue s).core = s.core := by
  unfold State.routesDue
  try simp
  all_goals (repeat' (first | (apply core_foldl; intro t x; try simp) | (apply core_foldl_pair; intro t x; try simp) | (split <;> (try simp)) | (simp_all; done)))

@[simp] theorem State.upChanged_core (s : State) : (State.upChanged s).core = s.core := by
  unfold State.upChanged
  try simp
  all_goals (repeat' (first | (apply core_foldl; intro t x; try simp) | (apply core_foldl_pair; intro t x; try simp) | (split <;> (try simp)) | (simp_all; done)))

@[simp] theorem State.discardTx_core (s : State) (p : Nat) : (State.discardTx s p).core = s.core := by
  unfold State.discardTx
  try simp
  all_goals (repeat' (first | (apply core_foldl; intro t x; try simp) | (apply core_foldl_pair; intro t x; try simp) | (split <;> (try simp)) | (simp_all; done)))

@[simp] theorem State.nbrDown_core (s : State) (p n : Nat) : (State.nbrDown s p n).core = s.core := by
  unfold State.nbrDown
  try simp
  all_goals (repeat' (first | (apply core_foldl; intro t x; try simp) | (apply core_foldl_pair; intro t x; try simp) | (split <;> (try simp)) | (simp_all; done)))

@[simp] theorem State.linkFall_core (s : State) (p : Nat) : (State.linkFall s p).core = s.core := by
  unfold State.linkFall
  try simp
  all_goals (repeat' (first | (apply core_foldl; intro t x; try simp) | (apply core_foldl_pair; intro t x; try simp) | (split <;> (try simp)) | (simp_all; done)))

@[simp] theorem State.linkRise_core (s : State) (p : Nat) : (State.linkRise s p).core = s.core := by
  unfold State.linkRise
  try simp
  all_goals (repeat' (first | (apply core_foldl; intro t x; try simp) | (apply core_foldl_pair; intro t x; try simp) | (split <;> (try simp)) | (simp_all; done)))

@[simp] theorem State.routesNew_core (s : State) : (State.routesNew s).core = s.core := by
  unfold State.routesNew
  try simp
  all_goals (repeat' (first | (apply core_foldl; intro t x; try simp) | (apply core_foldl_pair; intro t x; try simp) | (split <;> (try simp)) | (simp_all; done)))

@[simp] theorem State.routeWrite_core (s : State) (n : Nat) (w : RegW) : (State.routeWrite s n w).core = s.core := by
  unfold State.routeWrite
  try simp
  all_goals (repeat' (first | (apply core_foldl; intro t x; try simp) | (apply core_foldl_pair; intro t x; try simp) | (split <;> (try simp)) | (simp_all; done)))

@[simp] theorem State.answerTimeout_core (s : State) (p : Nat) (m : Msg) : (State.answerTimeout s p m).core = s.core := by
  unfold State.answerTimeout
  try simp
  all_goals (repeat' (first | (apply core_foldl; intro t x; try simp) | (apply core_foldl_pair; intro t x; try simp) | (split <;> (try simp)) | (simp_all; done)))

@[simp] theorem State.acceptIn_core (s : State) (op : Op) (p : Nat) (m : Msg) (since : Nat) : (State.acceptIn s op p m since).core = s.core := by
  unfold State.acceptIn
  try simp
  all_goals (repeat' (first | (apply core_foldl; intro t x; try simp) | (apply core_foldl_pair; intro t x; try simp) | (split <;> (try simp)) | (simp_all; done)))

@[simp] theorem State.seqRefuse_core (s : State) (op : Op) (p : Nat) (m : Msg) : (State.seqRefuse s op p m).core = s.core := by
  unfold State.seqRefuse
  try simp
  all_goals (repeat' (first | (apply core_foldl; intro t x; try simp) | (apply core_foldl_pair; intro t x; try simp) | (split <;> (try simp)) | (simp_all; done)))

@[simp] theorem State.leaveRx_core (s : State) (p : Nat) (e : RxEnt) : (State.leaveRx s p e).core = s.core := by
  unfold State.leaveRx
  try simp
  all_goals (repeat' (first | (apply core_foldl; intro t x; try simp) | (apply core_foldl_pair; intro t x; try simp) | (split <;> (try simp)) | (simp_all; done)))

@[simp] theorem State.admitRx_core (s : State) (p : Nat) : (State.admitRx s p).core = s.core := by
  unfold State.admitRx
  try simp
  all_goals (repeat' (first | (apply core_foldl; intro t x; try simp) | (apply core_foldl_pair; intro t x; try simp) | (split <;> (try simp)) | (simp_all; done)))

/-! Operations of Settle. -/

@[simp] theorem State.dataMove_core (s : State) (c : Nat) (r : Req) : (State.dataMove s c r).core = s.core := by
  unfold State.dataMove
  try simp
  all_goals (repeat' (first | (apply core_foldl; intro t x; try simp) | (apply core_foldl_pair; intro t x; try simp) | (split <;> (try simp)) | (simp_all; done)))

@[simp] theorem State.moveData_core (s : State) : (State.moveData s).core = s.core := by
  unfold State.moveData
  try simp
  all_goals (repeat' (first | (apply core_foldl; intro t x; try simp) | (apply core_foldl_pair; intro t x; try simp) | (split <;> (try simp)) | (simp_all; done)))

@[simp] theorem State.admitSpills_core (s : State) : (State.admitSpills s).core = s.core := by
  unfold State.admitSpills
  try simp
  all_goals (repeat' (first | (apply core_foldl; intro t x; try simp) | (apply core_foldl_pair; intro t x; try simp) | (split <;> (try simp)) | (simp_all; done)))

theorem State.admitBondOne_core (s : State) (p : Nat) (r : Req) : ∀ t, (State.admitBondOne s p r) = some t → t.core = s.core := by
  intro t h
  unfold State.admitBondOne at h
  revert h
  try dsimp only
  repeat' split
  all_goals (intro h; first | (rw [← Option.some.inj h]; simp; done) | (cases h; done) | (obtain ⟨a, -, rfl⟩ := Option.map_eq_some_iff.mp h; simp; done))

@[simp] theorem State.admitBond_core (s : State) : (State.admitBond s).core = s.core := by
  unfold State.admitBond
  try simp
  all_goals (repeat' (first | (apply core_foldl; intro t x; try simp) | (apply core_foldl_pair; intro t x; try simp) | (split <;> (try simp)) | (simp_all; done) | (intros; have hx := State.admitBondOne_core _ _ _ _ (by assumption); simp_all; done)))

@[simp] theorem State.control_core (s : State) (r : Req) (off : Nat) : (State.control s r off).core = s.core := by
  unfold State.control
  try simp
  all_goals (repeat' (first | (apply core_foldl; intro t x; try simp) | (apply core_foldl_pair; intro t x; try simp) | (split <;> (try simp)) | (simp_all; done) | (intros; have hx := State.hodPop_core _ _ _ _ _ (by assumption); simp_all; done)))

@[simp] theorem State.serve_core (s : State) (r e : Req) (c : Nat) : (State.serve s r e c).core = s.core := by
  unfold State.serve
  try simp
  all_goals (repeat' (first | (apply core_foldl; intro t x; try simp) | (apply core_foldl_pair; intro t x; try simp) | (split <;> (try simp)) | (simp_all; done)))

@[simp] theorem State.setStage_core (s : State) (rid : Nat) (st : Stage) : (State.setStage s rid st).core = s.core := by
  unfold State.setStage
  try simp
  all_goals (repeat' (first | (apply core_foldl; intro t x; try simp) | (apply core_foldl_pair; intro t x; try simp) | (split <;> (try simp)) | (simp_all; done)))

@[simp] theorem State.crossOver_core (s : State) (r : Req) : (State.crossOver s r).core = s.core := by
  unfold State.crossOver
  try simp
  all_goals (repeat' (first | (apply core_foldl; intro t x; try simp) | (apply core_foldl_pair; intro t x; try simp) | (split <;> (try simp)) | (simp_all; done)))

@[simp] theorem State.hodGrants_core (s : State) : (State.hodGrants s).core = s.core := by
  simp [State.hodGrants]

@[simp] theorem State.settleOne_core (s : State) (rid : Nat) : (State.settleOne s rid).core = s.core := by
  unfold State.settleOne
  try simp
  all_goals (repeat' (first | (apply core_foldl; intro t x; try simp) | (apply core_foldl_pair; intro t x; try simp) | (split <;> (try simp)) | (simp_all; done)))

@[simp] theorem State.checkStores_core (s : State) : (State.checkStores s).core = s.core := by
  unfold State.checkStores
  try simp
  all_goals (repeat' (first | (apply core_foldl; intro t x; try simp) | (apply core_foldl_pair; intro t x; try simp) | (split <;> (try simp)) | (simp_all; done)))

@[simp] theorem State.enterOpen_core (s : State) (n : Nat) : (State.enterOpen s n).core = s.core := by
  unfold State.enterOpen
  try simp
  all_goals (repeat' (first | (apply core_foldl; intro t x; try simp) | (apply core_foldl_pair; intro t x; try simp) | (split <;> (try simp)) | (simp_all; done)))

@[simp] theorem State.drainCheck_core (s : State) (n : Nat) : (State.drainCheck s n).core = s.core := by
  unfold State.drainCheck
  try simp
  all_goals (repeat' (first | (apply core_foldl; intro t x; try simp) | (apply core_foldl_pair; intro t x; try simp) | (split <;> (try simp)) | (simp_all; done)))

@[simp] theorem State.trimWaits_core (s : State) : (State.trimWaits s).core = s.core := rfl

@[simp] theorem State.settle_core (s : State) : (State.settle s).core = s.core := by
  unfold State.settle
  try simp
  all_goals (repeat' (first | (apply core_foldl; intro t x; try simp) | (apply core_foldl_pair; intro t x; try simp) | (split <;> (try simp)) | (simp_all; done)))

end Sys2Proof.Machine
end

