-- ==== Sys2Proof/Laws/CorePorts.lean ====
section
/-! SUPPORT. The core of the state: what the ports, the Setter, the issue of commands and maintenance keep. Each lemma says that an operation
leaves the build, the pair, cold reset, the straps, the uptime and the queue of commands as they were. -/

set_option Elab.async false
set_option linter.unusedSimpArgs false
set_option linter.unusedVariables false
set_option linter.unusedTactic false
set_option linter.unreachableTactic false

namespace Sys2Proof.Machine

/-! Operations of Ports. -/

@[simp] theorem State.hclkCycle_core (s : State) (n : Nat) (same : Bool) : (State.hclkCycle s n same).core = s.core := by
  unfold State.hclkCycle
  try simp
  all_goals (repeat' (first | (apply core_foldl; intro t x; try simp) | (apply core_foldl_pair; intro t x; try simp) | (split <;> (try simp)) | (simp_all; done)))

@[simp] theorem State.hdrErr_core (s : State) (n k slot tag : Nat) (r : Option Req) : (State.hdrErr s n k slot tag r).core = s.core := by
  unfold State.hdrErr
  try simp
  all_goals (repeat' (first | (apply core_foldl; intro t x; try simp) | (apply core_foldl_pair; intro t x; try simp) | (split <;> (try simp)) | (simp_all; done)))

@[simp] theorem State.answerAtPort_core (s : State) (n : Nat) (r : Req) (st : Status) : (State.answerAtPort s n r st).core = s.core := by
  unfold State.answerAtPort
  try simp
  all_goals (repeat' (first | (apply core_foldl; intro t x; try simp) | (apply core_foldl_pair; intro t x; try simp) | (split <;> (try simp)) | (simp_all; done)))

@[simp] theorem State.acceptSlot_core (s : State) (p : PReq) (op : Option Op) (code : Nat) : (State.acceptSlot s p op code).core = s.core := by
  unfold State.acceptSlot
  try simp
  all_goals (repeat' (first | (apply core_foldl; intro t x; try simp) | (apply core_foldl_pair; intro t x; try simp) | (split <;> (try simp)) | (simp_all; done)))

@[simp] theorem State.portReq_core (s : State) (p : PReq) (op : Option Op) (code : Nat) : (State.portReq s p op code).core = s.core := by
  unfold State.portReq
  try simp
  all_goals (repeat' (first | (apply core_foldl; intro t x; try simp) | (apply core_foldl_pair; intro t x; try simp) | (split <;> (try simp)) | (simp_all; done)))

@[simp] theorem State.joinData_core (s : State) (w : WSlot) (rid : Nat) : (State.joinData s w rid).core = s.core := by
  unfold State.joinData
  try simp
  all_goals (repeat' (first | (apply core_foldl; intro t x; try simp) | (apply core_foldl_pair; intro t x; try simp) | (split <;> (try simp)) | (simp_all; done)))

@[simp] theorem State.writeSlot_core (s : State) (w : WSlot) : (State.writeSlot s w).core = s.core := by
  unfold State.writeSlot
  try simp
  all_goals (repeat' (first | (apply core_foldl; intro t x; try simp) | (apply core_foldl_pair; intro t x; try simp) | (split <;> (try simp)) | (simp_all; done)))

@[simp] theorem State.accepted_core (s : State) (n : Nat) (r : Req) (upset : Nat) : (State.accepted s n r upset).core = s.core := by
  unfold State.accepted
  try simp
  all_goals (repeat' (first | (apply core_foldl; intro t x; try simp) | (apply core_foldl_pair; intro t x; try simp) | (split <;> (try simp)) | (simp_all; done)))

@[simp] theorem State.portOpen_core (s : State) (n : Nat) (v : Nat) : (State.portOpen s n v).core = s.core := by
  unfold State.portOpen
  try simp
  all_goals (repeat' (first | (apply core_foldl; intro t x; try simp) | (apply core_foldl_pair; intro t x; try simp) | (split <;> (try simp)) | (simp_all; done)))

@[simp] theorem State.portFence_core (s : State) (n : Nat) : (State.portFence s n).core = s.core := by
  unfold State.portFence
  try simp
  all_goals (repeat' (first | (apply core_foldl; intro t x; try simp) | (apply core_foldl_pair; intro t x; try simp) | (split <;> (try simp)) | (simp_all; done)))

@[simp] theorem State.portUnfence_core (s : State) (n : Nat) : (State.portUnfence s n).core = s.core := by
  unfold State.portUnfence
  try simp
  all_goals (repeat' (first | (apply core_foldl; intro t x; try simp) | (apply core_foldl_pair; intro t x; try simp) | (split <;> (try simp)) | (simp_all; done)))

@[simp] theorem State.abandon_core (s : State) (n : Nat) : (State.abandon s n).core = s.core := by
  unfold State.abandon
  try simp
  all_goals (repeat' (first | (apply core_foldl; intro t x; try simp) | (apply core_foldl_pair; intro t x; try simp) | (split <;> (try simp)) | (simp_all; done)))

/-! Operations of Mortar. -/

@[simp] theorem State.enter_core (s : State) (r : Req) (c upset : Nat) (rivals : List KeyAsk) : (State.enter s r c upset rivals).core = s.core := by
  unfold State.enter
  try simp
  all_goals (repeat' (first | (apply core_foldl; intro t x; try simp) | (apply core_foldl_pair; intro t x; try simp) | (split <;> (try simp)) | (simp_all; done)))

@[simp] theorem State.admitHead_core (s : State) (n upset : Nat) (rivals : List KeyAsk) : (State.admitHead s n upset rivals).core = s.core := by
  unfold State.admitHead
  try simp
  all_goals (repeat' (first | (apply core_foldl; intro t x; try simp) | (apply core_foldl_pair; intro t x; try simp) | (split <;> (try simp)) | (simp_all; done)))

@[simp] theorem State.senseVdd_core (s : State) (mv : Nat) : (State.senseVdd s mv).core = s.core := by
  unfold State.senseVdd
  try simp
  all_goals (repeat' (first | (apply core_foldl; intro t x; try simp) | (apply core_foldl_pair; intro t x; try simp) | (split <;> (try simp)) | (simp_all; done)))

@[simp] theorem State.firstMeasure_core (s : State) (low : Bool) (vdd mv : Nat) : (State.firstMeasure s low vdd mv).core = s.core := by
  unfold State.firstMeasure
  try simp
  all_goals (repeat' (first | (apply core_foldl; intro t x; try simp) | (apply core_foldl_pair; intro t x; try simp) | (split <;> (try simp)) | (simp_all; done)))

@[simp] theorem State.peakClr_core (s : State) : (State.peakClr s).core = s.core := by
  unfold State.peakClr
  try simp
  all_goals (repeat' (first | (apply core_foldl; intro t x; try simp) | (apply core_foldl_pair; intro t x; try simp) | (split <;> (try simp)) | (simp_all; done)))

/-! Operations of Setter. -/

@[simp] theorem State.setMeter_core (s : State) (c q : Nat) (m : Meter) : (State.setMeter s c q m).core = s.core := by
  unfold State.setMeter
  try simp
  all_goals (repeat' (first | (apply core_foldl; intro t x; try simp) | (apply core_foldl_pair; intro t x; try simp) | (split <;> (try simp)) | (simp_all; done)))

@[simp] theorem State.gauRefill_core (s : State) (c : Nat) : (State.gauRefill s c).core = s.core := by
  unfold State.gauRefill
  try simp
  all_goals (repeat' (first | (apply core_foldl; intro t x; try simp) | (apply core_foldl_pair; intro t x; try simp) | (split <;> (try simp)) | (simp_all; done)))

@[simp] theorem State.gauRefillAll_core (s : State) (c : Nat) : (State.gauRefillAll s c).core = s.core := by
  unfold State.gauRefillAll
  try simp
  all_goals (repeat' (first | (apply core_foldl; intro t x; try simp) | (apply core_foldl_pair; intro t x; try simp) | (split <;> (try simp)) | (simp_all; done)))

@[simp] theorem State.gauErr_core (s : State) (c q : Nat) (m : Meter) : (State.gauErr s c q m).core = s.core := by
  unfold State.gauErr
  try simp
  all_goals (repeat' (first | (apply core_foldl; intro t x; try simp) | (apply core_foldl_pair; intro t x; try simp) | (split <;> (try simp)) | (simp_all; done)))

@[simp] theorem State.gauRate_core (s : State) (c : Nat) (w : RegW) : (State.gauRate s c w).core = s.core := by
  unfold State.gauRate
  try simp
  all_goals (repeat' (first | (apply core_foldl; intro t x; try simp) | (apply core_foldl_pair; intro t x; try simp) | (split <;> (try simp)) | (simp_all; done)))

@[simp] theorem State.gauBurst_core (s : State) (c : Nat) (w : RegW) : (State.gauBurst s c w).core = s.core := by
  unfold State.gauBurst
  try simp
  all_goals (repeat' (first | (apply core_foldl; intro t x; try simp) | (apply core_foldl_pair; intro t x; try simp) | (split <;> (try simp)) | (simp_all; done)))

@[simp] theorem State.enqueue_core (s : State) (r : Req) (c : Nat) : (State.enqueue s r c).core = s.core := by
  unfold State.enqueue
  try simp
  all_goals (repeat' (first | (apply core_foldl; intro t x; try simp) | (apply core_foldl_pair; intro t x; try simp) | (split <;> (try simp)) | (simp_all; done)))

@[simp] theorem State.sampleQueues_core (s : State) (c : Nat) : (State.sampleQueues s c).core = s.core := by
  unfold State.sampleQueues
  try simp
  all_goals (repeat' (first | (apply core_foldl; intro t x; try simp) | (apply core_foldl_pair; intro t x; try simp) | (split <;> (try simp)) | (simp_all; done)))

@[simp] theorem State.setDrr_core (s : State) (c : Nat) (d : Drr) : (State.setDrr s c d).core = s.core := by
  unfold State.setDrr
  try simp
  all_goals (repeat' (first | (apply core_foldl; intro t x; try simp) | (apply core_foldl_pair; intro t x; try simp) | (split <;> (try simp)) | (simp_all; done)))

@[simp] theorem State.chooseQueue_core (s : State) (c : Nat) (holds has ready : Nat → Bool) (charge : Nat → Nat) : (State.chooseQueue s c holds has ready charge).1.core = s.core := by
  unfold State.chooseQueue
  try simp
  all_goals (repeat' (first | (apply core_foldl; intro t x; try simp) | (apply core_foldl_pair; intro t x; try simp) | (split <;> (try simp)) | (simp_all; done)))

@[simp] theorem State.cutDeficits_core (s : State) (c : Nat) (hit : Nat → Bool) : (State.cutDeficits s c hit).core = s.core := by
  unfold State.cutDeficits
  try simp
  all_goals (repeat' (first | (apply core_foldl; intro t x; try simp) | (apply core_foldl_pair; intro t x; try simp) | (split <;> (try simp)) | (simp_all; done)))

@[simp] theorem State.weightsFrom_core (s old : State) (c : Nat) : (State.weightsFrom s old c).core = s.core := by
  unfold State.weightsFrom
  try simp
  all_goals (repeat' (first | (apply core_foldl; intro t x; try simp) | (apply core_foldl_pair; intro t x; try simp) | (split <;> (try simp)) | (simp_all; done)))

/-! Operations of PntOps. -/

@[simp] theorem State.setOwed_core (s : State) (c u : Nat) (v : Int) : (State.setOwed s c u v).core = s.core := by
  unfold State.setOwed
  try simp
  all_goals (repeat' (first | (apply core_foldl; intro t x; try simp) | (apply core_foldl_pair; intro t x; try simp) | (split <;> (try simp)) | (simp_all; done)))

@[simp] theorem State.modPnt_core (s : State) (c : Nat) (f : PntSt → PntSt) : (State.modPnt s c f).core = s.core := by
  unfold State.modPnt
  try simp
  all_goals (repeat' (first | (apply core_foldl; intro t x; try simp) | (apply core_foldl_pair; intro t x; try simp) | (split <;> (try simp)) | (simp_all; done)))

@[simp] theorem State.pntErr_core (s : State) (c : Nat) (f : Field) (kind sev : Nat) : (State.pntErr s c f kind sev).core = s.core := by
  unfold State.pntErr
  try simp
  all_goals (repeat' (first | (apply core_foldl; intro t x; try simp) | (apply core_foldl_pair; intro t x; try simp) | (split <;> (try simp)) | (simp_all; done)))

@[simp] theorem State.protectAct_core (s : State) (c b u row : Nat) : (State.protectAct s c b u row).core = s.core := by
  unfold State.protectAct
  try simp
  all_goals (repeat' (first | (apply core_foldl; intro t x; try simp) | (apply core_foldl_pair; intro t x; try simp) | (split <;> (try simp)) | (simp_all; done)))

@[simp] theorem State.raaDrop_core (s : State) (c : Nat) (p : Nat → Bool) : (State.raaDrop s c p).core = s.core := by
  unfold State.raaDrop
  try simp
  all_goals (repeat' (first | (apply core_foldl; intro t x; try simp) | (apply core_foldl_pair; intro t x; try simp) | (split <;> (try simp)) | (simp_all; done)))

@[simp] theorem State.raaCheck_core (s old : State) (c : Nat) : (State.raaCheck s old c).core = s.core := by
  unfold State.raaCheck
  try simp
  all_goals (repeat' (first | (apply core_foldl; intro t x; try simp) | (apply core_foldl_pair; intro t x; try simp) | (split <;> (try simp)) | (simp_all; done)))

/-! Operations of AshOps. -/

@[simp] theorem State.modAsh_core (s : State) (c : Nat) (f : AshSt → AshSt) : (State.modAsh s c f).core = s.core := by
  unfold State.modAsh
  try simp
  all_goals (repeat' (first | (apply core_foldl; intro t x; try simp) | (apply core_foldl_pair; intro t x; try simp) | (split <;> (try simp)) | (simp_all; done)))

@[simp] theorem State.offer_core (s : State) (k c L : Nat) (op : Op) : (State.offer s k c L op).core = s.core := by
  unfold State.offer
  try simp
  all_goals (repeat' (first | (apply core_foldl; intro t x; try simp) | (apply core_foldl_pair; intro t x; try simp) | (split <;> (try simp)) | (simp_all; done)))

@[simp] theorem State.initNext_core (s : State) (c : Nat) : (State.initNext s c).core = s.core := by
  unfold State.initNext
  try simp
  all_goals (repeat' (first | (apply core_foldl; intro t x; try simp) | (apply core_foldl_pair; intro t x; try simp) | (split <;> (try simp)) | (simp_all; done)))

@[simp] theorem State.spareNext_core (s : State) (c : Nat) : (State.spareNext s c).core = s.core := by
  unfold State.spareNext
  try simp
  all_goals (repeat' (first | (apply core_foldl; intro t x; try simp) | (apply core_foldl_pair; intro t x; try simp) | (split <;> (try simp)) | (simp_all; done)))

@[simp] theorem State.passEnd_core (s : State) (c : Nat) : (State.passEnd s c).core = s.core := by
  unfold State.passEnd
  try simp
  all_goals (repeat' (first | (apply core_foldl; intro t x; try simp) | (apply core_foldl_pair; intro t x; try simp) | (split <;> (try simp)) | (simp_all; done)))

@[simp] theorem State.patrolRead_core (s : State) (c L : Nat) : (State.patrolRead s c L).core = s.core := by
  unfold State.patrolRead
  try simp
  all_goals (repeat' (first | (apply core_foldl; intro t x; try simp) | (apply core_foldl_pair; intro t x; try simp) | (split <;> (try simp)) | (simp_all; done)))

@[simp] theorem State.walksResume_core (s : State) (c : Nat) : (State.walksResume s c).core = s.core := by
  unfold State.walksResume
  try simp
  all_goals (repeat' (first | (apply core_foldl; intro t x; try simp) | (apply core_foldl_pair; intro t x; try simp) | (split <;> (try simp)) | (simp_all; done)))

@[simp] theorem State.ashErr_core (s : State) (c sub bit dev rank : Nat) (addr : Option Nat) (r : Option Req) : (State.ashErr s c sub bit dev rank addr r).core = s.core := by
  unfold State.ashErr
  try simp
  all_goals (repeat' (first | (apply core_foldl; intro t x; try simp) | (apply core_foldl_pair; intro t x; try simp) | (split <;> (try simp)) | (simp_all; done)))

@[simp] theorem State.setMark_core (s : State) (c sub rank v : Nat) : (State.setMark s c sub rank v).core = s.core := by
  unfold State.setMark
  try simp
  all_goals (repeat' (first | (apply core_foldl; intro t x; try simp) | (apply core_foldl_pair; intro t x; try simp) | (split <;> (try simp)) | (simp_all; done)))

@[simp] theorem State.setDevCnt_core (s : State) (c sub rank d v : Nat) : (State.setDevCnt s c sub rank d v).core = s.core := by
  unfold State.setDevCnt
  try simp
  all_goals (repeat' (first | (apply core_foldl; intro t x; try simp) | (apply core_foldl_pair; intro t x; try simp) | (split <;> (try simp)) | (simp_all; done)))

@[simp] theorem State.markDev_core (s : State) (c sub rank d : Nat) (addr : Option Nat) (r : Option Req) : (State.markDev s c sub rank d addr r).core = s.core := by
  unfold State.markDev
  try simp
  all_goals (repeat' (first | (apply core_foldl; intro t x; try simp) | (apply core_foldl_pair; intro t x; try simp) | (split <;> (try simp)) | (simp_all; done)))

@[simp] theorem State.spareStart_core (s : State) (c rank : Nat) : (State.spareStart s c rank).core = s.core := by
  unfold State.spareStart
  try simp
  all_goals (repeat' (first | (apply core_foldl; intro t x; try simp) | (apply core_foldl_pair; intro t x; try simp) | (split <;> (try simp)) | (simp_all; done)))

@[simp] theorem State.judgeDev_core (s : State) (c sub rank d : Nat) (addr : Option Nat) (r : Option Req) : (State.judgeDev s c sub rank d addr r).core = s.core := by
  unfold State.judgeDev
  try simp
  all_goals (repeat' (first | (apply core_foldl; intro t x; try simp) | (apply core_foldl_pair; intro t x; try simp) | (split <;> (try simp)) | (simp_all; done)))

@[simp] theorem State.judgeRank_core (s : State) (c sub rank : Nat) : (State.judgeRank s c sub rank).core = s.core := by
  unfold State.judgeRank
  try simp
  all_goals (repeat' (first | (apply core_foldl; intro t x; try simp) | (apply core_foldl_pair; intro t x; try simp) | (split <;> (try simp)) | (simp_all; done)))

@[simp] theorem State.dramPut_core (s : State) (c : Nat) (p : Pos) (w : List Nat) : (State.dramPut s c p w).core = s.core := by
  unfold State.dramPut
  try simp
  all_goals (repeat' (first | (apply core_foldl; intro t x; try simp) | (apply core_foldl_pair; intro t x; try simp) | (split <;> (try simp)) | (simp_all; done)))

/-! Operations of Issue. -/

@[simp] theorem State.modTim_core (s : State) (c : Nat) (f : TimSt → TimSt) : (State.modTim s c f).core = s.core := by
  unfold State.modTim
  try simp
  all_goals (repeat' (first | (apply core_foldl; intro t x; try simp) | (apply core_foldl_pair; intro t x; try simp) | (split <;> (try simp)) | (simp_all; done)))

@[simp] theorem State.setBank_core (s : State) (c b : Nat) (x : Bank) : (State.setBank s c b x).core = s.core := by
  unfold State.setBank
  try simp
  all_goals (repeat' (first | (apply core_foldl; intro t x; try simp) | (apply core_foldl_pair; intro t x; try simp) | (split <;> (try simp)) | (simp_all; done)))

@[simp] theorem State.queueFor_core (s : State) (c sub cyc : Nat) : (State.queueFor s c sub cyc).1.core = s.core := by
  unfold State.queueFor
  try simp
  all_goals (repeat' (first | (apply core_foldl; intro t x; try simp) | (apply core_foldl_pair; intro t x; try simp) | (split <;> (try simp)) | (simp_all; done)))

@[simp] theorem State.choice_core (s : State) (c sub cyc : Nat) : (State.choice s c sub cyc).1.core = s.core := by
  unfold State.choice
  try simp
  all_goals (repeat' (first | (apply core_foldl; intro t x; try simp) | (apply core_foldl_pair; intro t x; try simp) | (split <;> (try simp)) | (simp_all; done)))

@[simp] theorem State.slotsDue_core (s : State) (c : Nat) : (State.slotsDue s c).core = s.core := by
  unfold State.slotsDue
  try simp
  all_goals (repeat' (first | (apply core_foldl; intro t x; try simp) | (apply core_foldl_pair; intro t x; try simp) | (split <;> (try simp)) | (simp_all; done)))

@[simp] theorem State.endReplay_core (s : State) (c : Nat) : (State.endReplay s c).core = s.core := by
  unfold State.endReplay
  try simp
  all_goals (repeat' (first | (apply core_foldl; intro t x; try simp) | (apply core_foldl_pair; intro t x; try simp) | (split <;> (try simp)) | (simp_all; done)))

@[simp] theorem State.timErr_core (s : State) (c : Nat) (f : Field) (kind sev : Nat) (who : Option Req) : (State.timErr s c f kind sev who).core = s.core := by
  unfold State.timErr
  try simp
  all_goals (repeat' (first | (apply core_foldl; intro t x; try simp) | (apply core_foldl_pair; intro t x; try simp) | (split <;> (try simp)) | (simp_all; done)))

@[simp] theorem State.violate_core (s : State) (c : Nat) (n : Passed) (rule short : Nat) (who : Option Req) : (State.violate s c n rule short who).core = s.core := by
  unfold State.violate
  try simp
  all_goals (repeat' (first | (apply core_foldl; intro t x; try simp) | (apply core_foldl_pair; intro t x; try simp) | (split <;> (try simp)) | (simp_all; done)))

@[simp] theorem State.block_core (s : State) (c : Nat) (n : Passed) (rule short : Nat) (who : Option Req) : (State.block s c n rule short who).core = s.core := by
  unfold State.block
  try simp
  all_goals (repeat' (first | (apply core_foldl; intro t x; try simp) | (apply core_foldl_pair; intro t x; try simp) | (split <;> (try simp)) | (simp_all; done)))

@[simp] theorem State.issue_core (s : State) (c : Nat) (n : Passed) (f : State → Option (State × Bool)) (who : Option Req) (hf : ∀ t u, f t = some u → u.1.core = t.core) : (State.issue s c n f who).core = s.core := by
  unfold State.issue
  try simp [hf]
  all_goals (repeat' (first | (apply core_foldl; intro t x; try simp [hf]) | (apply core_foldl_pair; intro t x; try simp [hf]) | (intros; exact hf _ _ (by assumption)) | (split <;> (try simp [hf])) | (simp_all; done)))

@[simp] theorem State.actBank_core (s : State) (c : Nat) (p : Pos) (cyc : Nat) : (State.actBank s c p cyc).core = s.core := by
  unfold State.actBank
  try simp
  all_goals (repeat' (first | (apply core_foldl; intro t x; try simp) | (apply core_foldl_pair; intro t x; try simp) | (split <;> (try simp)) | (simp_all; done)))

@[simp] theorem State.closeBanks_core (s : State) (c : Nat) (p : Nat → Bool) : (State.closeBanks s c p).core = s.core := by
  unfold State.closeBanks
  try simp
  all_goals (repeat' (first | (apply core_foldl; intro t x; try simp) | (apply core_foldl_pair; intro t x; try simp) | (split <;> (try simp)) | (simp_all; done)))

@[simp] theorem State.refuseRun_core (s : State) (c : Nat) (r : Req) : (State.refuseRun s c r).core = s.core := by
  unfold State.refuseRun
  try simp
  all_goals (repeat' (first | (apply core_foldl; intro t x; try simp) | (apply core_foldl_pair; intro t x; try simp) | (split <;> (try simp)) | (simp_all; done)))

@[simp] theorem State.judge_core (s : State) (c cyc : Nat) (r : Req) : (State.judge s c cyc r).core = s.core := by
  unfold State.judge
  try simp
  all_goals (repeat' (first | (apply core_foldl; intro t x; try simp) | (apply core_foldl_pair; intro t x; try simp) | (split <;> (try simp)) | (simp_all; done)))

@[simp] theorem State.rejudge_core (s : State) (c : Nat) : (State.rejudge s c).core = s.core := by
  unfold State.rejudge
  try simp
  all_goals (repeat' (first | (apply core_foldl; intro t x; try simp) | (apply core_foldl_pair; intro t x; try simp) | (split <;> (try simp)) | (simp_all; done)))

@[simp] theorem State.judgeNext_core (c sub cyc n : Nat) (s : State) : (State.judgeNext c sub cyc n s).core = s.core := by
  induction n generalizing s with
  | zero => rfl
  | succ k ih =>
    unfold State.judgeNext
    (repeat' split) <;> simp [ih]

@[simp] theorem State.judgeHeads_core (s : State) (c sub cyc : Nat) : (State.judgeHeads s c sub cyc).core = s.core := by
  unfold State.judgeHeads
  try simp
  all_goals (repeat' (first | (apply core_foldl; intro t x; try simp) | (apply core_foldl_pair; intro t x; try simp) | (split <;> (try simp)) | (simp_all; done)))

@[simp] theorem State.modLine_core (s : State) (rid : Nat) (l : LineJob) (f : LineJob → LineJob) : (State.modLine s rid l f).core = s.core := by
  unfold State.modLine
  try simp
  all_goals (repeat' (first | (apply core_foldl; intro t x; try simp) | (apply core_foldl_pair; intro t x; try simp) | (split <;> (try simp)) | (simp_all; done)))

@[simp] theorem State.passOver_core (s : State) (c sub : Nat) (r : Req) : (State.passOver s c sub r).core = s.core := by
  unfold State.passOver
  try simp
  all_goals (repeat' (first | (apply core_foldl; intro t x; try simp) | (apply core_foldl_pair; intro t x; try simp) | (split <;> (try simp)) | (simp_all; done)))

@[simp] theorem State.firstCmd_core (s : State) (c sub : Nat) (k : Cand) : (State.firstCmd s c sub k).core = s.core := by
  unfold State.firstCmd
  try simp
  all_goals (repeat' (first | (apply core_foldl; intro t x; try simp) | (apply core_foldl_pair; intro t x; try simp) | (split <;> (try simp)) | (simp_all; done)))

@[simp] theorem State.colUsed_core (s : State) (c : Nat) (p : Pos) (cyc : Nat) : (State.colUsed s c p cyc).core = s.core := by
  unfold State.colUsed
  try simp
  all_goals (repeat' (first | (apply core_foldl; intro t x; try simp) | (apply core_foldl_pair; intro t x; try simp) | (split <;> (try simp)) | (simp_all; done)))

@[simp] theorem State.hitUp_core (s : State) (c : Nat) (k : Cand) : (State.hitUp s c k).core = s.core := by
  unfold State.hitUp
  try simp
  all_goals (repeat' (first | (apply core_foldl; intro t x; try simp) | (apply core_foldl_pair; intro t x; try simp) | (split <;> (try simp)) | (simp_all; done)))

@[simp] theorem State.scrubUsed_core (s : State) (c sub cyc : Nat) (r : Req) : (State.scrubUsed s c sub cyc r).core = s.core := by
  unfold State.scrubUsed
  try simp
  all_goals (repeat' (first | (apply core_foldl; intro t x; try simp) | (apply core_foldl_pair; intro t x; try simp) | (split <;> (try simp)) | (simp_all; done)))

@[simp] theorem State.tagData_core (s : State) (c rid n : Nat) : (State.tagData s c rid n).core = s.core := by
  unfold State.tagData
  try simp
  all_goals (repeat' (first | (apply core_foldl; intro t x; try simp) | (apply core_foldl_pair; intro t x; try simp) | (split <;> (try simp)) | (simp_all; done)))

@[simp] theorem State.doAct_core (s : State) (c cyc : Nat) (k : Cand) : (State.doAct s c cyc k).core = s.core := by
  unfold State.doAct
  try simp
  all_goals (repeat' (first | (apply core_foldl; intro t x; try simp) | (apply core_foldl_pair; intro t x; try simp) | (split <;> (try simp)) | (simp_all; done)))

@[simp] theorem State.doPre_core (s : State) (c : Nat) (k : Cand) : (State.doPre s c k).core = s.core := by
  unfold State.doPre
  try simp
  all_goals (repeat' (first | (apply core_foldl; intro t x; try simp) | (apply core_foldl_pair; intro t x; try simp) | (split <;> (try simp)) | (simp_all; done)))

@[simp] theorem State.doRead_core (s : State) (c cyc : Nat) (k : Cand) (auto : Bool) : (State.doRead s c cyc k auto).core = s.core := by
  unfold State.doRead
  try simp
  all_goals (repeat' (first | (apply core_foldl; intro t x; try simp) | (apply core_foldl_pair; intro t x; try simp) | (split <;> (try simp)) | (simp_all; done)))

@[simp] theorem State.scrubEnd_core (s : State) (c : Nat) (r : Req) : (State.scrubEnd s c r).core = s.core := by
  unfold State.scrubEnd
  try simp
  all_goals (repeat' (first | (apply core_foldl; intro t x; try simp) | (apply core_foldl_pair; intro t x; try simp) | (split <;> (try simp)) | (simp_all; done)))

@[simp] theorem State.doWrite_core (s : State) (c cyc : Nat) (k : Cand) (auto : Bool) : (State.doWrite s c cyc k auto).core = s.core := by
  unfold State.doWrite
  try simp
  all_goals (repeat' (first | (apply core_foldl; intro t x; try simp) | (apply core_foldl_pair; intro t x; try simp) | (split <;> (try simp)) | (simp_all; done)))

theorem State.setterEffect_core (cmd : Cmd) (kind : CmdKind) (s : State) : ∀ t, (State.setterEffect cmd kind s) = some t → t.1.core = s.core := by
  intro t h
  unfold State.setterEffect at h
  revert h
  try dsimp only
  repeat' split
  all_goals (intro h; first | (rw [← Option.some.inj h]; simp; done) | (cases h; done))

@[simp] theorem State.setterCmd_core (s : State) (cmd : Cmd) (kind : CmdKind) : (State.setterCmd s cmd kind).core = s.core := by
  unfold State.setterCmd
  dsimp only
  split
  · simp
  · rw [State.issue_core _ _ _ _ _ (State.setterEffect_core cmd kind)]
    split <;> simp

/-! Operations of Table. -/

@[simp] theorem State.setRow_core (s : State) (c k v : Nat) : (State.setRow s c k v).core = s.core := by
  unfold State.setRow
  try simp
  all_goals (repeat' (first | (apply core_foldl; intro t x; try simp) | (apply core_foldl_pair; intro t x; try simp) | (split <;> (try simp)) | (simp_all; done)))

@[simp] theorem State.loadPend_core (s : State) (c row14 row15 : Nat) : (State.loadPend s c row14 row15).core = s.core := by
  unfold State.loadPend
  try simp
  all_goals (repeat' (first | (apply core_foldl; intro t x; try simp) | (apply core_foldl_pair; intro t x; try simp) | (split <;> (try simp)) | (simp_all; done)))

@[simp] theorem State.tabRefused_core (s : State) (c bit row : Nat) : (State.tabRefused s c bit row).core = s.core := by
  unfold State.tabRefused
  try simp
  all_goals (repeat' (first | (apply core_foldl; intro t x; try simp) | (apply core_foldl_pair; intro t x; try simp) | (split <;> (try simp)) | (simp_all; done)))

@[simp] theorem State.timApply_core (s : State) (c : Nat) : (State.timApply s c).core = s.core := by
  unfold State.timApply
  try simp
  all_goals (repeat' (first | (apply core_foldl; intro t x; try simp) | (apply core_foldl_pair; intro t x; try simp) | (split <;> (try simp)) | (simp_all; done)))

@[simp] theorem State.timSeam_core (s : State) (c : Nat) (trained : Option (Nat × Nat)) : (State.timSeam s c trained).core = s.core := by
  unfold State.timSeam
  try simp
  all_goals (repeat' (first | (apply core_foldl; intro t x; try simp) | (apply core_foldl_pair; intro t x; try simp) | (split <;> (try simp)) | (simp_all; done)))

@[simp] theorem State.timTrained_core (s : State) (c row14 row15 : Nat) : (State.timTrained s c row14 row15).core = s.core := by
  unfold State.timTrained
  try simp
  all_goals (repeat' (first | (apply core_foldl; intro t x; try simp) | (apply core_foldl_pair; intro t x; try simp) | (split <;> (try simp)) | (simp_all; done)))

@[simp] theorem State.timProfile_core (s : State) (c : Nat) : (State.timProfile s c).core = s.core := by
  unfold State.timProfile
  try simp
  all_goals (repeat' (first | (apply core_foldl; intro t x; try simp) | (apply core_foldl_pair; intro t x; try simp) | (split <;> (try simp)) | (simp_all; done)))

/-! Operations of Maint. -/

@[simp] theorem State.setHolder_core (s : State) (c : Nat) (h : Option Nat) : (State.setHolder s c h).core = s.core := by
  unfold State.setHolder
  try simp
  all_goals (repeat' (first | (apply core_foldl; intro t x; try simp) | (apply core_foldl_pair; intro t x; try simp) | (split <;> (try simp)) | (simp_all; done)))

@[simp] theorem State.loseHold_core (s : State) (c : Nat) : (State.loseHold s c).core = s.core := by
  unfold State.loseHold
  try simp
  all_goals (repeat' (first | (apply core_foldl; intro t x; try simp) | (apply core_foldl_pair; intro t x; try simp) | (split <;> (try simp)) | (simp_all; done)))

@[simp] theorem State.askPath_core (s : State) (c idx : Nat) (rivals : List KeyAsk) : (State.askPath s c idx rivals).1.core = s.core := by
  unfold State.askPath
  try simp
  all_goals (repeat' (first | (apply core_foldl; intro t x; try simp) | (apply core_foldl_pair; intro t x; try simp) | (split <;> (try simp)) | (simp_all; done)))

@[simp] theorem State.seizePath_core (s : State) (c : Nat) : (State.seizePath s c).core = s.core := by
  unfold State.seizePath
  try simp
  all_goals (repeat' (first | (apply core_foldl; intro t x; try simp) | (apply core_foldl_pair; intro t x; try simp) | (split <;> (try simp)) | (simp_all; done)))

@[simp] theorem State.freePath_core (s : State) (c : Nat) : (State.freePath s c).core = s.core := by
  unfold State.freePath
  try simp
  all_goals (repeat' (first | (apply core_foldl; intro t x; try simp) | (apply core_foldl_pair; intro t x; try simp) | (split <;> (try simp)) | (simp_all; done)))

@[simp] theorem State.pntPath_core (s : State) (c : Nat) (rivals : List KeyAsk) : (State.pntPath s c rivals).1.core = s.core := by
  unfold State.pntPath
  try simp
  all_goals (repeat' (first | (apply core_foldl; intro t x; try simp) | (apply core_foldl_pair; intro t x; try simp) | (split <;> (try simp)) | (simp_all; done)))

theorem State.onPath_core (s : State) (c : Nat) (rivals : List KeyAsk) (f : State → Option (State × Bool)) (hf : ∀ t u, f t = some u → u.1.core = t.core) : ∀ t, (State.onPath s c rivals f) = some t → t.1.core = s.core := by
  intro u h
  unfold State.onPath at h
  split at h
  · exact hf _ _ h
  · dsimp only at h
    split at h
    · obtain ⟨e, he, rfl⟩ := Option.map_eq_some_iff.mp h
      simp [hf _ _ he]
    · rw [← Option.some.inj h]; simp

@[simp] theorem State.pathBack_core (s : State) (c : Nat) (rivals : List KeyAsk) : (State.pathBack s c rivals).1.core = s.core := by
  unfold State.pathBack
  split <;> simp

@[simp] theorem State.pathReturn_core (s : State) (c : Nat) : (State.pathReturn s c).core = s.core := by
  unfold State.pathReturn
  try simp
  all_goals (repeat' (first | (apply core_foldl; intro t x; try simp) | (apply core_foldl_pair; intro t x; try simp) | (split <;> (try simp)) | (simp_all; done)))

@[simp] theorem State.srPath_core (s : State) (c cyc : Nat) (rivals : List KeyAsk) : (State.srPath s c cyc rivals).core = s.core := by
  unfold State.srPath
  try simp
  all_goals (repeat' (first | (apply core_foldl; intro t x; try simp) | (apply core_foldl_pair; intro t x; try simp) | (split <;> (try simp)) | (simp_all; done)))

@[simp] theorem State.refreshed_core (s : State) (c u : Nat) : (State.refreshed s c u).core = s.core := by
  unfold State.refreshed
  try simp
  all_goals (repeat' (first | (apply core_foldl; intro t x; try simp) | (apply core_foldl_pair; intro t x; try simp) | (split <;> (try simp)) | (simp_all; done)))

@[simp] theorem State.backoffStart_core (s : State) (c pr onset : Nat) : (State.backoffStart s c pr onset).core = s.core := by
  unfold State.backoffStart
  try simp
  all_goals (repeat' (first | (apply core_foldl; intro t x; try simp) | (apply core_foldl_pair; intro t x; try simp) | (split <;> (try simp)) | (simp_all; done)))

@[simp] theorem State.backoffRfm_core (s : State) (c u cyc : Nat) : (State.backoffRfm s c u cyc).core = s.core := by
  unfold State.backoffRfm
  try simp
  all_goals (repeat' (first | (apply core_foldl; intro t x; try simp) | (apply core_foldl_pair; intro t x; try simp) | (split <;> (try simp)) | (simp_all; done)))

@[simp] theorem State.mpcDone_core (s : State) (c key op cyc : Nat) : (State.mpcDone s c key op cyc).core = s.core := by
  unfold State.mpcDone
  try simp
  all_goals (repeat' (first | (apply core_foldl; intro t x; try simp) | (apply core_foldl_pair; intro t x; try simp) | (split <;> (try simp)) | (simp_all; done)))

@[simp] theorem State.mrwDone_core (s : State) (c u addr data : Nat) : (State.mrwDone s c u addr data).core = s.core := by
  unfold State.mrwDone
  try simp
  all_goals (repeat' (first | (apply core_foldl; intro t x; try simp) | (apply core_foldl_pair; intro t x; try simp) | (split <;> (try simp)) | (simp_all; done)))

@[simp] theorem State.pdCount_core (s : State) (c cyc : Nat) : (State.pdCount s c cyc).core = s.core := by
  unfold State.pdCount
  try simp
  all_goals (repeat' (first | (apply core_foldl; intro t x; try simp) | (apply core_foldl_pair; intro t x; try simp) | (split <;> (try simp)) | (simp_all; done)))

@[simp] theorem State.bankEffect_core (s : State) (c : Nat) (p : Passed) : (State.bankEffect s c p).core = s.core := by
  unfold State.bankEffect
  try simp
  all_goals (repeat' (first | (apply core_foldl; intro t x; try simp) | (apply core_foldl_pair; intro t x; try simp) | (split <;> (try simp)) | (simp_all; done)))

@[simp] theorem State.chanLogic_core (s : State) (c : Nat) : (State.chanLogic s c).core = s.core := by
  unfold State.chanLogic
  try simp
  all_goals (repeat' (first | (apply core_foldl; intro t x; try simp) | (apply core_foldl_pair; intro t x; try simp) | (split <;> (try simp)) | (simp_all; done)))

@[simp] theorem State.exitBegin_core (s : State) (c : Nat) : (State.exitBegin s c).core = s.core := by
  unfold State.exitBegin
  try simp
  all_goals (repeat' (first | (apply core_foldl; intro t x; try simp) | (apply core_foldl_pair; intro t x; try simp) | (split <;> (try simp)) | (simp_all; done)))

@[simp] theorem State.resetExit_core (s : State) (c : Nat) : (State.resetExit s c).core = s.core := by
  unfold State.resetExit
  try simp
  all_goals (repeat' (first | (apply core_foldl; intro t x; try simp) | (apply core_foldl_pair; intro t x; try simp) | (split <;> (try simp)) | (simp_all; done)))

@[simp] theorem State.srBegin_core (s : State) (c why : Nat) : (State.srBegin s c why).core = s.core := by
  unfold State.srBegin
  try simp
  all_goals (repeat' (first | (apply core_foldl; intro t x; try simp) | (apply core_foldl_pair; intro t x; try simp) | (split <;> (try simp)) | (simp_all; done)))

@[simp] theorem State.srStopped_core (s : State) (c : Nat) : (State.srStopped s c).core = s.core := by
  unfold State.srStopped
  try simp
  all_goals (repeat' (first | (apply core_foldl; intro t x; try simp) | (apply core_foldl_pair; intro t x; try simp) | (split <;> (try simp)) | (simp_all; done)))

@[simp] theorem State.srClock_core (s : State) (c : Nat) : (State.srClock s c).core = s.core := by
  unfold State.srClock
  try simp
  all_goals (repeat' (first | (apply core_foldl; intro t x; try simp) | (apply core_foldl_pair; intro t x; try simp) | (split <;> (try simp)) | (simp_all; done)))

@[simp] theorem State.srEntered_core (s : State) (c key : Nat) : (State.srEntered s c key).core = s.core := by
  unfold State.srEntered
  try simp
  all_goals (repeat' (first | (apply core_foldl; intro t x; try simp) | (apply core_foldl_pair; intro t x; try simp) | (split <;> (try simp)) | (simp_all; done)))

@[simp] theorem State.ticksRestart_core (s : State) (c t : Nat) : (State.ticksRestart s c t).core = s.core := by
  unfold State.ticksRestart
  try simp
  all_goals (repeat' (first | (apply core_foldl; intro t x; try simp) | (apply core_foldl_pair; intro t x; try simp) | (split <;> (try simp)) | (simp_all; done)))

/-! Operations of Timing. -/

theorem State.pntPre_core (s : State) (c cyc : Nat) (p : Nat → Bool) : ∀ t, (State.pntPre s c cyc p) = some t → t.1.core = s.core := by
  intro t h
  unfold State.pntPre at h
  revert h
  try dsimp only
  repeat' split
  all_goals (intro h; first | (rw [← Option.some.inj h]; simp; done) | (cases h; done))

@[simp] theorem State.compareTables_core (s : State) (c : Nat) (upset banks : Bool) : (State.compareTables s c upset banks).core = s.core := by
  unfold State.compareTables
  try simp
  all_goals (repeat' (first | (apply core_foldl; intro t x; try simp) | (apply core_foldl_pair; intro t x; try simp) | (split <;> (try simp)) | (simp_all; done)))

@[simp] theorem State.parityAlert_core (s : State) (c onset cyc : Nat) : (State.parityAlert s c onset cyc).core = s.core := by
  unfold State.parityAlert
  try simp
  all_goals (repeat' (first | (apply core_foldl; intro t x; try simp) | (apply core_foldl_pair; intro t x; try simp) | (split <;> (try simp)) | (simp_all; done)))

@[simp] theorem State.replayCmd_core (c start : Nat) (a : State × Bool) (p : Passed) : (State.replayCmd c start a p).1.core = a.1.core := by
  unfold State.replayCmd
  try simp
  all_goals (repeat' (first | (apply core_foldl; intro t x; try simp) | (apply core_foldl_pair; intro t x; try simp) | (split <;> (try simp)) | (simp_all; done)))

@[simp] theorem State.reissue_core (c start : Nat) (a : State × Bool) (p : Passed) : (State.reissue c start a p).1.core = a.1.core := by
  unfold State.reissue
  try simp
  all_goals (repeat' (first | (apply core_foldl; intro t x; try simp) | (apply core_foldl_pair; intro t x; try simp) | (split <;> (try simp)) | (simp_all; done)))

@[simp] theorem State.emergency_core (s : State) (c : Nat) : (State.emergency s c).core = s.core := by
  unfold State.emergency
  try simp
  all_goals (repeat' (first | (apply core_foldl; intro t x; try simp) | (apply core_foldl_pair; intro t x; try simp) | (split <;> (try simp)) | (simp_all; done)))

@[simp] theorem State.replayShut_core (s : State) (c : Nat) : (State.replayShut s c).1.core = s.core := by
  unfold State.replayShut
  try simp
  all_goals (repeat' (first | (apply core_foldl; intro t x; try simp) | (apply core_foldl_pair; intro t x; try simp) | (split <;> (try simp)) | (simp_all; done)))

@[simp] theorem State.replaySend_core (s : State) (c cyc : Nat) : (State.replaySend s c cyc).core = s.core := by
  unfold State.replaySend
  try simp
  all_goals (repeat' (first | (apply core_foldl; intro t x; try simp) | (apply core_foldl_pair; intro t x; try simp) | (split <;> (try simp)) | (simp_all; done)))

end Sys2Proof.Machine
end

