-- ==== Sys2Proof/Laws/CoreBond.lean ====
section
/-! SUPPORT. The core of the state: what the store, the images, training, the bond and the buttress keep. Each lemma says that an operation
leaves the build, the pair, cold reset, the straps, the uptime and the queue of commands as they were. -/

set_option Elab.async false
set_option linter.unusedSimpArgs false
set_option linter.unusedVariables false
set_option linter.unusedTactic false
set_option linter.unreachableTactic false

namespace Sys2Proof.Machine

/-! Operations of PlinthOps. -/

@[simp] theorem State.modPln_core (s : State) (f : PlnSt → PlnSt) : (State.modPln s f).core = s.core := by
  unfold State.modPln
  try simp
  all_goals (repeat' (first | (apply core_foldl; intro t x; try simp) | (apply core_foldl_pair; intro t x; try simp) | (split <;> (try simp)) | (simp_all; done)))

@[simp] theorem State.setPlnRow_core (s : State) (r : Nat) (v : BitVec 512) : (State.setPlnRow s r v).core = s.core := by
  unfold State.setPlnRow
  try simp
  all_goals (repeat' (first | (apply core_foldl; intro t x; try simp) | (apply core_foldl_pair; intro t x; try simp) | (split <;> (try simp)) | (simp_all; done)))

@[simp] theorem State.rowsLost_core (s : State) (l : List Nat) : (State.rowsLost s l).core = s.core := by
  unfold State.rowsLost
  try simp
  all_goals (repeat' (first | (apply core_foldl; intro t x; try simp) | (apply core_foldl_pair; intro t x; try simp) | (split <;> (try simp)) | (simp_all; done)))

@[simp] theorem State.setValid_core (s : State) (type index : Nat) : (State.setValid s type index).core = s.core := by
  unfold State.setValid
  try simp
  all_goals (repeat' (first | (apply core_foldl; intro t x; try simp) | (apply core_foldl_pair; intro t x; try simp) | (split <;> (try simp)) | (simp_all; done)))

@[simp] theorem State.plnErr_core (s : State) (f : Field) (kind sev : Nat) : (State.plnErr s f kind sev).core = s.core := by
  unfold State.plnErr
  try simp
  all_goals (repeat' (first | (apply core_foldl; intro t x; try simp) | (apply core_foldl_pair; intro t x; try simp) | (split <;> (try simp)) | (simp_all; done)))

@[simp] theorem State.moveStart_core (s : State) (pl : PlnPlan) (n : Nat) : (State.moveStart s pl n).core = s.core := by
  unfold State.moveStart
  try simp
  all_goals (repeat' (first | (apply core_foldl; intro t x; try simp) | (apply core_foldl_pair; intro t x; try simp) | (split <;> (try simp)) | (simp_all; done)))

@[simp] theorem State.askStore_core (s : State) (type index : Nat) (body : List Nat) : (State.askStore s type index body).core = s.core := by
  unfold State.askStore
  try simp
  all_goals (repeat' (first | (apply core_foldl; intro t x; try simp) | (apply core_foldl_pair; intro t x; try simp) | (split <;> (try simp)) | (simp_all; done)))

@[simp] theorem State.tornRow_core (s : State) (r type index : Nat) : (State.tornRow s r type index).core = s.core := by
  unfold State.tornRow
  dsimp only
  split <;> simp

@[simp] theorem State.storeBegin_core (s : State) : (State.storeBegin s).core = s.core := by
  unfold State.storeBegin
  try simp
  all_goals (repeat' (first | (apply core_foldl; intro t x; try simp) | (apply core_foldl_pair; intro t x; try simp) | (split <;> (try simp)) | (simp_all; done)))

@[simp] theorem State.storeGone_core (s : State) : (State.storeGone s).core = s.core := by
  unfold State.storeGone
  try simp
  all_goals (repeat' (first | (apply core_foldl; intro t x; try simp) | (apply core_foldl_pair; intro t x; try simp) | (split <;> (try simp)) | (simp_all; done)))

@[simp] theorem State.handValues_core (s : State) (c : Nat) : (State.handValues s c).core = s.core := by
  unfold State.handValues
  try simp
  all_goals (repeat' (first | (apply core_foldl; intro t x; try simp) | (apply core_foldl_pair; intro t x; try simp) | (split <;> (try simp)) | (simp_all; done)))

@[simp] theorem State.startSlot_core (s : State) (w : Option (Nat × Nat)) : (State.startSlot s w).core = s.core := by
  unfold State.startSlot
  try simp
  all_goals (repeat' (first | (apply core_foldl; intro t x; try simp) | (apply core_foldl_pair; intro t x; try simp) | (split <;> (try simp)) | (simp_all; done)))

@[simp] theorem State.startRecord_core (s : State) (e : Nat × Nat) : (State.startRecord s e).core = s.core := by
  unfold State.startRecord
  try simp
  all_goals (repeat' (first | (apply core_foldl; intro t x; try simp) | (apply core_foldl_pair; intro t x; try simp) | (split <;> (try simp)) | (simp_all; done)))

@[simp] theorem State.startCycle_core (s : State) : (State.startCycle s).core = s.core := by
  unfold State.startCycle
  try simp
  all_goals (repeat' (first | (apply core_foldl; intro t x; try simp) | (apply core_foldl_pair; intro t x; try simp) | (split <;> (try simp)) | (simp_all; done)))

@[simp] theorem State.startSeal_core (s : State) : (State.startSeal s).core = s.core := by
  unfold State.startSeal
  try simp
  all_goals (repeat' (first | (apply core_foldl; intro t x; try simp) | (apply core_foldl_pair; intro t x; try simp) | (split <;> (try simp)) | (simp_all; done)))

@[simp] theorem State.plnUpset_core (s : State) (upset : Nat) : (State.plnUpset s upset).core = s.core := by
  unfold State.plnUpset
  try simp
  all_goals (repeat' (first | (apply core_foldl; intro t x; try simp) | (apply core_foldl_pair; intro t x; try simp) | (split <;> (try simp)) | (simp_all; done)))

@[simp] theorem State.recordUpset_core (s : State) (type index upset : Nat) : (State.recordUpset s type index upset).core = s.core := by
  unfold State.recordUpset
  try simp
  all_goals (repeat' (first | (apply core_foldl; intro t x; try simp) | (apply core_foldl_pair; intro t x; try simp) | (split <;> (try simp)) | (simp_all; done)))

@[simp] theorem State.plinthStart_core (s : State) (upset : Nat) (lost : List Nat) : (State.plinthStart s upset lost).core = s.core := by
  unfold State.plinthStart
  try simp
  all_goals (repeat' (first | (apply core_foldl; intro t x; try simp) | (apply core_foldl_pair; intro t x; try simp) | (split <;> (try simp)) | (simp_all; done)))

@[simp] theorem State.plinthReady_core (s : State) (count : Nat) : (State.plinthReady s count).core = s.core := by
  unfold State.plinthReady
  try simp
  all_goals (repeat' (first | (apply core_foldl; intro t x; try simp) | (apply core_foldl_pair; intro t x; try simp) | (split <;> (try simp)) | (simp_all; done)))

@[simp] theorem State.setBuf_core (s : State) (r : BitVec 512) : (State.setBuf s r).core = s.core := by
  unfold State.setBuf
  try simp
  all_goals (repeat' (first | (apply core_foldl; intro t x; try simp) | (apply core_foldl_pair; intro t x; try simp) | (split <;> (try simp)) | (simp_all; done)))

@[simp] theorem State.readRec_core (s : State) (type upset : Nat) : (State.readRec s type upset).core = s.core := by
  unfold State.readRec
  try simp
  all_goals (repeat' (first | (apply core_foldl; intro t x; try simp) | (apply core_foldl_pair; intro t x; try simp) | (split <;> (try simp)) | (simp_all; done)))

@[simp] theorem State.rawRead_core (s : State) (row upset : Nat) : (State.rawRead s row upset).core = s.core := by
  unfold State.rawRead
  try simp
  all_goals (repeat' (first | (apply core_foldl; intro t x; try simp) | (apply core_foldl_pair; intro t x; try simp) | (split <;> (try simp)) | (simp_all; done)))

@[simp] theorem State.plnRun_core (s : State) (x : PlnCmd) : (State.plnRun s x).core = s.core := by
  unfold State.plnRun
  try simp
  all_goals (repeat' (first | (apply core_foldl; intro t x; try simp) | (apply core_foldl_pair; intro t x; try simp) | (split <;> (try simp)) | (simp_all; done)))

@[simp] theorem State.plnNext_core (s : State) : (State.plnNext s).core = s.core := by
  unfold State.plnNext
  try simp
  all_goals (repeat' (first | (apply core_foldl; intro t x; try simp) | (apply core_foldl_pair; intro t x; try simp) | (split <;> (try simp)) | (simp_all; done)))

@[simp] theorem State.stopStore_core (s : State) : (State.stopStore s).core = s.core := by
  unfold State.stopStore
  try simp
  all_goals (repeat' (first | (apply core_foldl; intro t x; try simp) | (apply core_foldl_pair; intro t x; try simp) | (split <;> (try simp)) | (simp_all; done)))

@[simp] theorem State.killStore_core (s : State) : (State.killStore s).core = s.core := by
  unfold State.killStore
  try simp
  all_goals (repeat' (first | (apply core_foldl; intro t x; try simp) | (apply core_foldl_pair; intro t x; try simp) | (split <;> (try simp)) | (simp_all; done)))

@[simp] theorem State.fatalStore_core (s : State) (body : List Nat) : (State.fatalStore s body).core = s.core := by
  unfold State.fatalStore
  try simp
  all_goals (repeat' (first | (apply core_foldl; intro t x; try simp) | (apply core_foldl_pair; intro t x; try simp) | (split <;> (try simp)) | (simp_all; done)))

/-! Operations of MasonRun. -/

@[simp] theorem State.masonTake_core (s : State) (m : Nat) (want : Bool) : (State.masonTake s m want).core = s.core := by
  unfold State.masonTake
  try simp
  all_goals (repeat' (first | (apply core_foldl; intro t x; try simp) | (apply core_foldl_pair; intro t x; try simp) | (split <;> (try simp)) | (simp_all; done)))

@[simp] theorem State.masonFollow_core (s : State) (m : Nat) : (State.masonFollow s m).core = s.core := by
  unfold State.masonFollow
  try simp
  all_goals (repeat' (first | (apply core_foldl; intro t x; try simp) | (apply core_foldl_pair; intro t x; try simp) | (split <;> (try simp)) | (simp_all; done)))

@[simp] theorem State.masonsApply_core (s : State) : (State.masonsApply s).core = s.core := by
  unfold State.masonsApply
  try simp
  all_goals (repeat' (first | (apply core_foldl; intro t x; try simp) | (apply core_foldl_pair; intro t x; try simp) | (split <;> (try simp)) | (simp_all; done)))

@[simp] theorem State.masonsAnew_core (s : State) : (State.masonsAnew s).core = s.core := by
  unfold State.masonsAnew
  try simp
  all_goals (repeat' (first | (apply core_foldl; intro t x; try simp) | (apply core_foldl_pair; intro t x; try simp) | (split <;> (try simp)) | (simp_all; done)))

@[simp] theorem State.masonsOf_core (s : State) (c : Nat) : (State.masonsOf s c).core = s.core := by
  unfold State.masonsOf
  try simp
  all_goals (repeat' (first | (apply core_foldl; intro t x; try simp) | (apply core_foldl_pair; intro t x; try simp) | (split <;> (try simp)) | (simp_all; done)))

/-! Operations of QuoOps. -/

@[simp] theorem State.issueReads_core (s : State) (n : Nat) : (State.issueReads s n).core = s.core := by
  induction n generalizing s with
  | zero => rfl
  | succ n ih =>
    unfold State.issueReads
    split
    · split
      · rw [ih]; simp
      · rfl
    · rfl

@[simp] theorem State.quarantine_core (s : State) : (State.quarantine s).core = s.core := by
  unfold State.quarantine
  try simp
  all_goals (repeat' (first | (apply core_foldl; intro t x; try simp) | (apply core_foldl_pair; intro t x; try simp) | (split <;> (try simp)) | (simp_all; done)))

@[simp] theorem State.imgEnd_core (s : State) (kind result : Nat) : (State.imgEnd s kind result).core = s.core := by
  unfold State.imgEnd
  try simp
  all_goals (repeat' (first | (apply core_foldl; intro t x; try simp) | (apply core_foldl_pair; intro t x; try simp) | (split <;> (try simp)) | (simp_all; done)))

@[simp] theorem State.imgAbort_core (s : State) : (State.imgAbort s).core = s.core := by
  unfold State.imgAbort
  try simp
  all_goals (repeat' (first | (apply core_foldl; intro t x; try simp) | (apply core_foldl_pair; intro t x; try simp) | (split <;> (try simp)) | (simp_all; done)))

@[simp] theorem State.drainStop_core (s : State) (status : Nat) : (State.drainStop s status).core = s.core := by
  unfold State.drainStop
  try simp
  all_goals (repeat' (first | (apply core_foldl; intro t x; try simp) | (apply core_foldl_pair; intro t x; try simp) | (split <;> (try simp)) | (simp_all; done)))

@[simp] theorem State.releaseCheck_core (s : State) : (State.releaseCheck s).core = s.core := by
  unfold State.releaseCheck
  try simp
  all_goals (repeat' (first | (apply core_foldl; intro t x; try simp) | (apply core_foldl_pair; intro t x; try simp) | (split <;> (try simp)) | (simp_all; done)))

@[simp] theorem State.contain_core (s : State) (cause : Nat) : (State.contain s cause).core = s.core := by
  unfold State.contain
  try simp
  all_goals (repeat' (first | (apply core_foldl; intro t x; try simp) | (apply core_foldl_pair; intro t x; try simp) | (split <;> (try simp)) | (simp_all; done)))

@[simp] theorem State.containWith_core (s : State) (cause : Nat) (same : Bool) : (State.containWith s cause same).core = s.core := by
  unfold State.containWith
  try simp
  all_goals (repeat' (first | (apply core_foldl; intro t x; try simp) | (apply core_foldl_pair; intro t x; try simp) | (split <;> (try simp)) | (simp_all; done)))

@[simp] theorem State.masterOff_core (s : State) : (State.masterOff s).core = s.core := by
  unfold State.masterOff
  try simp
  all_goals (repeat' (first | (apply core_foldl; intro t x; try simp) | (apply core_foldl_pair; intro t x; try simp) | (split <;> (try simp)) | (simp_all; done)))

/-! Operations of Images. -/

@[simp] theorem State.loadRuntime_core (s : State) (i : Img) : (State.loadRuntime s i).core = s.core := by
  unfold State.loadRuntime
  try simp
  all_goals (repeat' (first | (apply core_foldl; intro t x; try simp) | (apply core_foldl_pair; intro t x; try simp) | (split <;> (try simp)) | (simp_all; done)))

@[simp] theorem State.seqLoad_core (s : State) (c : Nat) : (State.seqLoad s c).core = s.core := by
  unfold State.seqLoad
  try simp
  all_goals (repeat' (first | (apply core_foldl; intro t x; try simp) | (apply core_foldl_pair; intro t x; try simp) | (split <;> (try simp)) | (simp_all; done)))

@[simp] theorem State.putImage_core (s : State) (kind : Nat) (i : Img) : (State.putImage s kind i).core = s.core := by
  unfold State.putImage
  try simp
  all_goals (repeat' (first | (apply core_foldl; intro t x; try simp) | (apply core_foldl_pair; intro t x; try simp) | (split <;> (try simp)) | (simp_all; done)))

@[simp] theorem State.selectImages_core (s : State) : (State.selectImages s).core = s.core := by
  unfold State.selectImages
  try simp
  all_goals (repeat' (first | (apply core_foldl; intro t x; try simp) | (apply core_foldl_pair; intro t x; try simp) | (split <;> (try simp)) | (simp_all; done)))

@[simp] theorem State.imgStart_core (s : State) (op kind len : Nat) : (State.imgStart s op kind len).core = s.core := by
  unfold State.imgStart
  try simp
  all_goals (repeat' (first | (apply core_foldl; intro t x; try simp) | (apply core_foldl_pair; intro t x; try simp) | (split <;> (try simp)) | (simp_all; done)))

@[simp] theorem State.imgForce_core (s : State) (kind : Nat) (b : List Nat) : (State.imgForce s kind b).core = s.core := by
  unfold State.imgForce
  try simp
  all_goals (repeat' (first | (apply core_foldl; intro t x; try simp) | (apply core_foldl_pair; intro t x; try simp) | (split <;> (try simp)) | (simp_all; done)))

@[simp] theorem State.imgArrived_core (s : State) (i : ImgOp) (b : List Nat) : (State.imgArrived s i b).core = s.core := by
  unfold State.imgArrived
  try simp
  all_goals (repeat' (first | (apply core_foldl; intro t x; try simp) | (apply core_foldl_pair; intro t x; try simp) | (split <;> (try simp)) | (simp_all; done)))

@[simp] theorem State.imgLate_core (s : State) (i : ImgOp) (b : List Nat) : (State.imgLate s i b).core = s.core := by
  unfold State.imgLate
  try simp
  all_goals (repeat' (first | (apply core_foldl; intro t x; try simp) | (apply core_foldl_pair; intro t x; try simp) | (split <;> (try simp)) | (simp_all; done)))

@[simp] theorem State.imgWaited_core (s : State) : (State.imgWaited s).core = s.core := by
  unfold State.imgWaited
  try simp
  all_goals (repeat' (first | (apply core_foldl; intro t x; try simp) | (apply core_foldl_pair; intro t x; try simp) | (split <;> (try simp)) | (simp_all; done)))

@[simp] theorem State.imgStored_core (s : State) (type : Nat) (good : Bool) : (State.imgStored s type good).core = s.core := by
  unfold State.imgStored
  try simp
  all_goals (repeat' (first | (apply core_foldl; intro t x; try simp) | (apply core_foldl_pair; intro t x; try simp) | (split <;> (try simp)) | (simp_all; done)))

/-! Operations of ScreedOps. -/

@[simp] theorem State.modScr_core (s : State) (c : Nat) (f : ScrSt → ScrSt) : (State.modScr s c f).core = s.core := by
  unfold State.modScr
  try simp
  all_goals (repeat' (first | (apply core_foldl; intro t x; try simp) | (apply core_foldl_pair; intro t x; try simp) | (split <;> (try simp)) | (simp_all; done)))

@[simp] theorem State.setScrState_core (s : State) (c v : Nat) : (State.setScrState s c v).core = s.core := by
  unfold State.setScrState
  try simp
  all_goals (repeat' (first | (apply core_foldl; intro t x; try simp) | (apply core_foldl_pair; intro t x; try simp) | (split <;> (try simp)) | (simp_all; done)))

@[simp] theorem State.scrErr_core (s : State) (c : Nat) (f : Field) (kind sev : Nat) : (State.scrErr s c f kind sev).core = s.core := by
  unfold State.scrErr
  try simp
  all_goals (repeat' (first | (apply core_foldl; intro t x; try simp) | (apply core_foldl_pair; intro t x; try simp) | (split <;> (try simp)) | (simp_all; done)))

@[simp] theorem State.setStale_core (s : State) (c : Nat) (subs : List Nat) (v : Nat) : (State.setStale s c subs v).core = s.core := by
  unfold State.setStale
  try simp
  all_goals (repeat' (first | (apply core_foldl; intro t x; try simp) | (apply core_foldl_pair; intro t x; try simp) | (split <;> (try simp)) | (simp_all; done)))

@[simp] theorem State.noteRank_core (s : State) (c sub k verdict rank lanes : Nat) : (State.noteRank s c sub k verdict rank lanes).core = s.core := by
  unfold State.noteRank
  try simp
  all_goals (repeat' (first | (apply core_foldl; intro t x; try simp) | (apply core_foldl_pair; intro t x; try simp) | (split <;> (try simp)) | (simp_all; done)))

@[simp] theorem State.clearRow_core (s : State) (c k : Nat) : (State.clearRow s c k).core = s.core := by
  unfold State.clearRow
  try simp
  all_goals (repeat' (first | (apply core_foldl; intro t x; try simp) | (apply core_foldl_pair; intro t x; try simp) | (split <;> (try simp)) | (simp_all; done)))

@[simp] theorem State.putResult_core (s : State) (c sub k w : Nat) : (State.putResult s c sub k w).core = s.core := by
  unfold State.putResult
  try simp
  all_goals (repeat' (first | (apply core_foldl; intro t x; try simp) | (apply core_foldl_pair; intro t x; try simp) | (split <;> (try simp)) | (simp_all; done)))

@[simp] theorem State.commitResults_core (s : State) (c : Nat) (ks : List Nat) : (State.commitResults s c ks).core = s.core := by
  unfold State.commitResults
  try simp
  all_goals (repeat' (first | (apply core_foldl; intro t x; try simp) | (apply core_foldl_pair; intro t x; try simp) | (split <;> (try simp)) | (simp_all; done)))

@[simp] theorem State.zqGrant_core (s : State) (g : Nat) (but : Option Nat) : (State.zqGrant s g but).core = s.core := by
  unfold State.zqGrant
  try simp
  all_goals (repeat' (first | (apply core_foldl; intro t x; try simp) | (apply core_foldl_pair; intro t x; try simp) | (split <;> (try simp)) | (simp_all; done)))

@[simp] theorem State.zqFree_core (s : State) (c : Nat) : (State.zqFree s c).core = s.core := by
  unfold State.zqFree
  try simp
  all_goals (repeat' (first | (apply core_foldl; intro t x; try simp) | (apply core_foldl_pair; intro t x; try simp) | (split <;> (try simp)) | (simp_all; done)))

@[simp] theorem State.bootCheck_core (s : State) : (State.bootCheck s).core = s.core := by
  unfold State.bootCheck
  try simp
  all_goals (repeat' (first | (apply core_foldl; intro t x; try simp) | (apply core_foldl_pair; intro t x; try simp) | (split <;> (try simp)) | (simp_all; done)))

@[simp] theorem State.screedCmd_core (s : State) (c : Nat) (p : Passed) : (State.screedCmd s c p).core = s.core := by
  unfold State.screedCmd
  try simp
  all_goals (repeat' (first | (apply core_foldl; intro t x; try simp) | (apply core_foldl_pair; intro t x; try simp) | (split <;> (try simp)) | (simp_all; done)))

@[simp] theorem State.screedCmds_core (s : State) (c : Nat) (ps : List Passed) : (State.screedCmds s c ps).core = s.core := by
  unfold State.screedCmds
  try simp
  all_goals (repeat' (first | (apply core_foldl; intro t x; try simp) | (apply core_foldl_pair; intro t x; try simp) | (split <;> (try simp)) | (simp_all; done)))

@[simp] theorem State.shutSub_core (s : State) (c sub : Nat) : (State.shutSub s c sub).core = s.core := by
  unfold State.shutSub
  try simp
  all_goals (repeat' (first | (apply core_foldl; intro t x; try simp) | (apply core_foldl_pair; intro t x; try simp) | (split <;> (try simp)) | (simp_all; done)))

@[simp] theorem State.measureCmds_core (s : State) (c sub : Nat) : (State.measureCmds s c sub).core = s.core := by
  unfold State.measureCmds
  try simp
  all_goals (repeat' (first | (apply core_foldl; intro t x; try simp) | (apply core_foldl_pair; intro t x; try simp) | (split <;> (try simp)) | (simp_all; done)))

@[simp] theorem State.dramWrites_core (s : State) (c : Nat) : (State.dramWrites s c).core = s.core := by
  unfold State.dramWrites
  try simp
  all_goals (repeat' (first | (apply core_foldl; intro t x; try simp) | (apply core_foldl_pair; intro t x; try simp) | (split <;> (try simp)) | (simp_all; done)))

@[simp] theorem State.pastScreed_core (s : State) (c : Nat) : (State.pastScreed s c).core = s.core := by
  unfold State.pastScreed
  try simp
  all_goals (repeat' (first | (apply core_foldl; intro t x; try simp) | (apply core_foldl_pair; intro t x; try simp) | (split <;> (try simp)) | (simp_all; done)))

@[simp] theorem State.resetPulse_core (s : State) (c : Nat) : (State.resetPulse s c).core = s.core := by
  unfold State.resetPulse
  try simp
  all_goals (repeat' (first | (apply core_foldl; intro t x; try simp) | (apply core_foldl_pair; intro t x; try simp) | (split <;> (try simp)) | (simp_all; done)))

@[simp] theorem State.startAttempt_core (s : State) (c n : Nat) (full : Bool) : (State.startAttempt s c n full).core = s.core := by
  unfold State.startAttempt
  try simp
  all_goals (repeat' (first | (apply core_foldl; intro t x; try simp) | (apply core_foldl_pair; intro t x; try simp) | (split <;> (try simp)) | (simp_all; done)))

@[simp] theorem State.scrRelease_core (s : State) (c : Nat) : (State.scrRelease s c).core = s.core := by
  unfold State.scrRelease
  try simp
  all_goals (repeat' (first | (apply core_foldl; intro t x; try simp) | (apply core_foldl_pair; intro t x; try simp) | (split <;> (try simp)) | (simp_all; done)))

@[simp] theorem State.trainFail_core (s : State) (c : Nat) : (State.trainFail s c).core = s.core := by
  unfold State.trainFail
  try simp
  all_goals (repeat' (first | (apply core_foldl; intro t x; try simp) | (apply core_foldl_pair; intro t x; try simp) | (split <;> (try simp)) | (simp_all; done)))

@[simp] theorem State.seqStart_core (s : State) (c : Nat) (full : Bool) : (State.seqStart s c full).core = s.core := by
  unfold State.seqStart
  try simp
  all_goals (repeat' (first | (apply core_foldl; intro t x; try simp) | (apply core_foldl_pair; intro t x; try simp) | (split <;> (try simp)) | (simp_all; done)))

@[simp] theorem State.startRun_core (s : State) (c run : Nat) (rivals : List KeyAsk) : (State.startRun s c run rivals).core = s.core := by
  unfold State.startRun
  try simp
  all_goals (repeat' (first | (apply core_foldl; intro t x; try simp) | (apply core_foldl_pair; intro t x; try simp) | (split <;> (try simp)) | (simp_all; done)))

@[simp] theorem State.attemptFail_core (s : State) (c : Nat) : (State.attemptFail s c).core = s.core := by
  unfold State.attemptFail
  try simp
  all_goals (repeat' (first | (apply core_foldl; intro t x; try simp) | (apply core_foldl_pair; intro t x; try simp) | (split <;> (try simp)) | (simp_all; done)))

@[simp] theorem State.loseTrainingRows_core (s : State) (c : Nat) : (State.loseTrainingRows s c).core = s.core := by
  unfold State.loseTrainingRows
  try simp
  all_goals (repeat' (first | (apply core_foldl; intro t x; try simp) | (apply core_foldl_pair; intro t x; try simp) | (split <;> (try simp)) | (simp_all; done)))

@[simp] theorem State.nextStep_core (s : State) (c k : Nat) : (State.nextStep s c k).core = s.core := by
  unfold State.nextStep
  try simp
  all_goals (repeat' (first | (apply core_foldl; intro t x; try simp) | (apply core_foldl_pair; intro t x; try simp) | (split <;> (try simp)) | (simp_all; done)))

@[simp] theorem State.stepPassed_core (s : State) (c k : Nat) : (State.stepPassed s c k).core = s.core := by
  unfold State.stepPassed
  try simp
  all_goals (repeat' (first | (apply core_foldl; intro t x; try simp) | (apply core_foldl_pair; intro t x; try simp) | (split <;> (try simp)) | (simp_all; done)))

@[simp] theorem State.rankEnd_core (s : State) (c sub : Nat) (e : StepEnd) (timeout : Bool) : (State.rankEnd s c sub e timeout).core = s.core := by
  unfold State.rankEnd
  try simp
  all_goals (repeat' (first | (apply core_foldl; intro t x; try simp) | (apply core_foldl_pair; intro t x; try simp) | (split <;> (try simp)) | (simp_all; done)))

@[simp] theorem State.stepJudge_core (s : State) (c : Nat) : (State.stepJudge s c).core = s.core := by
  unfold State.stepJudge
  try simp
  all_goals (repeat' (first | (apply core_foldl; intro t x; try simp) | (apply core_foldl_pair; intro t x; try simp) | (split <;> (try simp)) | (simp_all; done)))

@[simp] theorem State.allOut_core (s : State) (c : Nat) (e : StepEnd) : (State.allOut s c e).core = s.core := by
  unfold State.allOut
  try simp
  all_goals (repeat' (first | (apply core_foldl; intro t x; try simp) | (apply core_foldl_pair; intro t x; try simp) | (split <;> (try simp)) | (simp_all; done)))

@[simp] theorem State.setBase_core (s : State) (c temp : Nat) : (State.setBase s c temp).core = s.core := by
  unfold State.setBase
  try simp
  all_goals (repeat' (first | (apply core_foldl; intro t x; try simp) | (apply core_foldl_pair; intro t x; try simp) | (split <;> (try simp)) | (simp_all; done)))

@[simp] theorem State.pntTrained_core (s : State) (c : Nat) : (State.pntTrained s c).core = s.core := by
  unfold State.pntTrained
  try simp
  all_goals (repeat' (first | (apply core_foldl; intro t x; try simp) | (apply core_foldl_pair; intro t x; try simp) | (split <;> (try simp)) | (simp_all; done)))

@[simp] theorem State.trainDone_core (s : State) (c : Nat) (e : StepEnd) : (State.trainDone s c e).core = s.core := by
  unfold State.trainDone
  try simp
  all_goals (repeat' (first | (apply core_foldl; intro t x; try simp) | (apply core_foldl_pair; intro t x; try simp) | (split <;> (try simp)) | (simp_all; done)))

@[simp] theorem State.abortRun_core (s : State) (c : Nat) : (State.abortRun s c).core = s.core := by
  unfold State.abortRun
  try simp
  all_goals (repeat' (first | (apply core_foldl; intro t x; try simp) | (apply core_foldl_pair; intro t x; try simp) | (split <;> (try simp)) | (simp_all; done)))

@[simp] theorem State.pause_core (s : State) (c quiet : Nat) : (State.pause s c quiet).core = s.core := by
  unfold State.pause
  try simp
  all_goals (repeat' (first | (apply core_foldl; intro t x; try simp) | (apply core_foldl_pair; intro t x; try simp) | (split <;> (try simp)) | (simp_all; done)))

@[simp] theorem State.startMeasure_core (s : State) (c run quiet : Nat) (rivals : List KeyAsk) : (State.startMeasure s c run quiet rivals).core = s.core := by
  unfold State.startMeasure
  try simp
  all_goals (repeat' (first | (apply core_foldl; intro t x; try simp) | (apply core_foldl_pair; intro t x; try simp) | (split <;> (try simp)) | (simp_all; done)))

@[simp] theorem State.measured_core (s : State) (c sub : Nat) (e : StepEnd) : (State.measured s c sub e).core = s.core := by
  unfold State.measured
  try simp
  all_goals (repeat' (first | (apply core_foldl; intro t x; try simp) | (apply core_foldl_pair; intro t x; try simp) | (split <;> (try simp)) | (simp_all; done)))

@[simp] theorem State.measureNext_core (s : State) (c : Nat) : (State.measureNext s c).core = s.core := by
  unfold State.measureNext
  try simp
  all_goals (repeat' (first | (apply core_foldl; intro t x; try simp) | (apply core_foldl_pair; intro t x; try simp) | (split <;> (try simp)) | (simp_all; done)))

@[simp] theorem State.measureDone_core (s : State) (c : Nat) : (State.measureDone s c).core = s.core := by
  unfold State.measureDone
  try simp
  all_goals (repeat' (first | (apply core_foldl; intro t x; try simp) | (apply core_foldl_pair; intro t x; try simp) | (split <;> (try simp)) | (simp_all; done)))

@[simp] theorem State.applyTable_core (s : State) (c : Nat) : (State.applyTable s c).core = s.core := by
  unfold State.applyTable
  try simp
  all_goals (repeat' (first | (apply core_foldl; intro t x; try simp) | (apply core_foldl_pair; intro t x; try simp) | (split <;> (try simp)) | (simp_all; done)))

/-! Operations of Bond. -/

@[simp] theorem State.linkLow_core (s : State) (p : Nat) : (State.linkLow s p).core = s.core := by
  unfold State.linkLow
  try simp
  all_goals (repeat' (first | (apply core_foldl; intro t x; try simp) | (apply core_foldl_pair; intro t x; try simp) | (split <;> (try simp)) | (simp_all; done)))

@[simp] theorem State.bondReq_core (s : State) (op : Op) (p : Nat) (m0 : Msg) : (State.bondReq s op p m0).core = s.core := by
  unfold State.bondReq
  try simp
  all_goals (repeat' (first | (apply core_foldl; intro t x; try simp) | (apply core_foldl_pair; intro t x; try simp) | (split <;> (try simp)) | (simp_all; done)))

@[simp] theorem State.syncIn_core (s : State) (m : Msg) : (State.syncIn s m).core = s.core := by
  unfold State.syncIn
  try simp
  all_goals (repeat' (first | (apply core_foldl; intro t x; try simp) | (apply core_foldl_pair; intro t x; try simp) | (split <;> (try simp)) | (simp_all; done)))

@[simp] theorem State.cplIn_core (s : State) (p : Nat) (m : Msg) (data : Bool) : (State.cplIn s p m data).core = s.core := by
  unfold State.cplIn
  try simp
  all_goals (repeat' (first | (apply core_foldl; intro t x; try simp) | (apply core_foldl_pair; intro t x; try simp) | (split <;> (try simp)) | (simp_all; done)))

@[simp] theorem State.bondCpl_core (s : State) (p : Nat) (m0 : Msg) (opc : Nat) : (State.bondCpl s p m0 opc).core = s.core := by
  unfold State.bondCpl
  try simp
  all_goals (repeat' (first | (apply core_foldl; intro t x; try simp) | (apply core_foldl_pair; intro t x; try simp) | (split <;> (try simp)) | (simp_all; done)))

@[simp] theorem State.helloIn_core (s : State) (p : Nat) (m : Msg) : (State.helloIn s p m).core = s.core := by
  unfold State.helloIn
  try simp
  all_goals (repeat' (first | (apply core_foldl; intro t x; try simp) | (apply core_foldl_pair; intro t x; try simp) | (split <;> (try simp)) | (simp_all; done)))

@[simp] theorem State.lsaIn_core (s : State) (p : Nat) (m : Msg) : (State.lsaIn s p m).core = s.core := by
  unfold State.lsaIn
  try simp
  all_goals (repeat' (first | (apply core_foldl; intro t x; try simp) | (apply core_foldl_pair; intro t x; try simp) | (split <;> (try simp)) | (simp_all; done)))

@[simp] theorem State.sendOut_core (s : State) (r : Req) (n : Nat) (rt : Route) : (State.sendOut s r n rt).core = s.core := by
  unfold State.sendOut
  split
  · rename_i h
    simp [State.reserveReturn_core _ _ _ h]
  · rfl

/-! Operations of ButtressOps. -/

@[simp] theorem State.modBut_core (s : State) (f : ButSt → ButSt) : (State.modBut s f).core = s.core := by
  unfold State.modBut
  try simp
  all_goals (repeat' (first | (apply core_foldl; intro t x; try simp) | (apply core_foldl_pair; intro t x; try simp) | (split <;> (try simp)) | (simp_all; done)))

@[simp] theorem State.setSrcStatus_core (s : State) (src : Nat) : (State.setSrcStatus s src).core = s.core := by
  unfold State.setSrcStatus
  try simp
  all_goals (repeat' (first | (apply core_foldl; intro t x; try simp) | (apply core_foldl_pair; intro t x; try simp) | (split <;> (try simp)) | (simp_all; done)))

@[simp] theorem State.setSrcWire_core (s : State) (src : Nat) : (State.setSrcWire s src).core = s.core := by
  unfold State.setSrcWire
  try simp
  all_goals (repeat' (first | (apply core_foldl; intro t x; try simp) | (apply core_foldl_pair; intro t x; try simp) | (split <;> (try simp)) | (simp_all; done)))

@[simp] theorem State.setSrcState_core (s : State) (src st : Nat) : (State.setSrcState s src st).core = s.core := by
  unfold State.setSrcState
  try simp
  all_goals (repeat' (first | (apply core_foldl; intro t x; try simp) | (apply core_foldl_pair; intro t x; try simp) | (split <;> (try simp)) | (simp_all; done)))

@[simp] theorem State.capture_core (s : State) (src : Nat) (r : Report) : (State.capture s src r).core = s.core := by
  unfold State.capture
  try simp
  all_goals (repeat' (first | (apply core_foldl; intro t x; try simp) | (apply core_foldl_pair; intro t x; try simp) | (split <;> (try simp)) | (simp_all; done)))

@[simp] theorem State.captureOrMerge_core (s : State) (src : Nat) (r : Report) : (State.captureOrMerge s src r).core = s.core := by
  unfold State.captureOrMerge
  try simp
  all_goals (repeat' (first | (apply core_foldl; intro t x; try simp) | (apply core_foldl_pair; intro t x; try simp) | (split <;> (try simp)) | (simp_all; done)))

@[simp] theorem State.record_core (s : State) (src : Nat) (r : Report) : (State.record s src r).core = s.core := by
  unfold State.record
  try simp
  all_goals (repeat' (first | (apply core_foldl; intro t x; try simp) | (apply core_foldl_pair; intro t x; try simp) | (split <;> (try simp)) | (simp_all; done)))

@[simp] theorem State.goFatal_core (s : State) : (State.goFatal s).core = s.core := by
  unfold State.goFatal
  try simp
  all_goals (repeat' (first | (apply core_foldl; intro t x; try simp) | (apply core_foldl_pair; intro t x; try simp) | (split <;> (try simp)) | (simp_all; done)))

@[simp] theorem State.fenceTarget_core (s : State) (src : Nat) : (State.fenceTarget s src).core = s.core := by
  unfold State.fenceTarget
  try simp
  all_goals (repeat' (first | (apply core_foldl; intro t x; try simp) | (apply core_foldl_pair; intro t x; try simp) | (split <;> (try simp)) | (simp_all; done)))

@[simp] theorem State.escalateFatal_core (s : State) (src : Nat) : (State.escalateFatal s src).core = s.core := by
  unfold State.escalateFatal
  try simp
  all_goals (repeat' (first | (apply core_foldl; intro t x; try simp) | (apply core_foldl_pair; intro t x; try simp) | (split <;> (try simp)) | (simp_all; done)))

@[simp] theorem State.judgeReport_core (s : State) (src sev : Nat) : (State.judgeReport s src sev).core = s.core := by
  unfold State.judgeReport
  try simp
  all_goals (repeat' (first | (apply core_foldl; intro t x; try simp) | (apply core_foldl_pair; intro t x; try simp) | (split <;> (try simp)) | (simp_all; done)))

@[simp] theorem State.react_core (s : State) (src : Nat) : (State.react s src).core = s.core := by
  unfold State.react
  try simp
  all_goals (repeat' (first | (apply core_foldl; intro t x; try simp) | (apply core_foldl_pair; intro t x; try simp) | (split <;> (try simp)) | (simp_all; done)))

@[simp] theorem State.sample_core (s : State) : (State.sample s).core = s.core := by
  unfold State.sample
  try simp
  all_goals (repeat' (first | (apply core_foldl; intro t x; try simp) | (apply core_foldl_pair; intro t x; try simp) | (split <;> (try simp)) | (simp_all; done)))

@[simp] theorem State.ownReport_core (s : State) (src sev access kind : Nat) : (State.ownReport s src sev access kind).core = s.core := by
  unfold State.ownReport
  try simp
  all_goals (repeat' (first | (apply core_foldl; intro t x; try simp) | (apply core_foldl_pair; intro t x; try simp) | (split <;> (try simp)) | (simp_all; done)))

@[simp] theorem State.lostWrite_core (s : State) (c : Nat) : (State.lostWrite s c).core = s.core := by
  unfold State.lostWrite
  try simp
  all_goals (repeat' (first | (apply core_foldl; intro t x; try simp) | (apply core_foldl_pair; intro t x; try simp) | (split <;> (try simp)) | (simp_all; done)))

@[simp] theorem State.butAck_core (s : State) (src : Nat) : (State.butAck s src).core = s.core := by
  unfold State.butAck
  try simp
  all_goals (repeat' (first | (apply core_foldl; intro t x; try simp) | (apply core_foldl_pair; intro t x; try simp) | (split <;> (try simp)) | (simp_all; done)))

@[simp] theorem State.forceReport_core (s : State) (src sev : Nat) (coincide : Bool) : (State.forceReport s src sev coincide).core = s.core := by
  unfold State.forceReport
  try simp
  all_goals (repeat' (first | (apply core_foldl; intro t x; try simp) | (apply core_foldl_pair; intro t x; try simp) | (split <;> (try simp)) | (simp_all; done)))

@[simp] theorem State.capRelease_core (s : State) : (State.capRelease s).core = s.core := by
  unfold State.capRelease
  try simp
  all_goals (repeat' (first | (apply core_foldl; intro t x; try simp) | (apply core_foldl_pair; intro t x; try simp) | (split <;> (try simp)) | (simp_all; done)))

@[simp] theorem State.passStart_core (s : State) : (State.passStart s).core = s.core := by
  unfold State.passStart
  try simp
  all_goals (repeat' (first | (apply core_foldl; intro t x; try simp) | (apply core_foldl_pair; intro t x; try simp) | (split <;> (try simp)) | (simp_all; done)))

@[simp] theorem State.wireFail_core (s : State) (src : Nat) : (State.wireFail s src).core = s.core := by
  unfold State.wireFail
  try simp
  all_goals (repeat' (first | (apply core_foldl; intro t x; try simp) | (apply core_foldl_pair; intro t x; try simp) | (split <;> (try simp)) | (simp_all; done)))

@[simp] theorem State.sweepFail_core (s : State) (k : SweepItem) : (State.sweepFail s k).core = s.core := by
  unfold State.sweepFail
  try simp
  all_goals (repeat' (first | (apply core_foldl; intro t x; try simp) | (apply core_foldl_pair; intro t x; try simp) | (split <;> (try simp)) | (simp_all; done)))

@[simp] theorem State.sweepStores_core (s : State) : (State.sweepStores s).core = s.core := by
  unfold State.sweepStores
  try simp
  all_goals (repeat' (first | (apply core_foldl; intro t x; try simp) | (apply core_foldl_pair; intro t x; try simp) | (split <;> (try simp)) | (simp_all; done)))

/-! Operations of Buttress. -/

@[simp] theorem State.butParity_core (s : State) : (State.butParity s).core = s.core := by
  unfold State.butParity
  try simp
  all_goals (repeat' (first | (apply core_foldl; intro t x; try simp) | (apply core_foldl_pair; intro t x; try simp) | (split <;> (try simp)) | (simp_all; done)))

end Sys2Proof.Machine
end

