-- ==== Sys2Proof/Laws/CoreUnits.lean ====
section
/-! SUPPORT. The core of the state: what the units keep. Each lemma says that an operation
leaves the build, the pair, cold reset, the straps, the uptime and the queue of commands as they were. -/

set_option Elab.async false
set_option linter.unusedSimpArgs false
set_option linter.unusedVariables false
set_option linter.unusedTactic false
set_option linter.unreachableTactic false

namespace Sys2Proof.Machine

/-! Operations of Ashlar. -/

@[simp] theorem State.countVerdict_core (s : State) (c : Nat) (b : Burst) (r : Req) (j : Judged) : (State.countVerdict s c b r j).core = s.core := by
  unfold State.countVerdict
  try simp
  all_goals (repeat' (first | (apply core_foldl; intro t x; try simp) | (apply core_foldl_pair; intro t x; try simp) | (split <;> (try simp)) | (simp_all; done)))

@[simp] theorem State.reportVerdict_core (s : State) (c : Nat) (b : Burst) (r : Req) (j : Judged) : (State.reportVerdict s c b r j).core = s.core := by
  unfold State.reportVerdict
  try simp
  all_goals (repeat' (first | (apply core_foldl; intro t x; try simp) | (apply core_foldl_pair; intro t x; try simp) | (split <;> (try simp)) | (simp_all; done)))

@[simp] theorem State.repair_core (s : State) (c : Nat) (b : Burst) (r : Req) (j : Judged) : (State.repair s c b r j).core = s.core := by
  unfold State.repair
  try simp
  all_goals (repeat' (first | (apply core_foldl; intro t x; try simp) | (apply core_foldl_pair; intro t x; try simp) | (split <;> (try simp)) | (simp_all; done)))

@[simp] theorem State.writeBack_core (s : State) (c : Nat) (r : Req) (l : LineJob) (j : Judged) : (State.writeBack s c r l j).core = s.core := by
  unfold State.writeBack
  try simp
  all_goals (repeat' (first | (apply core_foldl; intro t x; try simp) | (apply core_foldl_pair; intro t x; try simp) | (split <;> (try simp)) | (simp_all; done)))

@[simp] theorem State.endRead_core (s : State) (c : Nat) (r : Req) (l : LineJob) (j : Judged) (lost : Bool) : (State.endRead s c r l j lost).core = s.core := by
  unfold State.endRead
  try simp
  all_goals (repeat' (first | (apply core_foldl; intro t x; try simp) | (apply core_foldl_pair; intro t x; try simp) | (split <;> (try simp)) | (simp_all; done)))

@[simp] theorem State.feedCopy_core (s : State) (run src : Nat) (line : BitVec 512) (poison : Bool) : (State.feedCopy s run src line poison).core = s.core := by
  unfold State.feedCopy
  try simp
  all_goals (repeat' (first | (apply core_foldl; intro t x; try simp) | (apply core_foldl_pair; intro t x; try simp) | (split <;> (try simp)) | (simp_all; done)))

@[simp] theorem State.endRunRead_core (s : State) (c run : Nat) (r : Req) (l : LineJob) (j : Judged) (lost : Bool) : (State.endRunRead s c run r l j lost).core = s.core := by
  unfold State.endRunRead
  try simp
  all_goals (repeat' (first | (apply core_foldl; intro t x; try simp) | (apply core_foldl_pair; intro t x; try simp) | (split <;> (try simp)) | (simp_all; done)))

@[simp] theorem State.toWrite_core (s : State) (c : Nat) (r : Req) (l : LineJob) (line old : BitVec 512) (poison corrected : Bool) : (State.toWrite s c r l line old poison corrected).core = s.core := by
  unfold State.toWrite
  try simp
  all_goals (repeat' (first | (apply core_foldl; intro t x; try simp) | (apply core_foldl_pair; intro t x; try simp) | (split <;> (try simp)) | (simp_all; done)))

@[simp] theorem State.endRmw_core (s : State) (c : Nat) (r : Req) (l : LineJob) (j : Judged) (lost : Bool) : (State.endRmw s c r l j lost).core = s.core := by
  unfold State.endRmw
  try simp
  all_goals (repeat' (first | (apply core_foldl; intro t x; try simp) | (apply core_foldl_pair; intro t x; try simp) | (split <;> (try simp)) | (simp_all; done)))

@[simp] theorem State.endPatrol_core (s : State) (r : Req) (l : LineJob) (j : Judged) (lost : Bool) : (State.endPatrol s r l j lost).core = s.core := by
  unfold State.endPatrol
  try simp
  all_goals (repeat' (first | (apply core_foldl; intro t x; try simp) | (apply core_foldl_pair; intro t x; try simp) | (split <;> (try simp)) | (simp_all; done)))

@[simp] theorem State.endSpare_core (s : State) (c : Nat) (r : Req) (l : LineJob) (j : Judged) (word : Option (List Nat)) (lost : Bool) : (State.endSpare s c r l j word lost).core = s.core := by
  unfold State.endSpare
  try simp
  all_goals (repeat' (first | (apply core_foldl; intro t x; try simp) | (apply core_foldl_pair; intro t x; try simp) | (split <;> (try simp)) | (simp_all; done)))

@[simp] theorem State.verdictTime_core (s : State) (c : Nat) (r : Req) : (State.verdictTime s c r).core = s.core := by
  unfold State.verdictTime
  try simp
  all_goals (repeat' (first | (apply core_foldl; intro t x; try simp) | (apply core_foldl_pair; intro t x; try simp) | (split <;> (try simp)) | (simp_all; done)))

@[simp] theorem State.decodeBurst_core (s : State) (c : Nat) (errs : List (Nat × Nat)) (upset : Nat) : (State.decodeBurst s c errs upset).core = s.core := by
  unfold State.decodeBurst
  try simp
  all_goals (repeat' (first | (apply core_foldl; intro t x; try simp) | (apply core_foldl_pair; intro t x; try simp) | (split <;> (try simp)) | (simp_all; done)))

@[simp] theorem State.spareDone_core (s : State) (c : Nat) : (State.spareDone s c).core = s.core := by
  unfold State.spareDone
  try simp
  all_goals (repeat' (first | (apply core_foldl; intro t x; try simp) | (apply core_foldl_pair; intro t x; try simp) | (split <;> (try simp)) | (simp_all; done)))

@[simp] theorem State.patrolLine_core (s : State) (c L : Nat) : (State.patrolLine s c L).core = s.core := by
  unfold State.patrolLine
  try simp
  all_goals (repeat' (first | (apply core_foldl; intro t x; try simp) | (apply core_foldl_pair; intro t x; try simp) | (split <;> (try simp)) | (simp_all; done)))

@[simp] theorem State.walkOver_core (s : State) (c : Nat) : (State.walkOver s c).core = s.core := by
  unfold State.walkOver
  try simp
  all_goals (repeat' (first | (apply core_foldl; intro t x; try simp) | (apply core_foldl_pair; intro t x; try simp) | (split <;> (try simp)) | (simp_all; done)))

@[simp] theorem State.patrolNext_core (s : State) (c : Nat) : (State.patrolNext s c).core = s.core := by
  unfold State.patrolNext
  try simp
  all_goals (repeat' (first | (apply core_foldl; intro t x; try simp) | (apply core_foldl_pair; intro t x; try simp) | (split <;> (try simp)) | (simp_all; done)))

@[simp] theorem State.patrolPause_core (s : State) (c dt : Nat) : (State.patrolPause s c dt).core = s.core := by
  unfold State.patrolPause
  try simp
  all_goals (repeat' (first | (apply core_foldl; intro t x; try simp) | (apply core_foldl_pair; intro t x; try simp) | (split <;> (try simp)) | (simp_all; done)))

@[simp] theorem State.leakStep_core (s : State) (c sub : Nat) : (State.leakStep s c sub).core = s.core := by
  unfold State.leakStep
  try simp
  all_goals (repeat' (first | (apply core_foldl; intro t x; try simp) | (apply core_foldl_pair; intro t x; try simp) | (split <;> (try simp)) | (simp_all; done)))

@[simp] theorem State.initStart_core (s : State) (c : Nat) : (State.initStart s c).core = s.core := by
  unfold State.initStart
  try simp
  all_goals (repeat' (first | (apply core_foldl; intro t x; try simp) | (apply core_foldl_pair; intro t x; try simp) | (split <;> (try simp)) | (simp_all; done)))

@[simp] theorem State.walksOn_core (s : State) : (State.walksOn s).core = s.core := by
  unfold State.walksOn
  try simp
  all_goals (repeat' (first | (apply core_foldl; intro t x; try simp) | (apply core_foldl_pair; intro t x; try simp) | (split <;> (try simp)) | (simp_all; done)))

@[simp] theorem State.markWrite_core (s : State) (c sub : Nat) (w : RegW) : (State.markWrite s c sub w).core = s.core := by
  unfold State.markWrite
  try simp
  all_goals (repeat' (first | (apply core_foldl; intro t x; try simp) | (apply core_foldl_pair; intro t x; try simp) | (split <;> (try simp)) | (simp_all; done)))

@[simp] theorem State.threshWrite_core (s : State) (c sub : Nat) (w : RegW) : (State.threshWrite s c sub w).core = s.core := by
  unfold State.threshWrite
  try simp
  all_goals (repeat' (first | (apply core_foldl; intro t x; try simp) | (apply core_foldl_pair; intro t x; try simp) | (split <;> (try simp)) | (simp_all; done)))

/-! Operations of Pointing. -/

@[simp] theorem State.rateTick_core (s : State) (c u : Nat) : (State.rateTick s c u).core = s.core := by
  unfold State.rateTick
  try simp
  all_goals (repeat' (first | (apply core_foldl; intro t x; try simp) | (apply core_foldl_pair; intro t x; try simp) | (split <;> (try simp)) | (simp_all; done)))

@[simp] theorem State.coldTick_core (s : State) (c cyc : Nat) : (State.coldTick s c cyc).core = s.core := by
  unfold State.coldTick
  try simp
  all_goals (repeat' (first | (apply core_foldl; intro t x; try simp) | (apply core_foldl_pair; intro t x; try simp) | (split <;> (try simp)) | (simp_all; done)))

@[simp] theorem State.tick_core (s : State) (c u cyc : Nat) : (State.tick s c u cyc).core = s.core := by
  unfold State.tick
  try simp
  all_goals (repeat' (first | (apply core_foldl; intro t x; try simp) | (apply core_foldl_pair; intro t x; try simp) | (split <;> (try simp)) | (simp_all; done)))

@[simp] theorem State.polled_core (s : State) (c hot : Nat) : (State.polled s c hot).core = s.core := by
  unfold State.polled
  try simp
  all_goals (repeat' (first | (apply core_foldl; intro t x; try simp) | (apply core_foldl_pair; intro t x; try simp) | (split <;> (try simp)) | (simp_all; done)))

@[simp] theorem State.modeWrite_core (s : State) (c m : Nat) : (State.modeWrite s c m).core = s.core := by
  unfold State.modeWrite
  try simp
  all_goals (repeat' (first | (apply core_foldl; intro t x; try simp) | (apply core_foldl_pair; intro t x; try simp) | (split <;> (try simp)) | (simp_all; done)))

@[simp] theorem State.modeSwitch_core (s : State) (c m t : Nat) : (State.modeSwitch s c m t).core = s.core := by
  unfold State.modeSwitch
  try simp
  all_goals (repeat' (first | (apply core_foldl; intro t x; try simp) | (apply core_foldl_pair; intro t x; try simp) | (split <;> (try simp)) | (simp_all; done)))

@[simp] theorem State.srRequest_core (s : State) (c : Nat) : (State.srRequest s c).core = s.core := by
  unfold State.srRequest
  try simp
  all_goals (repeat' (first | (apply core_foldl; intro t x; try simp) | (apply core_foldl_pair; intro t x; try simp) | (split <;> (try simp)) | (simp_all; done)))

@[simp] theorem State.srExit_core (s : State) (c : Nat) : (State.srExit s c).core = s.core := by
  unfold State.srExit
  try simp
  all_goals (repeat' (first | (apply core_foldl; intro t x; try simp) | (apply core_foldl_pair; intro t x; try simp) | (split <;> (try simp)) | (simp_all; done)))

/-! Operations of Screed. -/

@[simp] theorem State.geomWrite_core (s : State) (c : Nat) (w : RegW) : (State.geomWrite s c w).core = s.core := by
  unfold State.geomWrite
  try simp
  all_goals (repeat' (first | (apply core_foldl; intro t x; try simp) | (apply core_foldl_pair; intro t x; try simp) | (split <;> (try simp)) | (simp_all; done)))

@[simp] theorem State.train_core (s : State) (c : Nat) (rivals : List KeyAsk) : (State.train s c rivals).core = s.core := by
  unfold State.train
  try simp
  all_goals (repeat' (first | (apply core_foldl; intro t x; try simp) | (apply core_foldl_pair; intro t x; try simp) | (split <;> (try simp)) | (simp_all; done)))

@[simp] theorem State.retrain_core (s : State) (c : Nat) : (State.retrain s c).core = s.core := by
  unfold State.retrain
  try simp
  all_goals (repeat' (first | (apply core_foldl; intro t x; try simp) | (apply core_foldl_pair; intro t x; try simp) | (split <;> (try simp)) | (simp_all; done)))

@[simp] theorem State.storeValues_core (s : State) (c : Nat) : (State.storeValues s c).core = s.core := by
  unfold State.storeValues
  try simp
  all_goals (repeat' (first | (apply core_foldl; intro t x; try simp) | (apply core_foldl_pair; intro t x; try simp) | (split <;> (try simp)) | (simp_all; done)))

@[simp] theorem State.firstRun_core (s : State) (c : Nat) (rivals : List KeyAsk) (upset : Nat) : (State.firstRun s c rivals upset).core = s.core := by
  unfold State.firstRun
  try simp
  all_goals (repeat' (first | (apply core_foldl; intro t x; try simp) | (apply core_foldl_pair; intro t x; try simp) | (split <;> (try simp)) | (simp_all; done)))

@[simp] theorem State.trainGo_core (s : State) (rivals : List KeyAsk) (stored : List (Nat × Nat)) : (State.trainGo s rivals stored).core = s.core := by
  unfold State.trainGo
  try simp
  all_goals (repeat' (first | (apply core_foldl; intro t x; try simp) | (apply core_foldl_pair; intro t x; try simp) | (split <;> (try simp)) | (simp_all; done)))

@[simp] theorem State.scrPath_core (s : State) (c : Nat) (rivals : List KeyAsk) : (State.scrPath s c rivals).1.core = s.core := by
  unfold State.scrPath
  try simp
  all_goals (repeat' (first | (apply core_foldl; intro t x; try simp) | (apply core_foldl_pair; intro t x; try simp) | (split <;> (try simp)) | (simp_all; done)))

@[simp] theorem State.resumeCmds_core (s : State) (c sub : Nat) : (State.resumeCmds s c sub).core = s.core := by
  unfold State.resumeCmds
  try simp
  all_goals (repeat' (first | (apply core_foldl; intro t x; try simp) | (apply core_foldl_pair; intro t x; try simp) | (split <;> (try simp)) | (simp_all; done)))

@[simp] theorem State.resumeCheck_core (s : State) (c sub : Nat) (e : StepEnd) : (State.resumeCheck s c sub e).core = s.core := by
  unfold State.resumeCheck
  try simp
  all_goals (repeat' (first | (apply core_foldl; intro t x; try simp) | (apply core_foldl_pair; intro t x; try simp) | (split <;> (try simp)) | (simp_all; done)))

@[simp] theorem State.stepEnd_core (s : State) (c sub : Nat) (e : StepEnd) : (State.stepEnd s c sub e).core = s.core := by
  unfold State.stepEnd
  try simp
  all_goals (repeat' (first | (apply core_foldl; intro t x; try simp) | (apply core_foldl_pair; intro t x; try simp) | (split <;> (try simp)) | (simp_all; done)))

@[simp] theorem State.retrainFrom_core (s old : State) (c : Nat) : (State.retrainFrom s old c).core = s.core := by
  unfold State.retrainFrom
  try simp
  all_goals (repeat' (first | (apply core_foldl; intro t x; try simp) | (apply core_foldl_pair; intro t x; try simp) | (split <;> (try simp)) | (simp_all; done)))

@[simp] theorem State.retrainTick_core (s : State) (c temp : Nat) (rivals : List KeyAsk) : (State.retrainTick s c temp rivals).core = s.core := by
  unfold State.retrainTick
  try simp
  all_goals (repeat' (first | (apply core_foldl; intro t x; try simp) | (apply core_foldl_pair; intro t x; try simp) | (split <;> (try simp)) | (simp_all; done)))

@[simp] theorem State.measureOut_core (s : State) (c : Nat) : (State.measureOut s c).core = s.core := by
  unfold State.measureOut
  try simp
  all_goals (repeat' (first | (apply core_foldl; intro t x; try simp) | (apply core_foldl_pair; intro t x; try simp) | (split <;> (try simp)) | (simp_all; done)))

@[simp] theorem State.measureSeam_core (s : State) (c : Nat) (e : StepEnd) : (State.measureSeam s c e).core = s.core := by
  unfold State.measureSeam
  try simp
  all_goals (repeat' (first | (apply core_foldl; intro t x; try simp) | (apply core_foldl_pair; intro t x; try simp) | (split <;> (try simp)) | (simp_all; done)))

@[simp] theorem State.applyRun_core (s : State) (c : Nat) : (State.applyRun s c).core = s.core := by
  unfold State.applyRun
  try simp
  all_goals (repeat' (first | (apply core_foldl; intro t x; try simp) | (apply core_foldl_pair; intro t x; try simp) | (split <;> (try simp)) | (simp_all; done)))

@[simp] theorem State.resumeSeam_core (s : State) (c upset : Nat) : (State.resumeSeam s c upset).core = s.core := by
  unfold State.resumeSeam
  try simp
  all_goals (repeat' (first | (apply core_foldl; intro t x; try simp) | (apply core_foldl_pair; intro t x; try simp) | (split <;> (try simp)) | (simp_all; done)))

@[simp] theorem State.seamPoint_core (s : State) (c : Nat) (e : StepEnd) : (State.seamPoint s c e).core = s.core := by
  unfold State.seamPoint
  try simp
  all_goals (repeat' (first | (apply core_foldl; intro t x; try simp) | (apply core_foldl_pair; intro t x; try simp) | (split <;> (try simp)) | (simp_all; done)))

/-! Operations of Plinth. -/

@[simp] theorem State.plnCommand_core (s : State) (w : RegW) (upset : Nat) : (State.plnCommand s w upset).core = s.core := by
  unfold State.plnCommand
  try simp
  all_goals (repeat' (first | (apply core_foldl; intro t x; try simp) | (apply core_foldl_pair; intro t x; try simp) | (split <;> (try simp)) | (simp_all; done)))

@[simp] theorem State.bootPlinth_core (s : State) (count : Nat) : (State.bootPlinth s count).core = s.core := by
  unfold State.bootPlinth
  try simp
  all_goals (repeat' (first | (apply core_foldl; intro t x; try simp) | (apply core_foldl_pair; intro t x; try simp) | (split <;> (try simp)) | (simp_all; done)))

@[simp] theorem State.storeEnd_core (s : State) (type : Nat) (good : Bool) (count : Nat) : (State.storeEnd s type good count).core = s.core := by
  unfold State.storeEnd
  try simp
  all_goals (repeat' (first | (apply core_foldl; intro t x; try simp) | (apply core_foldl_pair; intro t x; try simp) | (split <;> (try simp)) | (simp_all; done)))

@[simp] theorem State.storeRowDone_core (s : State) (st : PlnStore) (k : Nat) (good : Bool) : (State.storeRowDone s st k good).core = s.core := by
  unfold State.storeRowDone
  try simp
  all_goals (repeat' (first | (apply core_foldl; intro t x; try simp) | (apply core_foldl_pair; intro t x; try simp) | (split <;> (try simp)) | (simp_all; done)))

@[simp] theorem State.rawRowDone_core (s : State) (row : Nat) (good : Bool) : (State.rawRowDone s row good).core = s.core := by
  unfold State.rawRowDone
  try simp
  all_goals (repeat' (first | (apply core_foldl; intro t x; try simp) | (apply core_foldl_pair; intro t x; try simp) | (split <;> (try simp)) | (simp_all; done)))

@[simp] theorem State.rowCut_core (s : State) : (State.rowCut s).core = s.core := by
  unfold State.rowCut
  split <;> simp

/-! Operations of MasOps. -/

@[simp] theorem State.masErr_core (s : State) (m bit sev : Nat) : (State.masErr s m bit sev).core = s.core := by
  unfold State.masErr
  try simp
  all_goals (repeat' (first | (apply core_foldl; intro t x; try simp) | (apply core_foldl_pair; intro t x; try simp) | (split <;> (try simp)) | (simp_all; done)))

@[simp] theorem State.masFault_core (s : State) (m bit : Nat) : (State.masFault s m bit).core = s.core := by
  unfold State.masFault
  try simp
  all_goals (repeat' (first | (apply core_foldl; intro t x; try simp) | (apply core_foldl_pair; intro t x; try simp) | (split <;> (try simp)) | (simp_all; done)))

@[simp] theorem State.akTrap_core (s : State) (m cause sub tval epc : Nat) : (State.akTrap s m cause sub tval epc).core = s.core := by
  unfold State.akTrap
  try simp
  all_goals (repeat' (first | (apply core_foldl; intro t x; try simp) | (apply core_foldl_pair; intro t x; try simp) | (split <;> (try simp)) | (simp_all; done)))

@[simp] theorem State.akTrapHere_core (s : State) (m cause sub tval : Nat) : (State.akTrapHere s m cause sub tval).core = s.core := by
  unfold State.akTrapHere
  try simp
  all_goals (repeat' (first | (apply core_foldl; intro t x; try simp) | (apply core_foldl_pair; intro t x; try simp) | (split <;> (try simp)) | (simp_all; done)))

@[simp] theorem State.akNext_core (s : State) (m : Nat) : (State.akNext s m).core = s.core := by
  unfold State.akNext
  try simp
  all_goals (repeat' (first | (apply core_foldl; intro t x; try simp) | (apply core_foldl_pair; intro t x; try simp) | (split <;> (try simp)) | (simp_all; done)))

@[simp] theorem State.akStall_core (s : State) (m : Nat) : (State.akStall s m).core = s.core := by
  unfold State.akStall
  try simp
  all_goals (repeat' (first | (apply core_foldl; intro t x; try simp) | (apply core_foldl_pair; intro t x; try simp) | (split <;> (try simp)) | (simp_all; done)))

@[simp] theorem State.akPut_core (s : State) (m rd : Nat) (v : BitVec 64) : (State.akPut s m rd v).core = s.core := by
  unfold State.akPut
  try simp
  all_goals (repeat' (first | (apply core_foldl; intro t x; try simp) | (apply core_foldl_pair; intro t x; try simp) | (split <;> (try simp)) | (simp_all; done)))

@[simp] theorem State.touch_core (s : State) (m : Nat) (slots : List Nat) : (State.touch s m slots).core = s.core := by
  unfold State.touch
  try simp
  all_goals (repeat' (first | (apply core_foldl; intro t x; try simp) | (apply core_foldl_pair; intro t x; try simp) | (split <;> (try simp)) | (simp_all; done)))

@[simp] theorem State.masEnter_core (s : State) (r : Req) : (State.masEnter s r).core = s.core := by
  unfold State.masEnter
  try simp
  all_goals (repeat' (first | (apply core_foldl; intro t x; try simp) | (apply core_foldl_pair; intro t x; try simp) | (split <;> (try simp)) | (simp_all; done)))

@[simp] theorem State.masRefused_core (s : State) (r : Req) (st : Status) : (State.masRefused s r st).core = s.core := by
  unfold State.masRefused
  try simp
  all_goals (repeat' (first | (apply core_foldl; intro t x; try simp) | (apply core_foldl_pair; intro t x; try simp) | (split <;> (try simp)) | (simp_all; done)))

@[simp] theorem State.masIssue_core (s : State) (m code : Nat) (r : Req) (o : MasOut) : (State.masIssue s m code r o).core = s.core := by
  unfold State.masIssue
  try simp
  all_goals (repeat' (first | (apply core_foldl; intro t x; try simp) | (apply core_foldl_pair; intro t x; try simp) | (split <;> (try simp)) | (simp_all; done)))

@[simp] theorem State.adUpdate_core (s : State) (m slot tea : Nat) (setA setD : Bool) : (State.adUpdate s m slot tea setA setD).core = s.core := by
  unfold State.adUpdate
  try simp
  all_goals (repeat' (first | (apply core_foldl; intro t x; try simp) | (apply core_foldl_pair; intro t x; try simp) | (split <;> (try simp)) | (simp_all; done)))

@[simp] theorem State.masMapTrap_core (s : State) (m : Nat) (r : Req) (d : Decoded) : (State.masMapTrap s m r d).core = s.core := by
  unfold State.masMapTrap
  try simp
  all_goals (repeat' (first | (apply core_foldl; intro t x; try simp) | (apply core_foldl_pair; intro t x; try simp) | (split <;> (try simp)) | (simp_all; done)))

@[simp] theorem State.memGo_core (s : State) (m : Nat) (q : Ask) (ga : Nat) (slots : List Nat) : (State.memGo s m q ga slots).core = s.core := by
  unfold State.memGo
  try simp
  all_goals (repeat' (first | (apply core_foldl; intro t x; try simp) | (apply core_foldl_pair; intro t x; try simp) | (split <;> (try simp)) | (simp_all; done)))

@[simp] theorem State.memAsk_core (s : State) (m align : Nat) (q : Ask) : (State.memAsk s m align q).core = s.core := by
  unfold State.memAsk
  try simp
  all_goals (repeat' (first | (apply core_foldl; intro t x; try simp) | (apply core_foldl_pair; intro t x; try simp) | (split <;> (try simp)) | (simp_all; done)))

@[simp] theorem State.wordCorr_core (s : State) (m upset : Nat) : (State.wordCorr s m upset).core = s.core := by
  unfold State.wordCorr
  try simp
  all_goals (repeat' (first | (apply core_foldl; intro t x; try simp) | (apply core_foldl_pair; intro t x; try simp) | (split <;> (try simp)) | (simp_all; done)))

@[simp] theorem State.tplUpset_core (s : State) (m upset : Nat) (vas : List Nat) : (State.tplUpset s m upset vas).core = s.core := by
  unfold State.tplUpset
  try simp
  all_goals (repeat' (first | (apply core_foldl; intro t x; try simp) | (apply core_foldl_pair; intro t x; try simp) | (split <;> (try simp)) | (simp_all; done)))

@[simp] theorem State.akRun_core (s : State) (m upset word ign : Nat) (n : Names) (vas : List Nat) (f : State → State) (hf : ∀ t, (f t).core = t.core) : (State.akRun s m upset word ign n vas f).core = s.core := by
  unfold State.akRun
  try simp [hf]
  all_goals (repeat' (first | (apply core_foldl; intro t x; try simp [hf]) | (apply core_foldl_pair; intro t x; try simp [hf]) | (split <;> (try simp [hf])) | (simp_all; done)))

/-! Operations of Keystone. -/

@[simp] theorem State.hostResult_core (a : State × Nat) : (State.hostResult a).core = a.1.core := rfl

@[simp] theorem State.hostLock_core (s : State) (line : Nat) (rivals : List KeyAsk) : (State.hostLock s line rivals).core = s.core := by
  unfold State.hostLock
  try simp
  all_goals (repeat' (first | (apply core_foldl; intro t x; try simp) | (apply core_foldl_pair; intro t x; try simp) | (split <;> (try simp)) | (simp_all; done)))

@[simp] theorem State.hostUnlock_core (s : State) (slot : Nat) : (State.hostUnlock s slot).core = s.core := by
  unfold State.hostUnlock
  try simp
  all_goals (repeat' (first | (apply core_foldl; intro t x; try simp) | (apply core_foldl_pair; intro t x; try simp) | (split <;> (try simp)) | (simp_all; done)))

@[simp] theorem State.hostOther_core (s : State) : (State.hostOther s).core = s.core := by
  unfold State.hostOther
  try simp
  all_goals (repeat' (first | (apply core_foldl; intro t x; try simp) | (apply core_foldl_pair; intro t x; try simp) | (split <;> (try simp)) | (simp_all; done)))

@[simp] theorem State.clearTorn_core (s : State) (slot : Nat) : (State.clearTorn s slot).core = s.core := by
  unfold State.clearTorn
  try simp
  all_goals (repeat' (first | (apply core_foldl; intro t x; try simp) | (apply core_foldl_pair; intro t x; try simp) | (split <;> (try simp)) | (simp_all; done)))

@[simp] theorem State.mntReq_core (s : State) (c : Nat) (rivals : List KeyAsk) : (State.mntReq s c rivals).core = s.core := by
  unfold State.mntReq
  try simp
  all_goals (repeat' (first | (apply core_foldl; intro t x; try simp) | (apply core_foldl_pair; intro t x; try simp) | (split <;> (try simp)) | (simp_all; done)))

@[simp] theorem State.mntRelease_core (s : State) (c : Nat) : (State.mntRelease s c).core = s.core := by
  unfold State.mntRelease
  try simp
  all_goals (repeat' (first | (apply core_foldl; intro t x; try simp) | (apply core_foldl_pair; intro t x; try simp) | (split <;> (try simp)) | (simp_all; done)))

@[simp] theorem State.mntCmd_core (s : State) (c cyc rank : Nat) (kind : CmdKind) (data : Nat) (f : State → State) (hf : ∀ t, (f t).core = t.core) : (State.mntCmd s c cyc rank kind data f).core = s.core := by
  unfold State.mntCmd
  try simp [hf]
  all_goals (repeat' (first | (apply core_foldl; intro t x; try simp [hf]) | (apply core_foldl_pair; intro t x; try simp [hf]) | (split <;> (try simp [hf])) | (simp_all; done)))

@[simp] theorem State.takeSlot_core (s : State) (slot : Nat) : (State.takeSlot s slot).core = s.core := by
  unfold State.takeSlot
  try simp
  all_goals (repeat' (first | (apply core_foldl; intro t x; try simp) | (apply core_foldl_pair; intro t x; try simp) | (split <;> (try simp)) | (simp_all; done)))

@[simp] theorem State.takePath_core (s : State) (c : Nat) : (State.takePath s c).core = s.core := by
  unfold State.takePath
  try simp
  all_goals (repeat' (first | (apply core_foldl; intro t x; try simp) | (apply core_foldl_pair; intro t x; try simp) | (split <;> (try simp)) | (simp_all; done)))

end Sys2Proof.Machine
end

