-- ==== Sys2Proof/Laws/CoreAklet.lean ====
section
/-! SUPPORT. The core of the state: what the engines keep. Each lemma says that an operation
leaves the build, the pair, cold reset, the straps, the uptime and the queue of commands as they were. -/

set_option Elab.async false
set_option linter.unusedSimpArgs false
set_option linter.unusedVariables false
set_option linter.unusedTactic false
set_option linter.unreachableTactic false

namespace Sys2Proof.Machine

/-! Operations of AkletAlu. -/

@[simp] theorem State.alu_core (s : State) (m upset rd rs1 rs2 fn : Nat) (g : BitVec 64 → BitVec 64 → BitVec 64) : (State.alu s m upset rd rs1 rs2 fn g).core = s.core := by
  unfold State.alu
  try simp
  all_goals (repeat' (first | (apply core_foldl; intro t x; try simp) | (apply core_foldl_pair; intro t x; try simp) | (split <;> (try simp)) | (simp_all; done)))

@[simp] theorem State.aluImm_core (s : State) (m upset op rd rs1 imm : Nat) (g : BitVec 64 → BitVec 64) : (State.aluImm s m upset op rd rs1 imm g).core = s.core := by
  unfold State.aluImm
  try simp
  all_goals (repeat' (first | (apply core_foldl; intro t x; try simp) | (apply core_foldl_pair; intro t x; try simp) | (split <;> (try simp)) | (simp_all; done)))

@[simp] theorem State.jumpTo_core (s : State) (m rd : Nat) (target : BitVec 64) : (State.jumpTo s m rd target).core = s.core := by
  unfold State.jumpTo
  try simp
  all_goals (repeat' (first | (apply core_foldl; intro t x; try simp) | (apply core_foldl_pair; intro t x; try simp) | (split <;> (try simp)) | (simp_all; done)))

@[simp] theorem State.branch_core (s : State) (m upset op rs1 rs2 off : Nat) (g : BitVec 64 → BitVec 64 → Bool) : (State.branch s m upset op rs1 rs2 off g).core = s.core := by
  unfold State.branch
  try simp
  all_goals (repeat' (first | (apply core_foldl; intro t x; try simp) | (apply core_foldl_pair; intro t x; try simp) | (split <;> (try simp)) | (simp_all; done)))

@[simp] theorem State.scratchAt_core (s : State) (m n : Nat) (a : BitVec 64) (bad : Bool) (f : State → State) (hf : ∀ t, (f t).core = t.core) : (State.scratchAt s m n a bad f).core = s.core := by
  unfold State.scratchAt
  try simp [hf]
  all_goals (repeat' (first | (apply core_foldl; intro t x; try simp [hf]) | (apply core_foldl_pair; intro t x; try simp [hf]) | (split <;> (try simp [hf])) | (simp_all; done)))

@[simp] theorem State.scratchLoad_core (s : State) (m upset op n rd rs1 imm : Nat) : (State.scratchLoad s m upset op n rd rs1 imm).core = s.core := by
  unfold State.scratchLoad
  try simp
  all_goals (repeat' (first | (apply core_foldl; intro t x; try simp) | (apply core_foldl_pair; intro t x; try simp) | (split <;> (try simp)) | (simp_all; done)))

@[simp] theorem State.scratchStore_core (s : State) (m upset op n rs2 rs1 imm : Nat) : (State.scratchStore s m upset op n rs2 rs1 imm).core = s.core := by
  unfold State.scratchStore
  try simp
  all_goals (repeat' (first | (apply core_foldl; intro t x; try simp) | (apply core_foldl_pair; intro t x; try simp) | (split <;> (try simp)) | (simp_all; done)))

@[simp] theorem State.useLine_core (s : State) (m l : Nat) (f : LReg → State) (hf : ∀ a, (f a).core = s.core) : (State.useLine s m l f).core = s.core := by
  unfold State.useLine
  try simp [hf]
  all_goals (repeat' (first | (apply core_foldl; intro t x; try simp [hf]) | (apply core_foldl_pair; intro t x; try simp [hf]) | (split <;> (try simp [hf])) | (simp_all; done)))

/-! Operations of AkletMem. -/

@[simp] theorem State.amo_core (s : State) (m upset rd rs1 rs2 rt : Nat) (posted wide : Bool) (fn : Nat) (op : Op) : (State.amo s m upset rd rs1 rs2 rt posted wide fn op).core = s.core := by
  unfold State.amo
  try simp
  all_goals (repeat' (first | (apply core_foldl; intro t x; try simp) | (apply core_foldl_pair; intro t x; try simp) | (split <;> (try simp)) | (simp_all; done)))

theorem State.enterRun_core (s : State) (l : List Req) : ∀ t, (State.enterRun s l) = some t → t.1.core = s.core := by
  induction l generalizing s with
  | nil => intro t h; rw [← Option.some.inj h]
  | cons r rs ih =>
    intro t h
    unfold State.enterRun at h
    dsimp only at h
    obtain ⟨u, hu, h⟩ := Option.bind_eq_some_iff.mp h
    obtain ⟨e, he, rfl⟩ := Option.map_eq_some_iff.mp h
    rw [ih _ _ he]
    revert hu
    repeat' split
    all_goals (intro hu; first
      | (rw [← Option.some.inj hu]; simp; done)
      | (obtain ⟨c, -, rfl⟩ := Option.map_eq_some_iff.mp hu; simp; done)
      | (cases hu; done))

@[simp] theorem State.runReqs_core (s : State) (m : Nat) (q : RunAsk) (indiv : Bool) (parts : List RunPart) (slots : List Nat) : (State.runReqs s m q indiv parts slots).1.core = s.core := by
  unfold State.runReqs
  simp

@[simp] theorem State.runIssue_core (s : State) (m : Nat) (q : RunAsk) (indiv : Bool) (parts : List RunPart) (slots : List Nat) : (State.runIssue s m q indiv parts slots).core = s.core := by
  unfold State.runIssue
  dsimp only
  split
  · rfl
  · split
    · rfl
    · rename_i h
      have hc := State.enterRun_core _ _ _ h
      simp at hc
      split <;> simp [hc]

@[simp] theorem State.runGo_core (s : State) (m : Nat) (q : RunAsk) (dests srcs : List RunLine) : (State.runGo s m q dests srcs).core = s.core := by
  unfold State.runGo
  try simp
  all_goals (repeat' (first | (apply core_foldl; intro t x; try simp) | (apply core_foldl_pair; intro t x; try simp) | (split <;> (try simp)) | (simp_all; done)))

@[simp] theorem State.runAsk_core (s : State) (m : Nat) (q : RunAsk) : (State.runAsk s m q).core = s.core := by
  unfold State.runAsk
  try simp
  all_goals (repeat' (first | (apply core_foldl; intro t x; try simp) | (apply core_foldl_pair; intro t x; try simp) | (split <;> (try simp)) | (simp_all; done)))

/-! Operations of AkletSys. -/

@[simp] theorem State.hpush_core (s : State) (m upset rd rs1 rs2 k : Nat) : (State.hpush s m upset rd rs1 rs2 k).core = s.core := by
  unfold State.hpush
  try simp
  all_goals (repeat' (first | (apply core_foldl; intro t x; try simp) | (apply core_foldl_pair; intro t x; try simp) | (split <;> (try simp)) | (simp_all; done)))

@[simp] theorem State.hpop_core (s : State) (m upset rd rs1 rt k : Nat) : (State.hpop s m upset rd rs1 rt k).core = s.core := by
  unfold State.hpop
  apply State.akRun_core
  intro t
  dsimp only
  split
  · simp
  · split
    · simp
    · rename_i h
      have hc := State.hodPop_core _ _ _ _ _ h
      simp at hc
      simp [hc]

@[simp] theorem State.lockAll_core (s : State) (ms : List Nat) (rivals : List KeyAsk) : (State.lockAll s ms rivals).core = s.core := by
  unfold State.lockAll
  try simp
  all_goals (repeat' (first | (apply core_foldl; intro t x; try simp) | (apply core_foldl_pair; intro t x; try simp) | (split <;> (try simp)) | (simp_all; done)))

@[simp] theorem State.lockUpset_core (s : State) (ga count : Nat) : (State.lockUpset s ga count).core = s.core := by
  unfold State.lockUpset
  try simp
  all_goals (repeat' (first | (apply core_foldl; intro t x; try simp) | (apply core_foldl_pair; intro t x; try simp) | (split <;> (try simp)) | (simp_all; done)))

/-! Operations of Masons. -/

@[simp] theorem State.masEnd_core (s : State) (m : Nat) (o : MasOut) (st : Status) (d : BitVec 512) : (State.masEnd s m o st d).core = s.core := by
  unfold State.masEnd
  try simp
  all_goals (repeat' (first | (apply core_foldl; intro t x; try simp) | (apply core_foldl_pair; intro t x; try simp) | (split <;> (try simp)) | (simp_all; done)))

@[simp] theorem State.adEnd_core (s : State) (m : Nat) (o : MasOut) (st : Status) : (State.adEnd s m o st).core = s.core := by
  unfold State.adEnd
  try simp
  all_goals (repeat' (first | (apply core_foldl; intro t x; try simp) | (apply core_foldl_pair; intro t x; try simp) | (split <;> (try simp)) | (simp_all; done)))

@[simp] theorem State.starve_core (s : State) (run : Nat) (srcs : List Nat) (st : Status) : (State.starve s run srcs st).core = s.core := by
  unfold State.starve
  try simp
  all_goals (repeat' (first | (apply core_foldl; intro t x; try simp) | (apply core_foldl_pair; intro t x; try simp) | (split <;> (try simp)) | (simp_all; done)))

@[simp] theorem State.copyFed_core (s : State) (run : Nat) (r : Req) (st : Status) : (State.copyFed s run r st).core = s.core := by
  unfold State.copyFed
  try simp
  all_goals (repeat' (first | (apply core_foldl; intro t x; try simp) | (apply core_foldl_pair; intro t x; try simp) | (split <;> (try simp)) | (simp_all; done)))

@[simp] theorem State.runPart_core (s : State) (m : Nat) (o : MasOut) (r : Req) (st : Status) : (State.runPart s m o r st).core = s.core := by
  unfold State.runPart
  try simp
  all_goals (repeat' (first | (apply core_foldl; intro t x; try simp) | (apply core_foldl_pair; intro t x; try simp) | (split <;> (try simp)) | (simp_all; done)))

@[simp] theorem State.resultCross_core (s : State) (m : Nat) (r : Req) : (State.resultCross s m r).core = s.core := by
  unfold State.resultCross
  try simp
  all_goals (repeat' (first | (apply core_foldl; intro t x; try simp) | (apply core_foldl_pair; intro t x; try simp) | (split <;> (try simp)) | (simp_all; done)))

@[simp] theorem State.masResult_core (s : State) (rid upset : Nat) : (State.masResult s rid upset).core = s.core := by
  unfold State.masResult
  try simp
  all_goals (repeat' (first | (apply core_foldl; intro t x; try simp) | (apply core_foldl_pair; intro t x; try simp) | (split <;> (try simp)) | (simp_all; done)))

@[simp] theorem State.masRunWrite_core (s : State) (m run : Nat) : (State.masRunWrite s m run).core = s.core := by
  unfold State.masRunWrite
  try simp
  all_goals (repeat' (first | (apply core_foldl; intro t x; try simp) | (apply core_foldl_pair; intro t x; try simp) | (split <;> (try simp)) | (simp_all; done)))

@[simp] theorem State.masProfileWrite_core (s : State) (p : Nat) : (State.masProfileWrite s p).core = s.core := by
  unfold State.masProfileWrite
  try simp
  all_goals (repeat' (first | (apply core_foldl; intro t x; try simp) | (apply core_foldl_pair; intro t x; try simp) | (split <;> (try simp)) | (simp_all; done)))

@[simp] theorem State.abortRuns_core (s : State) (m : Nat) : (State.abortRuns s m).core = s.core := by
  unfold State.abortRuns
  try simp
  all_goals (repeat' (first | (apply core_foldl; intro t x; try simp) | (apply core_foldl_pair; intro t x; try simp) | (split <;> (try simp)) | (simp_all; done)))

@[simp] theorem State.abortTags_core (s : State) (src : Src) : (State.abortTags s src).core = s.core := by
  unfold State.abortTags
  try simp
  all_goals (repeat' (first | (apply core_foldl; intro t x; try simp) | (apply core_foldl_pair; intro t x; try simp) | (split <;> (try simp)) | (simp_all; done)))

@[simp] theorem State.masonReset_core (s : State) (m : Nat) : (State.masonReset s m).core = s.core := by
  unfold State.masonReset
  try simp
  all_goals (repeat' (first | (apply core_foldl; intro t x; try simp) | (apply core_foldl_pair; intro t x; try simp) | (split <;> (try simp)) | (simp_all; done)))

@[simp] theorem State.masStoreWrite_core (s : State) (m off : Nat) (w : RegW) : (State.masStoreWrite s m off w).core = s.core := by
  unfold State.masStoreWrite
  try simp
  all_goals (repeat' (first | (apply core_foldl; intro t x; try simp) | (apply core_foldl_pair; intro t x; try simp) | (split <;> (try simp)) | (simp_all; done)))

/-! Operations of Hods. -/

@[simp] theorem State.spillErr_core (s : State) (h : Nat) : (State.spillErr s h).core = s.core := by
  unfold State.spillErr
  try simp
  all_goals (repeat' (first | (apply core_foldl; intro t x; try simp) | (apply core_foldl_pair; intro t x; try simp) | (split <;> (try simp)) | (simp_all; done)))

@[simp] theorem State.spillWritten_core (s : State) (h : Nat) (l : HodLine) (good : Bool) : (State.spillWritten s h l good).core = s.core := by
  unfold State.spillWritten
  try simp
  all_goals (repeat' (first | (apply core_foldl; intro t x; try simp) | (apply core_foldl_pair; intro t x; try simp) | (split <;> (try simp)) | (simp_all; done)))

@[simp] theorem State.spillRead_core (s : State) (h : Nat) (l : HodLine) (good : Bool) (d : BitVec 512) : (State.spillRead s h l good d).core = s.core := by
  unfold State.spillRead
  try simp
  all_goals (repeat' (first | (apply core_foldl; intro t x; try simp) | (apply core_foldl_pair; intro t x; try simp) | (split <;> (try simp)) | (simp_all; done)))

@[simp] theorem State.spillDone_core (s : State) (rid : Nat) : (State.spillDone s rid).core = s.core := by
  unfold State.spillDone
  try simp
  all_goals (repeat' (first | (apply core_foldl; intro t x; try simp) | (apply core_foldl_pair; intro t x; try simp) | (split <;> (try simp)) | (simp_all; done)))

@[simp] theorem State.hodCfgWrite_core (s : State) (h : Nat) (carve : Bool) (w : RegW) : (State.hodCfgWrite s h carve w).core = s.core := by
  unfold State.hodCfgWrite
  try simp
  all_goals (repeat' (first | (apply core_foldl; intro t x; try simp) | (apply core_foldl_pair; intro t x; try simp) | (split <;> (try simp)) | (simp_all; done)))

end Sys2Proof.Machine
end

