-- ==== Sys2Proof/Laws/CoreRest.lean ====
section
/-! SUPPORT. The core of the state: what the fault pipe, time and the registers keep. Each lemma says that an operation
leaves the build, the pair, cold reset, the straps, the uptime and the queue of commands as they were. -/

set_option Elab.async false
set_option linter.unusedSimpArgs false
set_option linter.unusedVariables false
set_option linter.unusedTactic false
set_option linter.unreachableTactic false

namespace Sys2Proof.Machine

/-! Operations of Plumb. -/

@[simp] theorem State.modPlb_core (s : State) (f : PlbSt → PlbSt) : (State.modPlb s f).core = s.core := by
  unfold State.modPlb
  try simp
  all_goals (repeat' (first | (apply core_foldl; intro t x; try simp) | (apply core_foldl_pair; intro t x; try simp) | (split <;> (try simp)) | (simp_all; done)))

@[simp] theorem State.plbFreeze_core (s : State) (on : Bool) : (State.plbFreeze s on).core = s.core := by
  unfold State.plbFreeze
  try simp
  all_goals (repeat' (first | (apply core_foldl; intro t x; try simp) | (apply core_foldl_pair; intro t x; try simp) | (split <;> (try simp)) | (simp_all; done)))

@[simp] theorem State.plbClear_core (s : State) : (State.plbClear s).core = s.core := by
  unfold State.plbClear
  try simp
  all_goals (repeat' (first | (apply core_foldl; intro t x; try simp) | (apply core_foldl_pair; intro t x; try simp) | (split <;> (try simp)) | (simp_all; done)))

@[simp] theorem State.lfsrReloadAll_core (s : State) : (State.lfsrReloadAll s).core = s.core := by
  unfold State.lfsrReloadAll
  try simp
  all_goals (repeat' (first | (apply core_foldl; intro t x; try simp) | (apply core_foldl_pair; intro t x; try simp) | (split <;> (try simp)) | (simp_all; done)))

@[simp] theorem State.lfsrPin_core (s : State) : (State.lfsrPin s).core = s.core := by
  unfold State.lfsrPin
  try simp
  all_goals (repeat' (first | (apply core_foldl; intro t x; try simp) | (apply core_foldl_pair; intro t x; try simp) | (split <;> (try simp)) | (simp_all; done)))

@[simp] theorem State.putX_core (s : State) (w : RegW) (i j : Nat) (fs : List Field) : (State.putX s w i j fs).core = s.core := by
  unfold State.putX
  try simp
  all_goals (repeat' (first | (apply core_foldl; intro t x; try simp) | (apply core_foldl_pair; intro t x; try simp) | (split <;> (try simp)) | (simp_all; done)))

@[simp] theorem State.tagCfgWrite_core (s : State) (w : RegW) : (State.tagCfgWrite s w).core = s.core := by
  unfold State.tagCfgWrite
  try simp
  all_goals (repeat' (first | (apply core_foldl; intro t x; try simp) | (apply core_foldl_pair; intro t x; try simp) | (split <;> (try simp)) | (simp_all; done)))

@[simp] theorem State.tagRdWrite_core (s : State) (w : RegW) : (State.tagRdWrite s w).core = s.core := by
  unfold State.tagRdWrite
  try simp
  all_goals (repeat' (first | (apply core_foldl; intro t x; try simp) | (apply core_foldl_pair; intro t x; try simp) | (split <;> (try simp)) | (simp_all; done)))

@[simp] theorem State.plbErr_core (s : State) (upset : Nat) : (State.plbErr s upset).core = s.core := by
  unfold State.plbErr
  try simp
  all_goals (repeat' (first | (apply core_foldl; intro t x; try simp) | (apply core_foldl_pair; intro t x; try simp) | (split <;> (try simp)) | (simp_all; done)))

@[simp] theorem State.tagWrite_core (s : State) (upset : Nat) : (State.tagWrite s upset).core = s.core := by
  unfold State.tagWrite
  try simp
  all_goals (repeat' (first | (apply core_foldl; intro t x; try simp) | (apply core_foldl_pair; intro t x; try simp) | (split <;> (try simp)) | (simp_all; done)))

/-! Operations of Datestone. -/

@[simp] theorem State.modDst_core (s : State) (f : DstSt → DstSt) : (State.modDst s f).core = s.core := by
  unfold State.modDst
  try simp
  all_goals (repeat' (first | (apply core_foldl; intro t x; try simp) | (apply core_foldl_pair; intro t x; try simp) | (split <;> (try simp)) | (simp_all; done)))

@[simp] theorem State.extClear_core (s : State) : (State.extClear s).core = s.core := by
  unfold State.extClear
  try simp
  all_goals (repeat' (first | (apply core_foldl; intro t x; try simp) | (apply core_foldl_pair; intro t x; try simp) | (split <;> (try simp)) | (simp_all; done)))

@[simp] theorem State.histClear_core (s : State) : (State.histClear s).core = s.core := by
  unfold State.histClear
  try simp
  all_goals (repeat' (first | (apply core_foldl; intro t x; try simp) | (apply core_foldl_pair; intro t x; try simp) | (split <;> (try simp)) | (simp_all; done)))

@[simp] theorem State.snapDiscard_core (s : State) : (State.snapDiscard s).core = s.core := by
  unfold State.snapDiscard
  try simp
  all_goals (repeat' (first | (apply core_foldl; intro t x; try simp) | (apply core_foldl_pair; intro t x; try simp) | (split <;> (try simp)) | (simp_all; done)))

@[simp] theorem State.logClear_core (s : State) : (State.logClear s).core = s.core := by
  unfold State.logClear
  try simp
  all_goals (repeat' (first | (apply core_foldl; intro t x; try simp) | (apply core_foldl_pair; intro t x; try simp) | (split <;> (try simp)) | (simp_all; done)))

@[simp] theorem State.trigDropAll_core (s : State) : (State.trigDropAll s).core = s.core := by
  unfold State.trigDropAll
  try simp
  all_goals (repeat' (first | (apply core_foldl; intro t x; try simp) | (apply core_foldl_pair; intro t x; try simp) | (split <;> (try simp)) | (simp_all; done)))

@[simp] theorem State.dstModeFrom_core (s : State) (old : Nat) : (State.dstModeFrom s old).core = s.core := by
  unfold State.dstModeFrom
  try simp
  all_goals (repeat' (first | (apply core_foldl; intro t x; try simp) | (apply core_foldl_pair; intro t x; try simp) | (split <;> (try simp)) | (simp_all; done)))

@[simp] theorem State.dstModeWrite_core (s : State) (mode : Nat) : (State.dstModeWrite s mode).core = s.core := by
  unfold State.dstModeWrite
  try simp
  all_goals (repeat' (first | (apply core_foldl; intro t x; try simp) | (apply core_foldl_pair; intro t x; try simp) | (split <;> (try simp)) | (simp_all; done)))

@[simp] theorem State.dstFreezeWrite_core (s : State) (on : Bool) : (State.dstFreezeWrite s on).core = s.core := by
  unfold State.dstFreezeWrite
  try simp
  all_goals (repeat' (first | (apply core_foldl; intro t x; try simp) | (apply core_foldl_pair; intro t x; try simp) | (split <;> (try simp)) | (simp_all; done)))

@[simp] theorem State.histCfgWrite_core (s : State) (w : RegW) : (State.histCfgWrite s w).core = s.core := by
  unfold State.histCfgWrite
  try simp
  all_goals (repeat' (first | (apply core_foldl; intro t x; try simp) | (apply core_foldl_pair; intro t x; try simp) | (split <;> (try simp)) | (simp_all; done)))

@[simp] theorem State.dstTrigWrite_core (s : State) (w : RegW) : (State.dstTrigWrite s w).core = s.core := by
  unfold State.dstTrigWrite
  try simp
  all_goals (repeat' (first | (apply core_foldl; intro t x; try simp) | (apply core_foldl_pair; intro t x; try simp) | (split <;> (try simp)) | (simp_all; done)))

@[simp] theorem State.snapTake_core (s : State) : (State.snapTake s).core = s.core := by
  unfold State.snapTake
  try simp
  all_goals (repeat' (first | (apply core_foldl; intro t x; try simp) | (apply core_foldl_pair; intro t x; try simp) | (split <;> (try simp)) | (simp_all; done)))

@[simp] theorem State.itemZero_core (s : State) (region n w : Nat) : (State.itemZero s region n w).core = s.core := by
  unfold State.itemZero
  try simp
  all_goals (repeat' (first | (apply core_foldl; intro t x; try simp) | (apply core_foldl_pair; intro t x; try simp) | (split <;> (try simp)) | (simp_all; done)))

@[simp] theorem State.plbUpset_core (s : State) (u : PlbUpset) : (State.plbUpset s u).core = s.core := by
  unfold State.plbUpset
  try simp
  all_goals (repeat' (first | (apply core_foldl; intro t x; try simp) | (apply core_foldl_pair; intro t x; try simp) | (split <;> (try simp)) | (simp_all; done)))

@[simp] theorem State.cursorNext_core (s : State) : (State.cursorNext s).core = s.core := by
  unfold State.cursorNext
  try simp
  all_goals (repeat' (first | (apply core_foldl; intro t x; try simp) | (apply core_foldl_pair; intro t x; try simp) | (split <;> (try simp)) | (simp_all; done)))

@[simp] theorem State.windowRead_core (s : State) (w : Nat) (top : Bool) (upset : Nat) : (State.windowRead s w top upset).core = s.core := by
  unfold State.windowRead
  try simp
  all_goals (repeat' (first | (apply core_foldl; intro t x; try simp) | (apply core_foldl_pair; intro t x; try simp) | (split <;> (try simp)) | (simp_all; done)))

/-! Operations of Quoin. -/

@[simp] theorem State.flrStart_core (s : State) : (State.flrStart s).core = s.core := by
  unfold State.flrStart
  try simp
  all_goals (repeat' (first | (apply core_foldl; intro t x; try simp) | (apply core_foldl_pair; intro t x; try simp) | (split <;> (try simp)) | (simp_all; done)))

@[simp] theorem State.flrEnd_core (s : State) : (State.flrEnd s).core = s.core := by
  unfold State.flrEnd
  try simp
  all_goals (repeat' (first | (apply core_foldl; intro t x; try simp) | (apply core_foldl_pair; intro t x; try simp) | (split <;> (try simp)) | (simp_all; done)))

@[simp] theorem State.cfgPut_core (s : State) (n v : Nat) : (State.cfgPut s n v).core = s.core := by
  unfold State.cfgPut
  try simp
  all_goals (repeat' (first | (apply core_foldl; intro t x; try simp) | (apply core_foldl_pair; intro t x; try simp) | (split <;> (try simp)) | (simp_all; done)))

@[simp] theorem State.cfgWrite_core (s : State) (n data mask : Nat) : (State.cfgWrite s n data mask).core = s.core := by
  unfold State.cfgWrite
  try simp
  all_goals (repeat' (first | (apply core_foldl; intro t x; try simp) | (apply core_foldl_pair; intro t x; try simp) | (split <;> (try simp)) | (simp_all; done)))

@[simp] theorem State.badTlp_core (s : State) (t : InTlp) : (State.badTlp s t).core = s.core := by
  unfold State.badTlp
  try simp
  all_goals (repeat' (first | (apply core_foldl; intro t x; try simp) | (apply core_foldl_pair; intro t x; try simp) | (split <;> (try simp)) | (simp_all; done)))

@[simp] theorem State.tagFree_core (s : State) (tag : Nat) : (State.tagFree s tag).core = s.core := by
  unfold State.tagFree
  try simp
  all_goals (repeat' (first | (apply core_foldl; intro t x; try simp) | (apply core_foldl_pair; intro t x; try simp) | (split <;> (try simp)) | (simp_all; done)))

@[simp] theorem State.cplErrs_core (s : State) (poisoned malformed unexpected same : Bool) : (State.cplErrs s poisoned malformed unexpected same).core = s.core := by
  unfold State.cplErrs
  try simp
  all_goals (repeat' (first | (apply core_foldl; intro t x; try simp) | (apply core_foldl_pair; intro t x; try simp) | (split <;> (try simp)) | (simp_all; done)))

@[simp] theorem State.quoCompletion_core (s : State) (tag : Nat) (poisoned malformed same : Bool) : (State.quoCompletion s tag poisoned malformed same).core = s.core := by
  unfold State.quoCompletion
  try simp
  all_goals (repeat' (first | (apply core_foldl; intro t x; try simp) | (apply core_foldl_pair; intro t x; try simp) | (split <;> (try simp)) | (simp_all; done)))

@[simp] theorem State.quoRelease_core (s : State) : (State.quoRelease s).core = s.core := by
  unfold State.quoRelease
  try simp
  all_goals (repeat' (first | (apply core_foldl; intro t x; try simp) | (apply core_foldl_pair; intro t x; try simp) | (split <;> (try simp)) | (simp_all; done)))

@[simp] theorem State.drainStart_core (s : State) : (State.drainStart s).core = s.core := by
  unfold State.drainStart
  try simp
  all_goals (repeat' (first | (apply core_foldl; intro t x; try simp) | (apply core_foldl_pair; intro t x; try simp) | (split <;> (try simp)) | (simp_all; done)))

@[simp] theorem State.drainNext_core (s : State) (d : Drain) (n : Nat) : (State.drainNext s d n).core = s.core := by
  unfold State.drainNext
  try simp
  all_goals (repeat' (first | (apply core_foldl; intro t x; try simp) | (apply core_foldl_pair; intro t x; try simp) | (split <;> (try simp)) | (simp_all; done)))

@[simp] theorem State.drainTick_core (s : State) : (State.drainTick s).core = s.core := by
  unfold State.drainTick
  try simp
  all_goals (repeat' (first | (apply core_foldl; intro t x; try simp) | (apply core_foldl_pair; intro t x; try simp) | (split <;> (try simp)) | (simp_all; done)))

@[simp] theorem State.drainRecord_core (s : State) (d : Drain) (status : Nat) : (State.drainRecord s d status).core = s.core := by
  unfold State.drainRecord
  try simp
  all_goals (repeat' (first | (apply core_foldl; intro t x; try simp) | (apply core_foldl_pair; intro t x; try simp) | (split <;> (try simp)) | (simp_all; done)))

@[simp] theorem State.drainEnd_core (s : State) (d : Drain) : (State.drainEnd s d).core = s.core := by
  unfold State.drainEnd
  try simp
  all_goals (repeat' (first | (apply core_foldl; intro t x; try simp) | (apply core_foldl_pair; intro t x; try simp) | (split <;> (try simp)) | (simp_all; done)))

@[simp] theorem State.drainAbort_core (s : State) : (State.drainAbort s).core = s.core := by
  unfold State.drainAbort
  try simp
  all_goals (repeat' (first | (apply core_foldl; intro t x; try simp) | (apply core_foldl_pair; intro t x; try simp) | (split <;> (try simp)) | (simp_all; done)))

@[simp] theorem State.exportOne_core (s : State) (n : Nat) : (State.exportOne s n).core = s.core := by
  unfold State.exportOne
  try simp
  all_goals (repeat' (first | (apply core_foldl; intro t x; try simp) | (apply core_foldl_pair; intro t x; try simp) | (split <;> (try simp)) | (simp_all; done)))

/-! Operations of Resets. -/

@[simp] theorem State.clocksReturn_core (s : State) : (State.clocksReturn s).core = s.core := by
  unfold State.clocksReturn
  try simp
  all_goals (repeat' (first | (apply core_foldl; intro t x; try simp) | (apply core_foldl_pair; intro t x; try simp) | (split <;> (try simp)) | (simp_all; done)))

@[simp] theorem State.countTime_core (s : State) (c : Nat) : (State.countTime s c).core = s.core := by
  unfold State.countTime
  try simp
  all_goals (repeat' (first | (apply core_foldl; intro t x; try simp) | (apply core_foldl_pair; intro t x; try simp) | (split <;> (try simp)) | (simp_all; done)))

@[simp] theorem State.rclkTick_core (s : State) : (State.rclkTick s).core = if s.rclkLost then s.core else { s with uptime := s.uptime + 10 }.core := by
  unfold State.rclkTick
  split
  · rfl
  · dsimp only
    split <;> split <;> simp

@[simp] theorem State.clockReport_core (s : State) (sev kind domain : Nat) : (State.clockReport s sev kind domain).core = s.core := by
  unfold State.clockReport
  try simp
  all_goals (repeat' (first | (apply core_foldl; intro t x; try simp) | (apply core_foldl_pair; intro t x; try simp) | (split <;> (try simp)) | (simp_all; done)))

@[simp] theorem State.clockFatal_core (s : State) : (State.clockFatal s).core = s.core := by
  unfold State.clockFatal
  try simp
  all_goals (repeat' (first | (apply core_foldl; intro t x; try simp) | (apply core_foldl_pair; intro t x; try simp) | (split <;> (try simp)) | (simp_all; done)))

@[simp] theorem State.hclkFault_core (s : State) (n : Nat) (stopped : Bool) : (State.hclkFault s n stopped).core = s.core := by
  unfold State.hclkFault
  try simp
  all_goals (repeat' (first | (apply core_foldl; intro t x; try simp) | (apply core_foldl_pair; intro t x; try simp) | (split <;> (try simp)) | (simp_all; done)))

@[simp] theorem State.pclkFault_core (s : State) (p : Nat) : (State.pclkFault s p).core = s.core := by
  unfold State.pclkFault
  try simp
  all_goals (repeat' (first | (apply core_foldl; intro t x; try simp) | (apply core_foldl_pair; intro t x; try simp) | (split <;> (try simp)) | (simp_all; done)))

@[simp] theorem State.clockFault_core (s : State) (d : Nat) (stopped : Bool) : (State.clockFault s d stopped).core = s.core := by
  unfold State.clockFault
  try simp
  all_goals (repeat' (first | (apply core_foldl; intro t x; try simp) | (apply core_foldl_pair; intro t x; try simp) | (split <;> (try simp)) | (simp_all; done)))

@[simp] theorem State.fixWritten_core (s : State) (c : Nat) : (State.fixWritten s c).core = s.core := by
  unfold State.fixWritten
  try simp
  all_goals (repeat' (first | (apply core_foldl; intro t x; try simp) | (apply core_foldl_pair; intro t x; try simp) | (split <;> (try simp)) | (simp_all; done)))

@[simp] theorem State.resetPlain_core (s : State) (c : Nat) : (State.resetPlain s c).core = s.core := by
  unfold State.resetPlain
  try simp
  all_goals (repeat' (first | (apply core_foldl; intro t x; try simp) | (apply core_foldl_pair; intro t x; try simp) | (split <;> (try simp)) | (simp_all; done)))

@[simp] theorem State.pllLoss_core (s : State) (c : Nat) : (State.pllLoss s c).core = s.core := by
  unfold State.pllLoss
  try simp
  all_goals (repeat' (first | (apply core_foldl; intro t x; try simp) | (apply core_foldl_pair; intro t x; try simp) | (split <;> (try simp)) | (simp_all; done)))

@[simp] theorem State.rclkLoss_core (s : State) : (State.rclkLoss s).core = { s with rclkLost := true }.core := by
  unfold State.rclkLoss
  split
  · rename_i h
    simp [State.core, h]
  · dsimp only
    rw [core_foldl _ _ _ (by intro t x; split <;> simp)]
    simp

@[simp] theorem State.coldAssert_core (s : State) : (State.coldAssert s).core = { State.reset with build := s.build, pair := s.pair, pending := s.pending }.core := rfl

@[simp] theorem State.coldRelease_core (s : State) (x : Straps) (upset : Nat) (lost : List Nat) : (State.coldRelease s x upset lost).core = { s with cold := false, straps := sampled x, uptime := 0 }.core := by
  unfold State.coldRelease
  dsimp only
  simp only [State.plinthStart_core, State.setF_core, State.firstMeasure_core]
  rw [core_foldl _ _ _ (by intro t x; simp)]
  rfl

@[simp] theorem State.srForce_core (s : State) (c why : Nat) : (State.srForce s c why).core = s.core := by
  unfold State.srForce
  try simp
  all_goals (repeat' (first | (apply core_foldl; intro t x; try simp) | (apply core_foldl_pair; intro t x; try simp) | (split <;> (try simp)) | (simp_all; done)))

@[simp] theorem State.warmRequest_core (s : State) : (State.warmRequest s).core = { s with warm := 1, warmAt := if s.rawF BLK_BOOT_STEP 0 0 0 = 9 then s.warmAt else s.rawF BLK_BOOT_STEP 0 0 0 }.core := by
  unfold State.warmRequest
  try simp
  all_goals (repeat' (first | (apply core_foldl; intro t x; try simp) | (apply core_foldl_pair; intro t x; try simp) | (split <;> (try simp)) | (simp_all; done)))

@[simp] theorem State.remoteOut_core (s : State) : (State.remoteOut s).core = s.core := by
  unfold State.remoteOut
  try simp
  all_goals (repeat' (first | (apply core_foldl; intro t x; try simp) | (apply core_foldl_pair; intro t x; try simp) | (split <;> (try simp)) | (simp_all; done)))

@[simp] theorem State.answerAll_core (s : State) : (State.answerAll s).core = s.core := by
  unfold State.answerAll
  try simp
  all_goals (repeat' (first | (apply core_foldl; intro t x; try simp) | (apply core_foldl_pair; intro t x; try simp) | (split <;> (try simp)) | (simp_all; done)))

@[simp] theorem State.freeEntries_core (s : State) : (State.freeEntries s).core = s.core := by
  unfold State.freeEntries
  try simp
  all_goals (repeat' (first | (apply core_foldl; intro t x; try simp) | (apply core_foldl_pair; intro t x; try simp) | (split <;> (try simp)) | (simp_all; done)))

@[simp] theorem State.warmDrain_core (s : State) : (State.warmDrain s).core = { s with warm := 2 }.core := by
  unfold State.warmDrain
  dsimp only
  rw [core_foldl _ _ _ (by intro t x; split <;> simp)]
  have h : s.remoteOut.answerAll.freeEntries.core = s.core := by simp
  simp only [State.core, Prod.mk.injEq] at h ⊢
  simp [h]

@[simp] theorem State.warmRegs_core (s : State) : (State.warmRegs s).core = s.core := by
  unfold State.warmRegs
  try simp
  all_goals (repeat' (first | (apply core_foldl; intro t x; try simp) | (apply core_foldl_pair; intro t x; try simp) | (split <;> (try simp)) | (simp_all; done)))

@[simp] theorem State.warmChan_core (s : State) (c : Nat) : (State.warmChan s c).core = s.core := by
  unfold State.warmChan
  try simp
  all_goals (repeat' (first | (apply core_foldl; intro t x; try simp) | (apply core_foldl_pair; intro t x; try simp) | (split <;> (try simp)) | (simp_all; done)))

@[simp] theorem State.bondEmptied_core (s : State) : (State.bondEmptied s).core = s.core := by
  unfold State.bondEmptied
  try simp
  all_goals (repeat' (first | (apply core_foldl; intro t x; try simp) | (apply core_foldl_pair; intro t x; try simp) | (split <;> (try simp)) | (simp_all; done)))

@[simp] theorem State.warmBond_core (s : State) (nonce : Nat) : (State.warmBond s nonce).core = s.core := by
  unfold State.warmBond
  try simp
  all_goals (repeat' (first | (apply core_foldl; intro t x; try simp) | (apply core_foldl_pair; intro t x; try simp) | (split <;> (try simp)) | (simp_all; done)))

@[simp] theorem State.warmUnits_core (s : State) (nonce : Nat) : (State.warmUnits s nonce).core = s.core := by
  unfold State.warmUnits
  try simp
  all_goals (repeat' (first | (apply core_foldl; intro t x; try simp) | (apply core_foldl_pair; intro t x; try simp) | (split <;> (try simp)) | (simp_all; done)))

@[simp] theorem State.warmApply_core (s : State) (nonce : Nat) (low : Bool) (vdd mv : Nat) : (State.warmApply s nonce low vdd mv).core = { s with warm := 3, warmSafe := true }.core := by
  unfold State.warmApply
  have h : ((s.warmUnits nonce).firstMeasure low vdd mv).core = s.core := by simp
  simp only [State.core, Prod.mk.injEq] at h ⊢
  simp [h]

@[simp] theorem State.warmExit_core (s : State) (c : Nat) : (State.warmExit s c).core = s.core := by
  unfold State.warmExit
  try simp
  all_goals (repeat' (first | (apply core_foldl; intro t x; try simp) | (apply core_foldl_pair; intro t x; try simp) | (split <;> (try simp)) | (simp_all; done)))

@[simp] theorem State.warmRelease_core (s : State) : (State.warmRelease s).core = { s with warm := 0, warmSafe := false }.core := by
  unfold State.warmRelease
  try simp
  all_goals (repeat' (first | (apply core_foldl; intro t x; try simp) | (split <;> (try simp))))

@[simp] theorem State.chanReset_core (s : State) (c : Nat) : (State.chanReset s c).core = s.core := by
  unfold State.chanReset
  try simp
  all_goals (repeat' (first | (apply core_foldl; intro t x; try simp) | (apply core_foldl_pair; intro t x; try simp) | (split <;> (try simp)) | (simp_all; done)))

@[simp] theorem State.chanResets_core (s : State) (mask : Nat) : (State.chanResets s mask).core = s.core := by
  unfold State.chanResets
  try simp
  all_goals (repeat' (first | (apply core_foldl; intro t x; try simp) | (apply core_foldl_pair; intro t x; try simp) | (split <;> (try simp)) | (simp_all; done)))

/-! Operations of Registers. -/

@[simp] theorem State.writeField_core (s : State) (f : Field) (i j k : Nat) (w : RegW) : (State.writeField s f i j k w).core = s.core := by
  unfold State.writeField
  try simp
  all_goals (repeat' (first | (apply core_foldl; intro t x; try simp) | (apply core_foldl_pair; intro t x; try simp) | (split <;> (try simp)) | (simp_all; done)))

@[simp] theorem State.writePlain_core (s : State) (fs : List Field) (i j k : Nat) (w : RegW) : (State.writePlain s fs i j k w).core = s.core := by
  unfold State.writePlain
  try simp
  all_goals (repeat' (first | (apply core_foldl; intro t x; try simp) | (apply core_foldl_pair; intro t x; try simp) | (split <;> (try simp)) | (simp_all; done)))

@[simp] theorem State.onOne_core (s : State) (w : RegW) (f : Field) (g : State → State) (hg : ∀ t, (g t).core = t.core) : (State.onOne s w f g).core = s.core := by
  unfold State.onOne
  try simp [hg]
  all_goals (repeat' (first | (apply core_foldl; intro t x; try simp [hg]) | (apply core_foldl_pair; intro t x; try simp [hg]) | (split <;> (try simp [hg])) | (simp_all; done)))

@[simp] theorem State.onCover_core (s : State) (w : RegW) (f : Field) (old : Nat) (g : State → Nat → State) (hg : ∀ t a, (g t a).core = t.core) : (State.onCover s w f old g).core = s.core := by
  unfold State.onCover
  try simp [hg]
  all_goals (repeat' (first | (apply core_foldl; intro t x; try simp [hg]) | (apply core_foldl_pair; intro t x; try simp [hg]) | (split <;> (try simp [hg])) | (simp_all; done)))

@[simp] theorem State.creditWrite_core (s : State) (n : Nat) (w : RegW) : (State.creditWrite s n w).core = s.core := by
  unfold State.creditWrite
  try simp
  all_goals (repeat' (first | (apply core_foldl; intro t x; try simp) | (apply core_foldl_pair; intro t x; try simp) | (split <;> (try simp)) | (simp_all; done)))

@[simp] theorem State.rsvWrite_core (s : State) (c : Nat) (w : RegW) : (State.rsvWrite s c w).core = s.core := by
  unfold State.rsvWrite
  try simp
  all_goals (repeat' (first | (apply core_foldl; intro t x; try simp) | (apply core_foldl_pair; intro t x; try simp) | (split <;> (try simp)) | (simp_all; done)))

theorem State.writePorts_core (s : State) (r : RegAt) (fs : List Field) (i : Nat) (w : RegW) : ∀ t, (State.writePorts s r fs i w) = some t → t.core = s.core := by
  intro t h
  unfold State.writePorts at h
  revert h
  try dsimp only
  repeat' split
  all_goals (intro h; first | (rw [← Option.some.inj h]; simp; done) | (cases h; done) | (cases h; rfl))

@[simp] theorem State.pntCtrlWrite_core (s : State) (c : Nat) (w : RegW) : (State.pntCtrlWrite s c w).core = s.core := by
  unfold State.pntCtrlWrite
  try simp
  all_goals (repeat' (first | (apply core_foldl; intro t x; try simp) | (apply core_foldl_pair; intro t x; try simp) | (split <;> (try simp)) | (simp_all; done)))

@[simp] theorem State.spareWrite_core (s : State) (c : Nat) (fs : List Field) (w : RegW) : (State.spareWrite s c fs w).core = s.core := by
  unfold State.spareWrite
  try simp
  all_goals (repeat' (first | (apply core_foldl; intro t x; try simp) | (apply core_foldl_pair; intro t x; try simp) | (split <;> (try simp)) | (simp_all; done)))

theorem State.writeChan_core (s : State) (r : RegAt) (fs : List Field) (i j k : Nat) (w : RegW) : ∀ t, (State.writeChan s r fs i j k w) = some t → t.core = s.core := by
  unfold State.writeChan
  try dsimp only
  repeat' (first | apply core_opt_ite | exact core_opt_none | (apply core_opt_some; first | (simp; done) | (split <;> simp; done)))

@[simp] theorem State.hostReqWrite_core (s : State) (w : RegW) : (State.hostReqWrite s w).core = s.core := by
  unfold State.hostReqWrite
  try simp
  all_goals (repeat' (first | (apply core_foldl; intro t x; try simp) | (apply core_foldl_pair; intro t x; try simp) | (split <;> (try simp)) | (simp_all; done)))

theorem State.writeEngines_core (s : State) (r : RegAt) (fs : List Field) (i j k : Nat) (w : RegW) : ∀ t, (State.writeEngines s r fs i j k w) = some t → t.core = s.core := by
  unfold State.writeEngines
  try dsimp only
  repeat' (first | apply core_opt_ite | exact core_opt_none | (apply core_opt_some; first | (simp; done) | (split <;> simp; done)))

@[simp] theorem State.srcWrite_core (s : State) (fs : List Field) (n : Nat) (w : RegW) : (State.srcWrite s fs n w).core = s.core := by
  unfold State.srcWrite
  try simp
  all_goals (repeat' (first | (apply core_foldl; intro t x; try simp) | (apply core_foldl_pair; intro t x; try simp) | (split <;> (try simp)) | (simp_all; done)))

@[simp] theorem State.cntWrite_core (s : State) (n : Nat) (w : RegW) : (State.cntWrite s n w).core = s.core := by
  unfold State.cntWrite
  try simp
  all_goals (repeat' (first | (apply core_foldl; intro t x; try simp) | (apply core_foldl_pair; intro t x; try simp) | (split <;> (try simp)) | (simp_all; done)))

@[simp] theorem State.cntCtlWrite_core (s : State) (fs : List Field) (i j n : Nat) (w : RegW) : (State.cntCtlWrite s fs i j n w).core = s.core := by
  unfold State.cntCtlWrite
  try simp
  all_goals (repeat' (first | (apply core_foldl; intro t x; try simp) | (apply core_foldl_pair; intro t x; try simp) | (split <;> (try simp)) | (simp_all; done)))

@[simp] theorem State.plbCtrlWrite_core (s : State) (w : RegW) : (State.plbCtrlWrite s w).core = s.core := by
  unfold State.plbCtrlWrite
  try simp
  all_goals (repeat' (first | (apply core_foldl; intro t x; try simp) | (apply core_foldl_pair; intro t x; try simp) | (split <;> (try simp)) | (simp_all; done)))

@[simp] theorem State.dstCmdWrite_core (s : State) (w : RegW) : (State.dstCmdWrite s w).core = s.core := by
  unfold State.dstCmdWrite
  try simp
  all_goals (repeat' (first | (apply core_foldl; intro t x; try simp) | (apply core_foldl_pair; intro t x; try simp) | (split <;> (try simp)) | (simp_all; done)))

theorem State.writeFaults_core (s : State) (r : RegAt) (fs : List Field) (i j k : Nat) (w : RegW) : ∀ t, (State.writeFaults s r fs i j k w) = some t → t.core = s.core := by
  unfold State.writeFaults
  try dsimp only
  repeat' (first | apply core_opt_ite | exact core_opt_none | (apply core_opt_some; first | (simp; done) | (split <;> simp; done)))

@[simp] theorem State.freezeFn_core (s : State) (fn : Nat) : (State.freezeFn s fn).core = s.core := by
  unfold State.freezeFn
  try simp
  all_goals (repeat' (first | (apply core_foldl; intro t x; try simp) | (apply core_foldl_pair; intro t x; try simp) | (split <;> (try simp)) | (simp_all; done)))

@[simp] theorem State.thawFn_core (s : State) (fn : Nat) : (State.thawFn s fn).core = s.core := by
  unfold State.thawFn
  try simp
  all_goals (repeat' (first | (apply core_foldl; intro t x; try simp) | (apply core_foldl_pair; intro t x; try simp) | (split <;> (try simp)) | (simp_all; done)))

@[simp] theorem State.expertEffects_core (s old : State) (fn : Nat) (on : Bool) : (State.expertEffects s old fn on).core = s.core := by
  unfold State.expertEffects
  try simp
  all_goals (repeat' (first | (apply core_foldl; intro t x; try simp) | (apply core_foldl_pair; intro t x; try simp) | (split <;> (try simp)) | (simp_all; done)))

@[simp] theorem State.expertFlip_core (s : State) (fn : Nat) : (State.expertFlip s fn).core = s.core := by
  unfold State.expertFlip
  try simp
  all_goals (repeat' (first | (apply core_foldl; intro t x; try simp) | (apply core_foldl_pair; intro t x; try simp) | (split <;> (try simp)) | (simp_all; done)))

@[simp] theorem State.expertWrite_core (s : State) (w : RegW) : (State.expertWrite s w).core = s.core := by
  unfold State.expertWrite
  try simp
  all_goals (repeat' (first | (apply core_foldl; intro t x; try simp) | (apply core_foldl_pair; intro t x; try simp) | (split <;> (try simp)) | (simp_all; done)))

theorem State.writeBlk_core (s : State) (r : RegAt) (fs : List Field) (i j k : Nat) (w : RegW) : ∀ t, (State.writeBlk s r fs i j k w) = some t → t.core = s.core := by
  intro t h
  unfold State.writeBlk at h
  revert h
  try dsimp only
  repeat' split
  all_goals (intro h; first | (rw [← Option.some.inj h]; simp; done) | (cases h; done) | (cases h; rfl))

@[simp] theorem State.msixWrite_core (s : State) (o : Nat) (w : RegW) : (State.msixWrite s o w).core = s.core := by
  unfold State.msixWrite
  try simp
  all_goals (repeat' (first | (apply core_foldl; intro t x; try simp) | (apply core_foldl_pair; intro t x; try simp) | (split <;> (try simp)) | (simp_all; done)))

@[simp] theorem State.writeReg_core (s : State) (r : RegAt) (fs : List Field) (i j k : Nat) (w : RegW) : (State.writeReg s r fs i j k w).core = s.core := by
  unfold State.writeReg
  have h : ∀ (a : Option State) (f : Unit → Option State), (∀ t, a = some t → t.core = s.core) →
      (∀ t, f () = some t → t.core = s.core) → ∀ t, a.orElse f = some t → t.core = s.core := by
    intro a f ha hf t ht
    cases a with
    | none => exact hf t ht
    | some u => exact ha t ht
  have hd : ∀ (a : Option State) (u : State), u.core = s.core → (∀ t, a = some t → t.core = s.core) →
      (a.getD u).core = s.core := by
    intro a u hu ha
    cases a with
    | none => exact hu
    | some t => exact ha t rfl
  apply hd
  · simp
  · exact h _ _ (h _ _ (h _ _ (h _ _ (State.writePorts_core s r fs i w) (State.writeChan_core s r fs i j k w))
      (State.writeEngines_core s r fs i j k w)) (State.writeFaults_core s r fs i j k w)) (State.writeBlk_core s r fs i j k w)

@[simp] theorem State.writeOffset_core (s : State) (o : Nat) (w : RegW) : (State.writeOffset s o w).core = s.core := by
  unfold State.writeOffset
  try simp
  all_goals (repeat' (first | (apply core_foldl; intro t x; try simp) | (apply core_foldl_pair; intro t x; try simp) | (split <;> (try simp)) | (simp_all; done)))

@[simp] theorem State.debugAccess_core (s : State) (m : Nat) (a : DbgAccess) : (State.debugAccess s m a).core = s.core := by
  cases a with
  | readReg r => simp [State.debugAccess]
  | writeReg r v => simp only [State.debugAccess]; cases debugWin m r <;> simp
  | _ => simp [State.debugAccess]

@[simp] theorem State.regWrite_core (s : State) (off : Nat) (w : RegW) : (State.regWrite s off w).core = s.core := by
  unfold State.regWrite
  try simp
  all_goals (repeat' (first | (apply core_foldl; intro t x; try simp) | (apply core_foldl_pair; intro t x; try simp) | (split <;> (try simp)) | (simp_all; done)))

end Sys2Proof.Machine
end

