-- ==== Sys2Proof/WellFormed.lean ====
section
/-! DEFINITION. Which commands are well formed: every operand lies in the range its field has in the
spec. The meanings answer for ill-formed commands too; no statement needs one. -/

namespace Sys2Proof

/-- A request slot's fields fit their widths (R51). -/
def PReq.wf (p : PReq) : Bool :=
  decide (p.port < 12) && decide (p.slot < 2) && decide (p.size < 8) && decide (p.addr < 2 ^ 52) &&
  decide (p.tag < 4096) && decide (p.sid < 4096) && decide (p.qid < 4096) && decide (p.priv < 4) &&
  decide (p.attr < 16) && decide (p.col < 4)

/-- A write-data slot's fields fit their widths (R51). -/
def WSlot.wf (w : WSlot) : Bool :=
  decide (w.port < 12) && decide (w.slot < 2) && decide (w.tag < 4096) && decide (w.upset < 3)

/-- A word of a region of R377, or a counter. -/
def PlbUpset.wf (u : PlbUpset) : Bool :=
  decide (u.region < 5) && decide (u.word < 8) &&
  decide (u.item < (match u.region with | 0 => 1296 | 1 => 352 | 2 => 4096 | 3 => 1024 | _ => 224))

/-- An item of the sweep and a source of R341. -/
def SweepItem.wf (k : SweepItem) : Bool := decide (k.item < 7) && decide (k.src < 112)

/-- A request to the Keystone names a requester of R307 and fits its fields (R309). -/
def KeyAsk.wf (k : KeyAsk) : Bool :=
  decide (k.idx < 253) && decide (k.owner < 2 ^ 16) && decide (k.base < 2 ^ 52) && decide (k.count < 2 ^ 16) &&
  k.chan.all (fun c => decide (c < 24))

/-- A DRAM command names places that exist (R107, R108). -/
def Cmd.wf (c : Cmd) : Bool :=
  decide (c.chan < 24) && decide (c.sub < 2) && decide (c.rank < 4) && decide (c.bg < 8) &&
  decide (c.ba < 4) && decide (c.row < 2 ^ 18) && decide (c.col < 512) && c.rivals.all KeyAsk.wf

/-- The straps fit their widths (R47). -/
def Straps.wf (s : Straps) : Bool :=
  decide (s.node < 64) && decide (s.keyDigest < 2 ^ 384) && decide (s.nonce < 2 ^ 32) &&
  decide (0 < s.nonce) && decide (s.vcoreMv < 1024) && (!s.derate || decide (s.vdd < 720))

/-- A region names a quantity, a subchannel, a logical rank and a lane that there are. -/
def Region.wf (g : Region) : Bool :=
  decide (g.q < 17) && g.sub.all (fun x => decide (x < 2)) && g.rank.all (fun x => decide (x < 4)) &&
  g.lane.all (fun x => decide (x < 40)) && decide (g.lo < 2 ^ 16) && decide (g.hi < 2 ^ 16)

/-- What the training hardware reports fits its fields. -/
def StepEnd.wf (e : StepEnd) : Bool :=
  e.regions.all Region.wf && decide (e.row14 < 256) && decide (e.row15 < 256) && decide (e.dens < 8) &&
  decide (e.width < 2) && decide (e.height < 4) && decide (e.temp < 256) && decide (e.stored < 3) &&
  e.dimms.all (fun d => d.all (fun k => decide (k < 2)))

/-- A message's fields fit their widths (R320). -/
def Msg.wf (g : Msg) : Bool :=
  decide (g.opc < 256) && decide (g.nh < 64) && decide (g.src < 64) && decide (g.dst < 64) &&
  decide (g.hops < 8) && decide (g.tag < 4096) && decide (g.status < 16) && decide (g.size < 8) &&
  decide (g.priv < 4) && decide (g.col < 4) && decide (g.qid < 4096) && decide (g.mkind < 4) &&
  decide (g.mid < 2 ^ 16) && decide (g.addr < 2 ^ 52) && decide (g.lh < 64) &&
  decide (g.pseq < 2 ^ 15) && decide (g.crc < 2 ^ 32) && decide (g.lane < 2) && decide (g.upset < 5)

/-- A debug access names a register, entry or store place that exists (R238, R262). -/
def DbgAccess.wf : DbgAccess → Bool
  | .readReg r => decide (r < 53)
  | .writeReg r _ => decide (r < 53)
  | .readLine l => decide (l < 8)
  | .writeLine l _ _ => decide (l < 8)
  | .readTpl e => decide (e < 64)
  | .writeTpl e _ _ _ => decide (e < 64)
  | .readStore i => decide (i < 4096)
  | .readScratch a => decide (a < 32768)

/-- A TLP's kind and offset (R389). -/
def InTlp.wf (t : InTlp) : Bool := decide (t.kind < 6) && decide (t.off < 2 ^ 26)

/-- The command is well formed. -/
def wellFormed : Instr → Bool
  | .coldResetAssert => true
  | .coldResetRelease straps _ lost => straps.wf && lost.all (fun r => decide (r < 8192))
  | .warmResetRequest => true
  | .warmResetDrainDone => true
  | .warmResetApplied nonce _ vdd mv => decide (0 < nonce) && decide (nonce < 0x100000000) && decide (mv < 1024) &&
    decide (vdd ≤ mv + 10) && decide (mv ≤ vdd + 10)
  | .warmResetRelease => true
  | .rclkLoss => true
  | .clockFault domain _ => decide (domain < 15)
  | .pllLossOfLock chan => decide (chan < 24)
  | .alertNPulse chan _ _ rank => decide (chan < 24) && decide (rank < 2)
  | .replay chan _ => decide (chan < 24)
  | .rdLine p => p.wf
  | .rdPart p => p.wf
  | .wrLine p => p.wf
  | .wrPart p => p.wf
  | .wrZero p => p.wf
  | .atAdd p => p.wf
  | .atOr p => p.wf
  | .atAnd p => p.wf
  | .atXor p => p.wf
  | .atSwap p => p.wf
  | .atCas p => p.wf
  | .atMin p => p.wf
  | .atMax p => p.wf
  | .atUmin p => p.wf
  | .atUmax p => p.wf
  | .setad p => p.wf
  | .flush p => p.wf
  | .reservedOpcode p code => p.wf && decide (code < 32)
  | .writeDataSlot w => w.wf
  | .wdTimeout port => decide (port < 12)
  | .completionAccepted port _ upset _ => decide (port < 12) && decide (upset < 3)
  | .cplStall port _ => decide (port < 12)
  | .portOpen port => decide (port < 12)
  | .portDrain port => decide (port < 12)
  | .portFence port => decide (port < 12)
  | .portUnfence port => decide (port < 12)
  | .mortarAdmit port upset rivals => decide (port < 12) && decide (upset < 4) && rivals.all KeyAsk.wf
  | .setterEnqueue _ upset => decide (upset < 5)
  | .flushComplete _ => true
  | .handshakeStall _ => true
  | .derateSet vdd mv => decide (vdd < 720) && decide (mv < 1024) && decide (vdd ≤ mv + 10) && decide (mv ≤ vdd + 10)
  | .derateClear mv => decide (mv < 1024)
  | .peakClr => true
  | .mapRgnCtlWrite entry _ => decide (entry < 64)
  | .mapGeomWrite chan _ => decide (chan < 24)
  | .refillTick => true
  | .gauRefill chan => decide (chan < 24)
  | .gauRefillAll chan => decide (chan < 24)
  | .gauRateWrite chan _ => decide (chan < 24)
  | .gauBurstWrite chan _ => decide (chan < 24)
  | .queueSample => true
  | .phaseChange chan sub => decide (chan < 24) && decide (sub < 2)
  | .act c => c.wf
  | .rd c => c.wf
  | .rda c => c.wf
  | .wr c => c.wf
  | .wra c => c.wf
  | .pre c => c.wf
  | .presb c => c.wf
  | .preab c => c.wf
  | .refab c => c.wf
  | .refsb c => c.wf
  | .rfmab c => c.wf
  | .rfmsb c => c.wf
  | .mrr c addr data => c.wf && decide (addr < 256) && decide (data < 256)
  | .mrw c addr data => c.wf && decide (addr < 256) && decide (data < 256)
  | .mpc c addr data => c.wf && decide (addr < 256) && decide (data < 256)
  | .sre c => c.wf
  | .srx c => c.wf
  | .pde c => c.wf
  | .pdx c => c.wf
  | .idleCloseExpiry c => c.wf
  | .tableCompare chan upset => decide (chan < 24) && decide (upset < 3)
  | .timApply chan => decide (chan < 24)
  | .refreshTick chan unit _ => decide (chan < 24) && decide (unit < 8)
  | .mr4Poll chan hot rivals => decide (chan < 24) && decide (hot < 3) && rivals.all KeyAsk.wf
  | .zqPeriodExpiry c => c.wf
  | .zqcalLatchDue c => c.wf
  | .refreshModeWrite chan mode => decide (chan < 24) && decide (mode < 4)
  | .refreshModeSwitch chan => decide (chan < 24)
  | .trackerHalving chan => decide (chan < 24)
  | .coldStartEnd chan => decide (chan < 24)
  | .srRequest chan => decide (chan < 24)
  | .srIdleExpiry chan => decide (chan < 24)
  | .srExitRequest chan => decide (chan < 24)
  | .srExitDone chan hot rivals => decide (chan < 24) && decide (hot < 3) && rivals.all KeyAsk.wf
  | .burstDecode chan errs upset =>
      decide (chan < 24) &&
      errs.all (fun e => decide (e.1 < 80) && decide (e.2 < 256)) &&
      decide (upset < 4)
  | .sparingDone chan => decide (chan < 24)
  | .patrolLineDue chan => decide (chan < 24)
  | .patrolLate chan => decide (chan < 24)
  | .counterLeak chan sub => decide (chan < 24) && decide (sub < 2)
  | .ashInitStart chan => decide (chan < 24)
  | .ashInitDone chan => decide (chan < 24)
  | .ashMarkWrite chan sub _ => decide (chan < 24) && decide (sub < 2)
  | .ashThreshWrite chan sub _ => decide (chan < 24) && decide (sub < 2)
  | .train chan rivals => decide (chan < 24) && rivals.all KeyAsk.wf
  | .retrain chan => decide (chan < 24)
  | .store chan => decide (chan < 24)
  | .trainGo rivals stored => rivals.all KeyAsk.wf && stored.all (fun u => decide (u.1 < 24) && decide (u.2 < 3))
  | .trainingStepEnd chan e sub rivals => decide (chan < 24) && decide (sub < 2) && e.wf && rivals.all KeyAsk.wf
  | .stepTimeout chan e sub => decide (chan < 24) && decide (sub < 2) && e.wf
  | .retrainTick chan temp rivals => decide (chan < 24) && decide (temp < 256) && rivals.all KeyAsk.wf
  | .seamPoint chan e rivals => decide (chan < 24) && e.wf && rivals.all KeyAsk.wf
  | .plinthStore => true
  | .plinthRowWriteDone _ _ => true
  | .rawRead _ upset => decide (upset < 3)
  | .rawWrite _ => true
  | .readRec _ upset => decide (upset < 3)
  | .add m upset rd rs1 rs2 =>
      decide (m < 216) &&
      decide (upset < 7) &&
      decide (rd < 32) &&
      decide (rs1 < 32) &&
      decide (rs2 < 32)
  | .sub m upset rd rs1 rs2 =>
      decide (m < 216) &&
      decide (upset < 7) &&
      decide (rd < 32) &&
      decide (rs1 < 32) &&
      decide (rs2 < 32)
  | .and m upset rd rs1 rs2 =>
      decide (m < 216) &&
      decide (upset < 7) &&
      decide (rd < 32) &&
      decide (rs1 < 32) &&
      decide (rs2 < 32)
  | .or m upset rd rs1 rs2 =>
      decide (m < 216) &&
      decide (upset < 7) &&
      decide (rd < 32) &&
      decide (rs1 < 32) &&
      decide (rs2 < 32)
  | .xor m upset rd rs1 rs2 =>
      decide (m < 216) &&
      decide (upset < 7) &&
      decide (rd < 32) &&
      decide (rs1 < 32) &&
      decide (rs2 < 32)
  | .sll m upset rd rs1 rs2 =>
      decide (m < 216) &&
      decide (upset < 7) &&
      decide (rd < 32) &&
      decide (rs1 < 32) &&
      decide (rs2 < 32)
  | .srl m upset rd rs1 rs2 =>
      decide (m < 216) &&
      decide (upset < 7) &&
      decide (rd < 32) &&
      decide (rs1 < 32) &&
      decide (rs2 < 32)
  | .sra m upset rd rs1 rs2 =>
      decide (m < 216) &&
      decide (upset < 7) &&
      decide (rd < 32) &&
      decide (rs1 < 32) &&
      decide (rs2 < 32)
  | .slt m upset rd rs1 rs2 =>
      decide (m < 216) &&
      decide (upset < 7) &&
      decide (rd < 32) &&
      decide (rs1 < 32) &&
      decide (rs2 < 32)
  | .sltu m upset rd rs1 rs2 =>
      decide (m < 216) &&
      decide (upset < 7) &&
      decide (rd < 32) &&
      decide (rs1 < 32) &&
      decide (rs2 < 32)
  | .min m upset rd rs1 rs2 =>
      decide (m < 216) &&
      decide (upset < 7) &&
      decide (rd < 32) &&
      decide (rs1 < 32) &&
      decide (rs2 < 32)
  | .max m upset rd rs1 rs2 =>
      decide (m < 216) &&
      decide (upset < 7) &&
      decide (rd < 32) &&
      decide (rs1 < 32) &&
      decide (rs2 < 32)
  | .minu m upset rd rs1 rs2 =>
      decide (m < 216) &&
      decide (upset < 7) &&
      decide (rd < 32) &&
      decide (rs1 < 32) &&
      decide (rs2 < 32)
  | .maxu m upset rd rs1 rs2 =>
      decide (m < 216) &&
      decide (upset < 7) &&
      decide (rd < 32) &&
      decide (rs1 < 32) &&
      decide (rs2 < 32)
  | .mul m upset rd rs1 rs2 =>
      decide (m < 216) &&
      decide (upset < 7) &&
      decide (rd < 32) &&
      decide (rs1 < 32) &&
      decide (rs2 < 32)
  | .mulhu m upset rd rs1 rs2 =>
      decide (m < 216) &&
      decide (upset < 7) &&
      decide (rd < 32) &&
      decide (rs1 < 32) &&
      decide (rs2 < 32)
  | .clz m upset rd rs1 =>
      decide (m < 216) &&
      decide (upset < 7) &&
      decide (rd < 32) &&
      decide (rs1 < 32)
  | .popc m upset rd rs1 =>
      decide (m < 216) &&
      decide (upset < 7) &&
      decide (rd < 32) &&
      decide (rs1 < 32)
  | .bswap m upset rd rs1 =>
      decide (m < 216) &&
      decide (upset < 7) &&
      decide (rd < 32) &&
      decide (rs1 < 32)
  | .addi m upset rd rs1 imm =>
      decide (m < 216) &&
      decide (upset < 7) &&
      decide (rd < 32) &&
      decide (rs1 < 32) &&
      decide (imm < 0x10000)
  | .andi m upset rd rs1 imm =>
      decide (m < 216) &&
      decide (upset < 7) &&
      decide (rd < 32) &&
      decide (rs1 < 32) &&
      decide (imm < 0x10000)
  | .ori m upset rd rs1 imm =>
      decide (m < 216) &&
      decide (upset < 7) &&
      decide (rd < 32) &&
      decide (rs1 < 32) &&
      decide (imm < 0x10000)
  | .xori m upset rd rs1 imm =>
      decide (m < 216) &&
      decide (upset < 7) &&
      decide (rd < 32) &&
      decide (rs1 < 32) &&
      decide (imm < 0x10000)
  | .slti m upset rd rs1 imm =>
      decide (m < 216) &&
      decide (upset < 7) &&
      decide (rd < 32) &&
      decide (rs1 < 32) &&
      decide (imm < 0x10000)
  | .sltiu m upset rd rs1 imm =>
      decide (m < 216) &&
      decide (upset < 7) &&
      decide (rd < 32) &&
      decide (rs1 < 32) &&
      decide (imm < 0x10000)
  | .slli m upset rd rs1 imm =>
      decide (m < 216) &&
      decide (upset < 7) &&
      decide (rd < 32) &&
      decide (rs1 < 32) &&
      decide (imm < 0x10000)
  | .srli m upset rd rs1 imm =>
      decide (m < 216) &&
      decide (upset < 7) &&
      decide (rd < 32) &&
      decide (rs1 < 32) &&
      decide (imm < 0x10000)
  | .srai m upset rd rs1 imm =>
      decide (m < 216) &&
      decide (upset < 7) &&
      decide (rd < 32) &&
      decide (rs1 < 32) &&
      decide (imm < 0x10000)
  | .shi16 m upset rd rs1 imm =>
      decide (m < 216) &&
      decide (upset < 7) &&
      decide (rd < 32) &&
      decide (rs1 < 32) &&
      decide (imm < 0x10000)
  | .beq m upset rs1 rs2 off =>
      decide (m < 216) &&
      decide (upset < 7) &&
      decide (rs1 < 32) &&
      decide (rs2 < 32) &&
      decide (off < 0x10000)
  | .bne m upset rs1 rs2 off =>
      decide (m < 216) &&
      decide (upset < 7) &&
      decide (rs1 < 32) &&
      decide (rs2 < 32) &&
      decide (off < 0x10000)
  | .blt m upset rs1 rs2 off =>
      decide (m < 216) &&
      decide (upset < 7) &&
      decide (rs1 < 32) &&
      decide (rs2 < 32) &&
      decide (off < 0x10000)
  | .bge m upset rs1 rs2 off =>
      decide (m < 216) &&
      decide (upset < 7) &&
      decide (rs1 < 32) &&
      decide (rs2 < 32) &&
      decide (off < 0x10000)
  | .bltu m upset rs1 rs2 off =>
      decide (m < 216) &&
      decide (upset < 7) &&
      decide (rs1 < 32) &&
      decide (rs2 < 32) &&
      decide (off < 0x10000)
  | .bgeu m upset rs1 rs2 off =>
      decide (m < 216) &&
      decide (upset < 7) &&
      decide (rs1 < 32) &&
      decide (rs2 < 32) &&
      decide (off < 0x10000)
  | .jal m upset rd imm =>
      decide (m < 216) &&
      decide (upset < 7) &&
      decide (rd < 32) &&
      decide (imm < 0x200000)
  | .jalr m upset rd rs1 imm =>
      decide (m < 216) &&
      decide (upset < 7) &&
      decide (rd < 32) &&
      decide (rs1 < 32) &&
      decide (imm < 0x10000)
  | .lds8 m upset rd rs1 imm =>
      decide (m < 216) &&
      decide (upset < 7) &&
      decide (rd < 32) &&
      decide (rs1 < 32) &&
      decide (imm < 0x10000)
  | .lds4 m upset rd rs1 imm =>
      decide (m < 216) &&
      decide (upset < 7) &&
      decide (rd < 32) &&
      decide (rs1 < 32) &&
      decide (imm < 0x10000)
  | .lds2 m upset rd rs1 imm =>
      decide (m < 216) &&
      decide (upset < 7) &&
      decide (rd < 32) &&
      decide (rs1 < 32) &&
      decide (imm < 0x10000)
  | .lds1 m upset rd rs1 imm =>
      decide (m < 216) &&
      decide (upset < 7) &&
      decide (rd < 32) &&
      decide (rs1 < 32) &&
      decide (imm < 0x10000)
  | .sts8 m upset rs2 rs1 imm =>
      decide (m < 216) &&
      decide (upset < 7) &&
      decide (rs2 < 32) &&
      decide (rs1 < 32) &&
      decide (imm < 0x10000)
  | .sts4 m upset rs2 rs1 imm =>
      decide (m < 216) &&
      decide (upset < 7) &&
      decide (rs2 < 32) &&
      decide (rs1 < 32) &&
      decide (imm < 0x10000)
  | .sts2 m upset rs2 rs1 imm =>
      decide (m < 216) &&
      decide (upset < 7) &&
      decide (rs2 < 32) &&
      decide (rs1 < 32) &&
      decide (imm < 0x10000)
  | .sts1 m upset rs2 rs1 imm =>
      decide (m < 216) &&
      decide (upset < 7) &&
      decide (rs2 < 32) &&
      decide (rs1 < 32) &&
      decide (imm < 0x10000)
  | .lls m upset rd rs1 imm =>
      decide (m < 216) &&
      decide (upset < 7) &&
      decide (rd < 32) &&
      decide (rs1 < 32) &&
      decide (imm < 0x10000)
  | .sls m upset rs2 rs1 imm =>
      decide (m < 216) &&
      decide (upset < 7) &&
      decide (rs2 < 32) &&
      decide (rs1 < 32) &&
      decide (imm < 0x10000)
  | .lget m upset rd rs1 k =>
      decide (m < 216) &&
      decide (upset < 7) &&
      decide (rd < 32) &&
      decide (rs1 < 32) &&
      decide (k < 8)
  | .lput m upset rd rs1 k =>
      decide (m < 216) &&
      decide (upset < 7) &&
      decide (rd < 32) &&
      decide (rs1 < 32) &&
      decide (k < 8)
  | .lmov m upset rd rs1 =>
      decide (m < 216) &&
      decide (upset < 7) &&
      decide (rd < 32) &&
      decide (rs1 < 32)
  | .lclr m upset rd => decide (m < 216) && decide (upset < 7) && decide (rd < 32)
  | .lcrc m upset rd rs1 rs2 =>
      decide (m < 216) &&
      decide (upset < 7) &&
      decide (rd < 32) &&
      decide (rs1 < 32) &&
      decide (rs2 < 32)
  | .lsum32 m upset rd rs1 rs2 =>
      decide (m < 216) &&
      decide (upset < 7) &&
      decide (rd < 32) &&
      decide (rs1 < 32) &&
      decide (rs2 < 32)
  | .lpsn m upset rd rs1 =>
      decide (m < 216) &&
      decide (upset < 7) &&
      decide (rd < 32) &&
      decide (rs1 < 32)
  | .ld m upset rd rs1 rt _ size _ off =>
      decide (m < 216) &&
      decide (upset < 7) &&
      decide (rd < 32) &&
      decide (rs1 < 32) &&
      decide (rt < 32) &&
      decide (size < 4) &&
      decide (off < 128)
  | .st m upset rs2 rs1 rt _ size off =>
      decide (m < 216) &&
      decide (upset < 9) &&
      decide (rs2 < 32) &&
      decide (rs1 < 32) &&
      decide (rt < 32) &&
      decide (size < 4) &&
      decide (off < 128)
  | .ll m upset l rs1 rt _ off =>
      decide (m < 216) &&
      decide (upset < 7) &&
      decide (l < 8) &&
      decide (rs1 < 32) &&
      decide (rt < 32) &&
      decide (off < 0x400)
  | .sl m upset l rs1 rt _ off =>
      decide (m < 216) &&
      decide (upset < 9) &&
      decide (l < 8) &&
      decide (rs1 < 32) &&
      decide (rt < 32) &&
      decide (off < 0x400)
  | .slm m upset l rs1 rt _ rm =>
      decide (m < 216) &&
      decide (upset < 9) &&
      decide (l < 8) &&
      decide (rs1 < 32) &&
      decide (rt < 32) &&
      decide (rm < 32)
  | .amoAdd m upset rd rs1 rs2 rt _ _ =>
      decide (m < 216) &&
      decide (upset < 9) &&
      decide (rd < 32) &&
      decide (rs1 < 32) &&
      decide (rs2 < 32) &&
      decide (rt < 32)
  | .amoOr m upset rd rs1 rs2 rt _ _ =>
      decide (m < 216) &&
      decide (upset < 9) &&
      decide (rd < 32) &&
      decide (rs1 < 32) &&
      decide (rs2 < 32) &&
      decide (rt < 32)
  | .amoAnd m upset rd rs1 rs2 rt _ _ =>
      decide (m < 216) &&
      decide (upset < 9) &&
      decide (rd < 32) &&
      decide (rs1 < 32) &&
      decide (rs2 < 32) &&
      decide (rt < 32)
  | .amoXor m upset rd rs1 rs2 rt _ _ =>
      decide (m < 216) &&
      decide (upset < 9) &&
      decide (rd < 32) &&
      decide (rs1 < 32) &&
      decide (rs2 < 32) &&
      decide (rt < 32)
  | .amoSwap m upset rd rs1 rs2 rt _ _ =>
      decide (m < 216) &&
      decide (upset < 9) &&
      decide (rd < 32) &&
      decide (rs1 < 32) &&
      decide (rs2 < 32) &&
      decide (rt < 32)
  | .amoCas m upset rd rs1 rs2 rt _ _ =>
      decide (m < 216) &&
      decide (upset < 9) &&
      decide (rd < 32) &&
      decide (rs1 < 32) &&
      decide (rs2 < 32) &&
      decide (rt < 32)
  | .amoMin m upset rd rs1 rs2 rt _ _ =>
      decide (m < 216) &&
      decide (upset < 9) &&
      decide (rd < 32) &&
      decide (rs1 < 32) &&
      decide (rs2 < 32) &&
      decide (rt < 32)
  | .amoMax m upset rd rs1 rs2 rt _ _ =>
      decide (m < 216) &&
      decide (upset < 9) &&
      decide (rd < 32) &&
      decide (rs1 < 32) &&
      decide (rs2 < 32) &&
      decide (rt < 32)
  | .amoUmin m upset rd rs1 rs2 rt _ _ =>
      decide (m < 216) &&
      decide (upset < 9) &&
      decide (rd < 32) &&
      decide (rs1 < 32) &&
      decide (rs2 < 32) &&
      decide (rt < 32)
  | .amoUmax m upset rd rs1 rs2 rt _ _ =>
      decide (m < 216) &&
      decide (upset < 9) &&
      decide (rd < 32) &&
      decide (rs1 < 32) &&
      decide (rs2 < 32) &&
      decide (rt < 32)
  | .amoSetad m upset rd rs1 rs2 rt _ =>
      decide (m < 216) &&
      decide (upset < 9) &&
      decide (rd < 32) &&
      decide (rs1 < 32) &&
      decide (rs2 < 32) &&
      decide (rt < 32)
  | .wld m upset rd rs1 imm =>
      decide (m < 216) &&
      decide (upset < 7) &&
      decide (rd < 32) &&
      decide (rs1 < 32) &&
      decide (imm < 0x10000)
  | .runZero m upset rd rs1 rt _ _ =>
      decide (m < 216) &&
      decide (upset < 80) &&
      decide (rd < 32) &&
      decide (rs1 < 32) &&
      decide (rt < 32)
  | .runFill m upset rd rs1 rs2 rt _ _ =>
      decide (m < 216) &&
      decide (upset < 80) &&
      decide (rd < 32) &&
      decide (rs1 < 32) &&
      decide (rs2 < 32) &&
      decide (rt < 32)
  | .runCopy m upset rd rs1 rs2 rt _ _ =>
      decide (m < 216) &&
      decide (upset < 80) &&
      decide (rd < 32) &&
      decide (rs1 < 32) &&
      decide (rs2 < 32) &&
      decide (rt < 32)
  | .hpushLo m upset rd rs1 rs2 =>
      decide (m < 216) &&
      decide (upset < 7) &&
      decide (rd < 32) &&
      decide (rs1 < 32) &&
      decide (rs2 < 32)
  | .hpushHi m upset rd rs1 rs2 =>
      decide (m < 216) &&
      decide (upset < 7) &&
      decide (rd < 32) &&
      decide (rs1 < 32) &&
      decide (rs2 < 32)
  | .hpopLo m upset rd rs1 rt =>
      decide (m < 216) &&
      decide (upset < 7) &&
      decide (rd < 32) &&
      decide (rs1 < 32) &&
      decide (rt < 32)
  | .hpopHi m upset rd rs1 rt =>
      decide (m < 216) &&
      decide (upset < 7) &&
      decide (rd < 32) &&
      decide (rs1 < 32) &&
      decide (rt < 32)
  | .hcount m upset rd rs1 =>
      decide (m < 216) &&
      decide (upset < 7) &&
      decide (rd < 32) &&
      decide (rs1 < 32)
  | .lock m upset rd rs1 rs2 also rivals =>
      decide (m < 216) &&
      decide (upset < 7) &&
      decide (rd < 32) &&
      decide (rs1 < 32) &&
      decide (rs2 < 32) &&
      also.all (fun k => decide (k < 192)) && rivals.all KeyAsk.wf
  | .unlock m upset rd rs1 =>
      decide (m < 216) &&
      decide (upset < 7) &&
      decide (rd < 32) &&
      decide (rs1 < 32)
  | .fence m upset rd => decide (m < 216) && decide (upset < 7) && decide (rd < 32)
  | .eret m upset => decide (m < 216) && decide (upset < 7)
  | .tend m upset => decide (m < 216) && decide (upset < 7)
  | .trap m upset rs1 => decide (m < 216) && decide (upset < 7) && decide (rs1 < 32)
  | .wait m upset rs1 => decide (m < 216) && decide (upset < 7) && decide (rs1 < 32)
  | .waitExpiry m => decide (m < 216)
  | .halt m upset => decide (m < 216) && decide (upset < 7)
  | .csrr m upset rd n =>
      decide (m < 216) &&
      decide (upset < 7) &&
      decide (rd < 32) &&
      decide (n < 32)
  | .csrw m upset n rs1 =>
      decide (m < 216) &&
      decide (upset < 7) &&
      decide (n < 32) &&
      decide (rs1 < 32)
  | .tplWrite m upset rs1 => decide (m < 216) && decide (upset < 7) && decide (rs1 < 32)
  | .tplInv m upset rs1 => decide (m < 216) && decide (upset < 7) && decide (rs1 < 32)
  | .tplInvall m upset => decide (m < 216) && decide (upset < 7)
  | .tplSync m upset => decide (m < 216) && decide (upset < 7)
  | .illegalInstruction m upset => decide (m < 216) && decide (upset < 7)
  | .masonResultArrival _ upset => decide (upset < 3)
  | .masRunWrite m _ => decide (m < 192)
  | .masGlobalProfileWrite profile => decide (profile < 4)
  | .masonReset m => decide (m < 192)
  | .imgCheck kind len => decide (kind < 2) && decide (len < 0x20000)
  | .imgLoad kind len => decide (kind < 2) && decide (len < 0x20000)
  | .imgLoadStore kind len => decide (kind < 2) && decide (len < 0x20000)
  | .masonStoreWrite m off _ => decide (m < 192) && decide (off < 0xC000)
  | .debugHalt m => decide (m < 192)
  | .debugStep m => decide (m < 192)
  | .debugResume m => decide (m < 192)
  | .debugAccess m a => decide (m < 192) && a.wf
  | .hodItemPush hod _ _ => decide (hod < 448)
  | .hodItemPop hod _ => decide (hod < 448)
  | .spillComplete _ => true
  | .hodCfgWrite hod _ _ => decide (hod < 448)
  | .keyHostLock line rivals => decide (line < 0x400000000000) && rivals.all KeyAsk.wf
  | .keyHostUnlock slot => decide (slot < 0x400)
  | .clearTorn slot => decide (slot < 0x400)
  | .lockWatchdog slot => decide (slot < 0x400)
  | .mntWatchdog chan => decide (chan < 24)
  | .mntReq chan rivals => decide (chan < 24) && rivals.all KeyAsk.wf
  | .mntRelease chan => decide (chan < 24)
  | .keyMntMrr chan _ rank addr data =>
      decide (chan < 24) &&
      decide (rank < 4) &&
      decide (addr < 256) &&
      decide (data < 256)
  | .keyMntMrw chan _ rank addr data =>
      decide (chan < 24) &&
      decide (rank < 4) &&
      decide (addr < 256) &&
      decide (data < 256)
  | .keyMntMpc chan _ rank addr data =>
      decide (chan < 24) &&
      decide (rank < 4) &&
      decide (addr < 256) &&
      decide (data < 256)
  | .linkUp port => decide (port < 2)
  | .linkDown port => decide (port < 2)
  | .txCreditReturn port lane cls => decide (port < 2) && decide (lane < 2) && decide (cls < 8)
  | .bondRdLine port msg => decide (port < 2) && msg.wf
  | .bondRdPart port msg => decide (port < 2) && msg.wf
  | .bondWrZero port msg => decide (port < 2) && msg.wf
  | .bondWrLine port msg => decide (port < 2) && msg.wf
  | .bondWrPart port msg => decide (port < 2) && msg.wf
  | .bondAtAdd port msg => decide (port < 2) && msg.wf
  | .bondAtOr port msg => decide (port < 2) && msg.wf
  | .bondAtAnd port msg => decide (port < 2) && msg.wf
  | .bondAtXor port msg => decide (port < 2) && msg.wf
  | .bondAtSwap port msg => decide (port < 2) && msg.wf
  | .bondAtCas port msg => decide (port < 2) && msg.wf
  | .bondAtMin port msg => decide (port < 2) && msg.wf
  | .bondAtMax port msg => decide (port < 2) && msg.wf
  | .bondAtUmin port msg => decide (port < 2) && msg.wf
  | .bondAtUmax port msg => decide (port < 2) && msg.wf
  | .bondSetad port msg => decide (port < 2) && msg.wf
  | .sync port msg => decide (port < 2) && msg.wf
  | .cpl port msg => decide (port < 2) && msg.wf
  | .cplData port msg => decide (port < 2) && msg.wf
  | .hello port msg => decide (port < 2) && msg.wf
  | .lsa port msg => decide (port < 2) && msg.wf
  | .malformedMessage port msg _ => decide (port < 2) && msg.wf
  | .helloTimer port => decide (port < 2)
  | .neighbourTimeout port node => decide (port < 2) && decide (node < 64)
  | .lsaOriginate => true
  | .lsaExpiry node => decide (node < 64)
  | .routeCompute => true
  | .remoteRequestSend _ => true
  | .syncSend node => decide (node < 64)
  | .bondTimeout tag => decide (tag < 0x1000)
  | .tagQuarantineExpiry tag => decide (tag < 0x1000)
  | .reportRead _ => true
  | .wireFault src _ _ => decide (src < 112)
  | .graceExpiry src => decide (src < 112)
  | .butAck src => decide (src < 112)
  | .force src sev _ => decide (src < 112) && decide (sev < 4)
  | .captureRelease => true
  | .sweepStart => true
  | .sweepPassEnd failed => failed.all SweepItem.wf
  | .plbFreeze => true
  | .plbUnfreeze => true
  | .plbClear => true
  | .plbTagCfgWrite _ => true
  | .plbTagRdWrite _ => true
  | .tagRecordWrite upset => decide (upset < 3)
  | .extClear => true
  | .histClear => true
  | .logClear => true
  | .snap => true
  | .snapshotPeriod => true
  | .snapshotTaken => true
  | .dstModeWrite mode => decide (mode < 4)
  | .dstFreezeWrite _ => true
  | .dstHistCfgWrite _ => true
  | .dstWindowRead word _ upset => decide (word < 8) && decide (upset < 3)
  | .configWrite off data bytes =>
      decide (off < 0x1000) &&
      decide (data < 0x100000000) &&
      decide (bytes < 16)
  | .powerStateChange state => decide (state < 4)
  | .busMasterDisable => true
  | .unsupportedRequest t => t.wf
  | .quoCompletionRx tag _ _ _ _ => decide (tag < 256)
  | .quoCplTimeout tag _ => decide (tag < 256)
  | .poisonedWriteRx _ => true
  | .quoRelease => true
  | .flrInitiate => true
  | .flrComplete => true
  | .drainStart => true
  | .drainComplete => true
  | .exportRecord => true
  | .msixSend vector => decide (vector < 128)
  | .channelReset mask => decide (mask < 0x1000000)
  | .channelResetDone chan => decide (chan < 24)
  | .expertEnWrite _ => true
  | .registerWrite off _ => decide (off < 0x4000000)
  | .rclkCycle upsets => upsets.all PlbUpset.wf
  | .slot chan sub _ _ => decide (chan < 24) && decide (sub < 2)
  | .masonResetComplete m => decide (m < 192)
  | .imageCheckOrLoadComplete bytes => bytes.all (fun b => decide (b < 256))
  | .debugTakeover slot chan => slot.all (fun k => decide (k < 1024)) && decide (chan < 24)
  | .debugRelease slot chan => slot.all (fun k => decide (k < 1024)) && decide (chan < 24)
  | .routesStable => true

end Sys2Proof
end

