-- ==== Sys2Proof/Laws/PerInstr.lean ====
section
/-! SUPPORT. Family `Operands`: the channel and the Mason that a well-formed command names exist in the largest
build (R5, R8). -/

set_option Elab.async false

namespace Sys2Proof.Laws

/-- The channel a command names. -/
def namedChannel : Instr → Option Nat
  | .pllLossOfLock chan => some chan
  | .alertNPulse chan _ _ _ => some chan
  | .replay chan _ => some chan
  | .mapGeomWrite chan _ => some chan
  | .gauRefill chan => some chan
  | .gauRefillAll chan => some chan
  | .gauRateWrite chan _ => some chan
  | .gauBurstWrite chan _ => some chan
  | .phaseChange chan _ => some chan
  | .act c => some c.chan
  | .rd c => some c.chan
  | .rda c => some c.chan
  | .wr c => some c.chan
  | .wra c => some c.chan
  | .pre c => some c.chan
  | .presb c => some c.chan
  | .preab c => some c.chan
  | .refab c => some c.chan
  | .refsb c => some c.chan
  | .rfmab c => some c.chan
  | .rfmsb c => some c.chan
  | .mrr c _ _ => some c.chan
  | .mrw c _ _ => some c.chan
  | .mpc c _ _ => some c.chan
  | .sre c => some c.chan
  | .srx c => some c.chan
  | .pde c => some c.chan
  | .pdx c => some c.chan
  | .idleCloseExpiry c => some c.chan
  | .tableCompare chan _ => some chan
  | .timApply chan => some chan
  | .refreshTick chan _ _ => some chan
  | .mr4Poll chan _ _ => some chan
  | .zqPeriodExpiry c => some c.chan
  | .zqcalLatchDue c => some c.chan
  | .refreshModeWrite chan _ => some chan
  | .refreshModeSwitch chan => some chan
  | .trackerHalving chan => some chan
  | .coldStartEnd chan => some chan
  | .srRequest chan => some chan
  | .srIdleExpiry chan => some chan
  | .srExitRequest chan => some chan
  | .srExitDone chan _ _ => some chan
  | .burstDecode chan _ _ => some chan
  | .sparingDone chan => some chan
  | .patrolLineDue chan => some chan
  | .patrolLate chan => some chan
  | .counterLeak chan _ => some chan
  | .ashInitStart chan => some chan
  | .ashInitDone chan => some chan
  | .ashMarkWrite chan _ _ => some chan
  | .ashThreshWrite chan _ _ => some chan
  | .train chan _ => some chan
  | .retrain chan => some chan
  | .store chan => some chan
  | .trainingStepEnd chan _ _ _ => some chan
  | .stepTimeout chan _ _ => some chan
  | .retrainTick chan _ _ => some chan
  | .seamPoint chan _ _ => some chan
  | .mntWatchdog chan => some chan
  | .mntReq chan _ => some chan
  | .mntRelease chan => some chan
  | .keyMntMrr chan _ _ _ _ => some chan
  | .keyMntMrw chan _ _ _ _ => some chan
  | .keyMntMpc chan _ _ _ _ => some chan
  | .channelResetDone chan => some chan
  | .slot chan _ _ _ => some chan
  | _ => none

/-- The Mason, or the sequencer of Screed from 192 on, that a command names. -/
def namedMason : Instr → Option Nat
  | .add m _ _ _ _ => some m
  | .sub m _ _ _ _ => some m
  | .and m _ _ _ _ => some m
  | .or m _ _ _ _ => some m
  | .xor m _ _ _ _ => some m
  | .sll m _ _ _ _ => some m
  | .srl m _ _ _ _ => some m
  | .sra m _ _ _ _ => some m
  | .slt m _ _ _ _ => some m
  | .sltu m _ _ _ _ => some m
  | .min m _ _ _ _ => some m
  | .max m _ _ _ _ => some m
  | .minu m _ _ _ _ => some m
  | .maxu m _ _ _ _ => some m
  | .mul m _ _ _ _ => some m
  | .mulhu m _ _ _ _ => some m
  | .clz m _ _ _ => some m
  | .popc m _ _ _ => some m
  | .bswap m _ _ _ => some m
  | .addi m _ _ _ _ => some m
  | .andi m _ _ _ _ => some m
  | .ori m _ _ _ _ => some m
  | .xori m _ _ _ _ => some m
  | .slti m _ _ _ _ => some m
  | .sltiu m _ _ _ _ => some m
  | .slli m _ _ _ _ => some m
  | .srli m _ _ _ _ => some m
  | .srai m _ _ _ _ => some m
  | .shi16 m _ _ _ _ => some m
  | .beq m _ _ _ _ => some m
  | .bne m _ _ _ _ => some m
  | .blt m _ _ _ _ => some m
  | .bge m _ _ _ _ => some m
  | .bltu m _ _ _ _ => some m
  | .bgeu m _ _ _ _ => some m
  | .jal m _ _ _ => some m
  | .jalr m _ _ _ _ => some m
  | .lds8 m _ _ _ _ => some m
  | .lds4 m _ _ _ _ => some m
  | .lds2 m _ _ _ _ => some m
  | .lds1 m _ _ _ _ => some m
  | .sts8 m _ _ _ _ => some m
  | .sts4 m _ _ _ _ => some m
  | .sts2 m _ _ _ _ => some m
  | .sts1 m _ _ _ _ => some m
  | .lls m _ _ _ _ => some m
  | .sls m _ _ _ _ => some m
  | .lget m _ _ _ _ => some m
  | .lput m _ _ _ _ => some m
  | .lmov m _ _ _ => some m
  | .lclr m _ _ => some m
  | .lcrc m _ _ _ _ => some m
  | .lsum32 m _ _ _ _ => some m
  | .lpsn m _ _ _ => some m
  | .ld m _ _ _ _ _ _ _ _ => some m
  | .st m _ _ _ _ _ _ _ => some m
  | .ll m _ _ _ _ _ _ => some m
  | .sl m _ _ _ _ _ _ => some m
  | .slm m _ _ _ _ _ _ => some m
  | .amoAdd m _ _ _ _ _ _ _ => some m
  | .amoOr m _ _ _ _ _ _ _ => some m
  | .amoAnd m _ _ _ _ _ _ _ => some m
  | .amoXor m _ _ _ _ _ _ _ => some m
  | .amoSwap m _ _ _ _ _ _ _ => some m
  | .amoCas m _ _ _ _ _ _ _ => some m
  | .amoMin m _ _ _ _ _ _ _ => some m
  | .amoMax m _ _ _ _ _ _ _ => some m
  | .amoUmin m _ _ _ _ _ _ _ => some m
  | .amoUmax m _ _ _ _ _ _ _ => some m
  | .amoSetad m _ _ _ _ _ _ => some m
  | .wld m _ _ _ _ => some m
  | .runZero m _ _ _ _ _ _ => some m
  | .runFill m _ _ _ _ _ _ _ => some m
  | .runCopy m _ _ _ _ _ _ _ => some m
  | .hpushLo m _ _ _ _ => some m
  | .hpushHi m _ _ _ _ => some m
  | .hpopLo m _ _ _ _ => some m
  | .hpopHi m _ _ _ _ => some m
  | .hcount m _ _ _ => some m
  | .lock m _ _ _ _ _ _ => some m
  | .unlock m _ _ _ => some m
  | .fence m _ _ => some m
  | .eret m _ => some m
  | .tend m _ => some m
  | .trap m _ _ => some m
  | .wait m _ _ => some m
  | .waitExpiry m => some m
  | .halt m _ => some m
  | .csrr m _ _ _ => some m
  | .csrw m _ _ _ => some m
  | .tplWrite m _ _ => some m
  | .tplInv m _ _ => some m
  | .tplInvall m _ => some m
  | .tplSync m _ => some m
  | .illegalInstruction m _ => some m
  | .masRunWrite m _ => some m
  | .masonReset m => some m
  | .masonStoreWrite m _ _ => some m
  | .debugHalt m => some m
  | .debugStep m => some m
  | .debugResume m => some m
  | .debugAccess m _ => some m
  | .masonResetComplete m => some m
  | _ => none

end Sys2Proof.Laws

namespace Sys2Proof.Laws.Operands

/-- A well-formed command names a channel below 24 and an Aklet engine below 216: the Masons 0 to 191, and the
sequencers of Screed from 192. -/
def Statement (i : Instr) : Prop :=
  wellFormed i = true → (∀ c, namedChannel i = some c → c < 24) ∧ (∀ m, namedMason i = some m → m < 216)

theorem coldResetAssert : Statement .coldResetAssert := by simp [Statement, namedChannel, namedMason]
theorem coldResetRelease : ∀ straps corr lost, Statement (.coldResetRelease straps corr lost) := by intros; simp [Statement, namedChannel, namedMason]
theorem warmResetRequest : Statement .warmResetRequest := by simp [Statement, namedChannel, namedMason]
theorem warmResetDrainDone : Statement .warmResetDrainDone := by simp [Statement, namedChannel, namedMason]
theorem warmResetApplied : ∀ nonce low vdd mv, Statement (.warmResetApplied nonce low vdd mv) := by intros; simp [Statement, namedChannel, namedMason]
theorem warmResetRelease : Statement .warmResetRelease := by simp [Statement, namedChannel, namedMason]
theorem rclkLoss : Statement .rclkLoss := by simp [Statement, namedChannel, namedMason]
theorem clockFault : ∀ domain stopped, Statement (.clockFault domain stopped) := by intros; simp [Statement, namedChannel, namedMason]
theorem pllLossOfLock : ∀ chan, Statement (.pllLossOfLock chan) := by intros; simp_all [Statement, wellFormed, namedChannel, namedMason]
theorem alertNPulse : ∀ chan cyc width rank, Statement (.alertNPulse chan cyc width rank) := by intros; simp_all [Statement, wellFormed, namedChannel, namedMason]
theorem replay : ∀ chan cyc, Statement (.replay chan cyc) := by intros; simp_all [Statement, wellFormed, namedChannel, namedMason]
theorem rdLine : ∀ p, Statement (.rdLine p) := by intros; simp [Statement, namedChannel, namedMason]
theorem rdPart : ∀ p, Statement (.rdPart p) := by intros; simp [Statement, namedChannel, namedMason]
theorem wrLine : ∀ p, Statement (.wrLine p) := by intros; simp [Statement, namedChannel, namedMason]
theorem wrPart : ∀ p, Statement (.wrPart p) := by intros; simp [Statement, namedChannel, namedMason]
theorem wrZero : ∀ p, Statement (.wrZero p) := by intros; simp [Statement, namedChannel, namedMason]
theorem atAdd : ∀ p, Statement (.atAdd p) := by intros; simp [Statement, namedChannel, namedMason]
theorem atOr : ∀ p, Statement (.atOr p) := by intros; simp [Statement, namedChannel, namedMason]
theorem atAnd : ∀ p, Statement (.atAnd p) := by intros; simp [Statement, namedChannel, namedMason]
theorem atXor : ∀ p, Statement (.atXor p) := by intros; simp [Statement, namedChannel, namedMason]
theorem atSwap : ∀ p, Statement (.atSwap p) := by intros; simp [Statement, namedChannel, namedMason]
theorem atCas : ∀ p, Statement (.atCas p) := by intros; simp [Statement, namedChannel, namedMason]
theorem atMin : ∀ p, Statement (.atMin p) := by intros; simp [Statement, namedChannel, namedMason]
theorem atMax : ∀ p, Statement (.atMax p) := by intros; simp [Statement, namedChannel, namedMason]
theorem atUmin : ∀ p, Statement (.atUmin p) := by intros; simp [Statement, namedChannel, namedMason]
theorem atUmax : ∀ p, Statement (.atUmax p) := by intros; simp [Statement, namedChannel, namedMason]
theorem setad : ∀ p, Statement (.setad p) := by intros; simp [Statement, namedChannel, namedMason]
theorem flush : ∀ p, Statement (.flush p) := by intros; simp [Statement, namedChannel, namedMason]
theorem reservedOpcode : ∀ p code, Statement (.reservedOpcode p code) := by intros; simp [Statement, namedChannel, namedMason]
theorem writeDataSlot : ∀ w, Statement (.writeDataSlot w) := by intros; simp [Statement, namedChannel, namedMason]
theorem wdTimeout : ∀ port, Statement (.wdTimeout port) := by intros; simp [Statement, namedChannel, namedMason]
theorem completionAccepted : ∀ port rid upset same, Statement (.completionAccepted port rid upset same) := by intros; simp [Statement, namedChannel, namedMason]
theorem cplStall : ∀ port rid, Statement (.cplStall port rid) := by intros; simp [Statement, namedChannel, namedMason]
theorem portOpen : ∀ port, Statement (.portOpen port) := by intros; simp [Statement, namedChannel, namedMason]
theorem portDrain : ∀ port, Statement (.portDrain port) := by intros; simp [Statement, namedChannel, namedMason]
theorem portFence : ∀ port, Statement (.portFence port) := by intros; simp [Statement, namedChannel, namedMason]
theorem portUnfence : ∀ port, Statement (.portUnfence port) := by intros; simp [Statement, namedChannel, namedMason]
theorem mortarAdmit : ∀ port upset rivals, Statement (.mortarAdmit port upset rivals) := by intros; simp [Statement, namedChannel, namedMason]
theorem setterEnqueue : ∀ rid upset, Statement (.setterEnqueue rid upset) := by intros; simp [Statement, namedChannel, namedMason]
theorem flushComplete : ∀ rid, Statement (.flushComplete rid) := by intros; simp [Statement, namedChannel, namedMason]
theorem handshakeStall : ∀ rid, Statement (.handshakeStall rid) := by intros; simp [Statement, namedChannel, namedMason]
theorem derateSet : ∀ vdd mv, Statement (.derateSet vdd mv) := by simp [Statement, namedChannel, namedMason]
theorem derateClear : ∀ mv, Statement (.derateClear mv) := by simp [Statement, namedChannel, namedMason]
theorem peakClr : Statement .peakClr := by simp [Statement, namedChannel, namedMason]
theorem mapRgnCtlWrite : ∀ entry w, Statement (.mapRgnCtlWrite entry w) := by intros; simp [Statement, namedChannel, namedMason]
theorem mapGeomWrite : ∀ chan w, Statement (.mapGeomWrite chan w) := by intros; simp_all [Statement, wellFormed, namedChannel, namedMason]
theorem refillTick : Statement .refillTick := by simp [Statement, namedChannel, namedMason]
theorem gauRefill : ∀ chan, Statement (.gauRefill chan) := by intros; simp_all [Statement, wellFormed, namedChannel, namedMason]
theorem gauRefillAll : ∀ chan, Statement (.gauRefillAll chan) := by intros; simp_all [Statement, wellFormed, namedChannel, namedMason]
theorem gauRateWrite : ∀ chan w, Statement (.gauRateWrite chan w) := by intros; simp_all [Statement, wellFormed, namedChannel, namedMason]
theorem gauBurstWrite : ∀ chan w, Statement (.gauBurstWrite chan w) := by intros; simp_all [Statement, wellFormed, namedChannel, namedMason]
theorem queueSample : Statement .queueSample := by simp [Statement, namedChannel, namedMason]
theorem phaseChange : ∀ chan sub, Statement (.phaseChange chan sub) := by intros; simp_all [Statement, wellFormed, namedChannel, namedMason]
theorem act : ∀ c, Statement (.act c) := by intros; simp_all [Statement, wellFormed, namedChannel, namedMason, Cmd.wf]
theorem rd : ∀ c, Statement (.rd c) := by intros; simp_all [Statement, wellFormed, namedChannel, namedMason, Cmd.wf]
theorem rda : ∀ c, Statement (.rda c) := by intros; simp_all [Statement, wellFormed, namedChannel, namedMason, Cmd.wf]
theorem wr : ∀ c, Statement (.wr c) := by intros; simp_all [Statement, wellFormed, namedChannel, namedMason, Cmd.wf]
theorem wra : ∀ c, Statement (.wra c) := by intros; simp_all [Statement, wellFormed, namedChannel, namedMason, Cmd.wf]
theorem pre : ∀ c, Statement (.pre c) := by intros; simp_all [Statement, wellFormed, namedChannel, namedMason, Cmd.wf]
theorem presb : ∀ c, Statement (.presb c) := by intros; simp_all [Statement, wellFormed, namedChannel, namedMason, Cmd.wf]
theorem preab : ∀ c, Statement (.preab c) := by intros; simp_all [Statement, wellFormed, namedChannel, namedMason, Cmd.wf]
theorem refab : ∀ c, Statement (.refab c) := by intros; simp_all [Statement, wellFormed, namedChannel, namedMason, Cmd.wf]
theorem refsb : ∀ c, Statement (.refsb c) := by intros; simp_all [Statement, wellFormed, namedChannel, namedMason, Cmd.wf]
theorem rfmab : ∀ c, Statement (.rfmab c) := by intros; simp_all [Statement, wellFormed, namedChannel, namedMason, Cmd.wf]
theorem rfmsb : ∀ c, Statement (.rfmsb c) := by intros; simp_all [Statement, wellFormed, namedChannel, namedMason, Cmd.wf]
theorem mrr : ∀ c addr data, Statement (.mrr c addr data) := by intros; simp_all [Statement, wellFormed, namedChannel, namedMason, Cmd.wf]
theorem mrw : ∀ c addr data, Statement (.mrw c addr data) := by intros; simp_all [Statement, wellFormed, namedChannel, namedMason, Cmd.wf]
theorem mpc : ∀ c addr data, Statement (.mpc c addr data) := by intros; simp_all [Statement, wellFormed, namedChannel, namedMason, Cmd.wf]
theorem sre : ∀ c, Statement (.sre c) := by intros; simp_all [Statement, wellFormed, namedChannel, namedMason, Cmd.wf]
theorem srx : ∀ c, Statement (.srx c) := by intros; simp_all [Statement, wellFormed, namedChannel, namedMason, Cmd.wf]
theorem pde : ∀ c, Statement (.pde c) := by intros; simp_all [Statement, wellFormed, namedChannel, namedMason, Cmd.wf]
theorem pdx : ∀ c, Statement (.pdx c) := by intros; simp_all [Statement, wellFormed, namedChannel, namedMason, Cmd.wf]
theorem idleCloseExpiry : ∀ c, Statement (.idleCloseExpiry c) := by intros; simp_all [Statement, wellFormed, namedChannel, namedMason, Cmd.wf]
theorem tableCompare : ∀ chan upset, Statement (.tableCompare chan upset) := by intros; simp_all [Statement, wellFormed, namedChannel, namedMason]
theorem timApply : ∀ chan, Statement (.timApply chan) := by intros; simp_all [Statement, wellFormed, namedChannel, namedMason]
theorem refreshTick : ∀ chan unit cyc, Statement (.refreshTick chan unit cyc) := by intros; simp_all [Statement, wellFormed, namedChannel, namedMason]
theorem mr4Poll : ∀ chan hot rivals, Statement (.mr4Poll chan hot rivals) := by intros; simp_all [Statement, wellFormed, namedChannel, namedMason]
theorem zqPeriodExpiry : ∀ c, Statement (.zqPeriodExpiry c) := by intros; simp_all [Statement, wellFormed, namedChannel, namedMason, Cmd.wf]
theorem zqcalLatchDue : ∀ c, Statement (.zqcalLatchDue c) := by intros; simp_all [Statement, wellFormed, namedChannel, namedMason, Cmd.wf]
theorem refreshModeWrite : ∀ chan mode, Statement (.refreshModeWrite chan mode) := by intros; simp_all [Statement, wellFormed, namedChannel, namedMason]
theorem refreshModeSwitch : ∀ chan, Statement (.refreshModeSwitch chan) := by intros; simp_all [Statement, wellFormed, namedChannel, namedMason]
theorem trackerHalving : ∀ chan, Statement (.trackerHalving chan) := by intros; simp_all [Statement, wellFormed, namedChannel, namedMason]
theorem coldStartEnd : ∀ chan, Statement (.coldStartEnd chan) := by intros; simp_all [Statement, wellFormed, namedChannel, namedMason]
theorem srRequest : ∀ chan, Statement (.srRequest chan) := by intros; simp_all [Statement, wellFormed, namedChannel, namedMason]
theorem srIdleExpiry : ∀ chan, Statement (.srIdleExpiry chan) := by intros; simp_all [Statement, wellFormed, namedChannel, namedMason]
theorem srExitRequest : ∀ chan, Statement (.srExitRequest chan) := by intros; simp_all [Statement, wellFormed, namedChannel, namedMason]
theorem srExitDone : ∀ chan hot rivals, Statement (.srExitDone chan hot rivals) := by intros; simp_all [Statement, wellFormed, namedChannel, namedMason]
theorem burstDecode : ∀ chan errs upset, Statement (.burstDecode chan errs upset) := by intros; simp_all [Statement, wellFormed, namedChannel, namedMason]
theorem sparingDone : ∀ chan, Statement (.sparingDone chan) := by intros; simp_all [Statement, wellFormed, namedChannel, namedMason]
theorem patrolLineDue : ∀ chan, Statement (.patrolLineDue chan) := by intros; simp_all [Statement, wellFormed, namedChannel, namedMason]
theorem patrolLate : ∀ chan, Statement (.patrolLate chan) := by intros; simp_all [Statement, wellFormed, namedChannel, namedMason]
theorem counterLeak : ∀ chan sub, Statement (.counterLeak chan sub) := by intros; simp_all [Statement, wellFormed, namedChannel, namedMason]
theorem ashInitStart : ∀ chan, Statement (.ashInitStart chan) := by intros; simp_all [Statement, wellFormed, namedChannel, namedMason]
theorem ashInitDone : ∀ chan, Statement (.ashInitDone chan) := by intros; simp_all [Statement, wellFormed, namedChannel, namedMason]
theorem ashMarkWrite : ∀ chan sub w, Statement (.ashMarkWrite chan sub w) := by intros; simp_all [Statement, wellFormed, namedChannel, namedMason]
theorem ashThreshWrite : ∀ chan sub w, Statement (.ashThreshWrite chan sub w) := by intros; simp_all [Statement, wellFormed, namedChannel, namedMason]
theorem train : ∀ chan rivals, Statement (.train chan rivals) := by intros; simp_all [Statement, wellFormed, namedChannel, namedMason]
theorem retrain : ∀ chan, Statement (.retrain chan) := by intros; simp_all [Statement, wellFormed, namedChannel, namedMason]
theorem store : ∀ chan, Statement (.store chan) := by intros; simp_all [Statement, wellFormed, namedChannel, namedMason]
theorem trainGo : ∀ rivals stored, Statement (.trainGo rivals stored) := by intros; simp [Statement, namedChannel, namedMason]
theorem trainingStepEnd : ∀ chan e sub rivals, Statement (.trainingStepEnd chan e sub rivals) := by intros; simp_all [Statement, wellFormed, namedChannel, namedMason]
theorem stepTimeout : ∀ chan e sub, Statement (.stepTimeout chan e sub) := by intros; simp_all [Statement, wellFormed, namedChannel, namedMason]
theorem retrainTick : ∀ chan temp rivals, Statement (.retrainTick chan temp rivals) := by intros; simp_all [Statement, wellFormed, namedChannel, namedMason]
theorem seamPoint : ∀ chan e rivals, Statement (.seamPoint chan e rivals) := by intros; simp_all [Statement, wellFormed, namedChannel, namedMason]
theorem plinthStore : Statement .plinthStore := by simp [Statement, namedChannel, namedMason]
theorem plinthRowWriteDone : ∀ good corr, Statement (.plinthRowWriteDone good corr) := by intros; simp [Statement, namedChannel, namedMason]
theorem rawRead : ∀ w upset, Statement (.rawRead w upset) := by intros; simp [Statement, namedChannel, namedMason]
theorem rawWrite : ∀ w, Statement (.rawWrite w) := by intros; simp [Statement, namedChannel, namedMason]
theorem readRec : ∀ w upset, Statement (.readRec w upset) := by intros; simp [Statement, namedChannel, namedMason]
theorem add : ∀ m upset rd rs1 rs2, Statement (.add m upset rd rs1 rs2) := by intros; simp_all [Statement, wellFormed, namedChannel, namedMason]
theorem sub : ∀ m upset rd rs1 rs2, Statement (.sub m upset rd rs1 rs2) := by intros; simp_all [Statement, wellFormed, namedChannel, namedMason]
theorem and : ∀ m upset rd rs1 rs2, Statement (.and m upset rd rs1 rs2) := by intros; simp_all [Statement, wellFormed, namedChannel, namedMason]
theorem or : ∀ m upset rd rs1 rs2, Statement (.or m upset rd rs1 rs2) := by intros; simp_all [Statement, wellFormed, namedChannel, namedMason]
theorem xor : ∀ m upset rd rs1 rs2, Statement (.xor m upset rd rs1 rs2) := by intros; simp_all [Statement, wellFormed, namedChannel, namedMason]
theorem sll : ∀ m upset rd rs1 rs2, Statement (.sll m upset rd rs1 rs2) := by intros; simp_all [Statement, wellFormed, namedChannel, namedMason]
theorem srl : ∀ m upset rd rs1 rs2, Statement (.srl m upset rd rs1 rs2) := by intros; simp_all [Statement, wellFormed, namedChannel, namedMason]
theorem sra : ∀ m upset rd rs1 rs2, Statement (.sra m upset rd rs1 rs2) := by intros; simp_all [Statement, wellFormed, namedChannel, namedMason]
theorem slt : ∀ m upset rd rs1 rs2, Statement (.slt m upset rd rs1 rs2) := by intros; simp_all [Statement, wellFormed, namedChannel, namedMason]
theorem sltu : ∀ m upset rd rs1 rs2, Statement (.sltu m upset rd rs1 rs2) := by intros; simp_all [Statement, wellFormed, namedChannel, namedMason]
theorem min : ∀ m upset rd rs1 rs2, Statement (.min m upset rd rs1 rs2) := by intros; simp_all [Statement, wellFormed, namedChannel, namedMason]
theorem max : ∀ m upset rd rs1 rs2, Statement (.max m upset rd rs1 rs2) := by intros; simp_all [Statement, wellFormed, namedChannel, namedMason]
theorem minu : ∀ m upset rd rs1 rs2, Statement (.minu m upset rd rs1 rs2) := by intros; simp_all [Statement, wellFormed, namedChannel, namedMason]
theorem maxu : ∀ m upset rd rs1 rs2, Statement (.maxu m upset rd rs1 rs2) := by intros; simp_all [Statement, wellFormed, namedChannel, namedMason]
theorem mul : ∀ m upset rd rs1 rs2, Statement (.mul m upset rd rs1 rs2) := by intros; simp_all [Statement, wellFormed, namedChannel, namedMason]
theorem mulhu : ∀ m upset rd rs1 rs2, Statement (.mulhu m upset rd rs1 rs2) := by intros; simp_all [Statement, wellFormed, namedChannel, namedMason]
theorem clz : ∀ m upset rd rs1, Statement (.clz m upset rd rs1) := by intros; simp_all [Statement, wellFormed, namedChannel, namedMason]
theorem popc : ∀ m upset rd rs1, Statement (.popc m upset rd rs1) := by intros; simp_all [Statement, wellFormed, namedChannel, namedMason]
theorem bswap : ∀ m upset rd rs1, Statement (.bswap m upset rd rs1) := by intros; simp_all [Statement, wellFormed, namedChannel, namedMason]
theorem addi : ∀ m upset rd rs1 imm, Statement (.addi m upset rd rs1 imm) := by intros; simp_all [Statement, wellFormed, namedChannel, namedMason]
theorem andi : ∀ m upset rd rs1 imm, Statement (.andi m upset rd rs1 imm) := by intros; simp_all [Statement, wellFormed, namedChannel, namedMason]
theorem ori : ∀ m upset rd rs1 imm, Statement (.ori m upset rd rs1 imm) := by intros; simp_all [Statement, wellFormed, namedChannel, namedMason]
theorem xori : ∀ m upset rd rs1 imm, Statement (.xori m upset rd rs1 imm) := by intros; simp_all [Statement, wellFormed, namedChannel, namedMason]
theorem slti : ∀ m upset rd rs1 imm, Statement (.slti m upset rd rs1 imm) := by intros; simp_all [Statement, wellFormed, namedChannel, namedMason]
theorem sltiu : ∀ m upset rd rs1 imm, Statement (.sltiu m upset rd rs1 imm) := by intros; simp_all [Statement, wellFormed, namedChannel, namedMason]
theorem slli : ∀ m upset rd rs1 imm, Statement (.slli m upset rd rs1 imm) := by intros; simp_all [Statement, wellFormed, namedChannel, namedMason]
theorem srli : ∀ m upset rd rs1 imm, Statement (.srli m upset rd rs1 imm) := by intros; simp_all [Statement, wellFormed, namedChannel, namedMason]
theorem srai : ∀ m upset rd rs1 imm, Statement (.srai m upset rd rs1 imm) := by intros; simp_all [Statement, wellFormed, namedChannel, namedMason]
theorem shi16 : ∀ m upset rd rs1 imm, Statement (.shi16 m upset rd rs1 imm) := by intros; simp_all [Statement, wellFormed, namedChannel, namedMason]
theorem beq : ∀ m upset rs1 rs2 off, Statement (.beq m upset rs1 rs2 off) := by intros; simp_all [Statement, wellFormed, namedChannel, namedMason]
theorem bne : ∀ m upset rs1 rs2 off, Statement (.bne m upset rs1 rs2 off) := by intros; simp_all [Statement, wellFormed, namedChannel, namedMason]
theorem blt : ∀ m upset rs1 rs2 off, Statement (.blt m upset rs1 rs2 off) := by intros; simp_all [Statement, wellFormed, namedChannel, namedMason]
theorem bge : ∀ m upset rs1 rs2 off, Statement (.bge m upset rs1 rs2 off) := by intros; simp_all [Statement, wellFormed, namedChannel, namedMason]
theorem bltu : ∀ m upset rs1 rs2 off, Statement (.bltu m upset rs1 rs2 off) := by intros; simp_all [Statement, wellFormed, namedChannel, namedMason]
theorem bgeu : ∀ m upset rs1 rs2 off, Statement (.bgeu m upset rs1 rs2 off) := by intros; simp_all [Statement, wellFormed, namedChannel, namedMason]
theorem jal : ∀ m upset rd imm, Statement (.jal m upset rd imm) := by intros; simp_all [Statement, wellFormed, namedChannel, namedMason]
theorem jalr : ∀ m upset rd rs1 imm, Statement (.jalr m upset rd rs1 imm) := by intros; simp_all [Statement, wellFormed, namedChannel, namedMason]
theorem lds8 : ∀ m upset rd rs1 imm, Statement (.lds8 m upset rd rs1 imm) := by intros; simp_all [Statement, wellFormed, namedChannel, namedMason]
theorem lds4 : ∀ m upset rd rs1 imm, Statement (.lds4 m upset rd rs1 imm) := by intros; simp_all [Statement, wellFormed, namedChannel, namedMason]
theorem lds2 : ∀ m upset rd rs1 imm, Statement (.lds2 m upset rd rs1 imm) := by intros; simp_all [Statement, wellFormed, namedChannel, namedMason]
theorem lds1 : ∀ m upset rd rs1 imm, Statement (.lds1 m upset rd rs1 imm) := by intros; simp_all [Statement, wellFormed, namedChannel, namedMason]
theorem sts8 : ∀ m upset rs2 rs1 imm, Statement (.sts8 m upset rs2 rs1 imm) := by intros; simp_all [Statement, wellFormed, namedChannel, namedMason]
theorem sts4 : ∀ m upset rs2 rs1 imm, Statement (.sts4 m upset rs2 rs1 imm) := by intros; simp_all [Statement, wellFormed, namedChannel, namedMason]
theorem sts2 : ∀ m upset rs2 rs1 imm, Statement (.sts2 m upset rs2 rs1 imm) := by intros; simp_all [Statement, wellFormed, namedChannel, namedMason]
theorem sts1 : ∀ m upset rs2 rs1 imm, Statement (.sts1 m upset rs2 rs1 imm) := by intros; simp_all [Statement, wellFormed, namedChannel, namedMason]
theorem lls : ∀ m upset rd rs1 imm, Statement (.lls m upset rd rs1 imm) := by intros; simp_all [Statement, wellFormed, namedChannel, namedMason]
theorem sls : ∀ m upset rs2 rs1 imm, Statement (.sls m upset rs2 rs1 imm) := by intros; simp_all [Statement, wellFormed, namedChannel, namedMason]
theorem lget : ∀ m upset rd rs1 k, Statement (.lget m upset rd rs1 k) := by intros; simp_all [Statement, wellFormed, namedChannel, namedMason]
theorem lput : ∀ m upset rd rs1 k, Statement (.lput m upset rd rs1 k) := by intros; simp_all [Statement, wellFormed, namedChannel, namedMason]
theorem lmov : ∀ m upset rd rs1, Statement (.lmov m upset rd rs1) := by intros; simp_all [Statement, wellFormed, namedChannel, namedMason]
theorem lclr : ∀ m upset rd, Statement (.lclr m upset rd) := by intros; simp_all [Statement, wellFormed, namedChannel, namedMason]
theorem lcrc : ∀ m upset rd rs1 rs2, Statement (.lcrc m upset rd rs1 rs2) := by intros; simp_all [Statement, wellFormed, namedChannel, namedMason]
theorem lsum32 : ∀ m upset rd rs1 rs2, Statement (.lsum32 m upset rd rs1 rs2) := by intros; simp_all [Statement, wellFormed, namedChannel, namedMason]
theorem lpsn : ∀ m upset rd rs1, Statement (.lpsn m upset rd rs1) := by intros; simp_all [Statement, wellFormed, namedChannel, namedMason]
theorem ld : ∀ m upset rd rs1 rt posted size sign off, Statement (.ld m upset rd rs1 rt posted size sign off) := by intros; simp_all [Statement, wellFormed, namedChannel, namedMason]
theorem st : ∀ m upset rs2 rs1 rt posted size off, Statement (.st m upset rs2 rs1 rt posted size off) := by intros; simp_all [Statement, wellFormed, namedChannel, namedMason]
theorem ll : ∀ m upset l rs1 rt posted off, Statement (.ll m upset l rs1 rt posted off) := by intros; simp_all [Statement, wellFormed, namedChannel, namedMason]
theorem sl : ∀ m upset l rs1 rt posted off, Statement (.sl m upset l rs1 rt posted off) := by intros; simp_all [Statement, wellFormed, namedChannel, namedMason]
theorem slm : ∀ m upset l rs1 rt posted rm, Statement (.slm m upset l rs1 rt posted rm) := by intros; simp_all [Statement, wellFormed, namedChannel, namedMason]
theorem amoAdd : ∀ m upset rd rs1 rs2 rt posted wide, Statement (.amoAdd m upset rd rs1 rs2 rt posted wide) := by intros; simp_all [Statement, wellFormed, namedChannel, namedMason]
theorem amoOr : ∀ m upset rd rs1 rs2 rt posted wide, Statement (.amoOr m upset rd rs1 rs2 rt posted wide) := by intros; simp_all [Statement, wellFormed, namedChannel, namedMason]
theorem amoAnd : ∀ m upset rd rs1 rs2 rt posted wide, Statement (.amoAnd m upset rd rs1 rs2 rt posted wide) := by intros; simp_all [Statement, wellFormed, namedChannel, namedMason]
theorem amoXor : ∀ m upset rd rs1 rs2 rt posted wide, Statement (.amoXor m upset rd rs1 rs2 rt posted wide) := by intros; simp_all [Statement, wellFormed, namedChannel, namedMason]
theorem amoSwap : ∀ m upset rd rs1 rs2 rt posted wide, Statement (.amoSwap m upset rd rs1 rs2 rt posted wide) := by intros; simp_all [Statement, wellFormed, namedChannel, namedMason]
theorem amoCas : ∀ m upset rd rs1 rs2 rt posted wide, Statement (.amoCas m upset rd rs1 rs2 rt posted wide) := by intros; simp_all [Statement, wellFormed, namedChannel, namedMason]
theorem amoMin : ∀ m upset rd rs1 rs2 rt posted wide, Statement (.amoMin m upset rd rs1 rs2 rt posted wide) := by intros; simp_all [Statement, wellFormed, namedChannel, namedMason]
theorem amoMax : ∀ m upset rd rs1 rs2 rt posted wide, Statement (.amoMax m upset rd rs1 rs2 rt posted wide) := by intros; simp_all [Statement, wellFormed, namedChannel, namedMason]
theorem amoUmin : ∀ m upset rd rs1 rs2 rt posted wide, Statement (.amoUmin m upset rd rs1 rs2 rt posted wide) := by intros; simp_all [Statement, wellFormed, namedChannel, namedMason]
theorem amoUmax : ∀ m upset rd rs1 rs2 rt posted wide, Statement (.amoUmax m upset rd rs1 rs2 rt posted wide) := by intros; simp_all [Statement, wellFormed, namedChannel, namedMason]
theorem amoSetad : ∀ m upset rd rs1 rs2 rt posted, Statement (.amoSetad m upset rd rs1 rs2 rt posted) := by intros; simp_all [Statement, wellFormed, namedChannel, namedMason]
theorem wld : ∀ m upset rd rs1 imm, Statement (.wld m upset rd rs1 imm) := by intros; simp_all [Statement, wellFormed, namedChannel, namedMason]
theorem runZero : ∀ m upset rd rs1 rt posted indiv, Statement (.runZero m upset rd rs1 rt posted indiv) := by intros; simp_all [Statement, wellFormed, namedChannel, namedMason]
theorem runFill : ∀ m upset rd rs1 rs2 rt posted indiv, Statement (.runFill m upset rd rs1 rs2 rt posted indiv) := by intros; simp_all [Statement, wellFormed, namedChannel, namedMason]
theorem runCopy : ∀ m upset rd rs1 rs2 rt posted indiv, Statement (.runCopy m upset rd rs1 rs2 rt posted indiv) := by intros; simp_all [Statement, wellFormed, namedChannel, namedMason]
theorem hpushLo : ∀ m upset rd rs1 rs2, Statement (.hpushLo m upset rd rs1 rs2) := by intros; simp_all [Statement, wellFormed, namedChannel, namedMason]
theorem hpushHi : ∀ m upset rd rs1 rs2, Statement (.hpushHi m upset rd rs1 rs2) := by intros; simp_all [Statement, wellFormed, namedChannel, namedMason]
theorem hpopLo : ∀ m upset rd rs1 rt, Statement (.hpopLo m upset rd rs1 rt) := by intros; simp_all [Statement, wellFormed, namedChannel, namedMason]
theorem hpopHi : ∀ m upset rd rs1 rt, Statement (.hpopHi m upset rd rs1 rt) := by intros; simp_all [Statement, wellFormed, namedChannel, namedMason]
theorem hcount : ∀ m upset rd rs1, Statement (.hcount m upset rd rs1) := by intros; simp_all [Statement, wellFormed, namedChannel, namedMason]
theorem lock : ∀ m upset rd rs1 rs2 also rivals, Statement (.lock m upset rd rs1 rs2 also rivals) := by intros; simp_all [Statement, wellFormed, namedChannel, namedMason] <;> omega
theorem unlock : ∀ m upset rd rs1, Statement (.unlock m upset rd rs1) := by intros; simp_all [Statement, wellFormed, namedChannel, namedMason] <;> omega
theorem fence : ∀ m upset rd, Statement (.fence m upset rd) := by intros; simp_all [Statement, wellFormed, namedChannel, namedMason]
theorem eret : ∀ m upset, Statement (.eret m upset) := by intros; simp_all [Statement, wellFormed, namedChannel, namedMason]
theorem tend : ∀ m upset, Statement (.tend m upset) := by intros; simp_all [Statement, wellFormed, namedChannel, namedMason]
theorem trap : ∀ m upset rs1, Statement (.trap m upset rs1) := by intros; simp_all [Statement, wellFormed, namedChannel, namedMason]
theorem wait : ∀ m upset rs1, Statement (.wait m upset rs1) := by intros; simp_all [Statement, wellFormed, namedChannel, namedMason]
theorem waitExpiry : ∀ m, Statement (.waitExpiry m) := by intros; simp_all [Statement, wellFormed, namedChannel, namedMason]
theorem halt : ∀ m upset, Statement (.halt m upset) := by intros; simp_all [Statement, wellFormed, namedChannel, namedMason]
theorem csrr : ∀ m upset rd n, Statement (.csrr m upset rd n) := by intros; simp_all [Statement, wellFormed, namedChannel, namedMason]
theorem csrw : ∀ m upset n rs1, Statement (.csrw m upset n rs1) := by intros; simp_all [Statement, wellFormed, namedChannel, namedMason]
theorem tplWrite : ∀ m upset rs1, Statement (.tplWrite m upset rs1) := by intros; simp_all [Statement, wellFormed, namedChannel, namedMason]
theorem tplInv : ∀ m upset rs1, Statement (.tplInv m upset rs1) := by intros; simp_all [Statement, wellFormed, namedChannel, namedMason]
theorem tplInvall : ∀ m upset, Statement (.tplInvall m upset) := by intros; simp_all [Statement, wellFormed, namedChannel, namedMason]
theorem tplSync : ∀ m upset, Statement (.tplSync m upset) := by intros; simp_all [Statement, wellFormed, namedChannel, namedMason]
theorem illegalInstruction : ∀ m upset, Statement (.illegalInstruction m upset) := by intros; simp_all [Statement, wellFormed, namedChannel, namedMason]
theorem masonResultArrival : ∀ rid upset, Statement (.masonResultArrival rid upset) := by intros; simp [Statement, namedChannel, namedMason]
theorem masRunWrite : ∀ m run, Statement (.masRunWrite m run) := by intros; simp_all [Statement, wellFormed, namedChannel, namedMason] <;> omega
theorem masGlobalProfileWrite : ∀ profile, Statement (.masGlobalProfileWrite profile) := by intros; simp [Statement, namedChannel, namedMason]
theorem masonReset : ∀ m, Statement (.masonReset m) := by intros; simp_all [Statement, wellFormed, namedChannel, namedMason] <;> omega
theorem imgCheck : ∀ kind len, Statement (.imgCheck kind len) := by intros; simp [Statement, namedChannel, namedMason]
theorem imgLoad : ∀ kind len, Statement (.imgLoad kind len) := by intros; simp [Statement, namedChannel, namedMason]
theorem imgLoadStore : ∀ kind len, Statement (.imgLoadStore kind len) := by intros; simp [Statement, namedChannel, namedMason]
theorem masonStoreWrite : ∀ m off w, Statement (.masonStoreWrite m off w) := by intros; simp_all [Statement, wellFormed, namedChannel, namedMason] <;> omega
theorem debugHalt : ∀ m, Statement (.debugHalt m) := by intros; simp_all [Statement, wellFormed, namedChannel, namedMason] <;> omega
theorem debugStep : ∀ m, Statement (.debugStep m) := by intros; simp_all [Statement, wellFormed, namedChannel, namedMason] <;> omega
theorem debugResume : ∀ m, Statement (.debugResume m) := by intros; simp_all [Statement, wellFormed, namedChannel, namedMason] <;> omega
theorem debugAccess : ∀ m a, Statement (.debugAccess m a) := by intros; simp_all [Statement, wellFormed, namedChannel, namedMason] <;> omega
theorem hodItemPush : ∀ hod item upset, Statement (.hodItemPush hod item upset) := by intros; simp [Statement, namedChannel, namedMason]
theorem hodItemPop : ∀ hod upset, Statement (.hodItemPop hod upset) := by intros; simp [Statement, namedChannel, namedMason]
theorem spillComplete : ∀ rid, Statement (.spillComplete rid) := by intros; simp [Statement, namedChannel, namedMason]
theorem hodCfgWrite : ∀ hod carve w, Statement (.hodCfgWrite hod carve w) := by intros; simp [Statement, namedChannel, namedMason]
theorem keyHostLock : ∀ line rivals, Statement (.keyHostLock line rivals) := by intros; simp [Statement, namedChannel, namedMason]
theorem keyHostUnlock : ∀ slot, Statement (.keyHostUnlock slot) := by intros; simp [Statement, namedChannel, namedMason]
theorem clearTorn : ∀ slot, Statement (.clearTorn slot) := by intros; simp [Statement, namedChannel, namedMason]
theorem lockWatchdog : ∀ slot, Statement (.lockWatchdog slot) := by intros; simp [Statement, namedChannel, namedMason]
theorem mntWatchdog : ∀ chan, Statement (.mntWatchdog chan) := by intros; simp_all [Statement, wellFormed, namedChannel, namedMason]
theorem mntReq : ∀ chan rivals, Statement (.mntReq chan rivals) := by intros; simp_all [Statement, wellFormed, namedChannel, namedMason]
theorem mntRelease : ∀ chan, Statement (.mntRelease chan) := by intros; simp_all [Statement, wellFormed, namedChannel, namedMason]
theorem keyMntMrr : ∀ chan cyc rank addr data, Statement (.keyMntMrr chan cyc rank addr data) := by intros; simp_all [Statement, wellFormed, namedChannel, namedMason]
theorem keyMntMrw : ∀ chan cyc rank addr data, Statement (.keyMntMrw chan cyc rank addr data) := by intros; simp_all [Statement, wellFormed, namedChannel, namedMason]
theorem keyMntMpc : ∀ chan cyc rank addr data, Statement (.keyMntMpc chan cyc rank addr data) := by intros; simp_all [Statement, wellFormed, namedChannel, namedMason]
theorem linkUp : ∀ port, Statement (.linkUp port) := by intros; simp [Statement, namedChannel, namedMason]
theorem linkDown : ∀ port, Statement (.linkDown port) := by intros; simp [Statement, namedChannel, namedMason]
theorem txCreditReturn : ∀ port lane cls, Statement (.txCreditReturn port lane cls) := by intros; simp [Statement, namedChannel, namedMason]
theorem bondRdLine : ∀ port msg, Statement (.bondRdLine port msg) := by intros; simp [Statement, namedChannel, namedMason]
theorem bondRdPart : ∀ port msg, Statement (.bondRdPart port msg) := by intros; simp [Statement, namedChannel, namedMason]
theorem bondWrZero : ∀ port msg, Statement (.bondWrZero port msg) := by intros; simp [Statement, namedChannel, namedMason]
theorem bondWrLine : ∀ port msg, Statement (.bondWrLine port msg) := by intros; simp [Statement, namedChannel, namedMason]
theorem bondWrPart : ∀ port msg, Statement (.bondWrPart port msg) := by intros; simp [Statement, namedChannel, namedMason]
theorem bondAtAdd : ∀ port msg, Statement (.bondAtAdd port msg) := by intros; simp [Statement, namedChannel, namedMason]
theorem bondAtOr : ∀ port msg, Statement (.bondAtOr port msg) := by intros; simp [Statement, namedChannel, namedMason]
theorem bondAtAnd : ∀ port msg, Statement (.bondAtAnd port msg) := by intros; simp [Statement, namedChannel, namedMason]
theorem bondAtXor : ∀ port msg, Statement (.bondAtXor port msg) := by intros; simp [Statement, namedChannel, namedMason]
theorem bondAtSwap : ∀ port msg, Statement (.bondAtSwap port msg) := by intros; simp [Statement, namedChannel, namedMason]
theorem bondAtCas : ∀ port msg, Statement (.bondAtCas port msg) := by intros; simp [Statement, namedChannel, namedMason]
theorem bondAtMin : ∀ port msg, Statement (.bondAtMin port msg) := by intros; simp [Statement, namedChannel, namedMason]
theorem bondAtMax : ∀ port msg, Statement (.bondAtMax port msg) := by intros; simp [Statement, namedChannel, namedMason]
theorem bondAtUmin : ∀ port msg, Statement (.bondAtUmin port msg) := by intros; simp [Statement, namedChannel, namedMason]
theorem bondAtUmax : ∀ port msg, Statement (.bondAtUmax port msg) := by intros; simp [Statement, namedChannel, namedMason]
theorem bondSetad : ∀ port msg, Statement (.bondSetad port msg) := by intros; simp [Statement, namedChannel, namedMason]
theorem sync : ∀ port msg, Statement (.sync port msg) := by intros; simp [Statement, namedChannel, namedMason]
theorem cpl : ∀ port msg, Statement (.cpl port msg) := by intros; simp [Statement, namedChannel, namedMason]
theorem cplData : ∀ port msg, Statement (.cplData port msg) := by intros; simp [Statement, namedChannel, namedMason]
theorem hello : ∀ port msg, Statement (.hello port msg) := by intros; simp [Statement, namedChannel, namedMason]
theorem lsa : ∀ port msg, Statement (.lsa port msg) := by intros; simp [Statement, namedChannel, namedMason]
theorem malformedMessage : ∀ port msg flits, Statement (.malformedMessage port msg flits) := by intros; simp [Statement, namedChannel, namedMason]
theorem helloTimer : ∀ port, Statement (.helloTimer port) := by intros; simp [Statement, namedChannel, namedMason]
theorem neighbourTimeout : ∀ port node, Statement (.neighbourTimeout port node) := by intros; simp [Statement, namedChannel, namedMason]
theorem lsaOriginate : Statement .lsaOriginate := by simp [Statement, namedChannel, namedMason]
theorem lsaExpiry : ∀ node, Statement (.lsaExpiry node) := by intros; simp [Statement, namedChannel, namedMason]
theorem routeCompute : Statement .routeCompute := by simp [Statement, namedChannel, namedMason]
theorem remoteRequestSend : ∀ rid, Statement (.remoteRequestSend rid) := by intros; simp [Statement, namedChannel, namedMason]
theorem syncSend : ∀ node, Statement (.syncSend node) := by intros; simp [Statement, namedChannel, namedMason]
theorem bondTimeout : ∀ tag, Statement (.bondTimeout tag) := by intros; simp [Statement, namedChannel, namedMason]
theorem tagQuarantineExpiry : ∀ tag, Statement (.tagQuarantineExpiry tag) := by intros; simp [Statement, namedChannel, namedMason]
theorem reportRead : ∀ parity, Statement (.reportRead parity) := by intros; simp [Statement, namedChannel, namedMason]
theorem wireFault : ∀ src equal ended, Statement (.wireFault src equal ended) := by intros; simp [Statement, namedChannel, namedMason]
theorem graceExpiry : ∀ src, Statement (.graceExpiry src) := by intros; simp [Statement, namedChannel, namedMason]
theorem butAck : ∀ src, Statement (.butAck src) := by intros; simp [Statement, namedChannel, namedMason]
theorem force : ∀ src sev coincide, Statement (.force src sev coincide) := by intros; simp [Statement, namedChannel, namedMason]
theorem captureRelease : Statement .captureRelease := by simp [Statement, namedChannel, namedMason]
theorem sweepStart : Statement .sweepStart := by simp [Statement, namedChannel, namedMason]
theorem sweepPassEnd : ∀ failed, Statement (.sweepPassEnd failed) := by intros; simp [Statement, namedChannel, namedMason]
theorem plbFreeze : Statement .plbFreeze := by simp [Statement, namedChannel, namedMason]
theorem plbUnfreeze : Statement .plbUnfreeze := by simp [Statement, namedChannel, namedMason]
theorem plbClear : Statement .plbClear := by simp [Statement, namedChannel, namedMason]
theorem plbTagCfgWrite : ∀ w, Statement (.plbTagCfgWrite w) := by intros; simp [Statement, namedChannel, namedMason]
theorem plbTagRdWrite : ∀ w, Statement (.plbTagRdWrite w) := by intros; simp [Statement, namedChannel, namedMason]
theorem tagRecordWrite : ∀ upset, Statement (.tagRecordWrite upset) := by intros; simp [Statement, namedChannel, namedMason]
theorem extClear : Statement .extClear := by simp [Statement, namedChannel, namedMason]
theorem histClear : Statement .histClear := by simp [Statement, namedChannel, namedMason]
theorem logClear : Statement .logClear := by simp [Statement, namedChannel, namedMason]
theorem snap : Statement .snap := by simp [Statement, namedChannel, namedMason]
theorem snapshotPeriod : Statement .snapshotPeriod := by simp [Statement, namedChannel, namedMason]
theorem snapshotTaken : Statement .snapshotTaken := by simp [Statement, namedChannel, namedMason]
theorem dstModeWrite : ∀ mode, Statement (.dstModeWrite mode) := by intros; simp [Statement, namedChannel, namedMason]
theorem dstFreezeWrite : ∀ on, Statement (.dstFreezeWrite on) := by intros; simp [Statement, namedChannel, namedMason]
theorem dstHistCfgWrite : ∀ w, Statement (.dstHistCfgWrite w) := by intros; simp [Statement, namedChannel, namedMason]
theorem dstWindowRead : ∀ word top upset, Statement (.dstWindowRead word top upset) := by intros; simp [Statement, namedChannel, namedMason]
theorem configWrite : ∀ off data bytes, Statement (.configWrite off data bytes) := by intros; simp [Statement, namedChannel, namedMason]
theorem powerStateChange : ∀ state, Statement (.powerStateChange state) := by intros; simp [Statement, namedChannel, namedMason]
theorem busMasterDisable : Statement .busMasterDisable := by simp [Statement, namedChannel, namedMason]
theorem unsupportedRequest : ∀ t, Statement (.unsupportedRequest t) := by intros; simp [Statement, namedChannel, namedMason]
theorem quoCompletionRx : ∀ tag good poisoned malformed same, Statement (.quoCompletionRx tag good poisoned malformed same) := by intros; simp [Statement, namedChannel, namedMason]
theorem quoCplTimeout : ∀ tag same, Statement (.quoCplTimeout tag same) := by intros; simp [Statement, namedChannel, namedMason]
theorem poisonedWriteRx : ∀ same, Statement (.poisonedWriteRx same) := by intros; simp [Statement, namedChannel, namedMason]
theorem quoRelease : Statement .quoRelease := by simp [Statement, namedChannel, namedMason]
theorem flrInitiate : Statement .flrInitiate := by simp [Statement, namedChannel, namedMason]
theorem flrComplete : Statement .flrComplete := by simp [Statement, namedChannel, namedMason]
theorem drainStart : Statement .drainStart := by simp [Statement, namedChannel, namedMason]
theorem drainComplete : Statement .drainComplete := by simp [Statement, namedChannel, namedMason]
theorem exportRecord : Statement .exportRecord := by simp [Statement, namedChannel, namedMason]
theorem msixSend : ∀ vector, Statement (.msixSend vector) := by intros; simp [Statement, namedChannel, namedMason]
theorem channelReset : ∀ mask, Statement (.channelReset mask) := by intros; simp [Statement, namedChannel, namedMason]
theorem channelResetDone : ∀ chan, Statement (.channelResetDone chan) := by intros; simp_all [Statement, wellFormed, namedChannel, namedMason]
theorem expertEnWrite : ∀ w, Statement (.expertEnWrite w) := by intros; simp [Statement, namedChannel, namedMason]
theorem registerWrite : ∀ off w, Statement (.registerWrite off w) := by intros; simp [Statement, namedChannel, namedMason]
theorem rclkCycle : ∀ upsets, Statement (.rclkCycle upsets) := by intros; simp [Statement, namedChannel, namedMason]
theorem slot : ∀ chan sub cyc late, Statement (.slot chan sub cyc late) := by intros; simp_all [Statement, wellFormed, namedChannel, namedMason]
theorem masonResetComplete : ∀ m, Statement (.masonResetComplete m) := by intros; simp_all [Statement, wellFormed, namedChannel, namedMason] <;> omega
theorem imageCheckOrLoadComplete : ∀ bytes, Statement (.imageCheckOrLoadComplete bytes) := by intros; simp [Statement, namedChannel, namedMason]
theorem debugTakeover : ∀ slot chan, Statement (.debugTakeover slot chan) := by intros; simp [Statement, namedChannel, namedMason]
theorem debugRelease : ∀ slot chan, Statement (.debugRelease slot chan) := by intros; simp [Statement, namedChannel, namedMason]
theorem routesStable : Statement .routesStable := by simp [Statement, namedChannel, namedMason]

end Sys2Proof.Laws.Operands
end

