-- ==== Sys2Proof/Laws/Tbl.lean ====
section
/-! SUPPORT. The laws of sparse tables: what a read gives after each operation, and that every operation keeps
the keys rising and the canonical form. -/

namespace Sys2Proof.Machine

@[simp] theorem Tbl.find_nil {α : Type} (k : Nat) : Tbl.find ([] : Tbl α) k = none := rfl

@[simp] theorem Tbl.find_cons {α : Type} (k' k : Nat) (v : α) (t : Tbl α) :
    Tbl.find ((k', v) :: t) k = if k' = k then some v else Tbl.find t k := rfl

@[simp] theorem Tbl.find_del {α : Type} (t : Tbl α) (k j : Nat) :
    Tbl.find (Tbl.del t k) j = if j = k then none else Tbl.find t j := by
  induction t with
  | nil => simp [Tbl.del]
  | cons e t ih =>
    obtain ⟨a, v⟩ := e
    simp only [Tbl.del]
    split
    · next h => subst h; rw [ih]; split
                · rfl
                · next hj => rw [Tbl.find_cons, if_neg (fun e => hj e.symm)]
    · next h =>
      simp only [Tbl.find_cons, ih]
      split
      · next e => subst e; rw [if_neg h]
      · rfl

theorem Tbl.find_ins {α : Type} (t : Tbl α) (k j : Nat) (v : α) (h : Tbl.find t k = none) :
    Tbl.find (Tbl.ins t k v) j = if j = k then some v else Tbl.find t j := by
  induction t with
  | nil => simp [Tbl.ins, eq_comm]
  | cons e t ih =>
    obtain ⟨a, w⟩ := e
    have hne : a ≠ k := by rintro rfl; simp at h
    rw [Tbl.find_cons, if_neg hne] at h
    simp only [Tbl.ins]
    split
    · simp only [Tbl.find_cons, eq_comm]
    · simp only [Tbl.find_cons, ih h]
      split
      · next e => subst e; rw [if_neg hne]
      · rfl

@[simp] theorem Tbl.find_put {α : Type} (t : Tbl α) (k j : Nat) (v : α) :
    Tbl.find (Tbl.put t k v) j = if j = k then some v else Tbl.find t j := by
  unfold Tbl.put
  rw [Tbl.find_ins _ _ _ _ (by simp), Tbl.find_del]
  split <;> rfl

@[simp] theorem Tbl.get_put {α : Type} (t : Tbl α) (d v : α) (k j : Nat) :
    Tbl.get (Tbl.put t k v) d j = if j = k then v else Tbl.get t d j := by
  unfold Tbl.get
  rw [Tbl.find_put]
  split <;> rfl

@[simp] theorem Tbl.get_del {α : Type} (t : Tbl α) (d : α) (k j : Nat) :
    Tbl.get (Tbl.del t k) d j = if j = k then d else Tbl.get t d j := by
  unfold Tbl.get
  rw [Tbl.find_del]
  split <;> rfl

/-- A read after a write gives the value at its key and what was there at every other. -/
@[simp] theorem Tbl.get_set {α : Type} [DecidableEq α] (t : Tbl α) (d v : α) (k j : Nat) :
    Tbl.get (Tbl.set t d k v) d j = if j = k then v else Tbl.get t d j := by
  unfold Tbl.set
  split
  · next h => subst h; simp
  · unfold Tbl.get
    rw [Tbl.find_ins _ _ _ _ (by simp), Tbl.find_del]
    split <;> rfl

@[simp] theorem Tbl.find_keep {α : Type} (p : Nat → Bool) (t : Tbl α) (k : Nat) :
    Tbl.find (Tbl.keep p t) k = if p k then Tbl.find t k else none := by
  induction t with
  | nil => simp [Tbl.keep]
  | cons e t ih =>
    obtain ⟨a, v⟩ := e
    simp only [Tbl.keep]
    by_cases h : a = k
    · subst h
      by_cases hp : p a = true <;> simp [hp, ih]
    · split <;> simp [ih, h]

@[simp] theorem Tbl.find_mapVal {α : Type} (f : Nat → α → α) (t : Tbl α) (k : Nat) :
    Tbl.find (Tbl.mapVal f t) k = (Tbl.find t k).map (f k) := by
  induction t with
  | nil => rfl
  | cons e t ih =>
    obtain ⟨a, v⟩ := e
    simp only [Tbl.mapVal, Tbl.find_cons, ih]
    split
    · next h => subst h; rfl
    · rfl

/-! Rising keys. -/

/-- Every key of the table is above `k`. -/
def Tbl.above {α : Type} (k : Nat) (t : Tbl α) : Prop := ∀ e ∈ t, k < e.1

theorem Tbl.sorted_cons {α : Type} (k : Nat) (v : α) (t : Tbl α) :
    Tbl.sorted ((k, v) :: t) = true ↔ Tbl.above k t ∧ Tbl.sorted t = true := by
  induction t generalizing k v with
  | nil => simp [Tbl.sorted, Tbl.above]
  | cons e t ih =>
    obtain ⟨a, w⟩ := e
    rw [Tbl.sorted, Bool.and_eq_true, decide_eq_true_iff]
    constructor
    · rintro ⟨hk, hs⟩
      refine ⟨?_, hs⟩
      intro x hx
      rcases List.mem_cons.1 hx with rfl | hx
      · exact hk
      · exact lt_trans hk (((ih a w).1 hs).1 x hx)
    · rintro ⟨hk, hs⟩
      exact ⟨hk (a, w) (List.mem_cons_self ..), hs⟩

theorem Tbl.find_above {α : Type} (k : Nat) (t : Tbl α) (h : Tbl.above k t) : Tbl.find t k = none := by
  induction t with
  | nil => rfl
  | cons e t ih =>
    obtain ⟨a, v⟩ := e
    have ha : k < a := h (a, v) (List.mem_cons_self ..)
    rw [Tbl.find_cons, if_neg (by omega)]
    exact ih (fun x hx => h x (List.mem_cons_of_mem _ hx))

theorem Tbl.mem_del {α : Type} (t : Tbl α) (k : Nat) (e : Nat × α) : e ∈ Tbl.del t k → e ∈ t ∧ e.1 ≠ k := by
  induction t with
  | nil => simp [Tbl.del]
  | cons x t ih =>
    obtain ⟨a, v⟩ := x
    simp only [Tbl.del]
    split
    · intro h; exact ⟨List.mem_cons_of_mem _ (ih h).1, (ih h).2⟩
    · next hne =>
      intro h
      rcases List.mem_cons.1 h with rfl | h
      · exact ⟨List.mem_cons_self .., hne⟩
      · exact ⟨List.mem_cons_of_mem _ (ih h).1, (ih h).2⟩

theorem Tbl.mem_ins {α : Type} (t : Tbl α) (k : Nat) (v : α) (e : Nat × α) :
    e ∈ Tbl.ins t k v ↔ e = (k, v) ∨ e ∈ t := by
  induction t with
  | nil => simp [Tbl.ins]
  | cons x t ih =>
    obtain ⟨a, w⟩ := x
    simp only [Tbl.ins]
    split <;> simp [ih, or_left_comm]

theorem Tbl.sorted_del {α : Type} (t : Tbl α) (k : Nat) (h : Tbl.sorted t = true) : Tbl.sorted (Tbl.del t k) = true := by
  induction t with
  | nil => rfl
  | cons x t ih =>
    obtain ⟨a, v⟩ := x
    have hs := (Tbl.sorted_cons a v t).1 h
    simp only [Tbl.del]
    split
    · exact ih hs.2
    · exact (Tbl.sorted_cons ..).2 ⟨fun e he => hs.1 e (Tbl.mem_del t k e he).1, ih hs.2⟩

theorem Tbl.sorted_ins {α : Type} (t : Tbl α) (k : Nat) (v : α) (h : Tbl.sorted t = true)
    (hk : ∀ e ∈ t, e.1 ≠ k) : Tbl.sorted (Tbl.ins t k v) = true := by
  induction t with
  | nil => rfl
  | cons x t ih =>
    obtain ⟨a, w⟩ := x
    have hs := (Tbl.sorted_cons a w t).1 h
    simp only [Tbl.ins]
    split
    · next hlt =>
      refine (Tbl.sorted_cons ..).2 ⟨?_, h⟩
      intro e he
      rcases List.mem_cons.1 he with rfl | he
      · exact hlt
      · exact lt_trans hlt (hs.1 e he)
    · next hge =>
      have hne : a ≠ k := hk (a, w) (List.mem_cons_self ..)
      refine (Tbl.sorted_cons ..).2 ⟨?_, ih hs.2 (fun e he => hk e (List.mem_cons_of_mem _ he))⟩
      intro e he
      rcases (Tbl.mem_ins t k v e).1 he with rfl | he
      · show a < k; omega
      · exact hs.1 e he

theorem Tbl.sorted_put {α : Type} (t : Tbl α) (k : Nat) (v : α) (h : Tbl.sorted t = true) :
    Tbl.sorted (Tbl.put t k v) = true :=
  Tbl.sorted_ins _ _ _ (Tbl.sorted_del t k h) (fun e he => (Tbl.mem_del t k e he).2)

theorem Tbl.sorted_set {α : Type} [DecidableEq α] (t : Tbl α) (d : α) (k : Nat) (v : α) (h : Tbl.sorted t = true) :
    Tbl.sorted (Tbl.set t d k v) = true := by
  unfold Tbl.set
  split
  · exact Tbl.sorted_del t k h
  · exact Tbl.sorted_ins _ _ _ (Tbl.sorted_del t k h) (fun e he => (Tbl.mem_del t k e he).2)

theorem Tbl.mem_keep {α : Type} (p : Nat → Bool) (t : Tbl α) (e : Nat × α) : e ∈ Tbl.keep p t → e ∈ t := by
  induction t with
  | nil => simp [Tbl.keep]
  | cons x t ih =>
    obtain ⟨a, v⟩ := x
    simp only [Tbl.keep]
    split
    · intro h
      rcases List.mem_cons.1 h with rfl | h
      · exact List.mem_cons_self ..
      · exact List.mem_cons_of_mem _ (ih h)
    · intro h; exact List.mem_cons_of_mem _ (ih h)

theorem Tbl.sorted_keep {α : Type} (p : Nat → Bool) (t : Tbl α) (h : Tbl.sorted t = true) :
    Tbl.sorted (Tbl.keep p t) = true := by
  induction t with
  | nil => rfl
  | cons x t ih =>
    obtain ⟨a, v⟩ := x
    have hs := (Tbl.sorted_cons a v t).1 h
    simp only [Tbl.keep]
    split
    · exact (Tbl.sorted_cons ..).2 ⟨fun e he => hs.1 e (Tbl.mem_keep p t e he), ih hs.2⟩
    · exact ih hs.2

theorem Tbl.mem_mapVal {α : Type} (f : Nat → α → α) (t : Tbl α) (e : Nat × α) :
    e ∈ Tbl.mapVal f t → ∃ v, (e.1, v) ∈ t := by
  induction t with
  | nil => simp [Tbl.mapVal]
  | cons x t ih =>
    obtain ⟨a, v⟩ := x
    intro h
    rcases List.mem_cons.1 h with rfl | h
    · exact ⟨v, List.mem_cons_self ..⟩
    · obtain ⟨w, hw⟩ := ih h
      exact ⟨w, List.mem_cons_of_mem _ hw⟩

theorem Tbl.sorted_mapVal {α : Type} (f : Nat → α → α) (t : Tbl α) (h : Tbl.sorted t = true) :
    Tbl.sorted (Tbl.mapVal f t) = true := by
  induction t with
  | nil => rfl
  | cons x t ih =>
    obtain ⟨a, v⟩ := x
    have hs := (Tbl.sorted_cons a v t).1 h
    refine (Tbl.sorted_cons ..).2 ⟨fun e he => ?_, ih hs.2⟩
    obtain ⟨w, hw⟩ := Tbl.mem_mapVal f t e he
    exact hs.1 (e.1, w) hw

theorem Tbl.mem_mapSet {α : Type} [DecidableEq α] (d : Nat → α) (f : Nat → α → α) (t : Tbl α) (e : Nat × α) :
    e ∈ Tbl.mapSet d f t → (∃ v, (e.1, v) ∈ t) ∧ e.2 ≠ d e.1 := by
  induction t with
  | nil => simp [Tbl.mapSet]
  | cons x t ih =>
    obtain ⟨a, v⟩ := x
    simp only [Tbl.mapSet]
    split
    · intro h
      obtain ⟨⟨w, hw⟩, hd⟩ := ih h
      exact ⟨⟨w, List.mem_cons_of_mem _ hw⟩, hd⟩
    · next hne =>
      intro h
      rcases List.mem_cons.1 h with rfl | h
      · exact ⟨⟨v, List.mem_cons_self ..⟩, hne⟩
      · obtain ⟨⟨w, hw⟩, hd⟩ := ih h
        exact ⟨⟨w, List.mem_cons_of_mem _ hw⟩, hd⟩

theorem Tbl.sorted_mapSet {α : Type} [DecidableEq α] (d : Nat → α) (f : Nat → α → α) (t : Tbl α)
    (h : Tbl.sorted t = true) : Tbl.sorted (Tbl.mapSet d f t) = true := by
  induction t with
  | nil => rfl
  | cons x t ih =>
    obtain ⟨a, v⟩ := x
    have hs := (Tbl.sorted_cons a v t).1 h
    simp only [Tbl.mapSet]
    split
    · exact ih hs.2
    · refine (Tbl.sorted_cons ..).2 ⟨fun e he => ?_, ih hs.2⟩
      obtain ⟨⟨w, hw⟩, -⟩ := Tbl.mem_mapSet d f t e he
      exact hs.1 (e.1, w) hw

/-- What `mapSet` leaves at a key of a table whose keys rise. -/
theorem Tbl.get_mapSet {α : Type} [DecidableEq α] (d : Nat → α) (f : Nat → α → α) (t : Tbl α) (k : Nat)
    (h : Tbl.sorted t = true) :
    Tbl.get (Tbl.mapSet d f t) (d k) k = ((Tbl.find t k).map (f k)).getD (d k) := by
  induction t with
  | nil => rfl
  | cons x t ih =>
    obtain ⟨a, v⟩ := x
    have hs := (Tbl.sorted_cons a v t).1 h
    simp only [Tbl.mapSet]
    by_cases hk : a = k
    · subst hk
      split
      · next he =>
        have := ih hs.2
        rw [Tbl.find_above a t hs.1] at this
        simpa [he] using this
      · simp [Tbl.get]
    · split
      · rw [ih hs.2, Tbl.find_cons, if_neg hk]
      · have := ih hs.2
        unfold Tbl.get at this ⊢
        rw [Tbl.find_cons, if_neg hk, this, Tbl.find_cons, if_neg hk]

/-! The canonical form. -/

theorem Tbl.wf_iff {α : Type} [DecidableEq α] (d : Nat → α) (t : Tbl α) :
    Tbl.wf d t = true ↔ Tbl.sorted t = true ∧ ∀ e ∈ t, e.2 ≠ d e.1 := by
  simp [Tbl.wf]

/-- A write keeps the canonical form. -/
theorem Tbl.wf_set {α : Type} [DecidableEq α] (d : Nat → α) (t : Tbl α) (k : Nat) (v : α) (h : Tbl.wf d t = true) :
    Tbl.wf d (Tbl.set t (d k) k v) = true := by
  rw [Tbl.wf_iff] at h ⊢
  refine ⟨Tbl.sorted_set t (d k) k v h.1, ?_⟩
  intro e he
  unfold Tbl.set at he
  split at he
  · exact h.2 e (Tbl.mem_del t k e he).1
  · next hv =>
    rcases (Tbl.mem_ins _ _ _ _).1 he with rfl | he
    · exact hv
    · exact h.2 e (Tbl.mem_del t k e he).1

/-- A deletion keeps the canonical form. -/
theorem Tbl.wf_del {α : Type} [DecidableEq α] (d : Nat → α) (t : Tbl α) (k : Nat) (h : Tbl.wf d t = true) :
    Tbl.wf d (Tbl.del t k) = true := by
  rw [Tbl.wf_iff] at h ⊢
  exact ⟨Tbl.sorted_del t k h.1, fun e he => h.2 e (Tbl.mem_del t k e he).1⟩

/-- So does a selection of keys. -/
theorem Tbl.wf_keep {α : Type} [DecidableEq α] (d : Nat → α) (p : Nat → Bool) (t : Tbl α) (h : Tbl.wf d t = true) :
    Tbl.wf d (Tbl.keep p t) = true := by
  rw [Tbl.wf_iff] at h ⊢
  exact ⟨Tbl.sorted_keep p t h.1, fun e he => h.2 e (Tbl.mem_keep p t e he)⟩

/-- So does a change of every value. -/
theorem Tbl.wf_mapSet {α : Type} [DecidableEq α] (d : Nat → α) (f : Nat → α → α) (t : Tbl α)
    (h : Tbl.wf d t = true) : Tbl.wf d (Tbl.mapSet d f t) = true := by
  rw [Tbl.wf_iff] at h ⊢
  exact ⟨Tbl.sorted_mapSet d f t h.1, fun e he => (Tbl.mem_mapSet d f t e he).2⟩

end Sys2Proof.Machine
end

