-- ==== Sys2Proof/Laws/State.lean ====
section
/-! SUPPORT. One lemma per field per update of the state, and what each unit reads as after an update. -/

namespace Sys2Proof.Machine

/-! `setPort` changes `ports` alone. -/

@[simp] theorem State.setPort_build (s : State) (n : Nat) (p : PortSt) : (s.setPort n p).build = s.build := rfl
@[simp] theorem State.setPort_pair (s : State) (n : Nat) (p : PortSt) : (s.setPort n p).pair = s.pair := rfl
@[simp] theorem State.setPort_cold (s : State) (n : Nat) (p : PortSt) : (s.setPort n p).cold = s.cold := rfl
@[simp] theorem State.setPort_warm (s : State) (n : Nat) (p : PortSt) : (s.setPort n p).warm = s.warm := rfl
@[simp] theorem State.setPort_warmAt (s : State) (n : Nat) (p : PortSt) : (s.setPort n p).warmAt = s.warmAt := rfl
@[simp] theorem State.setPort_warmSafe (s : State) (n : Nat) (p : PortSt) : (s.setPort n p).warmSafe = s.warmSafe := rfl
@[simp] theorem State.setPort_fatal (s : State) (n : Nat) (p : PortSt) : (s.setPort n p).fatal = s.fatal := rfl
@[simp] theorem State.setPort_straps (s : State) (n : Nat) (p : PortSt) : (s.setPort n p).straps = s.straps := rfl
@[simp] theorem State.setPort_uptime (s : State) (n : Nat) (p : PortSt) : (s.setPort n p).uptime = s.uptime := rfl
@[simp] theorem State.setPort_rclkLost (s : State) (n : Nat) (p : PortSt) : (s.setPort n p).rclkLost = s.rclkLost := rfl
@[simp] theorem State.setPort_clkBad (s : State) (n : Nat) (p : PortSt) : (s.setPort n p).clkBad = s.clkBad := rfl
@[simp] theorem State.setPort_regs (s : State) (n : Nat) (p : PortSt) : (s.setPort n p).regs = s.regs := rfl
@[simp] theorem State.setPort_xregs (s : State) (n : Nat) (p : PortSt) : (s.setPort n p).xregs = s.xregs := rfl
@[simp] theorem State.setPort_frozen (s : State) (n : Nat) (p : PortSt) : (s.setPort n p).frozen = s.frozen := rfl
@[simp] theorem State.setPort_reqs (s : State) (n : Nat) (p : PortSt) : (s.setPort n p).reqs = s.reqs := rfl
@[simp] theorem State.setPort_xbar (s : State) (n : Nat) (p : PortSt) : (s.setPort n p).xbar = s.xbar := rfl
@[simp] theorem State.setPort_nextRid (s : State) (n : Nat) (p : PortSt) : (s.setPort n p).nextRid = s.nextRid := rfl
@[simp] theorem State.setPort_chans (s : State) (n : Nat) (p : PortSt) : (s.setPort n p).chans = s.chans := rfl
@[simp] theorem State.setPort_dram (s : State) (n : Nat) (p : PortSt) : (s.setPort n p).dram = s.dram := rfl
@[simp] theorem State.setPort_but (s : State) (n : Nat) (p : PortSt) : (s.setPort n p).but = s.but := rfl
@[simp] theorem State.setPort_plb (s : State) (n : Nat) (p : PortSt) : (s.setPort n p).plb = s.plb := rfl
@[simp] theorem State.setPort_dst (s : State) (n : Nat) (p : PortSt) : (s.setPort n p).dst = s.dst := rfl
@[simp] theorem State.setPort_pln (s : State) (n : Nat) (p : PortSt) : (s.setPort n p).pln = s.pln := rfl
@[simp] theorem State.setPort_masons (s : State) (n : Nat) (p : PortSt) : (s.setPort n p).masons = s.masons := rfl
@[simp] theorem State.setPort_imgs (s : State) (n : Nat) (p : PortSt) : (s.setPort n p).imgs = s.imgs := rfl
@[simp] theorem State.setPort_dbgOut (s : State) (n : Nat) (p : PortSt) : (s.setPort n p).dbgOut = s.dbgOut := rfl
@[simp] theorem State.setPort_hods (s : State) (n : Nat) (p : PortSt) : (s.setPort n p).hods = s.hods := rfl
@[simp] theorem State.setPort_popNext (s : State) (n : Nat) (p : PortSt) : (s.setPort n p).popNext = s.popNext := rfl
@[simp] theorem State.setPort_hodOut (s : State) (n : Nat) (p : PortSt) : (s.setPort n p).hodOut = s.hodOut := rfl
@[simp] theorem State.setPort_key (s : State) (n : Nat) (p : PortSt) : (s.setPort n p).key = s.key := rfl
@[simp] theorem State.setPort_bnd (s : State) (n : Nat) (p : PortSt) : (s.setPort n p).bnd = s.bnd := rfl
@[simp] theorem State.setPort_quo (s : State) (n : Nat) (p : PortSt) : (s.setPort n p).quo = s.quo := rfl
@[simp] theorem State.setPort_pending (s : State) (n : Nat) (p : PortSt) : (s.setPort n p).pending = s.pending := rfl

/-! `setChan` changes `chans` alone. -/

@[simp] theorem State.setChan_build (s : State) (c : Nat) (x : Chan) : (s.setChan c x).build = s.build := rfl
@[simp] theorem State.setChan_pair (s : State) (c : Nat) (x : Chan) : (s.setChan c x).pair = s.pair := rfl
@[simp] theorem State.setChan_cold (s : State) (c : Nat) (x : Chan) : (s.setChan c x).cold = s.cold := rfl
@[simp] theorem State.setChan_warm (s : State) (c : Nat) (x : Chan) : (s.setChan c x).warm = s.warm := rfl
@[simp] theorem State.setChan_warmAt (s : State) (c : Nat) (x : Chan) : (s.setChan c x).warmAt = s.warmAt := rfl
@[simp] theorem State.setChan_warmSafe (s : State) (c : Nat) (x : Chan) : (s.setChan c x).warmSafe = s.warmSafe := rfl
@[simp] theorem State.setChan_fatal (s : State) (c : Nat) (x : Chan) : (s.setChan c x).fatal = s.fatal := rfl
@[simp] theorem State.setChan_straps (s : State) (c : Nat) (x : Chan) : (s.setChan c x).straps = s.straps := rfl
@[simp] theorem State.setChan_uptime (s : State) (c : Nat) (x : Chan) : (s.setChan c x).uptime = s.uptime := rfl
@[simp] theorem State.setChan_rclkLost (s : State) (c : Nat) (x : Chan) : (s.setChan c x).rclkLost = s.rclkLost := rfl
@[simp] theorem State.setChan_clkBad (s : State) (c : Nat) (x : Chan) : (s.setChan c x).clkBad = s.clkBad := rfl
@[simp] theorem State.setChan_regs (s : State) (c : Nat) (x : Chan) : (s.setChan c x).regs = s.regs := rfl
@[simp] theorem State.setChan_xregs (s : State) (c : Nat) (x : Chan) : (s.setChan c x).xregs = s.xregs := rfl
@[simp] theorem State.setChan_frozen (s : State) (c : Nat) (x : Chan) : (s.setChan c x).frozen = s.frozen := rfl
@[simp] theorem State.setChan_ports (s : State) (c : Nat) (x : Chan) : (s.setChan c x).ports = s.ports := rfl
@[simp] theorem State.setChan_reqs (s : State) (c : Nat) (x : Chan) : (s.setChan c x).reqs = s.reqs := rfl
@[simp] theorem State.setChan_xbar (s : State) (c : Nat) (x : Chan) : (s.setChan c x).xbar = s.xbar := rfl
@[simp] theorem State.setChan_nextRid (s : State) (c : Nat) (x : Chan) : (s.setChan c x).nextRid = s.nextRid := rfl
@[simp] theorem State.setChan_dram (s : State) (c : Nat) (x : Chan) : (s.setChan c x).dram = s.dram := rfl
@[simp] theorem State.setChan_but (s : State) (c : Nat) (x : Chan) : (s.setChan c x).but = s.but := rfl
@[simp] theorem State.setChan_plb (s : State) (c : Nat) (x : Chan) : (s.setChan c x).plb = s.plb := rfl
@[simp] theorem State.setChan_dst (s : State) (c : Nat) (x : Chan) : (s.setChan c x).dst = s.dst := rfl
@[simp] theorem State.setChan_pln (s : State) (c : Nat) (x : Chan) : (s.setChan c x).pln = s.pln := rfl
@[simp] theorem State.setChan_masons (s : State) (c : Nat) (x : Chan) : (s.setChan c x).masons = s.masons := rfl
@[simp] theorem State.setChan_imgs (s : State) (c : Nat) (x : Chan) : (s.setChan c x).imgs = s.imgs := rfl
@[simp] theorem State.setChan_dbgOut (s : State) (c : Nat) (x : Chan) : (s.setChan c x).dbgOut = s.dbgOut := rfl
@[simp] theorem State.setChan_hods (s : State) (c : Nat) (x : Chan) : (s.setChan c x).hods = s.hods := rfl
@[simp] theorem State.setChan_popNext (s : State) (c : Nat) (x : Chan) : (s.setChan c x).popNext = s.popNext := rfl
@[simp] theorem State.setChan_hodOut (s : State) (c : Nat) (x : Chan) : (s.setChan c x).hodOut = s.hodOut := rfl
@[simp] theorem State.setChan_key (s : State) (c : Nat) (x : Chan) : (s.setChan c x).key = s.key := rfl
@[simp] theorem State.setChan_bnd (s : State) (c : Nat) (x : Chan) : (s.setChan c x).bnd = s.bnd := rfl
@[simp] theorem State.setChan_quo (s : State) (c : Nat) (x : Chan) : (s.setChan c x).quo = s.quo := rfl
@[simp] theorem State.setChan_pending (s : State) (c : Nat) (x : Chan) : (s.setChan c x).pending = s.pending := rfl

/-! `modChan` changes `chans` alone. -/

@[simp] theorem State.modChan_build (s : State) (c : Nat) (f : Chan → Chan) : (s.modChan c f).build = s.build := rfl
@[simp] theorem State.modChan_pair (s : State) (c : Nat) (f : Chan → Chan) : (s.modChan c f).pair = s.pair := rfl
@[simp] theorem State.modChan_cold (s : State) (c : Nat) (f : Chan → Chan) : (s.modChan c f).cold = s.cold := rfl
@[simp] theorem State.modChan_warm (s : State) (c : Nat) (f : Chan → Chan) : (s.modChan c f).warm = s.warm := rfl
@[simp] theorem State.modChan_warmAt (s : State) (c : Nat) (f : Chan → Chan) : (s.modChan c f).warmAt = s.warmAt := rfl
@[simp] theorem State.modChan_warmSafe (s : State) (c : Nat) (f : Chan → Chan) : (s.modChan c f).warmSafe = s.warmSafe := rfl
@[simp] theorem State.modChan_fatal (s : State) (c : Nat) (f : Chan → Chan) : (s.modChan c f).fatal = s.fatal := rfl
@[simp] theorem State.modChan_straps (s : State) (c : Nat) (f : Chan → Chan) : (s.modChan c f).straps = s.straps := rfl
@[simp] theorem State.modChan_uptime (s : State) (c : Nat) (f : Chan → Chan) : (s.modChan c f).uptime = s.uptime := rfl
@[simp] theorem State.modChan_rclkLost (s : State) (c : Nat) (f : Chan → Chan) : (s.modChan c f).rclkLost = s.rclkLost := rfl
@[simp] theorem State.modChan_clkBad (s : State) (c : Nat) (f : Chan → Chan) : (s.modChan c f).clkBad = s.clkBad := rfl
@[simp] theorem State.modChan_regs (s : State) (c : Nat) (f : Chan → Chan) : (s.modChan c f).regs = s.regs := rfl
@[simp] theorem State.modChan_xregs (s : State) (c : Nat) (f : Chan → Chan) : (s.modChan c f).xregs = s.xregs := rfl
@[simp] theorem State.modChan_frozen (s : State) (c : Nat) (f : Chan → Chan) : (s.modChan c f).frozen = s.frozen := rfl
@[simp] theorem State.modChan_ports (s : State) (c : Nat) (f : Chan → Chan) : (s.modChan c f).ports = s.ports := rfl
@[simp] theorem State.modChan_reqs (s : State) (c : Nat) (f : Chan → Chan) : (s.modChan c f).reqs = s.reqs := rfl
@[simp] theorem State.modChan_xbar (s : State) (c : Nat) (f : Chan → Chan) : (s.modChan c f).xbar = s.xbar := rfl
@[simp] theorem State.modChan_nextRid (s : State) (c : Nat) (f : Chan → Chan) : (s.modChan c f).nextRid = s.nextRid := rfl
@[simp] theorem State.modChan_dram (s : State) (c : Nat) (f : Chan → Chan) : (s.modChan c f).dram = s.dram := rfl
@[simp] theorem State.modChan_but (s : State) (c : Nat) (f : Chan → Chan) : (s.modChan c f).but = s.but := rfl
@[simp] theorem State.modChan_plb (s : State) (c : Nat) (f : Chan → Chan) : (s.modChan c f).plb = s.plb := rfl
@[simp] theorem State.modChan_dst (s : State) (c : Nat) (f : Chan → Chan) : (s.modChan c f).dst = s.dst := rfl
@[simp] theorem State.modChan_pln (s : State) (c : Nat) (f : Chan → Chan) : (s.modChan c f).pln = s.pln := rfl
@[simp] theorem State.modChan_masons (s : State) (c : Nat) (f : Chan → Chan) : (s.modChan c f).masons = s.masons := rfl
@[simp] theorem State.modChan_imgs (s : State) (c : Nat) (f : Chan → Chan) : (s.modChan c f).imgs = s.imgs := rfl
@[simp] theorem State.modChan_dbgOut (s : State) (c : Nat) (f : Chan → Chan) : (s.modChan c f).dbgOut = s.dbgOut := rfl
@[simp] theorem State.modChan_hods (s : State) (c : Nat) (f : Chan → Chan) : (s.modChan c f).hods = s.hods := rfl
@[simp] theorem State.modChan_popNext (s : State) (c : Nat) (f : Chan → Chan) : (s.modChan c f).popNext = s.popNext := rfl
@[simp] theorem State.modChan_hodOut (s : State) (c : Nat) (f : Chan → Chan) : (s.modChan c f).hodOut = s.hodOut := rfl
@[simp] theorem State.modChan_key (s : State) (c : Nat) (f : Chan → Chan) : (s.modChan c f).key = s.key := rfl
@[simp] theorem State.modChan_bnd (s : State) (c : Nat) (f : Chan → Chan) : (s.modChan c f).bnd = s.bnd := rfl
@[simp] theorem State.modChan_quo (s : State) (c : Nat) (f : Chan → Chan) : (s.modChan c f).quo = s.quo := rfl
@[simp] theorem State.modChan_pending (s : State) (c : Nat) (f : Chan → Chan) : (s.modChan c f).pending = s.pending := rfl

/-! `setMason` changes `masons` alone. -/

@[simp] theorem State.setMason_build (s : State) (m : Nat) (x : Mason) : (s.setMason m x).build = s.build := rfl
@[simp] theorem State.setMason_pair (s : State) (m : Nat) (x : Mason) : (s.setMason m x).pair = s.pair := rfl
@[simp] theorem State.setMason_cold (s : State) (m : Nat) (x : Mason) : (s.setMason m x).cold = s.cold := rfl
@[simp] theorem State.setMason_warm (s : State) (m : Nat) (x : Mason) : (s.setMason m x).warm = s.warm := rfl
@[simp] theorem State.setMason_warmAt (s : State) (m : Nat) (x : Mason) : (s.setMason m x).warmAt = s.warmAt := rfl
@[simp] theorem State.setMason_warmSafe (s : State) (m : Nat) (x : Mason) : (s.setMason m x).warmSafe = s.warmSafe := rfl
@[simp] theorem State.setMason_fatal (s : State) (m : Nat) (x : Mason) : (s.setMason m x).fatal = s.fatal := rfl
@[simp] theorem State.setMason_straps (s : State) (m : Nat) (x : Mason) : (s.setMason m x).straps = s.straps := rfl
@[simp] theorem State.setMason_uptime (s : State) (m : Nat) (x : Mason) : (s.setMason m x).uptime = s.uptime := rfl
@[simp] theorem State.setMason_rclkLost (s : State) (m : Nat) (x : Mason) : (s.setMason m x).rclkLost = s.rclkLost := rfl
@[simp] theorem State.setMason_clkBad (s : State) (m : Nat) (x : Mason) : (s.setMason m x).clkBad = s.clkBad := rfl
@[simp] theorem State.setMason_regs (s : State) (m : Nat) (x : Mason) : (s.setMason m x).regs = s.regs := rfl
@[simp] theorem State.setMason_xregs (s : State) (m : Nat) (x : Mason) : (s.setMason m x).xregs = s.xregs := rfl
@[simp] theorem State.setMason_frozen (s : State) (m : Nat) (x : Mason) : (s.setMason m x).frozen = s.frozen := rfl
@[simp] theorem State.setMason_ports (s : State) (m : Nat) (x : Mason) : (s.setMason m x).ports = s.ports := rfl
@[simp] theorem State.setMason_reqs (s : State) (m : Nat) (x : Mason) : (s.setMason m x).reqs = s.reqs := rfl
@[simp] theorem State.setMason_xbar (s : State) (m : Nat) (x : Mason) : (s.setMason m x).xbar = s.xbar := rfl
@[simp] theorem State.setMason_nextRid (s : State) (m : Nat) (x : Mason) : (s.setMason m x).nextRid = s.nextRid := rfl
@[simp] theorem State.setMason_chans (s : State) (m : Nat) (x : Mason) : (s.setMason m x).chans = s.chans := rfl
@[simp] theorem State.setMason_dram (s : State) (m : Nat) (x : Mason) : (s.setMason m x).dram = s.dram := rfl
@[simp] theorem State.setMason_but (s : State) (m : Nat) (x : Mason) : (s.setMason m x).but = s.but := rfl
@[simp] theorem State.setMason_plb (s : State) (m : Nat) (x : Mason) : (s.setMason m x).plb = s.plb := rfl
@[simp] theorem State.setMason_dst (s : State) (m : Nat) (x : Mason) : (s.setMason m x).dst = s.dst := rfl
@[simp] theorem State.setMason_pln (s : State) (m : Nat) (x : Mason) : (s.setMason m x).pln = s.pln := rfl
@[simp] theorem State.setMason_imgs (s : State) (m : Nat) (x : Mason) : (s.setMason m x).imgs = s.imgs := rfl
@[simp] theorem State.setMason_dbgOut (s : State) (m : Nat) (x : Mason) : (s.setMason m x).dbgOut = s.dbgOut := rfl
@[simp] theorem State.setMason_hods (s : State) (m : Nat) (x : Mason) : (s.setMason m x).hods = s.hods := rfl
@[simp] theorem State.setMason_popNext (s : State) (m : Nat) (x : Mason) : (s.setMason m x).popNext = s.popNext := rfl
@[simp] theorem State.setMason_hodOut (s : State) (m : Nat) (x : Mason) : (s.setMason m x).hodOut = s.hodOut := rfl
@[simp] theorem State.setMason_key (s : State) (m : Nat) (x : Mason) : (s.setMason m x).key = s.key := rfl
@[simp] theorem State.setMason_bnd (s : State) (m : Nat) (x : Mason) : (s.setMason m x).bnd = s.bnd := rfl
@[simp] theorem State.setMason_quo (s : State) (m : Nat) (x : Mason) : (s.setMason m x).quo = s.quo := rfl
@[simp] theorem State.setMason_pending (s : State) (m : Nat) (x : Mason) : (s.setMason m x).pending = s.pending := rfl

/-! `modMason` changes `masons` alone. -/

@[simp] theorem State.modMason_build (s : State) (m : Nat) (f : Mason → Mason) : (s.modMason m f).build = s.build := rfl
@[simp] theorem State.modMason_pair (s : State) (m : Nat) (f : Mason → Mason) : (s.modMason m f).pair = s.pair := rfl
@[simp] theorem State.modMason_cold (s : State) (m : Nat) (f : Mason → Mason) : (s.modMason m f).cold = s.cold := rfl
@[simp] theorem State.modMason_warm (s : State) (m : Nat) (f : Mason → Mason) : (s.modMason m f).warm = s.warm := rfl
@[simp] theorem State.modMason_warmAt (s : State) (m : Nat) (f : Mason → Mason) : (s.modMason m f).warmAt = s.warmAt := rfl
@[simp] theorem State.modMason_warmSafe (s : State) (m : Nat) (f : Mason → Mason) : (s.modMason m f).warmSafe = s.warmSafe := rfl
@[simp] theorem State.modMason_fatal (s : State) (m : Nat) (f : Mason → Mason) : (s.modMason m f).fatal = s.fatal := rfl
@[simp] theorem State.modMason_straps (s : State) (m : Nat) (f : Mason → Mason) : (s.modMason m f).straps = s.straps := rfl
@[simp] theorem State.modMason_uptime (s : State) (m : Nat) (f : Mason → Mason) : (s.modMason m f).uptime = s.uptime := rfl
@[simp] theorem State.modMason_rclkLost (s : State) (m : Nat) (f : Mason → Mason) : (s.modMason m f).rclkLost = s.rclkLost := rfl
@[simp] theorem State.modMason_clkBad (s : State) (m : Nat) (f : Mason → Mason) : (s.modMason m f).clkBad = s.clkBad := rfl
@[simp] theorem State.modMason_regs (s : State) (m : Nat) (f : Mason → Mason) : (s.modMason m f).regs = s.regs := rfl
@[simp] theorem State.modMason_xregs (s : State) (m : Nat) (f : Mason → Mason) : (s.modMason m f).xregs = s.xregs := rfl
@[simp] theorem State.modMason_frozen (s : State) (m : Nat) (f : Mason → Mason) : (s.modMason m f).frozen = s.frozen := rfl
@[simp] theorem State.modMason_ports (s : State) (m : Nat) (f : Mason → Mason) : (s.modMason m f).ports = s.ports := rfl
@[simp] theorem State.modMason_reqs (s : State) (m : Nat) (f : Mason → Mason) : (s.modMason m f).reqs = s.reqs := rfl
@[simp] theorem State.modMason_xbar (s : State) (m : Nat) (f : Mason → Mason) : (s.modMason m f).xbar = s.xbar := rfl
@[simp] theorem State.modMason_nextRid (s : State) (m : Nat) (f : Mason → Mason) : (s.modMason m f).nextRid = s.nextRid := rfl
@[simp] theorem State.modMason_chans (s : State) (m : Nat) (f : Mason → Mason) : (s.modMason m f).chans = s.chans := rfl
@[simp] theorem State.modMason_dram (s : State) (m : Nat) (f : Mason → Mason) : (s.modMason m f).dram = s.dram := rfl
@[simp] theorem State.modMason_but (s : State) (m : Nat) (f : Mason → Mason) : (s.modMason m f).but = s.but := rfl
@[simp] theorem State.modMason_plb (s : State) (m : Nat) (f : Mason → Mason) : (s.modMason m f).plb = s.plb := rfl
@[simp] theorem State.modMason_dst (s : State) (m : Nat) (f : Mason → Mason) : (s.modMason m f).dst = s.dst := rfl
@[simp] theorem State.modMason_pln (s : State) (m : Nat) (f : Mason → Mason) : (s.modMason m f).pln = s.pln := rfl
@[simp] theorem State.modMason_imgs (s : State) (m : Nat) (f : Mason → Mason) : (s.modMason m f).imgs = s.imgs := rfl
@[simp] theorem State.modMason_dbgOut (s : State) (m : Nat) (f : Mason → Mason) : (s.modMason m f).dbgOut = s.dbgOut := rfl
@[simp] theorem State.modMason_hods (s : State) (m : Nat) (f : Mason → Mason) : (s.modMason m f).hods = s.hods := rfl
@[simp] theorem State.modMason_popNext (s : State) (m : Nat) (f : Mason → Mason) : (s.modMason m f).popNext = s.popNext := rfl
@[simp] theorem State.modMason_hodOut (s : State) (m : Nat) (f : Mason → Mason) : (s.modMason m f).hodOut = s.hodOut := rfl
@[simp] theorem State.modMason_key (s : State) (m : Nat) (f : Mason → Mason) : (s.modMason m f).key = s.key := rfl
@[simp] theorem State.modMason_bnd (s : State) (m : Nat) (f : Mason → Mason) : (s.modMason m f).bnd = s.bnd := rfl
@[simp] theorem State.modMason_quo (s : State) (m : Nat) (f : Mason → Mason) : (s.modMason m f).quo = s.quo := rfl
@[simp] theorem State.modMason_pending (s : State) (m : Nat) (f : Mason → Mason) : (s.modMason m f).pending = s.pending := rfl

/-! `setHod` changes `hods` alone. -/

@[simp] theorem State.setHod_build (s : State) (h : Nat) (x : Hod) : (s.setHod h x).build = s.build := rfl
@[simp] theorem State.setHod_pair (s : State) (h : Nat) (x : Hod) : (s.setHod h x).pair = s.pair := rfl
@[simp] theorem State.setHod_cold (s : State) (h : Nat) (x : Hod) : (s.setHod h x).cold = s.cold := rfl
@[simp] theorem State.setHod_warm (s : State) (h : Nat) (x : Hod) : (s.setHod h x).warm = s.warm := rfl
@[simp] theorem State.setHod_warmAt (s : State) (h : Nat) (x : Hod) : (s.setHod h x).warmAt = s.warmAt := rfl
@[simp] theorem State.setHod_warmSafe (s : State) (h : Nat) (x : Hod) : (s.setHod h x).warmSafe = s.warmSafe := rfl
@[simp] theorem State.setHod_fatal (s : State) (h : Nat) (x : Hod) : (s.setHod h x).fatal = s.fatal := rfl
@[simp] theorem State.setHod_straps (s : State) (h : Nat) (x : Hod) : (s.setHod h x).straps = s.straps := rfl
@[simp] theorem State.setHod_uptime (s : State) (h : Nat) (x : Hod) : (s.setHod h x).uptime = s.uptime := rfl
@[simp] theorem State.setHod_rclkLost (s : State) (h : Nat) (x : Hod) : (s.setHod h x).rclkLost = s.rclkLost := rfl
@[simp] theorem State.setHod_clkBad (s : State) (h : Nat) (x : Hod) : (s.setHod h x).clkBad = s.clkBad := rfl
@[simp] theorem State.setHod_regs (s : State) (h : Nat) (x : Hod) : (s.setHod h x).regs = s.regs := rfl
@[simp] theorem State.setHod_xregs (s : State) (h : Nat) (x : Hod) : (s.setHod h x).xregs = s.xregs := rfl
@[simp] theorem State.setHod_frozen (s : State) (h : Nat) (x : Hod) : (s.setHod h x).frozen = s.frozen := rfl
@[simp] theorem State.setHod_ports (s : State) (h : Nat) (x : Hod) : (s.setHod h x).ports = s.ports := rfl
@[simp] theorem State.setHod_reqs (s : State) (h : Nat) (x : Hod) : (s.setHod h x).reqs = s.reqs := rfl
@[simp] theorem State.setHod_xbar (s : State) (h : Nat) (x : Hod) : (s.setHod h x).xbar = s.xbar := rfl
@[simp] theorem State.setHod_nextRid (s : State) (h : Nat) (x : Hod) : (s.setHod h x).nextRid = s.nextRid := rfl
@[simp] theorem State.setHod_chans (s : State) (h : Nat) (x : Hod) : (s.setHod h x).chans = s.chans := rfl
@[simp] theorem State.setHod_dram (s : State) (h : Nat) (x : Hod) : (s.setHod h x).dram = s.dram := rfl
@[simp] theorem State.setHod_but (s : State) (h : Nat) (x : Hod) : (s.setHod h x).but = s.but := rfl
@[simp] theorem State.setHod_plb (s : State) (h : Nat) (x : Hod) : (s.setHod h x).plb = s.plb := rfl
@[simp] theorem State.setHod_dst (s : State) (h : Nat) (x : Hod) : (s.setHod h x).dst = s.dst := rfl
@[simp] theorem State.setHod_pln (s : State) (h : Nat) (x : Hod) : (s.setHod h x).pln = s.pln := rfl
@[simp] theorem State.setHod_masons (s : State) (h : Nat) (x : Hod) : (s.setHod h x).masons = s.masons := rfl
@[simp] theorem State.setHod_imgs (s : State) (h : Nat) (x : Hod) : (s.setHod h x).imgs = s.imgs := rfl
@[simp] theorem State.setHod_dbgOut (s : State) (h : Nat) (x : Hod) : (s.setHod h x).dbgOut = s.dbgOut := rfl
@[simp] theorem State.setHod_popNext (s : State) (h : Nat) (x : Hod) : (s.setHod h x).popNext = s.popNext := rfl
@[simp] theorem State.setHod_hodOut (s : State) (h : Nat) (x : Hod) : (s.setHod h x).hodOut = s.hodOut := rfl
@[simp] theorem State.setHod_key (s : State) (h : Nat) (x : Hod) : (s.setHod h x).key = s.key := rfl
@[simp] theorem State.setHod_bnd (s : State) (h : Nat) (x : Hod) : (s.setHod h x).bnd = s.bnd := rfl
@[simp] theorem State.setHod_quo (s : State) (h : Nat) (x : Hod) : (s.setHod h x).quo = s.quo := rfl
@[simp] theorem State.setHod_pending (s : State) (h : Nat) (x : Hod) : (s.setHod h x).pending = s.pending := rfl

/-! `modReq` changes `reqs` alone. -/

@[simp] theorem State.modReq_build (s : State) (rid : Nat) (f : Req → Req) : (s.modReq rid f).build = s.build := rfl
@[simp] theorem State.modReq_pair (s : State) (rid : Nat) (f : Req → Req) : (s.modReq rid f).pair = s.pair := rfl
@[simp] theorem State.modReq_cold (s : State) (rid : Nat) (f : Req → Req) : (s.modReq rid f).cold = s.cold := rfl
@[simp] theorem State.modReq_warm (s : State) (rid : Nat) (f : Req → Req) : (s.modReq rid f).warm = s.warm := rfl
@[simp] theorem State.modReq_warmAt (s : State) (rid : Nat) (f : Req → Req) : (s.modReq rid f).warmAt = s.warmAt := rfl
@[simp] theorem State.modReq_warmSafe (s : State) (rid : Nat) (f : Req → Req) : (s.modReq rid f).warmSafe = s.warmSafe := rfl
@[simp] theorem State.modReq_fatal (s : State) (rid : Nat) (f : Req → Req) : (s.modReq rid f).fatal = s.fatal := rfl
@[simp] theorem State.modReq_straps (s : State) (rid : Nat) (f : Req → Req) : (s.modReq rid f).straps = s.straps := rfl
@[simp] theorem State.modReq_uptime (s : State) (rid : Nat) (f : Req → Req) : (s.modReq rid f).uptime = s.uptime := rfl
@[simp] theorem State.modReq_rclkLost (s : State) (rid : Nat) (f : Req → Req) : (s.modReq rid f).rclkLost = s.rclkLost := rfl
@[simp] theorem State.modReq_clkBad (s : State) (rid : Nat) (f : Req → Req) : (s.modReq rid f).clkBad = s.clkBad := rfl
@[simp] theorem State.modReq_regs (s : State) (rid : Nat) (f : Req → Req) : (s.modReq rid f).regs = s.regs := rfl
@[simp] theorem State.modReq_xregs (s : State) (rid : Nat) (f : Req → Req) : (s.modReq rid f).xregs = s.xregs := rfl
@[simp] theorem State.modReq_frozen (s : State) (rid : Nat) (f : Req → Req) : (s.modReq rid f).frozen = s.frozen := rfl
@[simp] theorem State.modReq_ports (s : State) (rid : Nat) (f : Req → Req) : (s.modReq rid f).ports = s.ports := rfl
@[simp] theorem State.modReq_xbar (s : State) (rid : Nat) (f : Req → Req) : (s.modReq rid f).xbar = s.xbar := rfl
@[simp] theorem State.modReq_nextRid (s : State) (rid : Nat) (f : Req → Req) : (s.modReq rid f).nextRid = s.nextRid := rfl
@[simp] theorem State.modReq_chans (s : State) (rid : Nat) (f : Req → Req) : (s.modReq rid f).chans = s.chans := rfl
@[simp] theorem State.modReq_dram (s : State) (rid : Nat) (f : Req → Req) : (s.modReq rid f).dram = s.dram := rfl
@[simp] theorem State.modReq_but (s : State) (rid : Nat) (f : Req → Req) : (s.modReq rid f).but = s.but := rfl
@[simp] theorem State.modReq_plb (s : State) (rid : Nat) (f : Req → Req) : (s.modReq rid f).plb = s.plb := rfl
@[simp] theorem State.modReq_dst (s : State) (rid : Nat) (f : Req → Req) : (s.modReq rid f).dst = s.dst := rfl
@[simp] theorem State.modReq_pln (s : State) (rid : Nat) (f : Req → Req) : (s.modReq rid f).pln = s.pln := rfl
@[simp] theorem State.modReq_masons (s : State) (rid : Nat) (f : Req → Req) : (s.modReq rid f).masons = s.masons := rfl
@[simp] theorem State.modReq_imgs (s : State) (rid : Nat) (f : Req → Req) : (s.modReq rid f).imgs = s.imgs := rfl
@[simp] theorem State.modReq_dbgOut (s : State) (rid : Nat) (f : Req → Req) : (s.modReq rid f).dbgOut = s.dbgOut := rfl
@[simp] theorem State.modReq_hods (s : State) (rid : Nat) (f : Req → Req) : (s.modReq rid f).hods = s.hods := rfl
@[simp] theorem State.modReq_popNext (s : State) (rid : Nat) (f : Req → Req) : (s.modReq rid f).popNext = s.popNext := rfl
@[simp] theorem State.modReq_hodOut (s : State) (rid : Nat) (f : Req → Req) : (s.modReq rid f).hodOut = s.hodOut := rfl
@[simp] theorem State.modReq_key (s : State) (rid : Nat) (f : Req → Req) : (s.modReq rid f).key = s.key := rfl
@[simp] theorem State.modReq_bnd (s : State) (rid : Nat) (f : Req → Req) : (s.modReq rid f).bnd = s.bnd := rfl
@[simp] theorem State.modReq_quo (s : State) (rid : Nat) (f : Req → Req) : (s.modReq rid f).quo = s.quo := rfl
@[simp] theorem State.modReq_pending (s : State) (rid : Nat) (f : Req → Req) : (s.modReq rid f).pending = s.pending := rfl

/-! `dropReq` changes `reqs` alone. -/

@[simp] theorem State.dropReq_build (s : State) (rid : Nat) : (s.dropReq rid).build = s.build := rfl
@[simp] theorem State.dropReq_pair (s : State) (rid : Nat) : (s.dropReq rid).pair = s.pair := rfl
@[simp] theorem State.dropReq_cold (s : State) (rid : Nat) : (s.dropReq rid).cold = s.cold := rfl
@[simp] theorem State.dropReq_warm (s : State) (rid : Nat) : (s.dropReq rid).warm = s.warm := rfl
@[simp] theorem State.dropReq_warmAt (s : State) (rid : Nat) : (s.dropReq rid).warmAt = s.warmAt := rfl
@[simp] theorem State.dropReq_warmSafe (s : State) (rid : Nat) : (s.dropReq rid).warmSafe = s.warmSafe := rfl
@[simp] theorem State.dropReq_fatal (s : State) (rid : Nat) : (s.dropReq rid).fatal = s.fatal := rfl
@[simp] theorem State.dropReq_straps (s : State) (rid : Nat) : (s.dropReq rid).straps = s.straps := rfl
@[simp] theorem State.dropReq_uptime (s : State) (rid : Nat) : (s.dropReq rid).uptime = s.uptime := rfl
@[simp] theorem State.dropReq_rclkLost (s : State) (rid : Nat) : (s.dropReq rid).rclkLost = s.rclkLost := rfl
@[simp] theorem State.dropReq_clkBad (s : State) (rid : Nat) : (s.dropReq rid).clkBad = s.clkBad := rfl
@[simp] theorem State.dropReq_regs (s : State) (rid : Nat) : (s.dropReq rid).regs = s.regs := rfl
@[simp] theorem State.dropReq_xregs (s : State) (rid : Nat) : (s.dropReq rid).xregs = s.xregs := rfl
@[simp] theorem State.dropReq_frozen (s : State) (rid : Nat) : (s.dropReq rid).frozen = s.frozen := rfl
@[simp] theorem State.dropReq_ports (s : State) (rid : Nat) : (s.dropReq rid).ports = s.ports := rfl
@[simp] theorem State.dropReq_xbar (s : State) (rid : Nat) : (s.dropReq rid).xbar = s.xbar := rfl
@[simp] theorem State.dropReq_nextRid (s : State) (rid : Nat) : (s.dropReq rid).nextRid = s.nextRid := rfl
@[simp] theorem State.dropReq_chans (s : State) (rid : Nat) : (s.dropReq rid).chans = s.chans := rfl
@[simp] theorem State.dropReq_dram (s : State) (rid : Nat) : (s.dropReq rid).dram = s.dram := rfl
@[simp] theorem State.dropReq_but (s : State) (rid : Nat) : (s.dropReq rid).but = s.but := rfl
@[simp] theorem State.dropReq_plb (s : State) (rid : Nat) : (s.dropReq rid).plb = s.plb := rfl
@[simp] theorem State.dropReq_dst (s : State) (rid : Nat) : (s.dropReq rid).dst = s.dst := rfl
@[simp] theorem State.dropReq_pln (s : State) (rid : Nat) : (s.dropReq rid).pln = s.pln := rfl
@[simp] theorem State.dropReq_masons (s : State) (rid : Nat) : (s.dropReq rid).masons = s.masons := rfl
@[simp] theorem State.dropReq_imgs (s : State) (rid : Nat) : (s.dropReq rid).imgs = s.imgs := rfl
@[simp] theorem State.dropReq_dbgOut (s : State) (rid : Nat) : (s.dropReq rid).dbgOut = s.dbgOut := rfl
@[simp] theorem State.dropReq_hods (s : State) (rid : Nat) : (s.dropReq rid).hods = s.hods := rfl
@[simp] theorem State.dropReq_popNext (s : State) (rid : Nat) : (s.dropReq rid).popNext = s.popNext := rfl
@[simp] theorem State.dropReq_hodOut (s : State) (rid : Nat) : (s.dropReq rid).hodOut = s.hodOut := rfl
@[simp] theorem State.dropReq_key (s : State) (rid : Nat) : (s.dropReq rid).key = s.key := rfl
@[simp] theorem State.dropReq_bnd (s : State) (rid : Nat) : (s.dropReq rid).bnd = s.bnd := rfl
@[simp] theorem State.dropReq_quo (s : State) (rid : Nat) : (s.dropReq rid).quo = s.quo := rfl
@[simp] theorem State.dropReq_pending (s : State) (rid : Nat) : (s.dropReq rid).pending = s.pending := rfl

/-! `setF` changes `regs` alone. -/

@[simp] theorem State.setF_build (s : State) (f : Field) (i j k v : Nat) : (s.setF f i j k v).build = s.build := rfl
@[simp] theorem State.setF_pair (s : State) (f : Field) (i j k v : Nat) : (s.setF f i j k v).pair = s.pair := rfl
@[simp] theorem State.setF_cold (s : State) (f : Field) (i j k v : Nat) : (s.setF f i j k v).cold = s.cold := rfl
@[simp] theorem State.setF_warm (s : State) (f : Field) (i j k v : Nat) : (s.setF f i j k v).warm = s.warm := rfl
@[simp] theorem State.setF_warmAt (s : State) (f : Field) (i j k v : Nat) : (s.setF f i j k v).warmAt = s.warmAt := rfl
@[simp] theorem State.setF_warmSafe (s : State) (f : Field) (i j k v : Nat) : (s.setF f i j k v).warmSafe = s.warmSafe := rfl
@[simp] theorem State.setF_fatal (s : State) (f : Field) (i j k v : Nat) : (s.setF f i j k v).fatal = s.fatal := rfl
@[simp] theorem State.setF_straps (s : State) (f : Field) (i j k v : Nat) : (s.setF f i j k v).straps = s.straps := rfl
@[simp] theorem State.setF_uptime (s : State) (f : Field) (i j k v : Nat) : (s.setF f i j k v).uptime = s.uptime := rfl
@[simp] theorem State.setF_rclkLost (s : State) (f : Field) (i j k v : Nat) : (s.setF f i j k v).rclkLost = s.rclkLost := rfl
@[simp] theorem State.setF_clkBad (s : State) (f : Field) (i j k v : Nat) : (s.setF f i j k v).clkBad = s.clkBad := rfl
@[simp] theorem State.setF_xregs (s : State) (f : Field) (i j k v : Nat) : (s.setF f i j k v).xregs = s.xregs := rfl
@[simp] theorem State.setF_frozen (s : State) (f : Field) (i j k v : Nat) : (s.setF f i j k v).frozen = s.frozen := rfl
@[simp] theorem State.setF_ports (s : State) (f : Field) (i j k v : Nat) : (s.setF f i j k v).ports = s.ports := rfl
@[simp] theorem State.setF_reqs (s : State) (f : Field) (i j k v : Nat) : (s.setF f i j k v).reqs = s.reqs := rfl
@[simp] theorem State.setF_xbar (s : State) (f : Field) (i j k v : Nat) : (s.setF f i j k v).xbar = s.xbar := rfl
@[simp] theorem State.setF_nextRid (s : State) (f : Field) (i j k v : Nat) : (s.setF f i j k v).nextRid = s.nextRid := rfl
@[simp] theorem State.setF_chans (s : State) (f : Field) (i j k v : Nat) : (s.setF f i j k v).chans = s.chans := rfl
@[simp] theorem State.setF_dram (s : State) (f : Field) (i j k v : Nat) : (s.setF f i j k v).dram = s.dram := rfl
@[simp] theorem State.setF_but (s : State) (f : Field) (i j k v : Nat) : (s.setF f i j k v).but = s.but := rfl
@[simp] theorem State.setF_plb (s : State) (f : Field) (i j k v : Nat) : (s.setF f i j k v).plb = s.plb := rfl
@[simp] theorem State.setF_dst (s : State) (f : Field) (i j k v : Nat) : (s.setF f i j k v).dst = s.dst := rfl
@[simp] theorem State.setF_pln (s : State) (f : Field) (i j k v : Nat) : (s.setF f i j k v).pln = s.pln := rfl
@[simp] theorem State.setF_masons (s : State) (f : Field) (i j k v : Nat) : (s.setF f i j k v).masons = s.masons := rfl
@[simp] theorem State.setF_imgs (s : State) (f : Field) (i j k v : Nat) : (s.setF f i j k v).imgs = s.imgs := rfl
@[simp] theorem State.setF_dbgOut (s : State) (f : Field) (i j k v : Nat) : (s.setF f i j k v).dbgOut = s.dbgOut := rfl
@[simp] theorem State.setF_hods (s : State) (f : Field) (i j k v : Nat) : (s.setF f i j k v).hods = s.hods := rfl
@[simp] theorem State.setF_popNext (s : State) (f : Field) (i j k v : Nat) : (s.setF f i j k v).popNext = s.popNext := rfl
@[simp] theorem State.setF_hodOut (s : State) (f : Field) (i j k v : Nat) : (s.setF f i j k v).hodOut = s.hodOut := rfl
@[simp] theorem State.setF_key (s : State) (f : Field) (i j k v : Nat) : (s.setF f i j k v).key = s.key := rfl
@[simp] theorem State.setF_bnd (s : State) (f : Field) (i j k v : Nat) : (s.setF f i j k v).bnd = s.bnd := rfl
@[simp] theorem State.setF_quo (s : State) (f : Field) (i j k v : Nat) : (s.setF f i j k v).quo = s.quo := rfl
@[simp] theorem State.setF_pending (s : State) (f : Field) (i j k v : Nat) : (s.setF f i j k v).pending = s.pending := rfl

/-! `setX` changes `xregs` alone. -/

@[simp] theorem State.setX_build (s : State) (f : Field) (i j k v : Nat) : (s.setX f i j k v).build = s.build := rfl
@[simp] theorem State.setX_pair (s : State) (f : Field) (i j k v : Nat) : (s.setX f i j k v).pair = s.pair := rfl
@[simp] theorem State.setX_cold (s : State) (f : Field) (i j k v : Nat) : (s.setX f i j k v).cold = s.cold := rfl
@[simp] theorem State.setX_warm (s : State) (f : Field) (i j k v : Nat) : (s.setX f i j k v).warm = s.warm := rfl
@[simp] theorem State.setX_warmAt (s : State) (f : Field) (i j k v : Nat) : (s.setX f i j k v).warmAt = s.warmAt := rfl
@[simp] theorem State.setX_warmSafe (s : State) (f : Field) (i j k v : Nat) : (s.setX f i j k v).warmSafe = s.warmSafe := rfl
@[simp] theorem State.setX_fatal (s : State) (f : Field) (i j k v : Nat) : (s.setX f i j k v).fatal = s.fatal := rfl
@[simp] theorem State.setX_straps (s : State) (f : Field) (i j k v : Nat) : (s.setX f i j k v).straps = s.straps := rfl
@[simp] theorem State.setX_uptime (s : State) (f : Field) (i j k v : Nat) : (s.setX f i j k v).uptime = s.uptime := rfl
@[simp] theorem State.setX_rclkLost (s : State) (f : Field) (i j k v : Nat) : (s.setX f i j k v).rclkLost = s.rclkLost := rfl
@[simp] theorem State.setX_clkBad (s : State) (f : Field) (i j k v : Nat) : (s.setX f i j k v).clkBad = s.clkBad := rfl
@[simp] theorem State.setX_regs (s : State) (f : Field) (i j k v : Nat) : (s.setX f i j k v).regs = s.regs := rfl
@[simp] theorem State.setX_frozen (s : State) (f : Field) (i j k v : Nat) : (s.setX f i j k v).frozen = s.frozen := rfl
@[simp] theorem State.setX_ports (s : State) (f : Field) (i j k v : Nat) : (s.setX f i j k v).ports = s.ports := rfl
@[simp] theorem State.setX_reqs (s : State) (f : Field) (i j k v : Nat) : (s.setX f i j k v).reqs = s.reqs := rfl
@[simp] theorem State.setX_xbar (s : State) (f : Field) (i j k v : Nat) : (s.setX f i j k v).xbar = s.xbar := rfl
@[simp] theorem State.setX_nextRid (s : State) (f : Field) (i j k v : Nat) : (s.setX f i j k v).nextRid = s.nextRid := rfl
@[simp] theorem State.setX_chans (s : State) (f : Field) (i j k v : Nat) : (s.setX f i j k v).chans = s.chans := rfl
@[simp] theorem State.setX_dram (s : State) (f : Field) (i j k v : Nat) : (s.setX f i j k v).dram = s.dram := rfl
@[simp] theorem State.setX_but (s : State) (f : Field) (i j k v : Nat) : (s.setX f i j k v).but = s.but := rfl
@[simp] theorem State.setX_plb (s : State) (f : Field) (i j k v : Nat) : (s.setX f i j k v).plb = s.plb := rfl
@[simp] theorem State.setX_dst (s : State) (f : Field) (i j k v : Nat) : (s.setX f i j k v).dst = s.dst := rfl
@[simp] theorem State.setX_pln (s : State) (f : Field) (i j k v : Nat) : (s.setX f i j k v).pln = s.pln := rfl
@[simp] theorem State.setX_masons (s : State) (f : Field) (i j k v : Nat) : (s.setX f i j k v).masons = s.masons := rfl
@[simp] theorem State.setX_imgs (s : State) (f : Field) (i j k v : Nat) : (s.setX f i j k v).imgs = s.imgs := rfl
@[simp] theorem State.setX_dbgOut (s : State) (f : Field) (i j k v : Nat) : (s.setX f i j k v).dbgOut = s.dbgOut := rfl
@[simp] theorem State.setX_hods (s : State) (f : Field) (i j k v : Nat) : (s.setX f i j k v).hods = s.hods := rfl
@[simp] theorem State.setX_popNext (s : State) (f : Field) (i j k v : Nat) : (s.setX f i j k v).popNext = s.popNext := rfl
@[simp] theorem State.setX_hodOut (s : State) (f : Field) (i j k v : Nat) : (s.setX f i j k v).hodOut = s.hodOut := rfl
@[simp] theorem State.setX_key (s : State) (f : Field) (i j k v : Nat) : (s.setX f i j k v).key = s.key := rfl
@[simp] theorem State.setX_bnd (s : State) (f : Field) (i j k v : Nat) : (s.setX f i j k v).bnd = s.bnd := rfl
@[simp] theorem State.setX_quo (s : State) (f : Field) (i j k v : Nat) : (s.setX f i j k v).quo = s.quo := rfl
@[simp] theorem State.setX_pending (s : State) (f : Field) (i j k v : Nat) : (s.setX f i j k v).pending = s.pending := rfl

/-! `modBut` changes `but` alone. -/

@[simp] theorem State.modBut_build (s : State) (f : ButSt → ButSt) : (s.modBut f).build = s.build := rfl
@[simp] theorem State.modBut_pair (s : State) (f : ButSt → ButSt) : (s.modBut f).pair = s.pair := rfl
@[simp] theorem State.modBut_cold (s : State) (f : ButSt → ButSt) : (s.modBut f).cold = s.cold := rfl
@[simp] theorem State.modBut_warm (s : State) (f : ButSt → ButSt) : (s.modBut f).warm = s.warm := rfl
@[simp] theorem State.modBut_warmAt (s : State) (f : ButSt → ButSt) : (s.modBut f).warmAt = s.warmAt := rfl
@[simp] theorem State.modBut_warmSafe (s : State) (f : ButSt → ButSt) : (s.modBut f).warmSafe = s.warmSafe := rfl
@[simp] theorem State.modBut_fatal (s : State) (f : ButSt → ButSt) : (s.modBut f).fatal = s.fatal := rfl
@[simp] theorem State.modBut_straps (s : State) (f : ButSt → ButSt) : (s.modBut f).straps = s.straps := rfl
@[simp] theorem State.modBut_uptime (s : State) (f : ButSt → ButSt) : (s.modBut f).uptime = s.uptime := rfl
@[simp] theorem State.modBut_rclkLost (s : State) (f : ButSt → ButSt) : (s.modBut f).rclkLost = s.rclkLost := rfl
@[simp] theorem State.modBut_clkBad (s : State) (f : ButSt → ButSt) : (s.modBut f).clkBad = s.clkBad := rfl
@[simp] theorem State.modBut_regs (s : State) (f : ButSt → ButSt) : (s.modBut f).regs = s.regs := rfl
@[simp] theorem State.modBut_xregs (s : State) (f : ButSt → ButSt) : (s.modBut f).xregs = s.xregs := rfl
@[simp] theorem State.modBut_frozen (s : State) (f : ButSt → ButSt) : (s.modBut f).frozen = s.frozen := rfl
@[simp] theorem State.modBut_ports (s : State) (f : ButSt → ButSt) : (s.modBut f).ports = s.ports := rfl
@[simp] theorem State.modBut_reqs (s : State) (f : ButSt → ButSt) : (s.modBut f).reqs = s.reqs := rfl
@[simp] theorem State.modBut_xbar (s : State) (f : ButSt → ButSt) : (s.modBut f).xbar = s.xbar := rfl
@[simp] theorem State.modBut_nextRid (s : State) (f : ButSt → ButSt) : (s.modBut f).nextRid = s.nextRid := rfl
@[simp] theorem State.modBut_chans (s : State) (f : ButSt → ButSt) : (s.modBut f).chans = s.chans := rfl
@[simp] theorem State.modBut_dram (s : State) (f : ButSt → ButSt) : (s.modBut f).dram = s.dram := rfl
@[simp] theorem State.modBut_plb (s : State) (f : ButSt → ButSt) : (s.modBut f).plb = s.plb := rfl
@[simp] theorem State.modBut_dst (s : State) (f : ButSt → ButSt) : (s.modBut f).dst = s.dst := rfl
@[simp] theorem State.modBut_pln (s : State) (f : ButSt → ButSt) : (s.modBut f).pln = s.pln := rfl
@[simp] theorem State.modBut_masons (s : State) (f : ButSt → ButSt) : (s.modBut f).masons = s.masons := rfl
@[simp] theorem State.modBut_imgs (s : State) (f : ButSt → ButSt) : (s.modBut f).imgs = s.imgs := rfl
@[simp] theorem State.modBut_dbgOut (s : State) (f : ButSt → ButSt) : (s.modBut f).dbgOut = s.dbgOut := rfl
@[simp] theorem State.modBut_hods (s : State) (f : ButSt → ButSt) : (s.modBut f).hods = s.hods := rfl
@[simp] theorem State.modBut_popNext (s : State) (f : ButSt → ButSt) : (s.modBut f).popNext = s.popNext := rfl
@[simp] theorem State.modBut_hodOut (s : State) (f : ButSt → ButSt) : (s.modBut f).hodOut = s.hodOut := rfl
@[simp] theorem State.modBut_key (s : State) (f : ButSt → ButSt) : (s.modBut f).key = s.key := rfl
@[simp] theorem State.modBut_bnd (s : State) (f : ButSt → ButSt) : (s.modBut f).bnd = s.bnd := rfl
@[simp] theorem State.modBut_quo (s : State) (f : ButSt → ButSt) : (s.modBut f).quo = s.quo := rfl
@[simp] theorem State.modBut_pending (s : State) (f : ButSt → ButSt) : (s.modBut f).pending = s.pending := rfl

/-! `modPlb` changes `plb` alone. -/

@[simp] theorem State.modPlb_build (s : State) (f : PlbSt → PlbSt) : (s.modPlb f).build = s.build := rfl
@[simp] theorem State.modPlb_pair (s : State) (f : PlbSt → PlbSt) : (s.modPlb f).pair = s.pair := rfl
@[simp] theorem State.modPlb_cold (s : State) (f : PlbSt → PlbSt) : (s.modPlb f).cold = s.cold := rfl
@[simp] theorem State.modPlb_warm (s : State) (f : PlbSt → PlbSt) : (s.modPlb f).warm = s.warm := rfl
@[simp] theorem State.modPlb_warmAt (s : State) (f : PlbSt → PlbSt) : (s.modPlb f).warmAt = s.warmAt := rfl
@[simp] theorem State.modPlb_warmSafe (s : State) (f : PlbSt → PlbSt) : (s.modPlb f).warmSafe = s.warmSafe := rfl
@[simp] theorem State.modPlb_fatal (s : State) (f : PlbSt → PlbSt) : (s.modPlb f).fatal = s.fatal := rfl
@[simp] theorem State.modPlb_straps (s : State) (f : PlbSt → PlbSt) : (s.modPlb f).straps = s.straps := rfl
@[simp] theorem State.modPlb_uptime (s : State) (f : PlbSt → PlbSt) : (s.modPlb f).uptime = s.uptime := rfl
@[simp] theorem State.modPlb_rclkLost (s : State) (f : PlbSt → PlbSt) : (s.modPlb f).rclkLost = s.rclkLost := rfl
@[simp] theorem State.modPlb_clkBad (s : State) (f : PlbSt → PlbSt) : (s.modPlb f).clkBad = s.clkBad := rfl
@[simp] theorem State.modPlb_regs (s : State) (f : PlbSt → PlbSt) : (s.modPlb f).regs = s.regs := rfl
@[simp] theorem State.modPlb_xregs (s : State) (f : PlbSt → PlbSt) : (s.modPlb f).xregs = s.xregs := rfl
@[simp] theorem State.modPlb_frozen (s : State) (f : PlbSt → PlbSt) : (s.modPlb f).frozen = s.frozen := rfl
@[simp] theorem State.modPlb_ports (s : State) (f : PlbSt → PlbSt) : (s.modPlb f).ports = s.ports := rfl
@[simp] theorem State.modPlb_reqs (s : State) (f : PlbSt → PlbSt) : (s.modPlb f).reqs = s.reqs := rfl
@[simp] theorem State.modPlb_xbar (s : State) (f : PlbSt → PlbSt) : (s.modPlb f).xbar = s.xbar := rfl
@[simp] theorem State.modPlb_nextRid (s : State) (f : PlbSt → PlbSt) : (s.modPlb f).nextRid = s.nextRid := rfl
@[simp] theorem State.modPlb_chans (s : State) (f : PlbSt → PlbSt) : (s.modPlb f).chans = s.chans := rfl
@[simp] theorem State.modPlb_dram (s : State) (f : PlbSt → PlbSt) : (s.modPlb f).dram = s.dram := rfl
@[simp] theorem State.modPlb_but (s : State) (f : PlbSt → PlbSt) : (s.modPlb f).but = s.but := rfl
@[simp] theorem State.modPlb_dst (s : State) (f : PlbSt → PlbSt) : (s.modPlb f).dst = s.dst := rfl
@[simp] theorem State.modPlb_pln (s : State) (f : PlbSt → PlbSt) : (s.modPlb f).pln = s.pln := rfl
@[simp] theorem State.modPlb_masons (s : State) (f : PlbSt → PlbSt) : (s.modPlb f).masons = s.masons := rfl
@[simp] theorem State.modPlb_imgs (s : State) (f : PlbSt → PlbSt) : (s.modPlb f).imgs = s.imgs := rfl
@[simp] theorem State.modPlb_dbgOut (s : State) (f : PlbSt → PlbSt) : (s.modPlb f).dbgOut = s.dbgOut := rfl
@[simp] theorem State.modPlb_hods (s : State) (f : PlbSt → PlbSt) : (s.modPlb f).hods = s.hods := rfl
@[simp] theorem State.modPlb_popNext (s : State) (f : PlbSt → PlbSt) : (s.modPlb f).popNext = s.popNext := rfl
@[simp] theorem State.modPlb_hodOut (s : State) (f : PlbSt → PlbSt) : (s.modPlb f).hodOut = s.hodOut := rfl
@[simp] theorem State.modPlb_key (s : State) (f : PlbSt → PlbSt) : (s.modPlb f).key = s.key := rfl
@[simp] theorem State.modPlb_bnd (s : State) (f : PlbSt → PlbSt) : (s.modPlb f).bnd = s.bnd := rfl
@[simp] theorem State.modPlb_quo (s : State) (f : PlbSt → PlbSt) : (s.modPlb f).quo = s.quo := rfl
@[simp] theorem State.modPlb_pending (s : State) (f : PlbSt → PlbSt) : (s.modPlb f).pending = s.pending := rfl

/-! `modDst` changes `dst` alone. -/

@[simp] theorem State.modDst_build (s : State) (f : DstSt → DstSt) : (s.modDst f).build = s.build := rfl
@[simp] theorem State.modDst_pair (s : State) (f : DstSt → DstSt) : (s.modDst f).pair = s.pair := rfl
@[simp] theorem State.modDst_cold (s : State) (f : DstSt → DstSt) : (s.modDst f).cold = s.cold := rfl
@[simp] theorem State.modDst_warm (s : State) (f : DstSt → DstSt) : (s.modDst f).warm = s.warm := rfl
@[simp] theorem State.modDst_warmAt (s : State) (f : DstSt → DstSt) : (s.modDst f).warmAt = s.warmAt := rfl
@[simp] theorem State.modDst_warmSafe (s : State) (f : DstSt → DstSt) : (s.modDst f).warmSafe = s.warmSafe := rfl
@[simp] theorem State.modDst_fatal (s : State) (f : DstSt → DstSt) : (s.modDst f).fatal = s.fatal := rfl
@[simp] theorem State.modDst_straps (s : State) (f : DstSt → DstSt) : (s.modDst f).straps = s.straps := rfl
@[simp] theorem State.modDst_uptime (s : State) (f : DstSt → DstSt) : (s.modDst f).uptime = s.uptime := rfl
@[simp] theorem State.modDst_rclkLost (s : State) (f : DstSt → DstSt) : (s.modDst f).rclkLost = s.rclkLost := rfl
@[simp] theorem State.modDst_clkBad (s : State) (f : DstSt → DstSt) : (s.modDst f).clkBad = s.clkBad := rfl
@[simp] theorem State.modDst_regs (s : State) (f : DstSt → DstSt) : (s.modDst f).regs = s.regs := rfl
@[simp] theorem State.modDst_xregs (s : State) (f : DstSt → DstSt) : (s.modDst f).xregs = s.xregs := rfl
@[simp] theorem State.modDst_frozen (s : State) (f : DstSt → DstSt) : (s.modDst f).frozen = s.frozen := rfl
@[simp] theorem State.modDst_ports (s : State) (f : DstSt → DstSt) : (s.modDst f).ports = s.ports := rfl
@[simp] theorem State.modDst_reqs (s : State) (f : DstSt → DstSt) : (s.modDst f).reqs = s.reqs := rfl
@[simp] theorem State.modDst_xbar (s : State) (f : DstSt → DstSt) : (s.modDst f).xbar = s.xbar := rfl
@[simp] theorem State.modDst_nextRid (s : State) (f : DstSt → DstSt) : (s.modDst f).nextRid = s.nextRid := rfl
@[simp] theorem State.modDst_chans (s : State) (f : DstSt → DstSt) : (s.modDst f).chans = s.chans := rfl
@[simp] theorem State.modDst_dram (s : State) (f : DstSt → DstSt) : (s.modDst f).dram = s.dram := rfl
@[simp] theorem State.modDst_but (s : State) (f : DstSt → DstSt) : (s.modDst f).but = s.but := rfl
@[simp] theorem State.modDst_plb (s : State) (f : DstSt → DstSt) : (s.modDst f).plb = s.plb := rfl
@[simp] theorem State.modDst_pln (s : State) (f : DstSt → DstSt) : (s.modDst f).pln = s.pln := rfl
@[simp] theorem State.modDst_masons (s : State) (f : DstSt → DstSt) : (s.modDst f).masons = s.masons := rfl
@[simp] theorem State.modDst_imgs (s : State) (f : DstSt → DstSt) : (s.modDst f).imgs = s.imgs := rfl
@[simp] theorem State.modDst_dbgOut (s : State) (f : DstSt → DstSt) : (s.modDst f).dbgOut = s.dbgOut := rfl
@[simp] theorem State.modDst_hods (s : State) (f : DstSt → DstSt) : (s.modDst f).hods = s.hods := rfl
@[simp] theorem State.modDst_popNext (s : State) (f : DstSt → DstSt) : (s.modDst f).popNext = s.popNext := rfl
@[simp] theorem State.modDst_hodOut (s : State) (f : DstSt → DstSt) : (s.modDst f).hodOut = s.hodOut := rfl
@[simp] theorem State.modDst_key (s : State) (f : DstSt → DstSt) : (s.modDst f).key = s.key := rfl
@[simp] theorem State.modDst_bnd (s : State) (f : DstSt → DstSt) : (s.modDst f).bnd = s.bnd := rfl
@[simp] theorem State.modDst_quo (s : State) (f : DstSt → DstSt) : (s.modDst f).quo = s.quo := rfl
@[simp] theorem State.modDst_pending (s : State) (f : DstSt → DstSt) : (s.modDst f).pending = s.pending := rfl

/-! `modPln` changes `pln` alone. -/

@[simp] theorem State.modPln_build (s : State) (f : PlnSt → PlnSt) : (s.modPln f).build = s.build := rfl
@[simp] theorem State.modPln_pair (s : State) (f : PlnSt → PlnSt) : (s.modPln f).pair = s.pair := rfl
@[simp] theorem State.modPln_cold (s : State) (f : PlnSt → PlnSt) : (s.modPln f).cold = s.cold := rfl
@[simp] theorem State.modPln_warm (s : State) (f : PlnSt → PlnSt) : (s.modPln f).warm = s.warm := rfl
@[simp] theorem State.modPln_warmAt (s : State) (f : PlnSt → PlnSt) : (s.modPln f).warmAt = s.warmAt := rfl
@[simp] theorem State.modPln_warmSafe (s : State) (f : PlnSt → PlnSt) : (s.modPln f).warmSafe = s.warmSafe := rfl
@[simp] theorem State.modPln_fatal (s : State) (f : PlnSt → PlnSt) : (s.modPln f).fatal = s.fatal := rfl
@[simp] theorem State.modPln_straps (s : State) (f : PlnSt → PlnSt) : (s.modPln f).straps = s.straps := rfl
@[simp] theorem State.modPln_uptime (s : State) (f : PlnSt → PlnSt) : (s.modPln f).uptime = s.uptime := rfl
@[simp] theorem State.modPln_rclkLost (s : State) (f : PlnSt → PlnSt) : (s.modPln f).rclkLost = s.rclkLost := rfl
@[simp] theorem State.modPln_clkBad (s : State) (f : PlnSt → PlnSt) : (s.modPln f).clkBad = s.clkBad := rfl
@[simp] theorem State.modPln_regs (s : State) (f : PlnSt → PlnSt) : (s.modPln f).regs = s.regs := rfl
@[simp] theorem State.modPln_xregs (s : State) (f : PlnSt → PlnSt) : (s.modPln f).xregs = s.xregs := rfl
@[simp] theorem State.modPln_frozen (s : State) (f : PlnSt → PlnSt) : (s.modPln f).frozen = s.frozen := rfl
@[simp] theorem State.modPln_ports (s : State) (f : PlnSt → PlnSt) : (s.modPln f).ports = s.ports := rfl
@[simp] theorem State.modPln_reqs (s : State) (f : PlnSt → PlnSt) : (s.modPln f).reqs = s.reqs := rfl
@[simp] theorem State.modPln_xbar (s : State) (f : PlnSt → PlnSt) : (s.modPln f).xbar = s.xbar := rfl
@[simp] theorem State.modPln_nextRid (s : State) (f : PlnSt → PlnSt) : (s.modPln f).nextRid = s.nextRid := rfl
@[simp] theorem State.modPln_chans (s : State) (f : PlnSt → PlnSt) : (s.modPln f).chans = s.chans := rfl
@[simp] theorem State.modPln_dram (s : State) (f : PlnSt → PlnSt) : (s.modPln f).dram = s.dram := rfl
@[simp] theorem State.modPln_but (s : State) (f : PlnSt → PlnSt) : (s.modPln f).but = s.but := rfl
@[simp] theorem State.modPln_plb (s : State) (f : PlnSt → PlnSt) : (s.modPln f).plb = s.plb := rfl
@[simp] theorem State.modPln_dst (s : State) (f : PlnSt → PlnSt) : (s.modPln f).dst = s.dst := rfl
@[simp] theorem State.modPln_masons (s : State) (f : PlnSt → PlnSt) : (s.modPln f).masons = s.masons := rfl
@[simp] theorem State.modPln_imgs (s : State) (f : PlnSt → PlnSt) : (s.modPln f).imgs = s.imgs := rfl
@[simp] theorem State.modPln_dbgOut (s : State) (f : PlnSt → PlnSt) : (s.modPln f).dbgOut = s.dbgOut := rfl
@[simp] theorem State.modPln_hods (s : State) (f : PlnSt → PlnSt) : (s.modPln f).hods = s.hods := rfl
@[simp] theorem State.modPln_popNext (s : State) (f : PlnSt → PlnSt) : (s.modPln f).popNext = s.popNext := rfl
@[simp] theorem State.modPln_hodOut (s : State) (f : PlnSt → PlnSt) : (s.modPln f).hodOut = s.hodOut := rfl
@[simp] theorem State.modPln_key (s : State) (f : PlnSt → PlnSt) : (s.modPln f).key = s.key := rfl
@[simp] theorem State.modPln_bnd (s : State) (f : PlnSt → PlnSt) : (s.modPln f).bnd = s.bnd := rfl
@[simp] theorem State.modPln_quo (s : State) (f : PlnSt → PlnSt) : (s.modPln f).quo = s.quo := rfl
@[simp] theorem State.modPln_pending (s : State) (f : PlnSt → PlnSt) : (s.modPln f).pending = s.pending := rfl

/-! `modBnd` changes `bnd` alone. -/

@[simp] theorem State.modBnd_build (s : State) (f : BndSt → BndSt) : (s.modBnd f).build = s.build := rfl
@[simp] theorem State.modBnd_pair (s : State) (f : BndSt → BndSt) : (s.modBnd f).pair = s.pair := rfl
@[simp] theorem State.modBnd_cold (s : State) (f : BndSt → BndSt) : (s.modBnd f).cold = s.cold := rfl
@[simp] theorem State.modBnd_warm (s : State) (f : BndSt → BndSt) : (s.modBnd f).warm = s.warm := rfl
@[simp] theorem State.modBnd_warmAt (s : State) (f : BndSt → BndSt) : (s.modBnd f).warmAt = s.warmAt := rfl
@[simp] theorem State.modBnd_warmSafe (s : State) (f : BndSt → BndSt) : (s.modBnd f).warmSafe = s.warmSafe := rfl
@[simp] theorem State.modBnd_fatal (s : State) (f : BndSt → BndSt) : (s.modBnd f).fatal = s.fatal := rfl
@[simp] theorem State.modBnd_straps (s : State) (f : BndSt → BndSt) : (s.modBnd f).straps = s.straps := rfl
@[simp] theorem State.modBnd_uptime (s : State) (f : BndSt → BndSt) : (s.modBnd f).uptime = s.uptime := rfl
@[simp] theorem State.modBnd_rclkLost (s : State) (f : BndSt → BndSt) : (s.modBnd f).rclkLost = s.rclkLost := rfl
@[simp] theorem State.modBnd_clkBad (s : State) (f : BndSt → BndSt) : (s.modBnd f).clkBad = s.clkBad := rfl
@[simp] theorem State.modBnd_regs (s : State) (f : BndSt → BndSt) : (s.modBnd f).regs = s.regs := rfl
@[simp] theorem State.modBnd_xregs (s : State) (f : BndSt → BndSt) : (s.modBnd f).xregs = s.xregs := rfl
@[simp] theorem State.modBnd_frozen (s : State) (f : BndSt → BndSt) : (s.modBnd f).frozen = s.frozen := rfl
@[simp] theorem State.modBnd_ports (s : State) (f : BndSt → BndSt) : (s.modBnd f).ports = s.ports := rfl
@[simp] theorem State.modBnd_reqs (s : State) (f : BndSt → BndSt) : (s.modBnd f).reqs = s.reqs := rfl
@[simp] theorem State.modBnd_xbar (s : State) (f : BndSt → BndSt) : (s.modBnd f).xbar = s.xbar := rfl
@[simp] theorem State.modBnd_nextRid (s : State) (f : BndSt → BndSt) : (s.modBnd f).nextRid = s.nextRid := rfl
@[simp] theorem State.modBnd_chans (s : State) (f : BndSt → BndSt) : (s.modBnd f).chans = s.chans := rfl
@[simp] theorem State.modBnd_dram (s : State) (f : BndSt → BndSt) : (s.modBnd f).dram = s.dram := rfl
@[simp] theorem State.modBnd_but (s : State) (f : BndSt → BndSt) : (s.modBnd f).but = s.but := rfl
@[simp] theorem State.modBnd_plb (s : State) (f : BndSt → BndSt) : (s.modBnd f).plb = s.plb := rfl
@[simp] theorem State.modBnd_dst (s : State) (f : BndSt → BndSt) : (s.modBnd f).dst = s.dst := rfl
@[simp] theorem State.modBnd_pln (s : State) (f : BndSt → BndSt) : (s.modBnd f).pln = s.pln := rfl
@[simp] theorem State.modBnd_masons (s : State) (f : BndSt → BndSt) : (s.modBnd f).masons = s.masons := rfl
@[simp] theorem State.modBnd_imgs (s : State) (f : BndSt → BndSt) : (s.modBnd f).imgs = s.imgs := rfl
@[simp] theorem State.modBnd_dbgOut (s : State) (f : BndSt → BndSt) : (s.modBnd f).dbgOut = s.dbgOut := rfl
@[simp] theorem State.modBnd_hods (s : State) (f : BndSt → BndSt) : (s.modBnd f).hods = s.hods := rfl
@[simp] theorem State.modBnd_popNext (s : State) (f : BndSt → BndSt) : (s.modBnd f).popNext = s.popNext := rfl
@[simp] theorem State.modBnd_hodOut (s : State) (f : BndSt → BndSt) : (s.modBnd f).hodOut = s.hodOut := rfl
@[simp] theorem State.modBnd_key (s : State) (f : BndSt → BndSt) : (s.modBnd f).key = s.key := rfl
@[simp] theorem State.modBnd_quo (s : State) (f : BndSt → BndSt) : (s.modBnd f).quo = s.quo := rfl
@[simp] theorem State.modBnd_pending (s : State) (f : BndSt → BndSt) : (s.modBnd f).pending = s.pending := rfl

/-! `modQuo` changes `quo` alone. -/

@[simp] theorem State.modQuo_build (s : State) (f : QuoSt → QuoSt) : (s.modQuo f).build = s.build := rfl
@[simp] theorem State.modQuo_pair (s : State) (f : QuoSt → QuoSt) : (s.modQuo f).pair = s.pair := rfl
@[simp] theorem State.modQuo_cold (s : State) (f : QuoSt → QuoSt) : (s.modQuo f).cold = s.cold := rfl
@[simp] theorem State.modQuo_warm (s : State) (f : QuoSt → QuoSt) : (s.modQuo f).warm = s.warm := rfl
@[simp] theorem State.modQuo_warmAt (s : State) (f : QuoSt → QuoSt) : (s.modQuo f).warmAt = s.warmAt := rfl
@[simp] theorem State.modQuo_warmSafe (s : State) (f : QuoSt → QuoSt) : (s.modQuo f).warmSafe = s.warmSafe := rfl
@[simp] theorem State.modQuo_fatal (s : State) (f : QuoSt → QuoSt) : (s.modQuo f).fatal = s.fatal := rfl
@[simp] theorem State.modQuo_straps (s : State) (f : QuoSt → QuoSt) : (s.modQuo f).straps = s.straps := rfl
@[simp] theorem State.modQuo_uptime (s : State) (f : QuoSt → QuoSt) : (s.modQuo f).uptime = s.uptime := rfl
@[simp] theorem State.modQuo_rclkLost (s : State) (f : QuoSt → QuoSt) : (s.modQuo f).rclkLost = s.rclkLost := rfl
@[simp] theorem State.modQuo_clkBad (s : State) (f : QuoSt → QuoSt) : (s.modQuo f).clkBad = s.clkBad := rfl
@[simp] theorem State.modQuo_regs (s : State) (f : QuoSt → QuoSt) : (s.modQuo f).regs = s.regs := rfl
@[simp] theorem State.modQuo_xregs (s : State) (f : QuoSt → QuoSt) : (s.modQuo f).xregs = s.xregs := rfl
@[simp] theorem State.modQuo_frozen (s : State) (f : QuoSt → QuoSt) : (s.modQuo f).frozen = s.frozen := rfl
@[simp] theorem State.modQuo_ports (s : State) (f : QuoSt → QuoSt) : (s.modQuo f).ports = s.ports := rfl
@[simp] theorem State.modQuo_reqs (s : State) (f : QuoSt → QuoSt) : (s.modQuo f).reqs = s.reqs := rfl
@[simp] theorem State.modQuo_xbar (s : State) (f : QuoSt → QuoSt) : (s.modQuo f).xbar = s.xbar := rfl
@[simp] theorem State.modQuo_nextRid (s : State) (f : QuoSt → QuoSt) : (s.modQuo f).nextRid = s.nextRid := rfl
@[simp] theorem State.modQuo_chans (s : State) (f : QuoSt → QuoSt) : (s.modQuo f).chans = s.chans := rfl
@[simp] theorem State.modQuo_dram (s : State) (f : QuoSt → QuoSt) : (s.modQuo f).dram = s.dram := rfl
@[simp] theorem State.modQuo_but (s : State) (f : QuoSt → QuoSt) : (s.modQuo f).but = s.but := rfl
@[simp] theorem State.modQuo_plb (s : State) (f : QuoSt → QuoSt) : (s.modQuo f).plb = s.plb := rfl
@[simp] theorem State.modQuo_dst (s : State) (f : QuoSt → QuoSt) : (s.modQuo f).dst = s.dst := rfl
@[simp] theorem State.modQuo_pln (s : State) (f : QuoSt → QuoSt) : (s.modQuo f).pln = s.pln := rfl
@[simp] theorem State.modQuo_masons (s : State) (f : QuoSt → QuoSt) : (s.modQuo f).masons = s.masons := rfl
@[simp] theorem State.modQuo_imgs (s : State) (f : QuoSt → QuoSt) : (s.modQuo f).imgs = s.imgs := rfl
@[simp] theorem State.modQuo_dbgOut (s : State) (f : QuoSt → QuoSt) : (s.modQuo f).dbgOut = s.dbgOut := rfl
@[simp] theorem State.modQuo_hods (s : State) (f : QuoSt → QuoSt) : (s.modQuo f).hods = s.hods := rfl
@[simp] theorem State.modQuo_popNext (s : State) (f : QuoSt → QuoSt) : (s.modQuo f).popNext = s.popNext := rfl
@[simp] theorem State.modQuo_hodOut (s : State) (f : QuoSt → QuoSt) : (s.modQuo f).hodOut = s.hodOut := rfl
@[simp] theorem State.modQuo_key (s : State) (f : QuoSt → QuoSt) : (s.modQuo f).key = s.key := rfl
@[simp] theorem State.modQuo_bnd (s : State) (f : QuoSt → QuoSt) : (s.modQuo f).bnd = s.bnd := rfl
@[simp] theorem State.modQuo_pending (s : State) (f : QuoSt → QuoSt) : (s.modQuo f).pending = s.pending := rfl

@[simp] theorem State.modBut_but (s : State) (f : ButSt → ButSt) : (s.modBut f).but = f s.but := rfl
@[simp] theorem State.modPlb_plb (s : State) (f : PlbSt → PlbSt) : (s.modPlb f).plb = f s.plb := rfl
@[simp] theorem State.modDst_dst (s : State) (f : DstSt → DstSt) : (s.modDst f).dst = f s.dst := rfl
@[simp] theorem State.modPln_pln (s : State) (f : PlnSt → PlnSt) : (s.modPln f).pln = f s.pln := rfl
@[simp] theorem State.modBnd_bnd (s : State) (f : BndSt → BndSt) : (s.modBnd f).bnd = f s.bnd := rfl
@[simp] theorem State.modQuo_quo (s : State) (f : QuoSt → QuoSt) : (s.modQuo f).quo = f s.quo := rfl

/-! Units. -/

@[simp] theorem State.setPort_port (s : State) (n k : Nat) (x : PortSt) :
    (s.setPort n x).port k = if k = n then x else s.port k := by
  simp [State.setPort, State.port]

@[simp] theorem State.setChan_port (s : State) (c : Nat) (x : Chan) (z : Nat) : (s.setChan c x).port z = s.port z := rfl
@[simp] theorem State.modChan_port (s : State) (c : Nat) (f : Chan → Chan) (z : Nat) : (s.modChan c f).port z = s.port z := rfl
@[simp] theorem State.setMason_port (s : State) (m : Nat) (x : Mason) (z : Nat) : (s.setMason m x).port z = s.port z := rfl
@[simp] theorem State.modMason_port (s : State) (m : Nat) (f : Mason → Mason) (z : Nat) : (s.modMason m f).port z = s.port z := rfl
@[simp] theorem State.setHod_port (s : State) (h : Nat) (x : Hod) (z : Nat) : (s.setHod h x).port z = s.port z := rfl
@[simp] theorem State.modReq_port (s : State) (rid : Nat) (f : Req → Req) (z : Nat) : (s.modReq rid f).port z = s.port z := rfl
@[simp] theorem State.dropReq_port (s : State) (rid : Nat) (z : Nat) : (s.dropReq rid).port z = s.port z := rfl
@[simp] theorem State.setF_port (s : State) (f : Field) (i j k v : Nat) (z : Nat) : (s.setF f i j k v).port z = s.port z := rfl
@[simp] theorem State.setX_port (s : State) (f : Field) (i j k v : Nat) (z : Nat) : (s.setX f i j k v).port z = s.port z := rfl
@[simp] theorem State.modBut_port (s : State) (f : ButSt → ButSt) (z : Nat) : (s.modBut f).port z = s.port z := rfl
@[simp] theorem State.modPlb_port (s : State) (f : PlbSt → PlbSt) (z : Nat) : (s.modPlb f).port z = s.port z := rfl
@[simp] theorem State.modDst_port (s : State) (f : DstSt → DstSt) (z : Nat) : (s.modDst f).port z = s.port z := rfl
@[simp] theorem State.modPln_port (s : State) (f : PlnSt → PlnSt) (z : Nat) : (s.modPln f).port z = s.port z := rfl
@[simp] theorem State.modBnd_port (s : State) (f : BndSt → BndSt) (z : Nat) : (s.modBnd f).port z = s.port z := rfl
@[simp] theorem State.modQuo_port (s : State) (f : QuoSt → QuoSt) (z : Nat) : (s.modQuo f).port z = s.port z := rfl

@[simp] theorem State.setChan_chan (s : State) (n k : Nat) (x : Chan) :
    (s.setChan n x).chan k = if k = n then x else s.chan k := by
  simp [State.setChan, State.chan]

@[simp] theorem State.setPort_chan (s : State) (n : Nat) (p : PortSt) (z : Nat) : (s.setPort n p).chan z = s.chan z := rfl
@[simp] theorem State.setMason_chan (s : State) (m : Nat) (x : Mason) (z : Nat) : (s.setMason m x).chan z = s.chan z := rfl
@[simp] theorem State.modMason_chan (s : State) (m : Nat) (f : Mason → Mason) (z : Nat) : (s.modMason m f).chan z = s.chan z := rfl
@[simp] theorem State.setHod_chan (s : State) (h : Nat) (x : Hod) (z : Nat) : (s.setHod h x).chan z = s.chan z := rfl
@[simp] theorem State.modReq_chan (s : State) (rid : Nat) (f : Req → Req) (z : Nat) : (s.modReq rid f).chan z = s.chan z := rfl
@[simp] theorem State.dropReq_chan (s : State) (rid : Nat) (z : Nat) : (s.dropReq rid).chan z = s.chan z := rfl
@[simp] theorem State.setF_chan (s : State) (f : Field) (i j k v : Nat) (z : Nat) : (s.setF f i j k v).chan z = s.chan z := rfl
@[simp] theorem State.setX_chan (s : State) (f : Field) (i j k v : Nat) (z : Nat) : (s.setX f i j k v).chan z = s.chan z := rfl
@[simp] theorem State.modBut_chan (s : State) (f : ButSt → ButSt) (z : Nat) : (s.modBut f).chan z = s.chan z := rfl
@[simp] theorem State.modPlb_chan (s : State) (f : PlbSt → PlbSt) (z : Nat) : (s.modPlb f).chan z = s.chan z := rfl
@[simp] theorem State.modDst_chan (s : State) (f : DstSt → DstSt) (z : Nat) : (s.modDst f).chan z = s.chan z := rfl
@[simp] theorem State.modPln_chan (s : State) (f : PlnSt → PlnSt) (z : Nat) : (s.modPln f).chan z = s.chan z := rfl
@[simp] theorem State.modBnd_chan (s : State) (f : BndSt → BndSt) (z : Nat) : (s.modBnd f).chan z = s.chan z := rfl
@[simp] theorem State.modQuo_chan (s : State) (f : QuoSt → QuoSt) (z : Nat) : (s.modQuo f).chan z = s.chan z := rfl

@[simp] theorem State.setMason_mason (s : State) (n k : Nat) (x : Mason) :
    (s.setMason n x).mason k = if k = n then x else s.mason k := by
  simp [State.setMason, State.mason]

@[simp] theorem State.setPort_mason (s : State) (n : Nat) (p : PortSt) (z : Nat) : (s.setPort n p).mason z = s.mason z := rfl
@[simp] theorem State.setChan_mason (s : State) (c : Nat) (x : Chan) (z : Nat) : (s.setChan c x).mason z = s.mason z := rfl
@[simp] theorem State.modChan_mason (s : State) (c : Nat) (f : Chan → Chan) (z : Nat) : (s.modChan c f).mason z = s.mason z := rfl
@[simp] theorem State.setHod_mason (s : State) (h : Nat) (x : Hod) (z : Nat) : (s.setHod h x).mason z = s.mason z := rfl
@[simp] theorem State.modReq_mason (s : State) (rid : Nat) (f : Req → Req) (z : Nat) : (s.modReq rid f).mason z = s.mason z := rfl
@[simp] theorem State.dropReq_mason (s : State) (rid : Nat) (z : Nat) : (s.dropReq rid).mason z = s.mason z := rfl
@[simp] theorem State.setF_mason (s : State) (f : Field) (i j k v : Nat) (z : Nat) : (s.setF f i j k v).mason z = s.mason z := rfl
@[simp] theorem State.setX_mason (s : State) (f : Field) (i j k v : Nat) (z : Nat) : (s.setX f i j k v).mason z = s.mason z := rfl
@[simp] theorem State.modBut_mason (s : State) (f : ButSt → ButSt) (z : Nat) : (s.modBut f).mason z = s.mason z := rfl
@[simp] theorem State.modPlb_mason (s : State) (f : PlbSt → PlbSt) (z : Nat) : (s.modPlb f).mason z = s.mason z := rfl
@[simp] theorem State.modDst_mason (s : State) (f : DstSt → DstSt) (z : Nat) : (s.modDst f).mason z = s.mason z := rfl
@[simp] theorem State.modPln_mason (s : State) (f : PlnSt → PlnSt) (z : Nat) : (s.modPln f).mason z = s.mason z := rfl
@[simp] theorem State.modBnd_mason (s : State) (f : BndSt → BndSt) (z : Nat) : (s.modBnd f).mason z = s.mason z := rfl
@[simp] theorem State.modQuo_mason (s : State) (f : QuoSt → QuoSt) (z : Nat) : (s.modQuo f).mason z = s.mason z := rfl

@[simp] theorem State.setHod_hod (s : State) (n k : Nat) (x : Hod) :
    (s.setHod n x).hod k = if k = n then x else s.hod k := by
  simp [State.setHod, State.hod]

@[simp] theorem State.setPort_hod (s : State) (n : Nat) (p : PortSt) (z : Nat) : (s.setPort n p).hod z = s.hod z := rfl
@[simp] theorem State.setChan_hod (s : State) (c : Nat) (x : Chan) (z : Nat) : (s.setChan c x).hod z = s.hod z := rfl
@[simp] theorem State.modChan_hod (s : State) (c : Nat) (f : Chan → Chan) (z : Nat) : (s.modChan c f).hod z = s.hod z := rfl
@[simp] theorem State.setMason_hod (s : State) (m : Nat) (x : Mason) (z : Nat) : (s.setMason m x).hod z = s.hod z := rfl
@[simp] theorem State.modMason_hod (s : State) (m : Nat) (f : Mason → Mason) (z : Nat) : (s.modMason m f).hod z = s.hod z := rfl
@[simp] theorem State.modReq_hod (s : State) (rid : Nat) (f : Req → Req) (z : Nat) : (s.modReq rid f).hod z = s.hod z := rfl
@[simp] theorem State.dropReq_hod (s : State) (rid : Nat) (z : Nat) : (s.dropReq rid).hod z = s.hod z := rfl
@[simp] theorem State.setF_hod (s : State) (f : Field) (i j k v : Nat) (z : Nat) : (s.setF f i j k v).hod z = s.hod z := rfl
@[simp] theorem State.setX_hod (s : State) (f : Field) (i j k v : Nat) (z : Nat) : (s.setX f i j k v).hod z = s.hod z := rfl
@[simp] theorem State.modBut_hod (s : State) (f : ButSt → ButSt) (z : Nat) : (s.modBut f).hod z = s.hod z := rfl
@[simp] theorem State.modPlb_hod (s : State) (f : PlbSt → PlbSt) (z : Nat) : (s.modPlb f).hod z = s.hod z := rfl
@[simp] theorem State.modDst_hod (s : State) (f : DstSt → DstSt) (z : Nat) : (s.modDst f).hod z = s.hod z := rfl
@[simp] theorem State.modPln_hod (s : State) (f : PlnSt → PlnSt) (z : Nat) : (s.modPln f).hod z = s.hod z := rfl
@[simp] theorem State.modBnd_hod (s : State) (f : BndSt → BndSt) (z : Nat) : (s.modBnd f).hod z = s.hod z := rfl
@[simp] theorem State.modQuo_hod (s : State) (f : QuoSt → QuoSt) (z : Nat) : (s.modQuo f).hod z = s.hod z := rfl

@[simp] theorem State.modChan_chan (s : State) (n k : Nat) (f : Chan → Chan) :
    (s.modChan n f).chan k = if k = n then f (s.chan n) else s.chan k := by
  simp [State.modChan]

@[simp] theorem State.modMason_mason (s : State) (n k : Nat) (f : Mason → Mason) :
    (s.modMason n f).mason k = if k = n then f (s.mason n) else s.mason k := by
  simp [State.modMason]

/-! Register fields. -/

/-- A field's own value after a write, cut to its width. -/
@[simp] theorem State.setF_rawF_self (s : State) (f : Field) (i j k v : Nat) :
    (s.setF f i j k v).rawF f i j k = v % 2 ^ f.width := by
  simp [State.setF, State.rawF]

/-- A field under another key keeps its value. -/
theorem State.setF_rawF_of_ne (s : State) (f g : Field) (i j k i' j' k' v : Nat) (h : g.key i' j' k' ≠ f.key i j k) :
    (s.setF f i j k v).rawF g i' j' k' = s.rawF g i' j' k' := by
  unfold State.rawF State.setF Tbl.get Tbl.set
  dsimp only
  split
  · simp [h]
  · rw [Tbl.find_ins _ _ _ _ (by simp)]; simp [h]

/-- Every other entry of the register file stands after a write. -/
theorem State.setF_regs_find (s : State) (f : Field) (i j k v key : Nat) (h : key ≠ f.key i j k) :
    Tbl.find (s.setF f i j k v).regs key = Tbl.find s.regs key := by
  unfold State.setF Tbl.set
  dsimp only
  split
  · simp [h]
  · rw [Tbl.find_ins _ _ _ _ (by simp)]; simp [h]

@[simp] theorem State.setPort_rawF (s : State) (n : Nat) (p : PortSt) (z : Field) (a b d : Nat) :
    (s.setPort n p).rawF z a b d = s.rawF z a b d := rfl
@[simp] theorem State.setChan_rawF (s : State) (c : Nat) (x : Chan) (z : Field) (a b d : Nat) :
    (s.setChan c x).rawF z a b d = s.rawF z a b d := rfl
@[simp] theorem State.modChan_rawF (s : State) (c : Nat) (f : Chan → Chan) (z : Field) (a b d : Nat) :
    (s.modChan c f).rawF z a b d = s.rawF z a b d := rfl
@[simp] theorem State.setMason_rawF (s : State) (m : Nat) (x : Mason) (z : Field) (a b d : Nat) :
    (s.setMason m x).rawF z a b d = s.rawF z a b d := rfl
@[simp] theorem State.modMason_rawF (s : State) (m : Nat) (f : Mason → Mason) (z : Field) (a b d : Nat) :
    (s.modMason m f).rawF z a b d = s.rawF z a b d := rfl
@[simp] theorem State.setHod_rawF (s : State) (h : Nat) (x : Hod) (z : Field) (a b d : Nat) :
    (s.setHod h x).rawF z a b d = s.rawF z a b d := rfl
@[simp] theorem State.modReq_rawF (s : State) (rid : Nat) (f : Req → Req) (z : Field) (a b d : Nat) :
    (s.modReq rid f).rawF z a b d = s.rawF z a b d := rfl
@[simp] theorem State.dropReq_rawF (s : State) (rid : Nat) (z : Field) (a b d : Nat) :
    (s.dropReq rid).rawF z a b d = s.rawF z a b d := rfl
@[simp] theorem State.setX_rawF (s : State) (f : Field) (i j k v : Nat) (z : Field) (a b d : Nat) :
    (s.setX f i j k v).rawF z a b d = s.rawF z a b d := rfl
@[simp] theorem State.modBut_rawF (s : State) (f : ButSt → ButSt) (z : Field) (a b d : Nat) :
    (s.modBut f).rawF z a b d = s.rawF z a b d := rfl
@[simp] theorem State.modPlb_rawF (s : State) (f : PlbSt → PlbSt) (z : Field) (a b d : Nat) :
    (s.modPlb f).rawF z a b d = s.rawF z a b d := rfl
@[simp] theorem State.modDst_rawF (s : State) (f : DstSt → DstSt) (z : Field) (a b d : Nat) :
    (s.modDst f).rawF z a b d = s.rawF z a b d := rfl
@[simp] theorem State.modPln_rawF (s : State) (f : PlnSt → PlnSt) (z : Field) (a b d : Nat) :
    (s.modPln f).rawF z a b d = s.rawF z a b d := rfl
@[simp] theorem State.modBnd_rawF (s : State) (f : BndSt → BndSt) (z : Field) (a b d : Nat) :
    (s.modBnd f).rawF z a b d = s.rawF z a b d := rfl
@[simp] theorem State.modQuo_rawF (s : State) (f : QuoSt → QuoSt) (z : Field) (a b d : Nat) :
    (s.modQuo f).rawF z a b d = s.rawF z a b d := rfl

end Sys2Proof.Machine
end

