-- ==== Sys2Proof/Tests/Slice0.lean ====
section
/-! SUPPORT. Tests: small states and commands, an ill-formed command for every check of `wellFormed`, the worked
examples of the spec, and, for every statement with hypotheses, a state and operands that meet them. -/

open Sys2Proof.Machine

namespace Sys2Proof.Tests

set_option Elab.async false
set_option autoImplicit false

/-- The macro out of cold reset on node 5, 10 ms after it, Memory Space Enable set. -/
def out : State := { State.reset with
  cold := false, straps := { strapsNone with node := 5 }, uptime := 10000000,
  quo := { State.reset.quo with cfg := [(1, 0x100002)] } }

/-- Register fields put at values: field, first instance index, value. -/
def fields (s : State) (l : List (Field × Nat × Nat)) : State :=
  l.foldl (fun t e => t.setF e.1 e.2.1 0 0 e.2.2) s

/-- The global address of node 5's first byte. -/
def home : Nat := 5 * 2 ^ 46

/-- Channel 1 trained and live, with region 0 on it alone from `home`, one planar rank. -/
def trained : State := fields out [(TIM_STATUS_LIVE, 1, 1), (SCR_STATUS_STATE, 1, 2), (MAP_GEOM_VALID, 1, 1),
  (MAP_RGN_BASE_BASE, 0, home / 2 ^ 21), (MAP_RGN_LIMIT_LIMIT, 0, home / 2 ^ 21 + 15), (MAP_RGN_CTL_CH_MASK, 0, 2),
  (MAP_RGN_CTL_VALID, 0, 1), (PNT_STATUS_LPSTATE, 1, 0)]

/-- Mason 3 about to execute `w` at PC 7, with values in s1, s2 and s3. -/
def masonAt (w : Nat) : Mason := { Mason.init with
  st := 1, pc := 7, istore := [(7, BitVec.ofNat 32 w)], regs := [(1, 0x8000000000000005), (2, 64), (3, 70000)] }

/-- That Mason in the macro. -/
def engine (w : Nat) : State := out.setMason 3 (masonAt w)

/-- That Mason with `home` in s1 and channel 1 live. -/
def memEngine (w : Nat) : State := trained.setMason 3 { masonAt w with
  regs := [(1, BitVec.ofNat 64 home), (2, 64), (3, 70000)] }

/-- `engine` with line register 5 marked. -/
def marked (w : Nat) : State := (engine w).modMason 3 (fun x => x.setLine 5 ⟨7, true, 640⟩)

/-- `engine` in task mode. -/
def task (w : Nat) : State := (engine w).modMason 3 (fun x => { x with handler := false })

/-- `engine` in a trap handler that a trap interrupted. -/
def nested (w : Nat) : State := (engine w).modMason 3 (fun x => { x with nested := true })

/-- Mason 3 about to execute `w` with `v` in s1, `n` in s2, and the macro changed by `f`. -/
def engineOn (w v n : Nat) (f : State → State) : State := (f (engine w)).modMason 3 (fun x =>
  (x.setReg 1 (BitVec.ofNat 64 v)).setReg 2 (BitVec.ofNat 64 n))

/-- A command that completes in any state. -/
abbrev derating : Instr := .derateSet 700 700

/-- The command completes there. -/
def nexts (c : Instr) (s : State) : Prop := ∃ t, exec c s = .next t

theorem nexts_of {c : Instr} {s : State} (h : (match exec c s with | .next _ => true | _ => false) = true) : nexts c s := by
  unfold nexts; revert h; cases exec c s <;> simp

/-- A read of Mason 3 in the core, outstanding as request 1. -/
def reading (s : State) : State := { (s.modMason 3 (fun x => { x with
    outs := [⟨1, .load, [1], false, .none, 0, home, home, 0, false, [], [], none, [], false, false, false⟩] })) with
  reqs := [s.masReq 3 1 true .rdLine 0 home false], nextRid := 2 }

/-- `trained` with channel 1 out of its boot: DIMMs of one rank, a table in force in which every row is short. -/
def live : State := trained.modChan 1 (fun x => { x with
  tim := { x.tim with tabI := List.replicate 47 8, tabC := List.replicate 47 8 },
  pnt := { x.pnt with nextTick := [(0, 100000), (4, 100000)] },
  dimm := { Dimm.init with prac := true, rfm := true, sameBank := true } })

/-- A command of channel 1 at cycle 20000 to bank 0 of rank 0 on subchannel A. -/
def slot0 : Cmd := ⟨1, 20000, 0, 0, 0, 0, 0, 0, none, false, []⟩

/-- The line of `home`. -/
def line0 : LineJob := ⟨home, ⟨0, 0, 0, 0, 0, 0⟩, .fresh, none, false, 0⟩

/-- Request 1 queued in channel 1: Mason 3 reads or writes the line of `home`. -/
def asking (op : Op) (s : State) : State := { s with nextRid := 2, reqs := [{ s.masReq 3 1 true op 0 home false with
  dest := .local 1, part := some 1, stage := .queued, colour := .green, queue := 4, inStore := op.dataBearing,
  data := if op.dataBearing then some 0 else none,
  lines := [{ line0 with wdata := if op.dataBearing then some 0 else none }] }] }

/-- Bank 0 of channel 1 open at `row`, with predictor `p`. -/
def opened (row p : Nat) (s : State) : State := s.modChan 1 (fun x => { x with tim := { x.tim with
  banks := [(0, ⟨some row, some row, p, 100⟩)], chkOpen := [(0, row)] } })

/-- Header port 2 of `s` in state `st`, its clock good, with credits. -/
def porting (st : Nat) (s : State) : State := s.setPort 2 { PortSt.init with
  st := st, reqCredits := 64, wdCredits := 8, clkOk := true }

/-- A slot 0 of port 2 with tag 9. -/
def preq (size addr : Nat) : PReq := ⟨2, 0, false, size, addr, 9, 5, 6, 1, false, 0, 0, false, false⟩

/-- Request 1 of port 2 with tag 9, at `home`. -/
def portReq (op : Op) : Req := { Req.blank 1 (.port 2) op with addr := home, tag := 9 }

/-- `s` holding the request `r`. -/
def holding (r : Req) (s : State) : State := { s with reqs := [r], nextRid := 2 }

/-- Port 2 awaiting the data of request 1. -/
def awaiting (s : State) : State := holding (portReq .wrLine) (s.setPort 2 { s.port 2 with awaits := [⟨1, 9, 0, 0, false⟩] })

/-- A write of all 64 bits. -/
def w64 (v : Nat) : RegW := ⟨BitVec.ofNat 64 v, true, true⟩

/-- A read of port 2 that holds an entry of channel 1 and may enter its Setter. -/
def entering : Req := { portReq .rdLine with part := some 1, stage := .held, dest := .local 1, lines := [line0] }

/-- A store of record (1, 0) whose header is being written. -/
def storing : State := { out with pln := { PlnSt.init with stores := [⟨1, 0, [], 0, 0⟩], row := some 0 } }

/-- A RAW_WRITE of platform row 4 under way. -/
def rawWriting : State := { out with pln := { PlnSt.init with cmd := some ⟨2, 0, 4, 0, true⟩ } }

/-- `s` with the expert bit of function `fn` set. -/
def expertAt (fn : Nat) (s : State) : State := fields s [(BLK_EXPERT_EN_EN, 0, 2 ^ fn)]

/-- Bus Master and Memory Space Enable set. -/
def mastering (s : State) : State := { s with quo := { s.quo with cfg := [(1, 0x100006)] } }

/-- Lock slot 9 held by `owner` on 4 lines from `home`. -/
def heldBy (owner : Nat) (s : State) : State :=
  { s with key := { s.key with slots := [(9, ⟨false, home / 64, 4, 0, owner, 0, false⟩)] } }

/-- `live` with the maintenance path of channel 1 held by Pointing. -/
def pathed : State := live.setHolder 1 (some 206)

/-- A read of `bytes` as a training image for operation `op`, all of it arrived. -/
def reading0 (op len : Nat) : ImgOp := ⟨op, 0, len, 0, 0, none⟩

/-- Bond ON, port A's link up with credits, node 9 an UP neighbour there with its route, and node 9's LSA stored. -/
def bonded : State := { fields out [(BND_CTRL_PROFILE, 0, 1)] with bnd := { BndSt.init with
  nonce := 77, link := [0], txCred := [(0, 8), (8, 8), (1, 8), (9, 8)], nbr := [(9, ⟨true, 4, 9000000⟩)],
  lsa := [(9, ⟨4, 6, 0, 0, 9000000⟩)], routes := [(9, ⟨0, 9, 1⟩), (11, ⟨0, 9, 2⟩)] } }

/-- Well-formed straps. -/
def straps0 : Straps := { strapsNone with nonce := 1 }

/-- A well-formed write-data slot. -/
def wslot0 : WSlot := ⟨2, 0, false, 9, 0, 0, false, 0, false, 0⟩

/-- A passing region of the read delay. -/
def region0 : Region := ⟨7, none, none, none, 10, 40⟩

/-- A well-formed end of a training step. -/
def endWell : StepEnd := ⟨[region0], 56, 55, 4, 0, 0, false, [[0]], true, true, true, 4, 8, 1, 30, 0⟩

/-- No command of the list is well formed. -/
def refused (l : List Instr) : Bool := l.all (fun i => !wellFormed i)


theorem test_wf_request_fields : refused ([{ preq 3 0 with slot := 2 }, { preq 3 0 with size := 8 },
    { preq 3 0 with addr := 2 ^ 52 }, { preq 3 0 with tag := 4096 }, { preq 3 0 with sid := 4096 },
    { preq 3 0 with qid := 4096 }, { preq 3 0 with priv := 4 }, { preq 3 0 with attr := 16 },
    { preq 3 0 with col := 4 }].map .rdLine) = true := by decide

theorem test_wf_write_data_fields : refused ([{ wslot0 with slot := 2 }, { wslot0 with tag := 4096 },
    { wslot0 with upset := 3 }].map .writeDataSlot) = true := by decide

theorem test_wf_dram_command_fields : refused ([{ slot0 with sub := 2 }, { slot0 with rank := 4 }, { slot0 with bg := 8 },
    { slot0 with ba := 4 }, { slot0 with row := 2 ^ 18 }, { slot0 with col := 512 }].map .act) = true := by decide

theorem test_wf_strap_fields : refused ([{ straps0 with keyDigest := 2 ^ 384 }, { straps0 with nonce := 0 },
    { straps0 with nonce := 2 ^ 32 }, { straps0 with vcoreMv := 1024 },
    { straps0 with derate := true, vdd := 720 }].map (.coldResetRelease · false [])) = true := by decide +kernel

theorem test_wf_step_end_fields : refused ([{ endWell with row14 := 256 }, { endWell with row15 := 256 },
    { endWell with dens := 8 }, { endWell with width := 2 }, { endWell with height := 4 }, { endWell with dimms := [[0, 1], [2]] },
    { endWell with stored := 3 }].map (fun e => .trainingStepEnd 0 e 0)) = true := by
  decide

theorem test_wf_region_fields : refused ([{ region0 with q := 17 }, { region0 with sub := some 2 }, { region0 with rank := some 4 },
    { region0 with lane := some 40 }, { region0 with lo := 2 ^ 16 }, { region0 with hi := 2 ^ 16 }].map (fun g =>
      .trainingStepEnd 0 { endWell with regions := [g] } 0)) = true := by decide

theorem test_wf_message_fields : refused ([{ Msg.blank with opc := 256 }, { Msg.blank with nh := 64 }, { Msg.blank with dst := 64 },
    { Msg.blank with hops := 8 }, { Msg.blank with tag := 4096 }, { Msg.blank with status := 16 }, { Msg.blank with size := 8 },
    { Msg.blank with priv := 4 }, { Msg.blank with col := 4 }, { Msg.blank with qid := 4096 }, { Msg.blank with mkind := 4 },
    { Msg.blank with mid := 2 ^ 16 }, { Msg.blank with addr := 2 ^ 52 }, { Msg.blank with lh := 64 },
    { Msg.blank with pseq := 2 ^ 15 }, { Msg.blank with crc := 2 ^ 32 }, { Msg.blank with lane := 2 },
    { Msg.blank with upset := 5 }].map (.sync 0)) = true := by decide

theorem test_wf_debug_places : refused ([.writeReg 53 0, .readLine 8, .writeLine 8 0 false, .readTpl 64,
    .writeTpl 64 0 0 0, .readStore 4096, .readScratch 32768].map (.debugAccess 0)) = true := by decide

/-- A request to the Keystone in the cycle of a command's own: the Quoin's, for 4 lines. -/
def ask0 : KeyAsk := ⟨204, 0, 0, 4, none⟩

theorem test_wf_key_asks : ([[{ ask0 with idx := 253 }], [{ ask0 with owner := 2 ^ 16 }], [{ ask0 with base := 2 ^ 52 }],
    [{ ask0 with count := 2 ^ 16 }], [{ ask0 with chan := some 24 }]] : List (List KeyAsk)).all (fun l =>
      refused [.lock 0 0 0 0 0 [] l, .keyHostLock 0 l, .mntReq 0 l, .mortarAdmit 0 0 l, .mr4Poll 0 0 l, .srExitDone 0 0 l,
        .train 0 l, .trainGo l [], .trainingStepEnd 0 endWell 0 l, .retrainTick 0 0 l, .seamPoint 0 endWell l,
        .sre { slot0 with rivals := l }]) = true ∧ wellFormed (.mntReq 23 [ask0, { ask0 with idx := 252, chan := some 23 }]) = true := by
  decide

theorem test_wf_upsets_and_records : refused [.rclkCycle [⟨5, 0, 0, false⟩], .rclkCycle [⟨0, 1296, 0, false⟩],
    .rclkCycle [⟨1, 352, 0, false⟩], .rclkCycle [⟨2, 4096, 0, false⟩], .rclkCycle [⟨3, 1024, 0, false⟩],
    .rclkCycle [⟨4, 224, 0, false⟩], .rclkCycle [⟨0, 0, 8, false⟩], .trainGo [] [(24, 0)], .trainGo [] [(0, 3)]] = true ∧
    wellFormed (.rclkCycle [⟨4, 223, 7, true⟩]) = true ∧ wellFormed (.trainGo [] [(23, 2)]) = true := by decide

theorem test_wf_tlp_offset : refused [.unsupportedRequest ⟨0, true, 2 ^ 26, 4, false⟩] = true := by decide

theorem test_wf_channel_commands :
    ([.pllLossOfLock, .gauRefill, .gauRefillAll, .timApply, .refreshModeSwitch, .trackerHalving, .coldStartEnd,
    .srRequest, .srIdleExpiry, .srExitRequest, .sparingDone, .patrolLineDue, .patrolLate, .ashInitStart, .ashInitDone,
    (.train ·), .retrain, .store, .mntWatchdog, (.mntReq ·), .mntRelease, .channelResetDone] : List (Nat → Instr)).all (fun f
    =>
      refused [f 24] && wellFormed (f 23)) = true := by decide

theorem test_wf_request_commands :
    ([.rdLine, .rdPart, .wrLine, .wrPart, .wrZero, .atAdd, .atOr, .atAnd, .atXor, .atSwap, .atCas, .atMin, .atMax,
    .atUmin, .atUmax, .setad, .flush] : List (PReq → Instr)).all (fun f =>
      refused [f { preq 3 0 with port := 12 }] && wellFormed (f (preq 3 0))) = true := by decide

theorem test_wf_port_commands :
    ([.wdTimeout, .portOpen, .portDrain, .portFence, .portUnfence] : List (Nat → Instr)).all (fun f =>
      refused [f 12] && wellFormed (f 11)) = true := by decide

theorem test_wf_dram_command_commands :
    ([.act, .rd, .rda, .wr, .wra, .pre, .presb, .preab, .refab, .refsb, .rfmab, .rfmsb, .sre, .srx, .pde, .pdx,
    .idleCloseExpiry, .zqPeriodExpiry, .zqcalLatchDue] : List (Cmd → Instr)).all (fun f =>
      refused [f { slot0 with chan := 24 }] && wellFormed (f slot0)) = true := by decide

theorem test_wf_three_registers_commands :
    ([.add, .sub, .and, .or, .xor, .sll, .srl, .sra, .slt, .sltu, .min, .max, .minu, .maxu, .mul, .mulhu, .lcrc,
    .lsum32, .hpushLo, .hpushHi, .hpopLo, .hpopHi] : List (Nat → Nat → Nat → Nat → Nat → Instr)).all (fun f =>
      refused [f 216 0 0 0 0, f 0 7 0 0 0, f 0 0 32 0 0, f 0 0 0 32 0, f 0 0 0 0 32] && wellFormed (f 215 6 31 31 31))
      = true := by decide

theorem test_wf_two_registers_commands :
    ([.clz, .popc, .bswap, .lmov, .lpsn, .hcount, .unlock, .csrr, .csrw] : List (Nat → Nat → Nat → Nat → Instr)).all
    (fun f =>
      refused [f 216 0 0 0, f 0 7 0 0, f 0 0 32 0, f 0 0 0 32] && wellFormed (f 215 6 31 31)) = true := by decide

theorem test_wf_immediate_commands :
    ([.addi, .andi, .ori, .xori, .slti, .sltiu, .slli, .srli, .srai, .shi16, .beq, .bne, .blt, .bge, .bltu, .bgeu,
    .jalr, .lds8, .lds4, .lds2, .lds1, .sts8, .sts4, .sts2, .sts1, .lls, .sls, .wld] : List (Nat → Nat → Nat → Nat →
    Nat → Instr)).all (fun f =>
      refused [f 216 0 0 0 0, f 0 7 0 0 0, f 0 0 32 0 0, f 0 0 0 32 0, f 0 0 0 0 65536] && wellFormed (f 215 6 31 31
      65535)) = true := by decide

theorem test_wf_one_register_commands :
    ([.lclr, .fence, .trap, .wait, .tplWrite, .tplInv] : List (Nat → Nat → Nat → Instr)).all (fun f =>
      refused [f 216 0 0, f 0 7 0, f 0 0 32] && wellFormed (f 215 6 31)) = true := by decide

theorem test_wf_atomic_commands :
    ([.amoAdd, .amoOr, .amoAnd, .amoXor, .amoSwap, .amoCas, .amoMin, .amoMax, .amoUmin, .amoUmax] : List (Nat → Nat →
    Nat → Nat → Nat → Nat → Bool → Bool → Instr)).all (fun f =>
      refused [f 216 0 0 0 0 0 false false, f 0 9 0 0 0 0 false false, f 0 0 32 0 0 0 false false, f 0 0 0 32 0 0
      false false, f 0 0 0 0 32 0 false false, f 0 0 0 0 0 32 false false] && wellFormed (f 215 8 31 31 31 31 false
      false)) = true := by decide

theorem test_wf_no_operand_commands :
    ([.eret, .tend, .halt, .tplInvall, .tplSync, .illegalInstruction] : List (Nat → Nat → Instr)).all (fun f =>
      refused [f 216 0, f 0 7] && wellFormed (f 215 6)) = true := by decide

theorem test_wf_mason_commands :
    ([.masonReset, .debugHalt, .debugStep, .debugResume, .masonResetComplete] : List (Nat → Instr)).all (fun f =>
      refused [f 192] && wellFormed (f 191)) = true := by decide

theorem test_wf_message_commands :
    ([.bondRdLine, .bondRdPart, .bondWrZero, .bondWrLine, .bondWrPart, .bondAtAdd, .bondAtOr, .bondAtAnd, .bondAtXor,
    .bondAtSwap, .bondAtCas, .bondAtMin, .bondAtMax, .bondAtUmin, .bondAtUmax, .bondSetad, .sync, .cpl, .cplData,
    .hello, .lsa] : List (Nat → Msg → Instr)).all (fun f =>
      refused [f 2 Msg.blank, f 0 { Msg.blank with src := 64 }] && wellFormed (f 1 Msg.blank)) = true := by decide

theorem test_wf_refused_1 :
    refused [.coldResetRelease { straps0 with node := 64 } false [], .coldResetRelease straps0 false [8191, 8192],
    .warmResetApplied 4294967296, .warmResetApplied 1 true 739 750, .warmResetApplied 1 false 1020 1024,
    .masonResultArrival 0 3, .clockFault 15 false, .alertNPulse 24 0 0 0, .alertNPulse 0 0 0 2, .replay 24 0,
    .reservedOpcode { preq 3 0 with port := 12 } 0, .reservedOpcode (preq 3 0) 32, .writeDataSlot { wslot0 with port
    := 12 }, .completionAccepted 12 0 0 false, .completionAccepted 0 0 3 false, .cplStall 12 0, .mortarAdmit 12 0,
    .mortarAdmit 0 4, .setterEnqueue 0 5, .derateSet 720 720, .derateSet 719 1024, .derateSet 0 11, .derateSet 11 0,
    .derateClear 1024, .keyHostUnlock 1024, .clearTorn 1024, .lockWatchdog 1024, .mapRgnCtlWrite 64 (w64 0),
    .mapGeomWrite 24 (w64 0), .gauRateWrite 24 (w64 0)] = true := by decide

theorem test_wf_refused_2 :
    refused [.gauBurstWrite 24 (w64 0), .phaseChange 24 0, .phaseChange 0 2, .counterLeak 24 0, .counterLeak 0 2, .mrr
    { slot0 with chan := 24 } 0 0, .mrr slot0 256 0, .mrr slot0 0 256, .mrw { slot0 with chan := 24 } 0 0, .mrw slot0
    256 0, .mrw slot0 0 256, .mpc { slot0 with chan := 24 } 0 0, .mpc slot0 256 0, .mpc slot0 0 256, .tableCompare 24
    0, .tableCompare 0 3, .mr4Poll 24 0, .mr4Poll 0 3, .srExitDone 24 0, .srExitDone 0 3, .refreshTick 24 0 0,
    .refreshTick 0 8 0, .refreshModeWrite 24 0, .refreshModeWrite 0 4, .burstDecode 24 [] 0, .burstDecode 0 [] 4,
    .burstDecode 0 [(79, 255), (80, 0)] 0] = true := by decide

theorem test_wf_refused_3 :
    refused [.burstDecode 0 [(79, 256)] 0, .ashMarkWrite 24 0 (w64 0), .ashMarkWrite 0 2 (w64 0), .ashThreshWrite 24 0
    (w64 0), .ashThreshWrite 0 2 (w64 0), .trainingStepEnd 24 endWell 0, .trainingStepEnd 0 endWell 2,
    .trainingStepEnd 0 { endWell with temp := 256 } 0, .stepTimeout 24 endWell 0, .stepTimeout 0 endWell 2,
    .stepTimeout 0 { endWell with temp := 256 } 0, .retrainTick 24 0, .retrainTick 0 256, .seamPoint 24 endWell,
    .seamPoint 0 { endWell with temp := 256 }, .rawRead (w64 0) 3, .readRec (w64 0) 3, .jal 216 0 0 0, .jal 0 7 0 0,
    .jal 0 0 32 0, .jal 0 0 0 2097152, .lget 216 0 0 0 0, .lget 0 7 0 0 0, .lget 0 0 32 0 0, .lget 0 0 0 32 0, .lget 0
    0 0 0 8, .lput 216 0 0 0 0] = true := by decide

theorem test_wf_refused_4 :
    refused [.lput 0 7 0 0 0, .lput 0 0 32 0 0, .lput 0 0 0 32 0, .lput 0 0 0 0 8, .ld 216 0 0 0 0 false 0 false 0,
    .ld 0 7 0 0 0 false 0 false 0, .ld 0 0 32 0 0 false 0 false 0, .ld 0 0 0 32 0 false 0 false 0, .ld 0 0 0 0 32
    false 0 false 0, .ld 0 0 0 0 0 false 4 false 0, .ld 0 0 0 0 0 false 0 false 128, .st 216 0 0 0 0 false 0 0, .st 0
    9 0 0 0 false 0 0, .st 0 0 32 0 0 false 0 0, .st 0 0 0 32 0 false 0 0, .st 0 0 0 0 32 false 0 0, .st 0 0 0 0 0
    false 4 0, .st 0 0 0 0 0 false 0 128, .ll 216 0 0 0 0 false 0, .ll 0 7 0 0 0 false 0, .ll 0 0 8 0 0 false 0, .ll 0
    0 0 32 0 false 0, .ll 0 0 0 0 32 false 0, .ll 0 0 0 0 0 false 1024, .sl 216 0 0 0 0 false 0, .sl 0 9 0 0 0 false
    0, .sl 0 0 8 0 0 false 0] = true := by decide

theorem test_wf_refused_5 :
    refused [.sl 0 0 0 32 0 false 0, .sl 0 0 0 0 32 false 0, .sl 0 0 0 0 0 false 1024, .slm 216 0 0 0 0 false 0, .slm
    0 9 0 0 0 false 0, .slm 0 0 8 0 0 false 0, .slm 0 0 0 32 0 false 0, .slm 0 0 0 0 32 false 0, .slm 0 0 0 0 0 false
    32, .amoSetad 216 0 0 0 0 0 false, .amoSetad 0 9 0 0 0 0 false, .amoSetad 0 0 32 0 0 0 false, .amoSetad 0 0 0 32 0
    0 false, .amoSetad 0 0 0 0 32 0 false, .amoSetad 0 0 0 0 0 32 false, .runZero 216 0 0 0 0 false false, .runZero 0
    80 0 0 0 false false, .runZero 0 0 32 0 0 false false, .runZero 0 0 0 32 0 false false, .runZero 0 0 0 0 32 false
    false, .runFill 216 0 0 0 0 0 false false, .runFill 0 80 0 0 0 0 false false, .runFill 0 0 32 0 0 0 false false,
    .runFill 0 0 0 32 0 0 false false, .runFill 0 0 0 0 32 0 false false, .runFill 0 0 0 0 0 32 false false, .runCopy
    216 0 0 0 0 0 false false] = true := by decide

theorem test_wf_refused_6 :
    refused [.runCopy 0 80 0 0 0 0 false false, .runCopy 0 0 32 0 0 0 false false, .runCopy 0 0 0 32 0 0 false false,
    .runCopy 0 0 0 0 32 0 false false, .runCopy 0 0 0 0 0 32 false false, .lock 216 0 0 0 0 [], .lock 0 7 0 0 0 [],
    .lock 0 0 32 0 0 [], .lock 0 0 0 32 0 [], .lock 0 0 0 0 32 [], .lock 0 0 0 0 0 [191, 192], .waitExpiry 216,
    .masRunWrite 192 false, .masGlobalProfileWrite 4, .dstModeWrite 4, .powerStateChange 4, .imgCheck 2 0, .imgCheck 0
    131072, .imgLoad 2 0, .imgLoad 0 131072, .imgLoadStore 2 0, .imgLoadStore 0 131072, .masonStoreWrite 192 0 (w64
    0), .masonStoreWrite 0 49152 (w64 0), .debugAccess 192 (.readReg 0), .debugAccess 0 (.readReg 53), .hodItemPush
    448 0 false] = true := by decide

theorem test_wf_refused_7 :
    refused [.hodItemPop 448 false, .hodCfgWrite 448 false (w64 0), .keyHostLock 70368744177664, .keyMntMrr 24 0 0 0
    0, .keyMntMrr 0 0 4 0 0, .keyMntMrr 0 0 0 256 0, .keyMntMrr 0 0 0 0 256, .keyMntMrw 24 0 0 0 0, .keyMntMrw 0 0 4 0
    0, .keyMntMrw 0 0 0 256 0, .keyMntMrw 0 0 0 0 256, .keyMntMpc 24 0 0 0 0, .keyMntMpc 0 0 4 0 0, .keyMntMpc 0 0 0
    256 0, .keyMntMpc 0 0 0 0 256, .linkUp 2, .linkDown 2, .helloTimer 2, .txCreditReturn 2 0 0, .txCreditReturn 0 2
    0, .txCreditReturn 0 0 8, .malformedMessage 2 Msg.blank 0, .malformedMessage 0 { Msg.blank with src := 64 } 0,
    .neighbourTimeout 2 0, .neighbourTimeout 0 64, .lsaExpiry 64, .syncSend 64] = true := by decide

theorem test_wf_refused_8 :
    refused [.bondTimeout 4096, .tagQuarantineExpiry 4096, .wireFault 112, .graceExpiry 112, .butAck 112, .force 112 0
    false, .force 0 4 false, .sweepPassEnd [⟨7, 0⟩], .sweepPassEnd [⟨0, 112⟩], .tagRecordWrite 3, .dstWindowRead 8 false 0, .dstWindowRead 0
    false 3, .configWrite 4096 0 0, .configWrite 0 4294967296 0, .configWrite 0 0 16,   .unsupportedRequest ⟨6, true, 0,
    4, false⟩, .quoCompletionRx 256 false false false, .quoCplTimeout 256, .msixSend 128, .channelReset 16777216,
    .registerWrite 67108864 (w64 0), .slot 24 0 0, .slot 0 2 0, .imageCheckOrLoadComplete [255, 256], .debugTakeover
    none 24, .debugTakeover (some 1024) 0, .debugRelease none 24, .debugRelease (some 1024) 0] = true := by decide

theorem test_wf_accepted_1 :
    ([.coldResetRelease straps0 false [], .warmResetApplied 4294967295 true 740 750, .masonResultArrival 0 2, .clockFault 14 false, .alertNPulse 23 0 0 1,
    .replay 23 0, .reservedOpcode (preq 3 0) 31, .writeDataSlot wslot0, .completionAccepted 11 0 2 false, .cplStall 11
    0, .mortarAdmit 11 3, .setterEnqueue 0 4, .derateSet 719 709, .derateClear 1023, .keyHostUnlock 1023, .clearTorn
    1023, .lockWatchdog 1023, .mapRgnCtlWrite 63 (w64 0), .mapGeomWrite 23 (w64 0), .gauRateWrite 23 (w64 0),
    .gauBurstWrite 23 (w64 0), .phaseChange 23 1, .counterLeak 23 1, .mrr slot0 255 255, .mrw slot0 255 255, .mpc
    slot0 255 255, .tableCompare 23 2, .mr4Poll 23 2, .srExitDone 23 2, .refreshTick 23 7 0, .refreshModeWrite 23 3,
    .burstDecode 23 [] 3, .ashMarkWrite 23 1 (w64 0), .ashThreshWrite 23 1 (w64 0)] : List Instr).all wellFormed =
    true := by decide

theorem test_wf_accepted_2 :
    ([.trainingStepEnd 23 endWell 1, .stepTimeout 23 endWell 1, .retrainTick 23 255, .seamPoint 23 endWell, .rawRead
    (w64 0) 2, .readRec (w64 0) 2, .jal 215 6 31 2097151, .lget 215 6 31 31 7, .lput 215 6 31 31 7, .ld 215 6 31 31 31
    false 3 false 127, .st 215 8 31 31 31 false 3 127, .ll 215 6 7 31 31 false 1023, .sl 215 8 7 31 31 false 1023,
    .slm 215 8 7 31 31 false 31, .amoSetad 215 8 31 31 31 31 false, .runZero 215 79 31 31 31 false false, .runFill 215
    79 31 31 31 31 false false, .runCopy 215 79 31 31 31 31 false false, .lock 215 6 31 31 31 [], .waitExpiry 215,
    .masRunWrite 191 false, .masGlobalProfileWrite 3, .dstModeWrite 3, .powerStateChange 3, .imgCheck 1 131071,
    .imgLoad 1 131071, .imgLoadStore 1 131071, .masonStoreWrite 191 49151 (w64 0), .debugAccess 191 (.readReg 0),
    .hodItemPush 447 0 false, .hodItemPop 447 false, .hodCfgWrite 447 false (w64 0), .keyHostLock 70368744177663] :
    List Instr).all wellFormed = true := by decide

theorem test_wf_accepted_3 :
    ([.keyMntMrr 23 0 3 255 255, .keyMntMrw 23 0 3 255 255, .keyMntMpc 23 0 3 255 255, .linkUp 1, .linkDown 1,
    .helloTimer 1, .txCreditReturn 1 1 7, .malformedMessage 1 Msg.blank 0, .neighbourTimeout 1 63, .lsaExpiry 63,
    .syncSend 63, .bondTimeout 4095, .tagQuarantineExpiry 4095, .wireFault 111, .graceExpiry 111, .butAck 111, .force
    111 3 false, .sweepPassEnd [], .tagRecordWrite 2, .dstWindowRead 7 false 2, .configWrite 4095 4294967295 15,
    .unsupportedRequest ⟨0, true, 0, 4, true⟩, .quoCompletionRx 255 false false false, .quoCplTimeout 255, .msixSend 127,
    .channelReset 16777215, .registerWrite 67108863 (w64 0), .slot 23 1 0, .imageCheckOrLoadComplete [],
    .debugTakeover none 23, .debugRelease none 23] : List Instr).all wellFormed = true := by decide

/-- The check value that R225 gives. -/
theorem test_crc_check_value :
    crc32c [0x31, 0x32, 0x33, 0x34, 0x35, 0x36, 0x37, 0x38, 0x39] = 0xE3069283 := by decide +kernel

/-- The worked example 'finding instances' of 19_register_map. -/
theorem test_register_offsets : ASH_ERR_CAP.off 17 1 0 = 0x544240 ∧ TPL_ENTRY.off 57 3 2 = 0x239C258 ∧
    HOD_STATUS.off 390 0 0 = 0x3186050 ∧ PNT_CFG.off 7 0 0 = 0x2C3008 := by decide +kernel

/-- The map of the worked example 'a line on node 5' of 04_mapper, channel 1 populated. -/
def nodeFive : State := fields out [(MAP_RGN_BASE_BASE, 0, 0x1400000000000 / 2 ^ 21),
  (MAP_RGN_LIMIT_LIMIT, 0, (0x1400000000000 + 6 * 2 ^ 40) / 2 ^ 21 - 1), (MAP_RGN_CTL_WAYS, 0, 8),
  (MAP_RGN_CTL_CH_MASK, 0, 0xFFFFFF), (MAP_RGN_CTL_HASH, 0, 1), (MAP_RGN_CTL_VALID, 0, 1), (MAP_GEOM_DENS, 1, 4),
  (MAP_GEOM_PHYS, 1, 1), (MAP_GEOM_BANK_HASH, 1, 1), (MAP_GEOM_VALID, 1, 1)]

/-- That example: channel 1, subchannel B, rank 1, bank group 0, bank 3, row 0xC22, column 0x120. -/
theorem test_mapper_example : nodeFive.capacity 1 = 2 ^ 38 ∧
    nodeFive.decode 0x1401234567A40 false 0 false = .place 1 ⟨1, 1, 0, 3, 0xC22, 0x12⟩ := by decide +kernel

/-- The first two charges of the worked example 'debt and a rate change' of 05_setter_qos. -/
theorem test_debt_example :
    let m : Meter := ⟨0xC800, 0x19000, 64, 128, 1, 4096 * 256, 8192 * 256⟩
    let a := m.colour 1 6144 .uncoloured
    let b := a.1.colour 1 64 .uncoloured
    (a.2, a.1.tc, a.1.tp) = (.green, -2048 * 256, 2048 * 256) ∧
      (b.2, b.1.tc, b.1.tp) = (.yellow, -2048 * 256, 1984 * 256) := by decide +kernel

/-- The state that a command leaves. -/
def after (c : Instr) (s : State) : State := match exec c s with | .next t => t | _ => s

/-- ADD keeps the sum modulo 2^64 (12_aklet_isa): 0x8000000000000005 twice. -/
theorem test_add_wraps : ((after (.add 3 0 4 1 1) (engine (encR 1 4 1 1 0))).mason 3).reg 4 = 10 := by decide +kernel

/-- SRAI keeps the sign (12_aklet_isa, opcode 0x0A). -/
theorem test_srai_sign :
    ((after (.srai 3 0 4 1 4) (engine (encI 0x0A 4 1 4))).mason 3).reg 4 = 0xF800000000000000 := by decide +kernel

/-- A statement's hypotheses hold together somewhere: the ALU rows on Mason 3. -/
theorem witness_AkletAluResults :
    (∀ e ∈ aluRows, (engine (encR 1 4 1 2 e.2.1)).presents 3 (encR 1 4 1 2 e.2.1) 0 ⟨[4, 1, 2], []⟩) ∧
    (∀ fn ∈ [0x18, 0x19, 0x1A], (engine (encR 1 4 1 0 fn)).presents 3 (encR 1 4 1 0 fn) 0 ⟨[4, 1, 0], []⟩) := by
  unfold State.presents; decide +kernel

theorem witness_AkletImmediatesAndTransfers :
    (∀ e ∈ immRows, (engine (encI e.2.1 4 1 63)).presents 3 (encI e.2.1 4 1 63) 0 ⟨[4, 1], []⟩) ∧
    (engine (encI 2 4 1 0xFFFF)).presents 3 (encI 2 4 1 0xFFFF) 0 ⟨[4, 1], []⟩ ∧
    (∀ e ∈ branchRows, ∀ off ∈ [0, 0x8000, 0xFFFF], ∀ r ∈ [1, 2],
      (engine (encI e.2.1 r 2 off)).presents 3 (encI e.2.1 r 2 off) 0 ⟨[r, 2], []⟩) ∧
    (∀ e ∈ branchRows, (∃ a ∈ [1, 2], ∃ b ∈ [1, 2], e.2.2 ((masonAt 0).reg a) ((masonAt 0).reg b) = true) ∧
      ∃ a ∈ [1, 2], ∃ b ∈ [1, 2], e.2.2 ((masonAt 0).reg a) ((masonAt 0).reg b) = false) ∧
    (∀ imm ∈ [0, 0x1FFFFF], (engine (encU 0x16 4 imm)).presents 3 (encU 0x16 4 imm) 0 ⟨[4], []⟩) ∧
    (∀ r ∈ [2, 3], (engine (encI 0x17 4 r 0)).presents 3 (encI 0x17 4 r 0) 0 ⟨[4, r], []⟩) := by
  unfold State.presents; decide +kernel

theorem witness_AkletScratchAccess :
    (∀ e ∈ ldsRows, ∀ r ∈ [1, 2, 3], (engine (encI e.2.1 4 r 0)).presents 3 (encI e.2.1 4 r 0) 0 ⟨[4, r], []⟩) ∧
    (∀ e ∈ stsRows, ∀ r ∈ [1, 2, 3], (engine (encI e.2.1 2 r 0)).presents 3 (encI e.2.1 2 r 0) 0 ⟨[2, r], []⟩) ∧
    (∀ n ∈ [8, 4, 2, 1, 64], scratchFits 3 (BitVec.ofNat 64 (32768 - n)) n ∧ scratchFits 3 64 n) ∧
    (∀ n ∈ [8, 4, 2], ((masonAt 0).reg 1).toNat % n ≠ 0) ∧
    (∀ n ∈ [8, 4, 2, 1], ((masonAt 0).reg 3).toNat % n = 0 ∧ 32768 < ((masonAt 0).reg 3).toNat + n) ∧
    (∀ imm ∈ [0, 1, 0x7F80, 0x7FC0], (engine (encI 0x20 5 2 imm)).presents 3 (encI 0x20 5 2 imm) 0 ⟨[2], [5]⟩ ∧
      (engine (encI 0x21 5 2 imm)).presents 3 (encI 0x21 5 2 imm) 0 ⟨[2], [5]⟩) ∧
    (let a (imm : Nat) := ((masonAt 0).reg 2 + (BitVec.ofNat 16 imm).signExtend 64).toNat;
      a 1 % 64 ≠ 0 ∧ a 0x7F80 + 64 = 32768 ∧ a 0x7FC0 % 64 = 0 ∧ 32768 < a 0x7FC0 + 64) ∧
    ((masonAt 0).line 5).poison = false ∧ scratchBytes 191 = 32768 ∧ scratchBytes 192 = 16384 := by
  unfold State.presents scratchFits; decide +kernel

theorem witness_AkletLineResults :
    (∀ k ∈ [0, 7], (engine (encR 0x22 4 5 0 k)).presents 3 (encR 0x22 4 5 0 k) ignC ⟨[4], [5]⟩ ∧
      (marked (encR 0x22 4 5 0 k)).presents 3 (encR 0x22 4 5 0 k) ignC ⟨[4], [5]⟩ ∧
      (engine (encR 0x22 5 1 0 (0x100 + k))).presents 3 (encR 0x22 5 1 0 (0x100 + k)) ignC ⟨[1], [5]⟩) ∧
    (engine (encR 0x22 6 5 0 0x200)).presents 3 (encR 0x22 6 5 0 0x200) ignC ⟨[], [6, 5]⟩ ∧
    (marked (encR 0x22 5 0 0 0x300)).presents 3 (encR 0x22 5 0 0 0x300) (ignB + ignC) ⟨[], [5]⟩ ∧
    (∀ fn ∈ [0x400, 0x500], (engine (encR 0x22 4 1 5 fn)).presents 3 (encR 0x22 4 1 5 fn) 0 ⟨[4, 1], [5]⟩ ∧
      (marked (encR 0x22 4 1 5 fn)).presents 3 (encR 0x22 4 1 5 fn) 0 ⟨[4, 1], [5]⟩) ∧
    (marked (encR 0x22 4 5 0 0x600)).presents 3 (encR 0x22 4 5 0 0x600) ignC ⟨[4], [5]⟩ ∧
    (marked (encI 0x21 5 2 0)).presents 3 (encI 0x21 5 2 0) 0 ⟨[2], [5]⟩ ∧
    scratchFits 3 (((marked 0).mason 3).reg 2 + (BitVec.ofNat 16 0).signExtend 64) 64 ∧
    ((engine 0).mason 3).line 5 = ⟨0, false, 0⟩ ∧ ((marked 0).mason 3).line 5 = ⟨7, true, 640⟩ := by
  and_intros <;> (try unfold State.presents) <;> decide +kernel

theorem witness_AkletMemoryRequests :
    ((memEngine (encX 0x28 4 1 0 false 2 true 0)).presents 3 (encX 0x28 4 1 0 false 2 true 0) 0 ⟨[4, 1, 0], []⟩ ∧
      (memEngine (encX 0x28 4 1 0 false 2 true 0)).mayIssue 3 4 ⟨.rdPart, 2, home, true, false, false, none, 0, false, 0,
        false, .load, .scalar 4, 0, false, true⟩ home []) ∧
    ((memEngine (encX 0x29 2 1 4 true 2 false 1)).presents 3 (encX 0x29 2 1 4 true 2 false 1) 0 ⟨[2, 1, 4], []⟩ ∧
      (memEngine (encX 0x29 2 1 4 true 2 false 1)).mayIssue 3 4 ⟨.wrPart, 2, home + 4, false, true, false,
        some (BitVec.ofNat 512 (64 * 2 ^ 32)), enables 4 4, false, 0, false, .store, .none, 4, true, false⟩ (home + 4) []) ∧
    ((memEngine (encL 0x2A 5 1 0 false 1)).presents 3 (encL 0x2A 5 1 0 false 1) 0 ⟨[1, 0], [5]⟩ ∧
      (memEngine (encL 0x2A 5 1 0 false 1)).mayIssue 3 64 ⟨.rdLine, 0, home + 64, true, false, false, none, 0, false, 0,
        false, .load, .line 5, 0, false, false⟩ (home + 64) []) ∧
    ((memEngine (encL 0x2B 5 1 0 false 1)).presents 3 (encL 0x2B 5 1 0 false 1) 0 ⟨[1, 0], [5]⟩ ∧
      (memEngine (encL 0x2B 5 1 0 false 1)).mayIssue 3 64 ⟨.wrLine, 0, home + 64, false, true, false, some 0, 0, false, 0,
        false, .store, .none, 0, false, false⟩ (home + 64) []) ∧
    ((memEngine (encL 0x2C 5 1 0 false 64)).presents 3 (encL 0x2C 5 1 0 false 64) 0 ⟨[1, 0, 2], [5]⟩ ∧
      (memEngine (encL 0x2C 5 1 0 false 64)).mayIssue 3 64 ⟨.wrPart, 0, home, false, true, false, some 0, 64, false, 0,
        false, .store, .none, 0, false, false⟩ home []) ∧
    ((memEngine (encI 0x2E 4 1 8)).presents 3 (encI 0x2E 4 1 8) 0 ⟨[4, 1], []⟩ ∧
      (memEngine (encI 0x2E 4 1 8)).mayIssue 3 8 ⟨.rdPart, 3, home + 8, true, false, true, none, 0, false, 0,
        false, .walkLoad, .scalar 4, 0, false, false⟩ (home + 8) []) ∧
    (∀ e ∈ amoRows, (memEngine (encM 0x2D 4 1 2 0 false (16 + e.2.1))).presents 3 (encM 0x2D 4 1 2 0 false (16 + e.2.1)) 0
        ⟨[4, 1, 2, 0], []⟩) ∧
    (∀ e ∈ amoRows, (memEngine (encM 0x2D 4 1 2 0 false (16 + e.2.1))).mayIssue 3 8 ⟨e.2.2, 3, home, true, true, false, some 64, 0, false, 0,
        false, .atomic, .scalar 4, 0, false, false⟩ home []) ∧
    (memEngine (encM 0x2D 4 1 2 0 false 26)).presents 3 (encM 0x2D 4 1 2 0 false 26) 0 ⟨[4, 1, 2, 0], []⟩ ∧
    (memEngine (encM 0x2D 4 1 2 0 false 26)).mayIssue 3 8 ⟨.setad, 3, home, true, true, true, some 64, 0, false, 0,
      false, .atomic, .scalar 4, 0, false, false⟩ home [] := by
  and_intros <;> (try unfold State.presents) <;> decide +kernel

theorem witness_AkletSystemAndPrivilege :
    ((engine (encR 0x38 4 0 0 0)).presents 3 (encR 0x38 4 0 0 0) (ignB + ignC) ⟨[4], []⟩ ∧ (masonAt 0).outs = []) ∧
    ((engine (encR 0x38 0 0 0 1)).presents 3 (encR 0x38 0 0 0 1) (ignA + ignB + ignC) ⟨[], []⟩ ∧
      (nested (encR 0x38 0 0 0 1)).presents 3 (encR 0x38 0 0 0 1) (ignA + ignB + ignC) ⟨[], []⟩ ∧
      (masonAt 0).nested = false ∧ ((nested 0).mason 3).nested = true) ∧
    ((task (encR 0x38 0 0 0 2)).presents 3 (encR 0x38 0 0 0 2) (ignA + ignB + ignC) ⟨[], []⟩ ∧
      ((task 0).mason 3).handler = false) ∧
    (∀ fn ∈ [3, 4], (task (encR 0x38 0 2 0 fn)).presents 3 (encR 0x38 0 2 0 fn) (ignA + ignC) ⟨[2], []⟩) ∧
    (let s := (task (encR 0x38 0 2 0 4)).modMason 3 (fun x => { x with haltDue := true });
      s.presents 3 (encR 0x38 0 2 0 4) (ignA + ignC) ⟨[2], []⟩ ∧ (s.mason 3).haltDue = true ∧
      ((task 0).mason 3).haltDue = false ∧ ((task 0).mason 3).dbgDue = false) ∧
    (∃ x : Mason, x.waitEnd = some 10000000 ∧ ((out.setMason 3 x).mason 3).waitEnd = some 10000000 ∧ 10000000 ≤ out.uptime) ∧
    (engine (encR 0x38 0 0 0 5)).presents 3 (encR 0x38 0 0 0 5) (ignA + ignB + ignC) ⟨[], []⟩ ∧
    (∀ n ∈ List.range 13, (engine (encR 0x38 4 0 n 8)).presents 3 (encR 0x38 4 0 n 8) ignB ⟨[4], []⟩) ∧
    (∀ n ∈ [0, 1, 2, 3, 4, 5, 6], (engine (encR 0x38 0 1 n 9)).presents 3 (encR 0x38 0 1 n 9) ignA ⟨[1], []⟩) ∧
    (∀ w ∈ [encI 0x2E 4 1 8, encM 0x30 4 1 2 0 false 0, encM 0x30 4 1 2 0 false 4, encM 0x30 4 1 0 6 false 1,
        encM 0x30 4 1 0 6 false 5, encM 0x30 4 1 0 0 false 2, encR 0x38 0 0 0 1, encR 0x38 0 0 0 5, encR 0x38 0 1 3 9,
        encR 0x38 0 5 0 0x10, encR 0x38 0 1 0 0x11, encR 0x38 0 0 0 0x12, encR 0x38 0 0 0 0x13],
      (task w).cold = false ∧ (task w).hasMason 3 = true ∧ ((task w).mason 3).ready = true ∧ ((task w).mason 3).pc < 4096 ∧
      akLegal ((task w).mason 3).word = true ∧ akPriv ((task w).mason 3).word = true ∧
      ((task w).mason 3).handler = false ∧ ((task w).mason 3).word = w) := by
  refine ⟨?_, ?_, ?_, ?_, ?_, ⟨{ Mason.init with waitEnd := some 10000000 }, ?_⟩, ?_⟩ <;>
    ((try unfold State.presents); decide +kernel)

theorem witness_AkletTrapEntry :
    (∀ s ∈ [engine 0, task 0, nested 0], s.cold = false ∧ s.hasEngine 3 = true ∧ (s.mason 3).ready = true ∧
      (s.mason 3).pc < 4096 ∧ akLegal (s.mason 3).word = false) ∧
    (((task 0).mason 3).handler = false ∧ ((engine 0).mason 3).handler = true ∧ ((engine 0).mason 3).nested = false ∧
      ((nested 0).mason 3).handler = true ∧ ((nested 0).mason 3).nested = true) ∧
    (let s := (engine 0).modMason 3 (fun x => { x with pc := 4096 });
      s.hasEngine 3 = true ∧ (s.mason 3).ready = true ∧ 4096 ≤ (s.mason 3).pc) ∧
    (engine (encR 0x38 0 0 0 1)).presents 3 (encR 0x38 0 0 0 1) (ignA + ignB + ignC) ⟨[], []⟩ ∧
    (nested (encR 0x38 0 0 0 1)).presents 3 (encR 0x38 0 0 0 1) (ignA + ignB + ignC) ⟨[], []⟩ := by
  unfold State.presents; decide +kernel

/-- The zero run of 2 lines from `home`. -/
def zeroRun : RunAsk := ⟨0, home, 0, 2, 0, false, false, 0, false⟩

/-- `memEngine` with the count of a run in s4. -/
def runEngine (w n : Nat) : State := (memEngine w).modMason 3 (fun x => x.setReg 4 (BitVec.ofNat 64 n))

/-- A run whose requests find room leads somewhere. -/
theorem runMayIssue_of {s : State} {m : Nat} {q : RunAsk}
    (hf : q.fault (s.mason m).handler = none)
    (ht : ∀ l ∈ q.targets ++ q.sources, s.translate m l.va (!l.write) l.write = .go l.va [])
    (hc : (!s.runIndiv m q || oneChannel (s.runParts m q.targets q.sources)) = true)
    (hp : (s.runParts m q.targets q.sources).all (fun p => !p.refused && !(s.mason m).runCovers p.ga) = true)
    (hr : (s.mason m).runs < 2)
    (he : ((s.runReqs m q (s.runIndiv m q) (s.runParts m q.targets q.sources)
        (s.runSlots m (q.targets ++ q.sources))).1.enterRun
        (s.runReqs m q (s.runIndiv m q) (s.runParts m q.targets q.sources)
        (s.runSlots m (q.targets ++ q.sources))).2.2).isSome = true) : ∃ e rids, s.runMayIssue m q e rids := by
  obtain ⟨⟨e, rids⟩, he⟩ := Option.isSome_iff_exists.mp he
  simp only [List.all_eq_true, Bool.and_eq_true, Bool.not_eq_true'] at hp
  refine ⟨e, rids, hf, fun l hl => ⟨_, _, ht l hl⟩, ?_, fun p h => (hp p h).1, hr, fun p h => (hp p h).2, he⟩
  intro h; simpa [h] using hc

theorem witness_AkletRuns :
    (∀ n ∈ [0, 2, 1025], ∀ b ∈ [false, true], (runEngine (encM 0x2F 4 1 0 0 false (if b then 4 else 0)) n).presents 3
        (encM 0x2F 4 1 0 0 false (if b then 4 else 0)) 0 ⟨[4, 1, 0], []⟩) ∧
    (∀ n ∈ [0, 2, 1025], ∀ b ∈ [false, true], (runEngine (encM 0x2F 4 1 5 0 false (if b then 5 else 1)) n).presents 3
        (encM 0x2F 4 1 5 0 false (if b then 5 else 1)) 0 ⟨[4, 1, 0], [5]⟩) ∧
    (∀ n ∈ [0, 2, 1025], ∀ b ∈ [false, true], (runEngine (encM 0x2F 4 1 2 0 false (if b then 6 else 2)) n).presents 3
        (encM 0x2F 4 1 2 0 false (if b then 6 else 2)) 0 ⟨[4, 1, 2, 0], []⟩) ∧
    (let q : RunAsk := { zeroRun with kind := 2, dst := 65, src := 129 };
      (65 = q.dst ∨ q.kind = 2 ∧ 65 = q.src) ∧ 65 % 64 ≠ 0 ∧ 65 ≤ q.src) ∧
    (∀ n ∈ [0, 1025], zeroRun.dst % 64 = 0 ∧ (n = 0 ∨ 1024 < n)) ∧
    (∀ h ∈ [true, false], let q : RunAsk := { zeroRun with dst := 2 ^ (if h then 52 else 48) - 64 };
      q.dst % 64 = 0 ∧ 1 ≤ q.count ∧ q.count ≤ 1024 ∧ 2 ^ (if h then 52 else 48) < q.dst + 64 * q.count) ∧
    zeroRun.dst + 64 * zeroRun.count ≤ 2 ^ 52 ∧
    (∃ e rids, (runEngine (encM 0x2F 4 1 0 0 false 0) 2).runMayIssue 3 zeroRun e rids) := by
  refine ⟨by unfold State.presents; decide +kernel, by unfold State.presents; decide +kernel,
    by unfold State.presents; decide +kernel, by decide +kernel, by decide +kernel, by decide +kernel, by decide +kernel, ?_⟩
  apply runMayIssue_of <;> decide +kernel

/-- Hod 6, which Mason 3 pops, holding `h` at its head and `t` at its tail. -/
def hodOf (h t : List (BitVec 256)) (s : State) : State := s.setHod 6 { Hod.init with head := h, tail := t }

/-- Masons 3 and 5 about to lock 4 lines, from `home` and from `at5`, the round robin of class 0 at `rr`. -/
def twoLocks (at5 rr : Nat) : State :=
  let m := masonAt (encR 0x31 4 1 2 0)
  let s := (out.setMason 3 { m with regs := [(1, BitVec.ofNat 64 home), (2, 4)] }).setMason 5 { m with
    regs := [(1, BitVec.ofNat 64 at5), (2, 4)] }
  { s with key := { s.key with rr := [(0, rr), (1, rr), (2, rr), (3, rr)] } }

/-- The sequencer of channel 1's Screed, in a run, about to execute `w` with `home` in s1 and 4 in s2. -/
def screeding (w : Nat) : State := ({ live.modScr 1 (fun x => { x with run := 4 }) with
  imgs := [(0, ⟨0x00040000, 0, 0xFFFFFFFF, 0, [], []⟩)] } : State).setMason 193 { masonAt w with
  regs := [(1, BitVec.ofNat 64 home), (2, 4)] }

theorem witness_AkletHodsAndLocks :
    (∀ w ∈ [encM 0x30 4 1 5 0 false 0, encM 0x30 4 1 5 0 false 4], ∀ h ∈ [0, 6, 7, 383, 384, 447, 448],
      (engineOn w h 1 id).presents 3 w 0 ⟨[4, 1], [5]⟩ ∧
      (engineOn w h 1 (fun s => s.modMason 3 (fun x => x.setLine 5 ⟨7, true, 640⟩))).presents 3 w 0 ⟨[4, 1], [5]⟩) ∧
    (∀ h ∈ [7, 384, 447], out.hasHod h = true ∧ masonPush 3 h = true) ∧ out.hasHod 448 = false ∧
    (out.hasHod 383 = true ∧ masonPush 3 383 = false ∧ masonPop 3 383 = false) ∧
    (∀ w ∈ [encM 0x30 5 1 0 4 false 5, encM 0x30 5 1 0 4 false 1], ∀ f ∈ [id, hodOf [0xAB] [], hodOf [] [0xAB]],
      ∀ h ∈ [6, 7], (engineOn w h 1 f).presents 3 w ignC ⟨[1, 4], [5]⟩) ∧
    (masonPop 3 6 = true ∧ (hodOf [] [0xAB] out).hodPop 6 3 false = none ∧
      ((hodOf [0xAB] [] out).hodPop 6 3 false).map (·.2) = some 0xAB ∧ (out.hodPop 6 3 false).map (·.2) = some 0) ∧
    (∀ h ∈ [6, 448], (engineOn (encM 0x30 4 1 0 0 false 2) h 1 id).presents 3 (encM 0x30 4 1 0 0 false 2) ignC ⟨[4, 1], []⟩) ∧
    (∀ v ∈ [home, 5], ∀ n ∈ [0, 1, 1024, 1025], (engineOn (encR 0x31 4 1 2 0) v n id).presents 3 (encR 0x31 4 1 2 0) 0
      ⟨[4, 1, 2], []⟩) ∧
    (∀ n ∈ [1, 1024], (masonAt 0).lockAt home n = .go home [] ∧ (masonAt 0).lockAt 5 n = .trap 3 1 5) ∧
    (∀ n ∈ [0, 1025], (masonAt 0).lockAt home n = .trap 3 3 n) ∧
    (∀ at5 ∈ [home, home + 256], ∀ rr ∈ [0, 4], let s := twoLocks at5 rr;
      s.presents 3 (encR 0x31 4 1 2 0) 0 ⟨[4, 1, 2], []⟩ ∧ s.lockAsk 5 = some (⟨5, 0, 5, at5, 4⟩, 4, []) ∧
      (s.mason 3).lockAt ((s.mason 3).reg 1).toNat 4 = .go home [] ∧ (s.mason 3).lockAt ((s.mason 3).reg 1).toNat 4 ≠ .trap 3 3 4 ∧
      decide (s.keyRank 0 3 < s.keyRank 0 5) = decide (rr = 0) ∧ decide (s.keyRank 0 5 < s.keyRank 0 3) = decide (rr = 4) ∧
      (let a := s.keyLock ⟨3, 0, 3, home, 4⟩; a.2 % 2 ^ 16 ≠ 3 ∧ (a.1.keyLock ⟨5, 0, 5, at5, 4⟩).2 % 2 ^ 16 ≠ 3) ∧
      (let b := s.keyLock ⟨5, 0, 5, at5, 4⟩; b.2 % 2 ^ 16 ≠ 3 ∧ (b.1.keyLock ⟨3, 0, 3, home, 4⟩).2 % 2 ^ 16 ≠ 3)) ∧
    (twoLocks home 0).keyLock ⟨3, 0, 3, 0, 4⟩ = (twoLocks home 0, 3) ∧
    (let s := twoLocks home 0; s.keyGiven ⟨3, 0, 3, home, 4⟩ = none ∧ s.keyGiven ⟨5, 0, 5, home, 4⟩ = none ∧
      ({ s with key := { s.key with given := [(⟨3, 3, home, 4, none⟩, 7)] } } : State).keyGiven ⟨3, 0, 3, home, 4⟩ = some 7) ∧
    (let s := (screeding (encR 0x31 4 1 2 0)); s.presents 193 (encR 0x31 4 1 2 0) 0 ⟨[4, 1, 2], []⟩ ∧
      (s.mason 193).lockAt ((s.mason 193).reg 1).toNat ((s.mason 193).reg 2).toNat = .go home []) ∧
    (∀ f ∈ [id, heldBy 3, heldBy 4, reading ∘ heldBy 3], (engineOn (encR 0x31 4 1 0 1) 9 1 f).presents 3 (encR 0x31 4 1 0 1)
      ignC ⟨[4, 1], []⟩) ∧
    (heldBy 3 out).lockBusy 3 ⟨false, home / 64, 4, 0, 3, 0, false⟩ = false ∧
    (reading (heldBy 3 out)).lockBusy 3 ⟨false, home / 64, 4, 0, 3, 0, false⟩ = true := by
  and_intros <;> (try unfold State.presents) <;> decide +kernel

/-- An entry of R247: valid, readable and writable, 4 KB from virtual `page` to `home`. -/
def entryLine (page : Nat) : BitVec 512 :=
  BitVec.ofNat 512 (2 ^ 63 + page * 2 ^ 12 + home * 2 ^ 64)

/-- Line register 5 holding `d`, and template slot 0 a valid entry for page 2 with an overlapping request. -/
def templated (d : BitVec 512) (s : State) : State := s.modMason 3 (fun x =>
  { x.setLine 5 ⟨d, false, 0⟩ with tpl := [(0, entryOf (entryLine 2))] })

theorem witness_AkletTemplates :
    (∀ f ∈ [templated (entryLine 1), templated (entryLine 2), templated 0], (engineOn (encR 0x38 0 5 0 0x10) 0 0 f).presents 3
      (encR 0x38 0 5 0 0x10) (ignA + ignC) ⟨[], [5]⟩) ∧
    (marked (encR 0x38 0 5 0 0x10)).presents 3 (encR 0x38 0 5 0 0x10) (ignA + ignC) ⟨[], [5]⟩ ∧
    tplGood (entryOf (entryLine 1)) = true ∧ tplGood (entryOf 0) = false ∧
    tplMeets (entryOf (entryLine 2)) (entryOf (entryLine 2)) = true ∧
    tplMeets (entryOf (entryLine 1)) (entryOf (entryLine 2)) = false ∧ (masonAt 0).clock < 64 ∧
    (engineOn (encR 0x38 0 1 0 0x11) 0x2000 0 (templated 0)).presents 3 (encR 0x38 0 1 0 0x11) (ignA + ignC) ⟨[1], []⟩ ∧
    Tbl.sorted ((engineOn 0 0x2000 0 (templated 0)).mason 3).tpl = true ∧
    (entryOf (entryLine 2)).hits 0x2000 = true ∧ (entryOf (entryLine 2)).hits 0x3000 = false ∧
    (∀ w ∈ [encR 0x38 0 0 0 0x12, encR 0x38 0 0 0 0x13], (engineOn w 0 0 (templated 0)).presents 3 w
      (ignA + ignB + ignC) ⟨[], []⟩ ∧ (engineOn w 0 0 reading).presents 3 w (ignA + ignB + ignC) ⟨[], []⟩) ∧
    ((reading out).mason 3).outs.any (fun o => o.stale) = false ∧
    (((reading out).modMason 3 (fun x => { x with outs := x.outs.map (fun o => { o with stale := true }) })).mason 3).outs.any
      (fun o => o.stale) = true := by
  and_intros <;> (try unfold State.presents) <;> decide +kernel

theorem witness_StepRunsFront :
    ({ out with pending := [derating] } : State).pending = derating :: [] ∧ State.reset.pending = [] := ⟨rfl, rfl⟩

theorem witness_CoreFrame : touchesCore derating = false ∧ nexts derating out := ⟨rfl, nexts_of (by decide +kernel)⟩

theorem witness_TablesKept : State.reset.tablesWf = true ∧ (∃ t, step State.reset = .next t) ∧
    ({ trained with pending := [derating] } : State).tablesWf = true ∧ nexts derating trained :=
  ⟨by decide, ⟨_, rfl⟩, by decide +kernel, nexts_of (by decide +kernel)⟩

theorem witness_FatalLatched : ({ out with fatal := true } : State).fatal = true ∧ (derating : Instr) ≠ .coldResetAssert ∧
    nexts derating { out with fatal := true } ∧ State.reset.pending.head? ≠ some .coldResetAssert :=
  ⟨rfl, by decide, nexts_of (by decide +kernel), by decide⟩

theorem witness_ColdReset :
    State.reset.cold = true ∧ (derating : Instr) ≠ .coldResetAssert ∧ (∀ x corr lost, (derating : Instr) ≠ .coldResetRelease x corr lost) ∧
    out.rowUnderWrite = none ∧ (storing.rowUnderWrite.map (·.2)) = some (some (1, 0)) ∧
    (rawWriting.rowUnderWrite.map (·.2)) = some none ∧ Tbl.sorted trained.chans = true ∧ out.cold = false := by
  refine ⟨by decide, by decide, fun _ _ _ => by simp [derating], ?_⟩; decide +kernel

theorem witness_WarmResetAndUptime :
    out.cold = false ∧ out.warm = 0 ∧ (∀ p ∈ [1, 2, 3], p ≠ 0 ∧ ({ out with warm := p } : State).warm = p) ∧
    (∀ r ∈ (reading out).reqs, (reading out).drainWaits r = false) ∧
    (out.rawF BLK_BOOT_STEP 0 0 0 ≠ 2 ∧ (fields out [(BLK_BOOT_STEP, 0, 2)]).rawF BLK_BOOT_STEP 0 0 0 = 2) ∧
    (let s := (fields trained [(PNT_STATUS_LPSTATE, 1, 2)]).modChan 1 (fun x => { x with wasTrained := true })
     (∀ c, c < s.build → (s.chan c).wasTrained = true → s.lpState c = 2) ∧ (s.chan 1).wasTrained = true) ∧
    ((fields out [(BLK_BOOT_STEP, 0, 9)]).rawF BLK_BOOT_STEP 0 0 0 = 9 ∧ out.rawF BLK_BOOT_STEP 0 0 0 ≠ 9 ∧ out.build ≤ 24) ∧
    (∀ lost ∈ [true, false], let s := { trained.modChan 1 (fun x => { x with wasTrained := true, pllLost := lost }) with warm := 3 };
      s.cold = false ∧ s.warm = 3 ∧ (s.chan 1).wasTrained = true ∧ (s.chan 1).pllLost = lost ∧ 1 < s.build) ∧
    (∀ c ∈ List.range 24, (out.chan c).wasTrained = false) ∧ ({ out with warmAt := 4 } : State).warmAt < 5 ∧
    (let s := fields trained [(SCR_STATUS_STATE, 1, 0)]; 1 ∈ s.validChans ∧ s.scrState 1 = 0) ∧
    out.rclkLost = false ∧ ({ out with rclkLost := true } : State).rclkLost = true ∧
    (rawWriting.rowUnderWrite.all (fun e => decide (e.1 ≠ 0)) = true ∧ rawWriting.rowUnderWrite.isSome = true ∧
      rawWriting.rclkLost = false) := by
  decide +kernel

/-- `live` with rank 0 of subchannel A asleep both ways, so that the checker faults every command to it. -/
def asleep : State := live.modPnt 1 (fun p => { p with sr := [0], pd := [(0, 5)] })

theorem witness_ViolationFences :
    (∀ e ∈ ownRows, (asleep.judgedOwn slot0 e.2).mustFail 1 (Cmd.passed slot0 e.2) 0x3C 0) ∧
    (∀ e ∈ mntRows, asleep.mustFail 1 (Cmd.mnt slot0 e.2 (if e.2 = .mpc then 5 else 0)) 0x3C 0) := by
  unfold State.mustFail; decide +kernel

/-- What a choice of the issuer needs, in one computation. -/
theorem takes_of {s : State} {cmd : Cmd} {kind : CmdKind} (ok : Cand → Bool)
    (h1 : (decide (s.cold = false) && s.issuerOn cmd.chan cmd.sub) = true)
    (h2 : (s.judgedFor cmd).mayPass cmd.chan (Cmd.passed cmd kind))
    (h3 : (match ((s.judgedFor cmd).choice cmd.chan cmd.sub cmd.cyc).2 with
      | none => false
      | some k => decide ((s.judgedFor cmd).cmdOf cmd.chan k = kind) && ok k &&
          decide (k.pos.sub = cmd.sub ∧ k.pos.rank = cmd.rank ∧ k.pos.bg = cmd.bg ∧ k.pos.ba = cmd.ba ∧ k.pos.row = cmd.row ∧
            k.pos.col = cmd.col ∧ cmd.rid = if k.req.isScrub then none else some k.req.rid)) = true) :
    ∃ k, s.takes cmd kind k ∧ ok k = true := by
  simp only [Bool.and_eq_true, decide_eq_true_eq] at h1
  split at h3
  · cases h3
  · rename_i k hk
    simp only [Bool.and_eq_true, decide_eq_true_eq] at h3
    obtain ⟨⟨hc, ho⟩, h1', h2', h3', h4', h5, h6, h7⟩ := h3
    exact ⟨k, ⟨h1.1, h1.2, h2, hk, hc, h1', h2', h3', h4', fun _ => h5, fun _ => h6, h7⟩, ho⟩

/-- `slot0` for request 1. -/
def slot1 : Cmd := { slot0 with rid := some 1 }

/-- A read, or a write in a write phase, of a row that is open with predictor `p`. -/
def hit (op : Op) (p : Nat) : State := asking op (fields (opened 0 p live) [(TIM_STATUS_PHASE_A, 1, if op.dataBearing then 1 else 0)])

/-- `live` with bank 0 closed, its last row `l`. -/
def lastAt (l : Nat) : State := live.modTim 1 (fun t => { t with banks := [(0, ⟨none, some l, 1, 100⟩)] })

theorem witness_IssuerCommands :
    (∃ k, (asking .rdLine live).takes slot1 .act k ∧
      decide ((((asking .rdLine live).judgedFor slot1).bank 1 k.pos.bank).lastRow = none) = true) ∧
    (∃ k, (asking .rdLine (lastAt 0)).takes slot1 .act k ∧
      decide ((((asking .rdLine (lastAt 0)).judgedFor slot1).bank 1 k.pos.bank).lastRow = some k.pos.row) = true) ∧
    (∃ k, (asking .rdLine (lastAt 5)).takes slot1 .act k ∧
      decide ((((asking .rdLine (lastAt 5)).judgedFor slot1).bank 1 k.pos.bank).lastRow ≠ some k.pos.row) = true) ∧
    (∃ k, (asking .rdLine (opened 3 3 live)).takes slot1 .pre k ∧ true = true) ∧
    (∃ k, (hit .rdLine 0).takes slot1 .rda k ∧ true = true) ∧ (∃ k, (hit .rdLine 3).takes slot1 .rd k ∧ true = true) ∧
    (∃ k, (hit .wrLine 0).takes slot1 .wra k ∧ (!k.req.isScrub && !k.req.isSpare) = true) ∧
    (∃ k, (hit .wrLine 3).takes slot1 .wr k ∧ (!k.req.isScrub && !k.req.isSpare) = true) := by
  and_intros <;> apply takes_of (ok := _) <;> (try unfold State.mayPass) <;> decide +kernel

/-- Unit 0 of `live` owes `n` refreshes. -/
def owing (n : Int) (s : State) : State := s.setOwed 1 0 n

theorem witness_PrechargesAndRefresh :
    ((∀ k ∈ [CmdKind.presb, .preab], ((opened 0 3 (owing 1 live)).judgedOwn slot0 k).mayPass 1 (Cmd.passed slot0 k)) ∧
      (∃ e ∈ ((opened 0 3 (owing 1 live)).chan 1).tim.chkOpen, inIndex 0 0 0 e.1 = true ∧ inUnit 0 0 e.1 = true ∧
        (opened 0 3 (owing 1 live)).wantsClosed 1 20000 e.1 = true)) ∧
    (let s := opened 0 3 live;
      s.mayPass 1 (Cmd.passed slot0 .pre) ∧ s.fld TIM_ISSUE_IDLE_CLOSE 1 0 0 ≠ 0 ∧ (s.chan 1).tim.replaying = false ∧ s.bankOpen 1 0 = true ∧
      s.bankWanted 1 0 = false ∧ (s.bank 1 0).used + 16 * s.fld TIM_ISSUE_IDLE_CLOSE 1 0 0 ≤ 20000 ∧ (Cmd.passed slot0 .pre).bankKey = 0 ∧
      Tbl.get (s.chan 1).tim.left 0 0 + 16 * s.fld TIM_ISSUE_IDLE_CLOSE 1 0 0 ≤ 20000) ∧
    (let s := (owing 1 live).judgedOwn slot0 .refab;
      s.mayPass 1 (Cmd.passed slot0 .refab) ∧ s.refMode 1 = 0 ∧ 0 ∈ s.units 1 ∧ s.mayRefresh 1 0 20000 = true ∧
      s.backingOff 1 0 20000 = false ∧ s.anyOpen 1 (inUnit 0 0) = false ∧ (∀ e ∈ (s.chan 1).pnt.extraDue, e / 4 ≠ 0)) ∧
    ((live.modTim 1 (fun t => { t with banks := [(0, ⟨some 3, some 3, 0, 5⟩)] })).banksDiffer 1 = true ∧
      (live.modTim 1 (fun t => { t with banks := [(0, ⟨some 3, some 3, 0, 5⟩)] })).mayPass 1 (Cmd.passed slot0 .refab)) ∧
    (let s := fields (owing 1 live) [(PNT_STATUS_MODE_IN, 1, 1)];
      s.mayPass 1 (Cmd.passed { slot0 with fine := true } .refab) ∧ s.refMode 1 = 1 ∧ s.mayRefresh 1 0 20000 = true) ∧
    (let s := (fields (owing 1 live) [(PNT_STATUS_MODE_IN, 1, 2)]).judgedOwn slot0 .refsb;
      s.mayPass 1 (Cmd.passed slot0 .refsb) ∧ s.refMode 1 = 2 ∧ Tbl.get (s.chan 1).pnt.nextSb 0 0 = 0 ∧
      s.mayRefresh 1 0 20000 = true ∧ s.backingOff 1 0 20000 = false ∧ s.anyOpen 1 (inIndex 0 0 0) = false ∧
      (∀ e ∈ (s.chan 1).pnt.extraDue, e / 4 ≠ 0)) ∧
    (let s := live.modPnt 1 (fun p => { p with rfmDue := [0], raa := [(0, 40)] });
      s.mayPass 1 (Cmd.passed slot0 .rfmsb) ∧ (∃ b ∈ (s.chan 1).pnt.rfmDue, inIndex 0 0 0 b = true) ∧
      s.anyOpen 1 (inIndex 0 0 0) = false ∧ Tbl.sorted (s.chan 1).pnt.raa = true) ∧
    (live.cold = false ∧ live.hasChan 1 = true ∧ 0 ∈ live.units 1 ∧ live.lpState 1 ≠ 2 ∧
      Tbl.find (live.chan 1).pnt.nextTick 0 = some 100000 ∧ Tbl.find (live.chan 1).pnt.nextTick 0 ≠ some 20000 ∧
      (owing 4 live).owed 1 0 = 4 ∧ live.postLim 1 = 4 ∧ (owing 5 live).owed 1 0 = 5 ∧ live.refMode 1 ≠ 2) := by
  unfold State.mayPass; and_intros <;> decide +kernel

/-- Unit 0 of `live` in a back-off since 100 with `n` RFMab left. -/
def backed (n : Nat) : State := (live.modTim 1 (fun t => { t with backoff := [(0, 100)] })).modPnt 1
  (fun p => { p with aboLeft := [(0, n)] })

/-- `live` with DIMMs without PRAC. -/
def unpracked : State := live.modChan 1 (fun x => { x with dimm := { x.dimm with prac := false } })

theorem witness_BackoffAndRankStates :
    (live.cold = false ∧ live.alertOn 1 = true ∧ (live.chan 1).fenced = false ∧ live.fld TIM_ALERT_PW_MIN 1 0 0 ≤ 30 ∧
      30 ≤ live.fld TIM_ALERT_PW_MAX 1 0 0 ∧ live.method 1 = 0 ∧ unpracked.method 1 ≠ 0 ∧
      (∀ sub ∈ [0, 1], (live.chan 1).tim.backLive (physKey sub 0) 20000 = none ∧
        Tbl.find (live.chan 1).tim.backoffEnd (physKey sub 0) = none) ∧
      (live.chan 1).tim.replaying = false ∧ live.fld TIM_ALERT_PW_MAX 1 0 0 < 500) ∧
    (∀ pre ∈ [true, false], let s := live.modTim 1 (fun t => { t with replaying := true, replayPre := pre });
      s.alertOn 1 = true ∧ (s.chan 1).tim.replaying = true ∧ (s.chan 1).tim.replayPre = pre ∧
      (s.chan 1).tim.backLive (physKey 0 0) 20000 = none ∧ (s.chan 1).tim.backLive (physKey 1 0) 20000 = none) ∧
    (let s := live.modTim 1 (fun t => { t with desel := [(0, 20030)] });
      s.alertOn 1 = true ∧ (∃ e ∈ (s.chan 1).tim.desel, e.2 = 20030) ∧ ∀ e ∈ (s.chan 1).tim.desel, e.2 ≠ 20031) ∧
    (∀ n ∈ [1, 2], (backed n).mayPass 1 (Cmd.passed slot0 .rfmab) ∧
      Tbl.find ((backed n).chan 1).tim.backoff ((backed n).unitPhys 1 0) = some 100 ∧
      Tbl.get ((backed n).chan 1).pnt.aboLeft 0 0 = n ∧ (backed n).backingOff 1 0 20000 = true ∧ 100 + (backed n).row 1 35 ≤ 20000 ∧
      (backed n).anyOpen 1 (inPhys ((backed n).stack 1) 0 (physRank ((backed n).stack 1) 0)) = false ∧
      0 ∈ (backed n).units 1) ∧
    (∀ v ∈ (backed 1).units 1, v ≠ 0 → Tbl.get ((backed 1).chan 1).pnt.aboLeft 0 v = 0) ∧
    (let s := (live.srBegin 1 1).judgedOwn slot0 .sre;
      s.srReady 1 20000 = true ∧ s.pntHolds 1 = true ∧ s.mayPass 1 (Cmd.passed slot0 .sre) ∧
      physKey 0 0 ∈ s.physUnits 1 ∧ (s.chan 1).tim.chkOpen = [] ∧
      s.units 1 = [0, 4] ∧ s.owed 1 0 ≤ 0 ∧ s.owed 1 4 ≤ 0) ∧
    (∀ h ∈ [206, 257],
      let s := ((fields live [(PNT_STATUS_LPSTATE, 1, 3)]).modPnt 1 (fun p => { p with sr := [0] })).setHolder 1 (some h)
      s.mayPass 1 (Cmd.passed slot0 .srx) ∧ s.lpState 1 = 3 ∧ s.pllBack 1 = true ∧ physKey 0 0 ∈ (s.chan 1).pnt.sr ∧
      s.pntHolds 1 = decide (h = 206) ∧ (s.chan 1).mntHolder = some h) ∧
    (let s := live;
      s.mayPass 1 (Cmd.passed slot0 .pde) ∧ s.lpState 1 = 0 ∧ physKey 0 0 ∈ s.physUnits 1 ∧
      Tbl.find (s.chan 1).pnt.pd (physKey 0 0) = none ∧ s.pdDue 1 0 0 20000 = true) ∧
    (let s := asking .rdLine (live.modPnt 1 (fun p => { p with pd := [(0, 100)] }));
      s.mayPass 1 (Cmd.passed slot0 .pdx) ∧ (Tbl.find (s.chan 1).pnt.pd (physKey 0 0)).isSome = true ∧
      (s.physOf 1 0 0).any (fun u => s.unitWanted 1 u || s.urgent 1 u) = true) := by
  unfold State.mayPass; and_intros <;> decide +kernel

theorem witness_MaintenanceAndCalibration :
    (pathed.pntHolds 1 = true ∧ pathed.mayPass 1 (Cmd.mnt slot0 .mrr 0) ∧ pathed.mayPass 1 (Cmd.mnt slot0 .mrw 0) ∧
      ∀ d ∈ [4, 5, 6], pathed.mayPass 1 (Cmd.mnt slot0 .mpc d)) ∧
    (live.cold = false ∧ live.hasChan 1 = true ∧ live.lpState 1 = 0 ∧ live.pollDue 1 = true ∧ (live.chan 1).pnt.pd = [] ∧
      (live.chan 1).mntHolder = none ∧ (live.chan 1).pnt.calmPolls = 0 ∧ pathed.pollDue 1 = true ∧ pathed.pntHolds 1 = true ∧
      (∀ k ∈ [({ ask0 with chan := some 2 } : KeyAsk), { ask0 with idx := 230, chan := some 1 }], live.pathRival 1 206 k = false)) ∧
    (let s := { pathed with uptime := 200000000 };
      s.pntHolds 1 = true ∧ s.mayPass 1 (Cmd.mnt slot0 .mpc 5) ∧ s.fld PNT_CFG_ZQ_PERIOD 1 0 0 ≠ 0 ∧
      Tbl.find (s.chan 1).pnt.zqOpen (s.cmdPhys slot0) = none ∧
      Tbl.get (s.chan 1).pnt.zqLast 0 (s.cmdPhys slot0) + s.fld PNT_CFG_ZQ_PERIOD 1 0 0 * 1000000 ≤ s.uptime ∧ s.lpState 1 = 0) ∧
    (let s := pathed.modPnt 1 (fun p => { p with zqOpen := [(0, 100)] });
      s.pntHolds 1 = true ∧ s.mayPass 1 (Cmd.mnt slot0 .mpc 4) ∧
      Tbl.find (s.chan 1).pnt.zqOpen (s.cmdPhys slot0) = some 100 ∧ 100 + s.row 1 41 ≤ 20000) := by
  unfold State.mayPass; and_intros <;> decide +kernel

/-- Channel 1 of `live` as the MRDIMM of R138's last column, its pending copy that column. -/
def columned : State := rowNumbers.foldl (fun t k => t.setRow 1 k
    (if nth column17600 (k - 1) ≠ 0 then nth column17600 (k - 1) else (rowRange k).2))
  (fields live [(TIM_RATE_MULT, 1, 44), (TIM_RATE_DIMM, 1, 1), (MAP_GEOM_DENS, 1, 4), (MAP_GEOM_WIDTH, 1, 0),
    (MAP_GEOM_PHYS, 1, 1), (MAP_GEOM_HEIGHT, 1, 0)])

/-- The checks of R140 pass over that copy. -/
theorem columned_passes : columned.tabFault 1 (columned.pendList 1) = none := by
  have hk : columned.mult 1 = 44 ∧ columned.mrdimm 1 = true ∧ columned.rawF MAP_GEOM_DENS 1 0 0 = 4 ∧
      columned.rawF MAP_GEOM_WIDTH 1 0 0 = 0 ∧ columned.rawF MAP_GEOM_PHYS 1 0 0 = 1 ∧
      columned.rawF MAP_GEOM_HEIGHT 1 0 0 = 0 := by decide +kernel
  have h1 : rowNumbers.find? (fun k => decide (tabRow (columned.pendList 1) k < (rowRange k).1 ∨
      (rowRange k).2 < tabRow (columned.pendList 1) k)) = none := by decide +kernel
  have h2 : (tabRelations (columned.pendList 1)).find? (fun e => !e.2) = none := by decide +kernel
  have h3 : ∀ k ∈ rowNumbers, unflooredRows.contains k = false →
      (if nth column17600 (k - 1) ≠ 0 then nth column17600 (k - 1) else (rowRange k).2) ≤ tabRow (columned.pendList 1) k ∧
      (rowRange k).1 ≤ (rowRange k).2 := by decide +kernel
  have h28 : tabRow (columned.pendList 1) 28 ≤ 8580 ∧ nth column17600 (28 - 1) = 8580 := by decide +kernel
  have slow : ∀ k, (rowRange k).1 ≤ (rowRange k).2 →
      columned.slowRow 1 k ≤ (if nth column17600 (k - 1) ≠ 0 then nth column17600 (k - 1) else (rowRange k).2) := by
    intro k hr
    unfold State.slowRow
    simp only [hk, and_self, true_and, ne_eq]
    split <;> simp_all
  have h4 : rowNumbers.find? (fun k => !unflooredRows.contains k && decide (tabRow (columned.pendList 1) k <
      columned.fastRow 1 k)) = none := by
    rw [List.find?_eq_none]
    intro k hm
    simp only [Bool.and_eq_true, Bool.not_eq_true', decide_eq_true_eq, not_and, not_lt]
    intro hu
    exact le_trans (le_trans (Nat.min_le_left _ _) (slow k (h3 k hm hu).2)) (h3 k hm hu).1
  have h5 : ¬ columned.slowRow 1 28 < tabRow (columned.pendList 1) 28 := by
    have : columned.slowRow 1 28 = 8580 := by
      unfold State.slowRow
      simp only [hk, h28.2, and_self, true_and]; rfl
    rw [this]; exact not_lt.mpr h28.1
  unfold State.tabFault
  simp only [h1, h2, h4, if_neg h5]

/-- Channel 1 of `s` in a replay of `b`, its precharges done where `pre` says. -/
def resending (pre : Bool) (b : List Passed) (s : State) : State :=
  s.modTim 1 (fun t => { t with replaying := true, replayPre := pre, replayBuf := b })

theorem witness_TableReplayPhasesSlots :
    (live.cold = false ∧ live.quo.st = 0 ∧ live.hasChan 1 = true ∧ live.tabFault 1 (live.pendList 1) = some (1, 4)) ∧
    (columned.cold = false ∧ columned.quo.st = 0 ∧ columned.hasChan 1 = true ∧
      columned.tabFault 1 (columned.pendList 1) = none) ∧
    ((live.chan 1).tim.tabI = (live.chan 1).tim.tabC ∧
      (let s := live.modTim 1 (fun t => { t with tabC := [] }); (s.chan 1).tim.tabI ≠ (s.chan 1).tim.tabC)) ∧
    (∀ s ∈ [resending true [Cmd.passed slot0 .rd] live, resending true [Cmd.passed slot0 .rd] asleep, resending true [] (backed 2)],
      s.cold = false ∧ s.hasChan 1 = true ∧ (s.chan 1).tim.replaying = true ∧ (s.chan 1).tim.replayPre = true) ∧
    (let s := resending true [Cmd.passed slot0 .rd] live;
      (s.chan 1).pnt.aboLeft = [] ∧ (s.replayed 1).2 = true ∧ 0 < ((s.replayed 1).1.chan 1).now ∧
      ((s.replayed 1).1.chan 1).now ≤ 20000) ∧
    (let s := resending true [Cmd.passed slot0 .rd] asleep; (s.chan 1).pnt.aboLeft = [] ∧ (s.replayed 1).2 = false) ∧
    ((resending true [] (backed 2)).chan 1).pnt.aboLeft ≠ [] ∧
    (let s := resending false [] (live.modChan 1 (fun x => { x with now := 5 }));
      (s.chan 1).tim.replaying = true ∧ (s.chan 1).tim.replayPre = false ∧ (s.replayShut 1).2 = true ∧
      4 < ((s.replayShut 1).1.chan 1).now ∧ ((s.replayShut 1).1.chan 1).now ≤ 20000) ∧
    (let s := resending false [] asleep; (s.chan 1).tim.replayPre = false ∧ (s.replayShut 1).2 = false) ∧
    (let s := asking .wrLine (opened 0 3 live); s.issuerOn 1 0 = true ∧ s.phaseDue 1 0 (s.chan 1).now = true) ∧
    (live.rawF TIM_STATUS_LIVE 1 0 0 = 1 ∧ (live.chan 1).rstStep = 0 ∧ live.phase 1 0 = 0 ∧
      (20000 - 0 + live.row 1 14) % 2 = 0 ∧ (live.chan 1).tim.slotAt.1 ≤ 20000 - 0 + live.row 1 14 ∧
      (live.chan 1).now ≤ 20000 - 4 + 1 ∧ (live.chan 1).tim.replaying = false ∧
      20000 - 4 + 1 < ((live.modChan 1 (fun x => { x with now := 20000 })).chan 1).now ∧
      (∀ s ∈ [resending false [] live, resending false [] (asking .rdLine live)], (s.chan 1).tim.replaying = true ∧
        s.rawF TIM_STATUS_LIVE 1 0 0 = 1 ∧ decide (s.slotClass 1 0 20008 20000 = 2) = decide (s.reqs = [])) ∧
      (let s := live.modTim 1 (fun t => { t with slotAt := (50000, 0) }); 20000 - 0 + s.row 1 14 < (s.chan 1).tim.slotAt.1)) := by
  refine ⟨by decide +kernel, ⟨by decide +kernel, by decide +kernel, by decide +kernel, columned_passes⟩, ?_⟩
  and_intros <;> decide +kernel

theorem witness_PortRequests :
    (∀ e ∈ portRows, ∃ size ∈ List.range 8, ∃ a ∈ [home, 0], e.2.wellFormed size a 0 = true ∧
      (porting 1 out).handshakes (preq size a) ∧ ¬ (porting 1 out).tagInUse (preq size a)) ∧
    ((porting 1 out).port 2).st = 1 ∧
    (∀ e ∈ portRows, ({ preq 3 home with par := (preq 3 home).goodPar e.2.code } : PReq).parBad e.2.code = false) ∧
    ((out.port 2).pairOpen = false ∧ out.reqReady 2 = false ∧ (porting 0 out).reqReady 2 = false) ∧
    (let s := (porting 1 out).setPort 2 { (porting 1 out).port 2 with pairOpen := true };
      (s.port 2).pairOpen = true ∧ (preq 3 home).slot ≠ 1 ∧ s.handshakes { preq 3 home with slot := 1 }) := by
  unfold State.handshakes State.tagInUse; and_intros <;> decide +kernel

theorem witness_PortAnswers :
    ((holding (portReq .rdLine) (porting 1 out)).handshakes (preq 6 home) ∧
      (holding (portReq .rdLine) (porting 1 out)).tagInUse (preq 6 home)) ∧
    ((porting 1 out).setPort 2 { (porting 1 out).port 2 with cycTags := [9] }).tagInUse { preq 6 home with same := true } ∧
    ((porting 3 out).handshakes (preq 6 home) ∧ ¬ (porting 3 out).tagInUse (preq 6 home) ∧ ((porting 3 out).port 2).st = 3) ∧
    ((porting 1 out).handshakes (preq 6 home) ∧ ((porting 1 out).port 2).st ≠ 3) ∧
    (∀ e ∈ portRows, (∃ attr ∈ List.range 16, e.2.wellFormed 7 (home + 1) attr = false) ∧
      ({ preq 3 home with par := !(preq 3 home).goodPar e.2.code } : PReq).parBad e.2.code = true) := by
  unfold State.handshakes State.tagInUse; and_intros <;> decide +kernel

/-- A write-data slot of port 2 for tag 9 with good parity. -/
def goodSlot : WSlot := { wslot0 with par := wslot0.goodPar }

theorem witness_PortWriteDataAndTimers :
    (let s := awaiting (porting 1 out);
      s.dataHandshakes goodSlot ∧ goodSlot.parBad = false ∧ wslot0.parBad = true ∧ (s.port 2).st ≠ 3 ∧
      (s.port 2).awaits = ⟨1, 9, 0, 0, false⟩ :: [] ∧ goodSlot.tag = 9 ∧ ({ goodSlot with tag := 10 } : WSlot).tag ≠ 9 ∧
      goodSlot.upset = 0 ∧ s.req 1 = some (portReq .wrLine) ∧
      (portReq .wrLine).status = none ∧ 0 + 1000 * max 1 (s.fld HDR_CREDIT_CFG_WD_LIMIT 2 0 0) ≤ s.uptime) ∧
    ((porting 1 out).port 2).awaits = [] ∧ (porting 1 out).dataHandshakes goodSlot ∧ ((porting 3 out).port 2).st = 3 ∧
    (porting 3 out).dataHandshakes goodSlot ∧
    (let s := (porting 1 out).setPort 2 { (porting 1 out).port 2 with wdCredits := 0 };
      (s.port 2).wdPair = false ∧ s.wdReady 2 = false) ∧
    (let r := { portReq .rdLine with status := some .ok, staged := true };
      let s := { holding r (porting 1 out) with uptime := 2 ^ 40 };
      s.offering 2 1 = some r ∧ s.fld HDR_CREDIT_CFG_STALL_LIMIT 2 0 0 ≠ 0 ∧
      r.offered + 1000 * s.fld HDR_CREDIT_CFG_STALL_LIMIT 2 0 0 ≤ s.uptime ∧ 1 ∉ (s.port 2).stalled ∧
      1 ∈ ((s.setPort 2 { s.port 2 with stalled := [1] }).port 2).stalled) := by
  unfold State.dataHandshakes; and_intros <;> decide +kernel

theorem witness_PortCompletionsAndStates :
    (let r := { portReq .rdLine with status := some .ok, staged := true };
      (holding r (porting 1 out)).offering 2 1 = some r ∧ (porting 1 out).offering 2 1 = none) ∧
    ((porting 1 out).port 2).stopped = false ∧
    (let s := (porting 3 out).setPort 2 { (porting 3 out).port 2 with stopped := true }; (s.port 2).stopped = true) ∧
    (porting 1 out).wdHeld 2 = 0 ∧ (∀ st ∈ [0, 1, 2, 3], (porting st out).serves ∧ ((porting st out).port 2).st = st) ∧
    (porting 3 out).outstanding 2 = 0 ∧
    (holding (portReq .rdLine) (porting 3 out)).outstanding 2 ≠ 0 ∧
    (let s := holding { portReq .wrLine with src := .lost 2, inBuf := true } (porting 3 out);
      (s.port 2).st = 3 ∧ s.outstanding 2 = 0 ∧ s.wdHeld 2 ≠ 0) ∧
    (fields (porting 0 out) [(BLK_BOOT_STEP, 0, 7)]).rawF BLK_BOOT_STEP 0 0 0 = 7 := by
  unfold State.serves; and_intros <;> decide +kernel

/-- A FLUSH of port 2 that holds an entry. -/
def flushing : Req := { portReq .flush with part := some 1, stage := .held }

/-- An ORDERED read of port 2 with SID `sid`. -/
def chaining (sid : Nat) : Req := { portReq .rdLine with sid := sid, attr := 1 }

/-- One of SID 600 at port 2's head, while the chains of SIDs 0 to 511 are open. -/
def chained : State := { porting 1 out with nextRid := 1000, reqs := chaining 600 :: (List.range 512).map (fun k =>
  { chaining k with rid := 2 + k, part := some 1, stage := .held }) }

theorem witness_MortarCommands_chains :
    chained.headOf 2 = some (chaining 600) ∧ (chained.locate (chaining 600)).1 = some .unmapped ∧
    chained.req 1 = some (chaining 600) ∧ chained.chainsFull 2 (chaining 600) = true ∧
    chained.chainsFull 2 (chaining 3) = false := by
  decide +kernel

theorem witness_MortarCommands :
    (porting 1 out).headOf 2 = none ∧
    (let s := holding (portReq .rdLine) (porting 1 trained);
      s.headOf 2 = some (portReq .rdLine) ∧ (s.locate (portReq .rdLine)).1 = none ∧
      s.blockedBy 2 (s.locate (portReq .rdLine)).2 = false ∧
      s.partFor (.port 2) (s.locate (portReq .rdLine)).2.dest = some 1 ∧
      ({ s with warm := 1 } : State).blockedBy 2 (s.locate (portReq .rdLine)).2 = true ∧ s.warm = 0) ∧
    (let s := holding (portReq .rdLine) (porting 1 out);
      s.headOf 2 = some (portReq .rdLine) ∧ (s.locate (portReq .rdLine)).1 = some .unmapped ∧
      s.req 1 = some (portReq .rdLine) ∧ (portReq .rdLine).status = none ∧ s.warm = 0 ∧
      s.chainsFull 2 (portReq .rdLine) = false) ∧
    (let s := holding flushing (porting 1 out);
      s.cold = false ∧ s.req 1 = some flushing ∧ s.flushReady flushing = true ∧ flushing.entryBad = false ∧ s.req 1 ≠ none) ∧
    out.serves ∧ out.cold = false := by
  unfold State.serves; and_intros <;> decide +kernel

theorem witness_MapperWrites :
    (trained.serves ∧ trained.rawF MAP_RGN_CTL_VALID 0 0 0 = 1 ∧ (w64 (2 ^ 64 - 1)).merge MAP_RGN_CTL_VALID 1 = 1 ∧
      (∃ f ∈ rgnCtlFields, (w64 (2 ^ 64 - 1)).merge f (trained.rawF f 0 0 0) ≠ trained.rawF f 0 0 0) ∧
      (w64 0).merge MAP_RGN_CTL_VALID 1 ≠ 1 ∧ out.rawF MAP_RGN_CTL_VALID 0 0 0 ≠ 1 ∧
      rgnPasses 24 5 (home / 2 ^ 21) (home / 2 ^ 21 + 15) 0 0 2 0 = true ∧
      rgnPasses 24 5 (home / 2 ^ 21) (home / 2 ^ 21 + 15) 0 0 3 0 = false ∧ out.rawF MAP_ERR_BAD_ENTRY 0 0 0 = 0) ∧
    (trained.hasChan 1 = true ∧ (∃ r, r < 64 ∧ trained.rgnNames 1 r = true) ∧ (∀ r, r < 64 → trained.rgnNames 2 r = false) ∧
      trained.geomGood 2 = true ∧ trained.expert 1 = false ∧ (w64 (2 ^ 64 - 1)).merge MAP_GEOM_VALID 0 = 1 ∧
      (w64 (2 ^ 64 - 1)).bits MAP_GEOM_VALID = 1 ∧ (fields trained [(MAP_GEOM_DENS, 2, 7)]).geomGood 2 = false) := by
  unfold State.serves; refine ⟨by decide +kernel, by decide +kernel, ⟨0, by decide +kernel⟩, ?_⟩; decide +kernel

/-- Region 1 interleaved over 4 channels from `home` with a 4 KB granule and the hash. -/
def woven : State := fields trained [(MAP_RGN_BASE_BASE, 1, home / 2 ^ 21), (MAP_RGN_CTL_WAYS, 1, 3),
  (MAP_RGN_CTL_CH_MASK, 1, 0x800013), (MAP_RGN_CTL_GRAN, 1, 3), (MAP_RGN_CTL_HASH, 1, 1)]

theorem witness_InterleaveInverse :
    (∀ r ∈ [0, 1], waysOf (woven.rawF MAP_RGN_CTL_WAYS r 0 0) ≠ 0 ∧
      ones (woven.rawF MAP_RGN_CTL_CH_MASK r 0 0) 24 = waysOf (woven.rawF MAP_RGN_CTL_WAYS r 0 0) ∧
      woven.rawF MAP_RGN_CTL_GRAN r 0 0 < 4 ∧ woven.rawF MAP_RGN_BASE_BASE r 0 0 * 2 ^ 21 ≤ home) ∧
    waysOf (woven.rawF MAP_RGN_CTL_WAYS 1 0 0) = 4 := by decide +kernel

/-- A meter with balances `tc` and `tp`. -/
def meterOf (tc tp : Int) : Meter := ⟨64, 128, 4, 8, 1, tc, tp⟩

theorem witness_GaugeMeters :
    (live.cold = false ∧ live.hasChan 1 = true ∧ Tbl.sorted (live.chan 1).set.meters = true ∧ live.serves ∧
      (live.chan 1).set.lastTick < live.uptime / 100) ∧
    (w64 (2 ^ 16 - 1)).merge GAU_RATE_PIR 5 < (w64 (2 ^ 16 - 1)).merge GAU_RATE_CIR 5 ∧
    (w64 (2 ^ 16 - 1)).merge GAU_BURST_PBS 5 < (w64 (2 ^ 16 - 1)).merge GAU_BURST_CBS 5 ∧
    (w64 0).merge GAU_BURST_CBS 5 = 0 ∧ (w64 0).merge GAU_BURST_PBS 5 = 0 ∧
    ((meterOf 5 0).tp ≤ 0 ∧ ¬ (meterOf 0 5).tp ≤ 0 ∧ (meterOf 0 5).tc ≤ 0 ∧ ¬ (meterOf 5 5).tc ≤ 0 ∧
      (Colour.red ≠ .yellow)) := by
  unfold State.serves; and_intros <;> decide +kernel

theorem witness_SetterQueues :
    (let s := holding entering (porting 1 live);
      s.cold = false ∧ s.req 1 = some entering ∧ s.enqueueReady entering = true ∧ s.chanUp 1 = true) ∧
    (let s := holding entering (porting 1 out);
      s.req 1 = some entering ∧ s.enqueueReady entering = true ∧ s.chanUp 1 = false ∧ s.drainsOut 1 = false ∧
      entering.status = none) ∧
    (let s := { out with uptime := 100 }; ∀ c, c < s.build → s.uptime / 256 ≤ (s.chan c).set.lastSample) := by
  and_intros <;> decide +kernel

theorem witness_RefreshModesAndTracker :
    (live.serves ∧ live.hasChan 1 = true ∧ live.isTrained 1 = true ∧ live.modeOf 1 1 ≠ live.refMode 1 ∧
      (fields live [(SCR_STATUS_STATE, 1, 0)]).isTrained 1 = false) ∧
    (∀ b ∈ [[0, 4], []], (let s := live.modPnt 1 (fun p => { p with modePend := some 1, modeWritten := b });
      s.cold = false ∧ (s.chan 1).pnt.modePend = some 1 ∧ Tbl.find (s.chan 1).pnt.nextTick 0 = some 100000 ∧
      (s.chan 1).pnt.modeWritten = b ∧ s.units 1 = [0, 4] ∧ (∀ u ∈ s.units 1, s.owed 1 u ≤ 0) ∧ (s.chan 1).now ≤ 100000 ∧
      100000 < ((s.modChan 1 (fun x => { x with now := 100001 })).chan 1).now ∧ ∀ e ∈ (s.chan 1).pnt.nextTick, 100000 ≤ e.2)) ∧
    ((live.chan 1).now < (live.chan 1).pnt.lastHalve + 8192 * live.row 1 28 ∧
      (let s := live.modChan 1 (fun x => { x with now := 8192 * 8, pnt := { x.pnt with track := [(0, [(3, 9)])], coldEnd := some 65536 } });
        (s.chan 1).pnt.lastHalve + 8192 * s.row 1 28 ≤ (s.chan 1).now ∧ (s.chan 1).pnt.coldEnd = some 65536 ∧
        65536 ≤ (s.chan 1).now) ∧
      (let s := live.modPnt 1 (fun p => { p with coldEnd := some 1 });
        (s.chan 1).pnt.coldEnd = some 1 ∧ (s.chan 1).now < 1)) := by
  unfold State.serves; and_intros <;> decide +kernel

theorem witness_SelfRefresh :
    (live.serves ∧ live.hasChan 1 = true ∧ live.isTrained 1 = true ∧ live.lpState 1 = 0 ∧ live.scrState 1 = 2 ∧
      live.srIdle 1 = false ∧ (let s := (fields live [(PNT_CTRL_LP, 1, 1)]).modChan 1 (fun x => { x with now := 10000000 });
        s.srIdle 1 = true ∧ s.lpState 1 = 0 ∧ s.scrState 1 = 2)) ∧
    (∀ why ∈ [1, 2], (let s := asking .rdLine ((fields live [(PNT_STATUS_LPSTATE, 1, 2)]).modPnt 1 (fun p => { p with srWhy := why }));
      s.cold = false ∧ s.lpState 1 = 2 ∧ (s.chan 1).pnt.srWhy = why ∧ s.waiting 1 ≠ [])) ∧
    (∀ why ∈ [2, 4], ∀ req ∈ [0, 1],
      (let s := (fields live [(PNT_STATUS_LPSTATE, 1, 2), (PNT_CTRL_SR_REQ, 1, req)]).modPnt 1 (fun p => { p with srWhy := why });
      s.cold = false ∧ s.lpState 1 = 2 ∧ (s.chan 1).pnt.srWhy = why ∧ s.waiting 1 = [] ∧ s.rawF PNT_CTRL_SR_REQ 1 0 0 = req)) ∧
    (fields live [(SCR_STATUS_STATE, 1, 0)]).isTrained 1 = false ∧
    (∀ h ∈ [206, 257],
      let s := (((fields live [(PNT_STATUS_LPSTATE, 1, 3)]).modPnt 1 (fun p => { p with srStep := 4 })).modTim 1
        (fun t => { t with hist := [Cmd.passed slot0 .srx] })).setHolder 1 (some h)
      s.lastSrx 1 = some 20000 ∧ s.lpState 1 = 3 ∧ (s.chan 1).pnt.sr = [] ∧ (s.chan 1).pnt.srStep = 4 ∧
      s.pntHolds 1 = decide (h = 206) ∧ (s.chan 1).mntHolder = some h) := by
  unfold State.serves; and_intros <;> decide +kernel

/-- A burst of request 1's line in channel 1 on its way back, its line written. -/
def bursting : State :=
  let s := holding { entering with stage := .issued, lines := [{ line0 with stage := .reading }] } (porting 1 live)
  { s.modTim 1 (fun t => { t with bursts := [⟨1, home, line0.pos, 15000⟩] }) with
    dram := [(dramKey 1 line0.pos, rsEncode false 0 home false)] }

theorem witness_BurstVerdicts :
    (live.cold = false ∧ live.hasChan 1 = true ∧ (live.chan 1).tim.bursts = [] ∧ bursting.burstStale 1 = false) ∧
    (let r := { entering with stage := .issued, lines := [{ line0 with stage := .reading }] };
      (bursting.chan 1).tim.bursts = ⟨1, home, line0.pos, 15000⟩ :: [] ∧ bursting.req 1 = some r ∧
      r.lineOfBurst ⟨1, home, line0.pos, 15000⟩ = some { line0 with stage := .reading } ∧ r.src = .port 2 ∧ r.op = .rdLine ∧
      r.run = none ∧ r.status = none) ∧
    (bursting.judgeBurst 1 ⟨1, home, line0.pos, 15000⟩ [] false).verdict = .clean ∧
    (({ bursting with dram := [] } : State).judgeBurst 1 ⟨1, home, line0.pos, 15000⟩ [] false).verdict = .uncorrectable := by
  and_intros <;> decide +kernel

theorem witness_PatrolAndInitialisation :
    (live.cold = false ∧ live.hasChan 1 = true ∧ live.patrolOn 1 = true ∧
      live.nextMapped 1 (live.chan 1).ash.patrol = some 0 ∧
      (live.chan 1).ash.dueAt.1 ≤ live.uptime ∧ out.patrolOn 1 = false ∧ 0 < live.fld ASH_SCRUB_PERIOD 1 0 0 ∧
      (let s := live.modAsh 1 (fun a => { a with dueAt := (2 ^ 50, 0) }); s.uptime < (s.chan 1).ash.dueAt.1) ∧
      (let s := live.modAsh 1 (fun a => { a with patrol := 2 ^ 40 });
        s.nextMapped 1 (s.chan 1).ash.patrol = none ∧ s.nextMapped 1 0 = some 0 ∧ s.patrolOn 1 = true ∧
        (s.chan 1).ash.dueAt.1 ≤ s.uptime) ∧
      0 < live.mappedLines 1 ∧ (let s := { live.modAsh 1 (fun a => { a with passOn := true }) with uptime := 2 ^ 50 };
        (s.chan 1).ash.passOn = true ∧ s.patrolNs 1 * 101 < (s.uptime - (s.chan 1).ash.passStart) * 100 ∧ s.rawF ASH_STATUS_PATROL_LATE 1 0 0 = 0 ∧
        (fields s [(ASH_STATUS_PATROL_LATE, 1, 1)]).rawF ASH_STATUS_PATROL_LATE 1 0 0 ≠ 0)) ∧
    (live.serves ∧ (fields live [(ASH_INIT_BUSY, 1, 1)]).rawF ASH_INIT_BUSY 1 0 0 = 1 ∧ live.rawF ASH_INIT_BUSY 1 0 0 ≠ 1 ∧
      live.rawF ASH_INIT_START_OFF 1 0 0 = 0 ∧ live.rawF ASH_INIT_COUNT 1 0 0 = 0 ∧ live.nextMapped 1 0 = some 0 ∧
      0 < live.chanLines 1 ∧ out.serves ∧ out.nextMapped 1 0 = none ∧
      (let s := live.modAsh 1 (fun a => { a with initRun := some (64, 64) });
        (s.chan 1).ash.initRun = some (64, 64) ∧ s.scrubs 1 3 = [])) := by
  unfold State.serves; and_intros <;> decide +kernel

theorem witness_CountersAndMarks :
    (let s := { live with uptime := 2 ^ 50 };
      s.cold = false ∧ s.hasChan 1 = true ∧
      (s.chan 1).ash.lastLeak.1 + 1000000000 * max 1 (s.fld ASH_THRESH_LEAK 1 0 0) ≤ s.uptime ∧
      (s.chan 1).ash.lastLeak.2 + 1000000000 * max 1 (s.fld ASH_THRESH_LEAK 1 1 0) ≤ s.uptime) ∧
    (live.serves ∧ live.expert 6 = false ∧ (fields live [(BLK_EXPERT_EN_EN, 0, 2 ^ 6)]).serves ∧
      (fields live [(BLK_EXPERT_EN_EN, 0, 2 ^ 6)]).expert 6 = true) ∧
    (let s := (fields live [(ASH_SPARE_STATE, 1, 1)]).modAsh 1 (fun a => { a with spareAt := 2 ^ 40 });
      s.rawF ASH_SPARE_STATE 1 0 0 = 1 ∧ s.scrubs 1 2 = [] ∧ s.chanLines 1 ≤ (s.chan 1).ash.spareAt ∧
      s.rawF ASH_SPARE_FROM 1 0 0 < 4) := by
  unfold State.serves; and_intros <;> decide +kernel

/-- Full training of channel 1 in step `k` of attempt `n`, 2 attempts of 100 ms steps allowed. -/
def training (k n : Nat) : State := (fields live [(SCR_STATUS_STATE, 1, 1), (SCR_STATUS_STEP, 1, k)]).modChan 1 (fun x =>
  { x with mntHolder := some 230, scr := { x.scr with
      run := 1, attempt := n, latched := [2, 1, 1, 12, 9, 19, 32, 3, 100, 1000], zqBusy := true,
      stepAt := (9000000, 9000000), attAt := 9000000 } })

/-- `training` on the last rank of subchannel A, subchannel B done and passed. -/
def lastOf (k n : Nat) : State := (training k n).modScr 1 (fun x => { x with
  prog := (0, 1), newRes := [(10 + k, 2 ^ 60)] })

/-- The end of a step whose sweeps pass everywhere, or nowhere. -/
def stepEnd (good : Bool) : StepEnd := { endWell with
  regions := (List.range 17).map (fun q => ⟨q, none, none, none, if good then 0 else 1, if good then 127 else 0⟩) }

theorem witness_FullTraining :
    (∀ st ∈ [0, 4], (let s := fields live [(SCR_STATUS_STATE, 1, st)];
      s.serves ∧ s.hasChan 1 = true ∧ s.scrState 1 = st ∧ s.rawF MAP_GEOM_VALID 1 0 0 = 1 ∧ s.warm = 0 ∧
      (s.chan 1).rstStep = 0 ∧ s.rateOk 1 = true)) ∧
    (live.scrState 1 = 2 ∧ live.serves) ∧
    (let s := fields live [(SCR_STATUS_STATE, 1, 0), (BLK_BOOT_STEP, 0, 5)];
      s.serves ∧ s.rawF BLK_BOOT_STEP 0 0 0 = 5 ∧ s.warm = 0 ∧ 1 ∈ s.validChans ∧ s.scrState 1 = 0 ∧ 2 ∉ s.validChans) ∧
    (fields live [(BLK_BOOT_STEP, 0, 8)]).rawF BLK_BOOT_STEP 0 0 0 ≠ 5 ∧
    (∀ k ∈ [2, 6, 8], ∀ n ∈ [1, 2], (training k n).trainsAt 1 k ∧ ((training k n).chan 1).scr.attempt = n ∧
      nth ((training k n).chan 1).scr.latched 0 = 2) ∧
    (∀ k ∈ [2, 6, 8], (lastOf k 1).trainsAt 1 k ∧ (lastOf k 1).lastRank 1 0 k ∧
      (training k 1).stepUnits 1 k = 1 ∧ ((lastOf k 1).chan 1).scr.rowFailed 0 k = false ∧
      ((lastOf k 1).chan 1).scr.rowPassed 1 k = true ∧ (lastOf k 1).badLanes 1 k 0 0 (stepEnd true) false = 0 ∧
      (lastOf k 1).badLanes 1 k 0 0 (stepEnd false) false ≠ 0) ∧
    ((training 2 1).runLate 1 = false ∧ (training 2 1).stepLate 1 0 = false) ∧
    (let s := { lastOf 2 1 with uptime := 200000000 }; s.trainsAt 1 2 ∧ s.runLate 1 = false ∧ s.stepLate 1 0 = true) ∧
    (let s := { training 2 1 with uptime := 2000000000 }; s.trainsAt 1 2 ∧ s.runLate 1 = true ∧
      (s.chan 1).scr.at 0 < s.stepUnits 1 2) := by
  unfold State.serves State.trainsAt State.lastRank; and_intros <;> decide +kernel

theorem witness_RetrainAndSeamPoints :
    (live.tickDue 1 = false ∧ (let s := { live with uptime := 2 ^ 40 };
      s.cold = false ∧ s.hasChan 1 = true ∧ s.tickDue 1 = true ∧ s.scrState 1 = 2 ∧ s.lpState 1 = 0 ∧
      (s.chan 1).scr.run = 0 ∧ s.allAsleep 1 = false ∧
      (s.modScr 1 (fun x => { x with lastTick := s.uptime, sinceMeas := x.sinceMeas + 1 })).gateOpen 1 20 = true ∧
      ((s.modScr 1 (fun x => { x with baseline := some 20 })).modScr 1 (fun x => { x with
        lastTick := s.uptime, sinceMeas := x.sinceMeas + 1 })).gateOpen 1 20 = false)) ∧
    (let s := (live.setHolder 1 (some 230)).modChan 1 (fun x => { x with
        scr := { x.scr with run := 5, quiet := 3 }, tim := { x.tim with pendTab := some [1] } });
      s.cold = false ∧ (s.chan 1).mntHolder = some 230 ∧ (s.chan 1).scr.run = 5 ∧ (s.chan 1).tim.pendTab = some [1] ∧
      s.subDrained 1 0 = true ∧ s.subDrained 1 1 = true ∧ 
      (s.modTim 1 (fun t => { t with bursts := [⟨1, home, line0.pos, 15000⟩] })).subDrained 1 0 = false ∧
      (s.chan 1).scr.newRes = []) ∧
    (live.chan 1).tim.pendTab = none ∧
    (∀ k ∈ [0, 1], ∀ b ∈ [true, false], (let s := (live.setHolder 1 (some 230)).modScr 1 (fun x => { x with
        run := 4, passed := k, quiet := k + 1, preempted := b });
      s.cold = false ∧ (s.chan 1).mntHolder = some 230 ∧ (s.chan 1).scr.run = 4 ∧ (s.chan 1).scr.quiet ≠ 3 ∧
      (s.chan 1).scr.preempted = b ∧ (s.chan 1).scr.passed = k ∧ s.subDrained 1 k = true)) ∧
    (∀ r ∈ [1, 2], (let s := (training 8 1).modScr 1 (fun x => { x with run := r, passed := 3 });
      (s.chan 1).mntHolder = some (229 + 1) ∧ (s.chan 1).scr.run = r ∧ (s.chan 1).scr.passed = 3 ∧
      (s.recordUpset 0x10 1 2).storedValid 1 = false)) ∧
    endWell.stored ≠ 2 ∧ ({ endWell with stored := 2 } : StepEnd).stored = 2 := by
  and_intros <;> decide +kernel

/-- A write of `PLN_CMD`: OP, TYPE, ROW. -/
def plnW (op ty row : Nat) : RegW := w64 (op * 2 ^ PLN_CMD_OP.lo + ty * 2 ^ PLN_CMD_TYPE.lo + row * 2 ^ PLN_CMD_ROW.lo)

/-- The start-up at its CYCLE store with `k` rows written and `n` failed attempts at the next. -/
def cycling (k n : Nat) : State := { fields out [(BLK_BOOT_STEP, 0, 2)] with
  pln := { PlnSt.init with stores := [⟨2, 0, [0], 64, 0⟩], row := some k, tries := n } }

theorem witness_PlinthRecords :
    (let s := { out with pln := { PlnSt.init with stores := [⟨1, 0, [], 0, 0⟩] } };
      s.cold = false ∧ s.pln.stores = ⟨1, 0, [], 0, 0⟩ :: [] ∧ s.pln.row = none ∧ s.cmdRuns = false ∧ out.pln.stores = [] ∧
      storing.pln.row ≠ none) ∧
    (∀ k ∈ [0, 1], (let s := storing.modPln (fun p => { p with row := some k });
      s.pln.row = some k ∧ (s.plnPlan 1 0).isSome = true ∧ (s.pln.stores.map PlnStore.bodyRows) = [0] ∧
      s.pln.dropping = false ∧ s.pln.cmd = none ∧ s.quo.img = none ∧ s.pln.stores.map PlnStore.type = [1])) ∧
    (storing.pln.tries < storing.fld PLN_CTRL_RETRY 0 0 0 ∧ (let s := storing.modPln (fun p => { p with tries := 9 });
      s.fld PLN_CTRL_RETRY 0 0 0 ≤ s.pln.tries ∧ s.pln.cmd = none)) ∧
    (let s := { out with
        pln := { PlnSt.init with stores := [⟨imgType 0, 0, [], 384, 0⟩], row := some 0, tries := 9 },
        quo := { out.quo with img := some { reading0 2 384 with image := some [] } } };
      s.cold = false ∧ (s.plnPlan (imgType 0) 0).isSome = true ∧ s.fld PLN_CTRL_RETRY 0 0 0 ≤ s.pln.tries ∧ s.pln.cmd = none ∧
      s.quo.img = some { reading0 2 384 with image := some [] } ∧ (reading0 2 384).op = 2 ∧ (reading0 2 384).kind < 2) ∧
    ((cycling 2 0).cold = false ∧ ((cycling 2 0).plnPlan 2 0).isSome = true ∧ (cycling 2 0).rawF BLK_BOOT_STEP 0 0 0 = 2 ∧
      (cycling 2 0).quo.img = none ∧ (⟨2, 0, [0], 64, 0⟩ : PlnStore).bodyRows < 2 ∧
      (cycling 0 9).fld PLN_CTRL_RETRY 0 0 0 ≤ (cycling 0 9).pln.tries) ∧
    (∀ ready ∈ [0, 1], (let s := fields out [(PLN_STATUS_READY, 0, ready)];
      s.serves ∧ s.pln.cmd = none ∧ s.pln.row = none ∧ s.rawF PLN_STATUS_READY 0 0 0 = ready ∧
      ∀ row ∈ [0, 1439], s.rowOk (platRow row) = true)) ∧
    (∀ op ∈ [1, 2, 3], ∀ ty ∈ [1, 3], ∀ row ∈ [0, 1439, 1440], (plnW op ty row).bits PLN_CMD_OP = op ∧
      (plnW op ty row).bits PLN_CMD_ROW = row ∧ (plnW op ty row).bits PLN_CMD_TYPE = ty) ∧
    (∀ e ∈ plnCmds, (plnW e.1 3 1439).bits PLN_CMD_OP = e.1 ∧ 0 < (plnW e.1 3 1439).bits PLN_CMD_TYPE ∧
      (plnW e.1 3 1439).bits PLN_CMD_TYPE ≤ 3 ∧ (plnW e.1 3 1439).bits PLN_CMD_ROW ≤ 1439 ∧
      (plnW e.1 0 1440).bits PLN_CMD_OP = e.1 ∧ (plnW e.1 0 1440).bits PLN_CMD_TYPE = 0 ∧ 1439 < (plnW e.1 0 1440).bits PLN_CMD_ROW) ∧
    (storing.serves ∧ storing.pln.cmd = none ∧ storing.pln.row ≠ none ∧ out.rawF PLN_STATUS_READY 0 0 0 = 0) ∧
    (rawWriting.serves ∧ rawWriting.pln.cmd = some ⟨2, 0, 4, 0, true⟩ ∧ rawWriting.pln.row = none ∧
      (⟨2, 0, 4, 0, true⟩ : PlnCmd).runs = true) := by
  unfold State.serves; and_intros <;> decide +kernel

/-- Mason 3 in state `st`, in handler mode or not, with its request 1 complete with `x`, of kind `k`, waiting or posted to s6. -/
def answered (handler : Bool) (k : OutKind) (waiting : Bool) (x : Status) : State :=
  { out.setMason 3 { Mason.init with st := 1, pc := 7, handler := handler, outs :=
    [⟨1, k, [1], waiting, .scalar 4, if waiting then 0 else 6, home, home, 3, false, [], [], none, [], false, false, false⟩] } with
    reqs := [{ out.masReq 3 1 true .rdPart 3 home false with status := some x }], nextRid := 2 }

theorem witness_MasonResults :
    (∀ x ∈ [Status.ok, .poison], ∀ w ∈ [true, false], ∀ k ∈ [OutKind.load, .walkLoad], ∀ h ∈ [true, false],
      (answered h k w x).cold = false ∧ ((answered h k w x).req 1).map (fun r => (r.src, r.status)) = some (.mason 3, some x) ∧
      (((answered h k w x).mason 3).outs.find? (fun (o : MasOut) => o.rids.contains 1)).map
        (fun o => (o.kind, o.waiting, o.dst, o.rt)) = some (k, w, .scalar 4, if w then 0 else 6) ∧
      ((answered h k w x).mason 3).handler = h ∧ ((answered h k w x).mason 3).nested = false ∧
      ((answered h k w x).req 1).map ((answered h k w x).resultTurn 3) = some true) ∧
    (∀ w ∈ [true, false], ∀ k ∈ [OutKind.load, .run], ∀ d ∈ [ResDst.none, .line 5],
      let s := (answered false k w .ok).modMason 3 (fun x => { x with outs := x.outs.map (fun o => { o with dst := d }) })
      ((s.mason 3).outs.find? (fun (o : MasOut) => o.rids.contains 1)).map (fun o => (o.kind, o.rids, o.waiting, o.dst)) =
        some (k, [1], w, d)) ∧
    (let s := answered true .load true .ok; let r := { s.masReq 3 1 true .rdPart 3 home false with
        status := some .ok, part := some 2, dest := .local 2 };
      let t := { s with reqs := [r, { r with rid := 2, part := some 1, dest := .local 1 }] };
      t.req 1 = some r ∧ r.src = .mason 3 ∧ t.resultTurn 3 r = false) ∧
    (∀ x ∈ [Status.ok, .poison], ∀ k ∈ [OutKind.adUpdate, .run], ∀ h ∈ [true, false], let s := answered h k false x;
      (s.req 1).map (fun r => (r.src, r.status)) = some (.mason 3, some x) ∧ (s.mason 3).handler = h ∧
      ((s.mason 3).outs.find? (fun (o : MasOut) => o.rids.contains 1)).map (fun o => (o.kind, o.rids)) = some (k, [1])) ∧
    (let s := (answered true .run false .ok).modMason 3 (fun x => { x with outs := x.outs.map (fun o =>
        { o with rids := [1, 2], dst := .none }) });
      ((s.mason 3).outs.find? (fun (o : MasOut) => o.rids.contains 1)).map (fun o => (o.kind, o.rids, o.dst)) =
        some (.run, [1, 2], .none)) ∧
    (let s := (answered true .load false .ok).setMason 3 Mason.init;
      ((s.mason 3).outs.find? (fun (o : MasOut) => o.rids.contains 1)).isNone = true ∧
      (s.req 1).map (s.resultTurn 3) = some true ∧
      (s.req 1).map (fun r => (r.src, r.status, r.run.isNone)) = some (.mason 3, some .ok, true)) ∧
    out.req 1 = none := by and_intros <;> decide +kernel

/-- Images of both kinds in force, of no code. -/
def imaged (s : State) : State := { s with
  imgs := [(0, ⟨0x00040000, 0, 0xFFFFFFFF, 0, [], []⟩), (1, ⟨0x00040000, 0, 0xFFFFFFFF, 0, [], []⟩)] }

theorem witness_MasonControl :
    (out.serves ∧ out.hasMason 3 = true ∧ out.expert 9 = false ∧ (expertAt 9 out).serves ∧ (expertAt 9 out).expert 9 = true) ∧
    (let s := expertAt 9 (imaged out);
      s.warm = 0 ∧ (Tbl.find s.imgs 0).isSome = true ∧ (s.mason 3).asked = false ∧ (s.mason 3).st = 0) ∧
    (let s := expertAt 9 (out.setMason 3 { Mason.init with st := 1, asked := true });
      (s.mason 3).asked = true ∧ (s.mason 3).st = 1 ∧ (s.mason 3).stalled = false ∧
      ∀ o ∈ (s.mason 3).outs, o.waiting = false) ∧
    ((imaged out).serves ∧ (imaged out).rawF MAS_GLOBAL_PROFILE 0 0 0 ≠ 2 ∧ (imaged out).expert 9 = false ∧
      (Tbl.find (imaged out).imgs 1).isSome = true) ∧
    (let s := out.setMason 3 { Mason.init with st := 3 }; (s.mason 3).st = 3 ∧ s.cold = false ∧
      s.masonWanted 3 false = (s.mason 3).asked) ∧
    (let s := ((expertAt 9 (imaged out)).setX MAS_CTRL_RUN 3 0 0 1).setMason 3 { Mason.init with st := 3 };
      (s.mason 3).st = 3 ∧ s.masonWanted 3 false = true ∧ (s.mason 3).asked = false) ∧
    (out.straps.programSeal = false ∧ (engine 0).serves ∧ ((engine 0).mason 3).st ≠ 0 ∧ (out.mason 3).st = 0) ∧
    (let s := { out with straps := { out.straps with programSeal := true } }; s.serves ∧ s.straps.programSeal = true) := by
  unfold State.serves; and_intros <;> decide +kernel

/-- The digest that FIPS 180-4's published example gives of no bytes, its first byte lowest. -/
def emptyDigest : Nat := leNat (beBytes 48
  0x38b060a751ac96384cd9327eb1b1e36a21fdb71114be07434c0cc7bf63f6e1da274edebfe76f65fbd51ad2f14898b95b)

/-- SHA-384 of no bytes. -/
theorem test_sha384_empty : sha384 [] = emptyDigest := by decide +kernel

/-- A training image without code: its header, the digest of its empty body, zeros. -/
def bareImage : List Nat :=
  [0x54, 0x4C, 0x4B, 0x41, 1, 1, 0, 0, 0, 0, 4, 0, 0, 0, 0, 0, 0xFF, 0xFF, 0xFF, 0xFF, 0, 0, 0, 0,
   0xFF, 0xFF, 0xFF, 0xFF, 0, 0, 0, 0, 0, 0, 0, 0, 0, 0, 0, 0, 0, 0, 0, 0, 0, 0, 0, 0] ++
  leBytes 48 emptyDigest ++ List.replicate 288 0

/-- The bare image passes the checks of R257. -/
theorem bareImage_good : out.imgCheck 0 true bareImage = 1 := by decide +kernel

theorem witness_MasonImages :
    (out.serves ∧ out.quo.img = none ∧ out.quo.tags = [] ∧ out.busMaster = false ∧ (mastering out).serves ∧
      (mastering out).busMaster = true ∧ (engine 0).masonsBusy = true ∧ out.masonsBusy = false) ∧
    (∀ op ∈ [0, 1, 2], (let s := { mastering out with quo := { (mastering out).quo with img := some (reading0 op 384) } };
      s.cold = false ∧ s.quo.img = some (reading0 op 384) ∧ (reading0 op 384).left = 0 ∧ s.quo.tags = [] ∧
      (reading0 op 384).image = none ∧ (reading0 op 384).kind = 0 ∧ (reading0 op 384).op = op ∧ s.pln.row = none ∧
      (s.modPln (fun p => { p with row := some 0 })).pln.row ≠ none)) ∧
    bareImage.length = 384 ∧ out.imgCheck 0 true bareImage = 1 ∧ out.imgCheck 0 true (List.replicate 384 0) ≠ 1 ∧
    pairOk (some (imgOf bareImage 3)) (Tbl.find out.imgs 1) = true ∧
    pairOk (some (imgOf bareImage 3)) (some ⟨0x00030000, 0, 0, 0, [], []⟩) = false := by
  unfold State.serves
  refine ⟨by decide +kernel, by decide +kernel, by decide +kernel, bareImage_good, by decide +kernel, by decide +kernel,
    by decide +kernel⟩

theorem witness_DebugPort :
    (let s := { out with straps := { out.straps with debugSeal := true } }; s.straps.debugSeal = true) ∧
    (∀ st ∈ [0, 1, 2], (let s := out.setMason 3 { Mason.init with st := st };
      s.cold = false ∧ s.straps.debugSeal = false ∧ s.hasMason 3 = true ∧ (s.mason 3).st = st ∧
      ∀ o ∈ (s.mason 3).outs, o.waiting = false)) ∧
    (∃ o ∈ ((answered true .load true .ok).mason 3).outs, o.waiting = true) ∧
    ((answered true .load true .ok).mason 3).st = 1 ∧ ({ Mason.init with st := 1 } : Mason).stalled = false ∧
    (let s := out.setMason 3 { Mason.init with st := 1, stalled := true }; (s.mason 3).st = 1 ∧ (s.mason 3).stalled = true) ∧
    (∀ f ∈ [0, 2], (let s := out.setMason 3 { Mason.init with st := 4, dbgFrom := f }; s.inDebug 3 ∧ (s.mason 3).dbgFrom = f)) := by
  unfold State.inDebug; and_intros <;> decide +kernel

/-- Hod `h` of the macro as `x`. -/
def hodAt (h : Nat) (x : Hod) : State := out.setHod h x

/-- Hod 6 with the spill `l` and the item 5 at its head, its request 1 complete with `x`. -/
def spilling (l : List HodLine) (x : Status) : State := holding { Req.blank 1 (.hod 6) .rdLine with status := some x }
  (hodAt 6 { Hod.init with head := [5], mid := l })

theorem witness_Hods :
    (out.serves ∧ out.build ≤ 24 ∧ out.hasHod 383 = true ∧ out.hasHod 448 = false ∧ hostPush 383 = false ∧
      hostPush 384 = true ∧ hostPop 384 = true ∧ hostPop 6 = false ∧ hostPop 7 = true ∧ hostPush 6 = true) ∧
    ((out.hod 384).full = false ∧ (out.hod 384).ring = false ∧ (out.hod 384).count = 0 ∧
      (hodAt 384 { Hod.init with ring := true, wp := 512 }).serves ∧
      ((hodAt 384 { Hod.init with ring := true, wp := 512 }).hod 384).full = true ∧
      ((hodAt 384 { Hod.init with head := List.replicate 16 1 }).hod 384).full = true ∧
      (let x := { Hod.init with ring := true, wp := 1023, rp := 1020 }; x.full = false ∧ x.count ≠ 0 ∧ x.ring = true) ∧
      (let x := { Hod.init with tail := [1] }; x.count ≠ 0 ∧ x.head = []) ∧
      193 ∉ (out.hod 384).waits ∧ 193 ∈ ((hodAt 384 { Hod.init with waits := [193] }).hod 384).waits ∧
      (let s := hodAt 384 { Hod.init with head := [1] };
        (s.hod 384).ring = false ∧ (s.hod 384).head = 1 :: [] ∧ s.popTurn 384 193 = true) ∧
      (let s := (hodAt 384 { Hod.init with head := [1], waits := [5] }).setMason 5 { Mason.init with st := 1, stalled := true };
        (s.hod 384).count ≠ 0 ∧ (s.hod 384).ring = false ∧ s.popTurn 384 193 = false)) ∧
    (∀ x ∈ [Status.ok, .poison], ∀ st ∈ [0, 2], ∀ lost ∈ [true, false], (let s := spilling [⟨0, st, 1, lost⟩] x;
      s.cold = false ∧ (s.req 1).map (fun r => (r.src, r.status)) = some (.hod 6, some x) ∧ 1 < s.nextRid ∧
      (s.hod 6).ring = false ∧ (s.hod 6).isFirst ⟨0, st, 1, lost⟩ = true ∧
      (s.hod 6).mid.find? (fun k => decide (k.rid = 1) && decide (k.st ≠ 1)) = some ⟨0, st, 1, lost⟩)) ∧
    (let s := spilling [⟨0, 2, 9, false⟩, ⟨1, 2, 1, false⟩] .ok; (s.hod 6).isFirst ⟨1, 2, 1, false⟩ = false) ∧
    out.req 1 = none ∧ out.expert 11 = false ∧
    ((expertAt 11 out).serves ∧ (expertAt 11 out).hodIdle 384 = true ∧
      (expertAt 11 (hodAt 384 { Hod.init with head := [1] })).hodIdle 384 = false) := by
  unfold State.serves; and_intros <;> decide +kernel

/-- The host's request for `n` lines, slot 9 as `k` says. -/
def locking (n : Nat) (k : List KeySlot) : State :=
  { fields out [(KEY_HOST_CNT_COUNT, 0, n)] with key := { KeySt.init with slots := k.map (fun x => (9, x)) } }

/-- The lock request of Mason `m` for `n` lines from `base`. -/
def rival (m base n : Nat) : KeyAsk := ⟨m, m, base, n, none⟩

theorem witness_LockTable :
    (∀ n ∈ [0, 1, 1024, 1025], (locking n []).serves ∧ (locking n []).rawF KEY_HOST_CNT_COUNT 0 0 0 = n) ∧
    (home / 64 * 64 / 2 ^ 46 = 5 ∧ 0 * 64 / 2 ^ 46 ≠ 5 ∧ (locking 1 []).keyFree = some 0) ∧
    (hostAsk (home / 64) 1).meets ⟨false, home / 64, 4, 2, 0, 0, false⟩ = true ∧
    (hostAsk (home / 64 + 4) 1).meets ⟨false, home / 64, 4, 2, 0, 0, false⟩ = false ∧
    (∀ k ∈ [(⟨false, home / 64, 4, 2, 0, 0, false⟩ : KeySlot), ⟨false, home / 64, 4, 0, 3, 0, false⟩, ⟨true, home / 64, 4, 0, 3, 0, false⟩],
      (locking 1 [k]).serves ∧ Tbl.find (locking 1 [k]).key.slots 9 = some k ∧ (hostAsk (home / 64) 1).meets k = true ∧
      Tbl.sorted (locking 1 [k]).key.slots = true ∧ (∀ e ∈ (locking 1 [k]).key.slots, e.1 < 1024) ∧
      k.since + 1000 * max 1 ((locking 1 [k]).fld KEY_WDOG_LOCK_US 0 0 0) ≤ (2 : Nat) ^ 40) ∧
    0 + 1000 * max 1 (out.fld KEY_WDOG_LOCK_US 0 0 0) > (0 : Nat) ∧
    (∀ k ∈ [rival 3 home 4, { rival 3 home 4 with chan := some 1 }], ∀ r, lockRival k = some r →
      ({ locking 1 [] with key := { (locking 1 []).key with rr := [(0, 4), (1, 4), (2, 4), (3, 4)] } } : State).keyRank 0 204 <
        ({ locking 1 [] with key := { (locking 1 []).key with rr := [(0, 4), (1, 4), (2, 4), (3, 4)] } } : State).keyRank 0 r.idx) ∧
    (let s := locking 1 []; lockRival (rival 3 home 4) = some ⟨3, 0, 3, home, 4⟩ ∧ s.keyRank 0 3 < s.keyRank 0 204 ∧
      home / 2 ^ 46 = s.straps.node ∧ s.key.slots = [] ∧ s.keyFree = some 0 ∧
      rangesMeet (home / 64) 1 (home / 64) 4 = true ∧ home / 64 * 64 / 2 ^ 46 = s.straps.node ∧
      s.keyGiven (hostAsk (home / 64) 1) = none ∧ s.keyGiven ⟨3, 0, 3, home, 4⟩ = none ∧
      ({ s with key := { s.key with given := [(⟨204, 0, home, 1, none⟩, 7)] } } : State).keyGiven (hostAsk (home / 64) 1) =
        some 7) := by
  unfold State.serves; and_intros <;> decide +kernel

theorem witness_MaintenancePath :
    (live.serves ∧ live.hasChan 1 = true ∧ (live.chan 1).mntHolder = none ∧
      ((live.setHolder 1 (some 204)).chan 1).mntHolder = some 204 ∧ (pathed.chan 1).mntHolder = some 206) ∧
    (∀ k ∈ [CmdKind.mrr, .mrw, .mpc], (let s := live.setHolder 1 (some 204);
      s.serves ∧ s.mayPass 1 (mntPair 1 20000 0 k 0).1 ∧ (s.afterSlot 1 (mntPair 1 20000 0 k 0).1).mayPass 1 (mntPair 1 20000 0 k 0).2 ∧
      ((s.setF KEY_MNT_CTRL_MRR_DATA 1 0 0 9).afterSlot 1 (mntPair 1 20000 0 k 0).1).mayPass 1 (mntPair 1 20000 0 k 0).2)) ∧
    (let s := { live.setHolder 1 (some 204) with uptime := 2 ^ 40 };
      (s.chan 1).mntSince + 1000 * max 1 (s.fld KEY_WDOG_MNT_US 0 0 0) ≤ s.uptime ∧ s.cold = false) ∧
    ([rival 3 home 4, { ask0 with idx := 206, chan := some 2 }].any (live.pathRival 1 204) = false ∧
      [({ ask0 with idx := 206, chan := some 1 } : KeyAsk)].any (live.pathRival 1 204) = true) ∧
    (∀ h ∈ [256, 230], ((live.setHolder 1 (some h)).chan 1).mntHolder = some h) ∧
    (∀ torn ∈ [true, false], (let s := { out with key := { out.key with slots := [(9, ⟨torn, home / 64, 4, 3, 0, 0, !torn⟩)] } };
      Tbl.find s.key.slots 9 = some ⟨torn, home / 64, 4, 3, 0, 0, !torn⟩ ∧ Tbl.find s.key.slots 8 = none)) ∧
    ({ out with straps := { out.straps with debugSeal := true } } : State).straps.debugSeal = true ∧
    (out.straps.debugSeal = false ∧ Tbl.find (heldBy 3 out).key.slots 9 = some ⟨false, home / 64, 4, 0, 3, 0, false⟩ ∧
      ((live.setHolder 1 (some 257)).chan 1).mntHolder = some 257 ∧ (live.setHolder 1 (some 257)).srHolds 1 = false ∧
      (∀ why ∈ [1, 3], ((live.setHolder 1 (some 257)).modPnt 1 (fun p => { p with srStep := 7, srWhy := why })).srHolds 1 = true)) := by
  unfold State.serves State.mayPass; and_intros <;> decide +kernel

/-- A request message of node 9 to `dst` at its byte 64. -/
def note (dst hops seq : Nat) : Msg := { Msg.blank with
  nh := 5, src := 9, dst := dst, hops := hops, tag := 3, addr := dst * 2 ^ 46 + 64, lh := 9, pseq := seq }

/-- `bonded` with node 9's pair expecting number 8. -/
def paired : State := { bonded with bnd := { bonded.bnd with pairExp := [(9, (8, 4))] } }

/-- The request of opcode `o` in `note`, its CRC right, met by `up`. -/
def asked (o : Op) (dst hops seq up : Nat) : Msg := { note dst hops seq with opc := o.code, upset := up }.sealed

/-- `paired` with a read of another node waiting in the request lane of port 0. -/
def behind : State := { paired with bnd := { paired.bnd with rxq := [(0, [⟨.rdLine, asked .rdLine 5 0 8 0, 4⟩])] } }

/-- The requests of R319. -/
def bondOps : List Op := [.rdLine, .rdPart, .wrZero, .wrLine, .wrPart, .atAdd, .atOr, .atAnd, .atXor, .atSwap, .atCas,
  .atMin, .atMax, .atUmin, .atUmax, .setad]

theorem witness_BondRequests :
    (∀ o ∈ bondOps, ∀ d ∈ [5, 11, 13], ∀ hops ∈ [0, 6, 7],
      paired.receives 0 (asked o d hops 8 0) (opcFlits o.code) ∧ behind.receives 0 (asked o d hops 8 0) (opcFlits o.code)) ∧
    (∀ o ∈ bondOps, ∀ up ∈ [2, 4], paired.receives 0 (asked o 11 0 8 up) (opcFlits o.code)) ∧
    (∀ o ∈ bondOps, paired.laneTakes 0 o (asked o 5 0 8 0) = true ∧ behind.laneTakes 0 o (asked o 5 0 8 0) = false) ∧
    (∀ seq ∈ [7, 10], paired.receives 0 (asked .rdLine 5 0 seq 0) 1 ∧ bonded.receives 0 (asked .rdLine 5 0 seq 0) 1) ∧
    ((asked .rdLine 5 0 8 0).dst = paired.straps.node ∧ Tbl.find paired.bnd.pairExp 9 = some (8, 4) ∧
      Tbl.find bonded.bnd.pairExp 9 = none ∧ (10 + 2 ^ 15 - 8) % 2 ^ 15 < 2 ^ 14 ∧ 2 ^ 14 ≤ (7 + 2 ^ 15 - 8) % 2 ^ 15 ∧
      Tbl.get paired.bnd.txq [] 0 = [] ∧ paired.freeFor 0 { Msg.blank with opc := 0x40 }) ∧
    (paired.routeTo 11 = some ⟨0, 9, 2⟩ ∧ paired.routeTo 13 = none ∧ paired.freeFor 0 (asked .rdLine 11 1 8 0) ∧
      (let s := { paired with bnd := { paired.bnd with txCred := [(0, 8), (1, 0)] } };
        s.receives 0 (asked .rdLine 11 0 8 0) 1 ∧ s.routeTo 11 = some ⟨0, 9, 2⟩ ∧ s.linkUp 0 = true ∧
        Tbl.get s.bnd.txq [] 0 = [] ∧ Tbl.get s.bnd.txCred 0 (credKey 0 0 1) < 1)) := by
  unfold State.receives State.freeFor; and_intros <;> decide +kernel

/-- A read of port 2 that holds an entry, bound for node 9. -/
def leaving : Req := { portReq .rdLine with part := some 1, stage := .held, dest := .remote 9, addr := 9 * 2 ^ 46 }

/-- Request 1 of port 2 with tag 7 for node 9, sent where `l` says, which ends at `e`. -/
def tagged (l q : Bool) (e : Nat) : State := { holding { leaving with stage := if l then .issued else .held } bonded with
  bnd := { bonded.bnd with tags := [(7, ⟨1, 9, 0, e, q, l⟩)] } }

/-- A completion for tag 7, with the line `d` or without, met by `up`. -/
def answer (opc up : Nat) : Msg := { note 5 0 8 with opc := opc, tag := 7, upset := up }.sealed

theorem witness_BondAnswers :
    (bonded.receives 0 { note 5 0 8 with opc := 0x20 }.sealed 1 ∧ Tbl.find bonded.bnd.pairExp 9 = none) ∧
    (∀ q ∈ [true, false], ∀ up ∈ [0, 2], (tagged true q 0).receives 0 (answer 0x41 up) 3 ∧
      (tagged true q 0).receives 0 (answer 0x40 up) 1 ∧ (answer 0x41 up).dst = (tagged true q 0).straps.node ∧
      Tbl.find (tagged true q 0).bnd.tags 7 = some ⟨1, 9, 0, 0, q, true⟩ ∧
      ((tagged true q 0).req 1).map (fun r => (r.src, r.status)) = some (.port 2, none)) ∧
    (statusOf 0 ≠ .poison ∧ (statusOf 0).good = true ∧ (statusOf 5).good = false ∧ statusOf 5 ≠ .poison ∧
      Tbl.find bonded.bnd.tags 7 = none ∧ bonded.receives 0 (answer 0x41 0) 3 ∧ bonded.receives 0 (answer 0x40 0) 1 ∧
      (tagged false false 0).receives 0 (answer 0x40 0) 1 ∧
      Tbl.find (tagged false false 0).bnd.tags 7 = some ⟨1, 9, 0, 0, false, false⟩) ∧
    ((holding leaving bonded).outbound leaving 9 ∧ (holding leaving bonded).routeTo 9 = some ⟨0, 9, 1⟩ ∧
      9 ∉ (holding leaving bonded).bnd.synced ∧
      (let s := holding { leaving with dest := .remote 13 } bonded; s.outbound { leaving with dest := .remote 13 } 13 ∧
        s.routeTo 13 = none) ∧
      (let s := { tagged false false 0 with bnd := { (tagged false false 0).bnd with synced := [9] } };
        s.outbound leaving 9 ∧ 9 ∈ s.bnd.synced ∧ s.routeTo 9 = some ⟨0, 9, 1⟩ ∧
        s.canSend 0 0 (opcFlits leaving.op.code) = true ∧ s.tagOf leaving.rid = some 7 ∧
        (s.reserveReturn leaving).isSome = true ∧ s.sendNext 0 = some leaving) ∧
      (holding leaving bonded).tagOf leaving.rid = none ∧ (holding leaving bonded).sendNext 0 ≠ some leaving) ∧
    ({ tagged true false 5 with reqs := [] } : State).req 1 = none ∧
    (bonded.routeTo 13 = none ∧ bonded.routeTo 9 = some ⟨0, 9, 1⟩ ∧ 9 ∉ bonded.bnd.synced ∧ bonded.pairBusy 9 = false ∧
      bonded.canSend 0 0 1 = true) ∧
    (∀ q ∈ [true, false], Tbl.find (tagged true q 5).bnd.tags 7 = some ⟨1, 9, 0, 5, q, true⟩ ∧ 5 < (tagged true q 5).uptime ∧
      (tagged true q (2 ^ 40)).uptime < 2 ^ 40) := by
  unfold State.receives State.outbound; and_intros <;> decide +kernel

theorem witness_BondLinks :
    (bonded.cold = false ∧ 0 ∈ bonded.bnd.link ∧ 1 ∉ bonded.bnd.link ∧ 0 ∉ bonded.bnd.held ∧ 1 ∉ bonded.bnd.held ∧
      bonded.linkUp 0 = true ∧ bonded.linkUp 1 = false ∧ Tbl.get bonded.bnd.txq [] 0 = []) ∧
    (bonded.receives 0 { note 5 0 0 with opc := 0x80 }.sealed 1 ∧ bonded.receives 0 { note 5 0 0 with opc := 0x80, src := 11 }.sealed 1 ∧
      bonded.receives 0 { note 5 0 0 with opc := 0x80, src := 5, value := 3 }.sealed 1 ∧ bonded.bnd.ignored = [] ∧
      Tbl.find bonded.bnd.nbr (64 * 0 + 11) = none ∧ Tbl.find bonded.bnd.nbr (64 * 0 + 9) = some ⟨true, 4, 9000000⟩ ∧
      3 % 2 ^ 32 ≠ bonded.bnd.nonce) ∧
    (bonded.bondOn = true ∧ Tbl.find bonded.bnd.lastHello 0 = none ∧
      (let s := { bonded with bnd := { bonded.bnd with lastHello := [(0, 10000000)] } };
        Tbl.find s.bnd.lastHello 0 = some 10000000 ∧ ¬ 10000000 + s.helloNs 0 ≤ s.uptime)) ∧
    (9000000 + 3000 * bonded.helloUs ≤ bonded.uptime ∧ ({ bonded with uptime := 9000000 } : State).uptime <
      9000000 + 3000 * bonded.helloUs) ∧
    (let m := { note 5 0 0 with opc := 7 }.sealed; m.crcOk 1 = true ∧ msgMalformed m 1 = true) ∧
    (let m := { note 5 0 0 with opc := 1 }.sealed; m.crcOk 1 = true ∧ msgMalformed m 1 = false) ∧
    { { note 5 0 0 with opc := 1 }.sealed with crc := 0 }.crcOk 1 = false := by
  unfold State.receives; and_intros <;> decide +kernel

theorem witness_BondRoutes :
    (bonded.receives 0 { note 5 0 0 with opc := 0x81 }.sealed 2 ∧ bonded.receives 0 { note 5 0 0 with opc := 0x81, src := 11 }.sealed 2 ∧
      Tbl.find bonded.bnd.lsa 9 = some ⟨4, 6, 0, 0, 9000000⟩ ∧ Tbl.find bonded.bnd.lsa 11 = none ∧
      (7 + 2 ^ 32 - 6) % 2 ^ 32 < 2 ^ 31 ∧ 2 ^ 31 ≤ (5 + 2 ^ 32 - 6) % 2 ^ 32) ∧
    (let s := { bonded with bnd := { bonded.bnd with link := [0, 1] } };
      s.receives 1 { note 5 0 0 with opc := 0x81 }.sealed 2 ∧ s.freeFor 0 { note 5 0 0 with opc := 0x81 }.sealed) ∧
    (bonded.bondOn = true ∧ bonded.bnd.lsaLast = none ∧
      (let s := { bonded with bnd := { bonded.bnd with lsaLast := some 9999999 } };
        s.bnd.lsaLast = some 9999999 ∧ ¬ 9999999 + 500000 ≤ s.uptime ∧ ¬ 9999999 + 50000 ≤ s.uptime)) ∧
    ({ bonded with uptime := 11000000 } : State).uptime = 9000000 + 2000000 ∧ bonded.uptime < 9000000 + 2000000 ∧
    ({ bonded with bnd := { bonded.bnd with routeDue := some 3 } } : State).bnd.routeDue.isSome = true ∧
    bonded.bnd.routeDue = none ∧ Tbl.sorted bonded.bnd.routes = true ∧ bonded.pinned 9 = false ∧
    (let s := { expertAt 13 bonded with xregs := [(BND_ROUTE_PIN.key 9 0 0, 1)] }; s.pinned 9 = true) ∧
    bonded.bnd.routeAt + 2000000 ≤ bonded.uptime ∧
    ({ bonded with uptime := 5 } : State).uptime < bonded.bnd.routeAt + 2000000 := by
  unfold State.receives State.freeFor; and_intros <;> decide +kernel

/-- A report of severity `sev` waiting at source 1. -/
def reported (sev : Nat) : State := { out with but := { ButSt.init with
  queue := [(1, [⟨sev, 1, 2, 0, 0, 3, none, 5, false, false⟩])] } }

/-- Source `src` PENDING until 5, with REACT as `react` under the expert bit. -/
def pendingAt (src react : Nat) : State := { expertAt 14 (fields out [(BUT_SRC_STATE, src, 1)]) with
  but := { ButSt.init with expiry := [(src, 5)] }, xregs := [(BUT_SRC_REACT.key src 0 0, react)] }

theorem witness_ButtressRecording :
    (∀ sev ∈ [0, 1, 2], (reported sev).cold = false ∧ ((reported sev).sampleOrder.map Prod.fst) = [1] ∧
      ((reported sev).sampleOrder.map (fun e => e.2.sev)) = [sev] ∧ (reported sev).hasSource 1 = true ∧
      (reported sev).srcState 1 = 0 ∧ (reported sev).rawF BUT_CAP_INFO_VALID 0 0 0 = 0 ∧
      (fields (reported sev) [(BUT_CAP_INFO_VALID, 0, 1), (BUT_SRC_STATE, 1, 2)]).rawF BUT_CAP_INFO_VALID 0 0 0 ≠ 0 ∧
      (fields (reported sev) [(BUT_CAP_INFO_VALID, 0, 1), (BUT_SRC_STATE, 1, 2)]).srcState 1 ≠ 0) ∧
    ((pendingAt 1 0).serves ∧ (pendingAt 1 0).srcState 1 = 1 ∧ (pendingAt 1 0).graceOver 1 = true) ∧
    out.sampleOrder = [] ∧ out.hasSource 112 = false ∧ (out.hasSource 111 = true ∧ out.hasSource 63 = true ∧ out.hasSource 64 = true ∧
      1 ∉ out.but.wire ∧ 1 ∈ ({ out.but with wire := [1] } : ButSt).wire) ∧
    (out.serves ∧ out.expert 14 = false ∧ (expertAt 14 out).serves ∧ (expertAt 14 out).expert 14 = true ∧
      ((expertAt 14 out).reports 1).length < 8 ∧ ((expertAt 14 (reported 1)).reports 1).length = 1 ∧
      (∀ n, ((expertAt 14 (reported 1)).reports 1).getLast? = some n → n.time ≠ (expertAt 14 (reported 1)).uptime) ∧
      (let s := { expertAt 14 (reported 1) with uptime := 5 };
        s.serves ∧ s.expert 14 = true ∧ (s.reports 1).map (fun r => (r.forced, r.time)) = [(false, s.uptime)]) ∧
      out.but.merged = [] ∧ (reported 1).but.merged = [] ∧
      (let s := { expertAt 14 (reported 1) with but := { (reported 1).but with merged := [(1, out.uptime)] } };
        Tbl.find s.but.merged 1 = some s.uptime)) ∧
    ((reported 1).reports 1 ≠ [] ∧ out.reports 1 = [] ∧ out.pair = true ∧ ({ out with pair := false } : State).pair = false) := by
  unfold State.serves; and_intros <;> first | decide +kernel | (intro n h; revert n; simp +decide [expertAt, reported, fields, State.reports])

theorem witness_ButtressReactions :
    (∀ src ∈ [1, 72, 83], ∀ react ∈ [0, 1, 2, 3], (let s := pendingAt src react;
      s.cold = false ∧ Tbl.find s.but.expiry src = some 5 ∧ s.but.paused = false ∧ 5 ≤ s.uptime ∧ s.hasSource src = true ∧
      s.fld BUT_SRC_REACT src 0 0 = react ∧ ({ s with uptime := 4 } : State).uptime < 5)) ∧
    Tbl.find out.but.expiry 1 = none ∧
    (let s := { out with uptime := 2 ^ 40 }; s.sweepDue = true ∧ s.but.paused = false ∧ s.but.pass = none) ∧
    (let s := { out with uptime := 2 ^ 40, but := { ButSt.init with pass := some 3 } };
      s.sweepDue = true ∧ s.but.pass.isSome = true ∧ s.but.deferred = false ∧ s.rawF BUT_SAFETY_SWEEP_FAIL 0 0 0 = 0) ∧
    (∀ c ∈ List.range 24, (out.chan c).set.wsResident = out.storeUsed c) ∧ (∀ src ∈ [0, 63, 64, 111], out.hasSource src = true ∧
      out.sweepSkips src = false) ∧ (live.modChan 1 (fun x => { x with rstStep := 1 })).sweepSkips 1 = true ∧
    ({ out with uptime := 0 } : State).sweepDue = false ∧ out.allSettled = true := by
  and_intros <;> decide +kernel

theorem witness_PlumbCommands :
    out.serves ∧ out.rclkLost = false ∧ (out.modPlb (fun p => { p with clearDue := true })).plb.clearDue = true ∧
    out.plb.doneRecs = [] ∧ (expertAt 15 out).serves ∧ (expertAt 15 out).expert 15 = true ∧
    (RegW.whole 5).covers PLB_TAG_CFG_SEED = true ∧
    ({ out with plb := { PlbSt.init with doneRecs := [[1, 2, 3, 4, 5, 6, 7, 8]] } } : State).plb.doneRecs =
      [1, 2, 3, 4, 5, 6, 7, 8] :: [] := by
  unfold State.serves; and_intros <;> decide +kernel

/-- The Datestone in mode SNAPSHOT with `n` triggers waiting. -/
def snapping (n : Nat) : State := { expertAt 15 out with
  xregs := [(DST_CTRL_MODE.key 0 0 0, 1)], dst := { DstSt.init with trig := List.replicate n (1, 0, 7) } }

theorem witness_DatestoneCommands :
    (out.serves ∧ out.rclkLost = false ∧ out.dstMode ≠ 1 ∧ out.expert 15 = false ∧ out.dst.trig = []) ∧
    (∀ n ∈ [0, 8], (snapping n).serves ∧ (snapping n).dstMode = 1 ∧ (snapping n).dstFrozen = false ∧
      (snapping n).rawF DST_STATUS_LOG_FULL 0 0 0 ≠ 1 ∧ (snapping n).dst.trig.length < 9) ∧
    (∀ m ∈ [0, 1, 2], ∀ b ∈ [true, false], (let s := { expertAt 15 out with
        xregs := [(DST_CTRL_MODE.key 0 0 0, m), (BLK_EXPERT_EN_EN.key 0 0 0, 2 ^ 15)], dst := { DstSt.init with logHeld := b } };
      s.serves ∧ s.expert 15 = true ∧ s.dstMode = m ∧ s.dst.logHeld = b)) ∧
    (9 ≤ (snapping 9).dst.trig.length ∧ ({ snapping 0 with dst := { (snapping 0).dst with frozen := true } } : State).dstFrozen = true ∧
      (fields (snapping 0) [(DST_STATUS_LOG_FULL, 0, 1)]).rawF DST_STATUS_LOG_FULL 0 0 0 = 1) ∧
    (let s := { (snapping 0).setX DST_TRIG_PERIOD_US 0 0 0 5 with uptime := 5000 };
      s.periodDue = true ∧ s.dstMode = 1) ∧ out.periodDue = false ∧
    (snapping 1).dst.trig = (1, 0, 7) :: [] ∧
    (snapping 1).dst.log.length + (snapEntries 1 0 7 (snapping 1).snapValues).length ≤ 4096 ∧
    4096 < ({ (snapping 1).dst with log := List.replicate 4096 [] } : DstSt).log.length +
      (snapEntries 1 0 7 (snapping 1).snapValues).length := by
  unfold State.serves; and_intros <;> decide +kernel

theorem witness_QuoinConfiguration :
    (out.cold = false ∧ out.quo.flr = none ∧ out.quo.img = none ∧ 4 / 4 % 1024 ≠ 17 ∧ 0xFFC / 4 % 1024 ≠ 17 ∧
      (mastering out).busMaster = true ∧ (mastering out).quo.flr = none) ∧
    (let s := { mastering out with quo := { (mastering out).quo with
        img := some (reading0 1 384), drain := some ⟨0, 0, 4, 2, 0⟩, tags := [(3, ⟨9, false⟩)] } };
      s.busMaster = true ∧ s.quo.img = some (reading0 1 384) ∧ (reading0 1 384).kind < 2 ∧
      s.quo.drain = some ⟨0, 0, 4, 2, 0⟩) ∧
    ({ out.quo with flr := some 3 } : QuoSt).flr = some 3 ∧
    (mastering out).unsupported ⟨0, true, 0x10, 8, false⟩ = false ∧ out.unsupported ⟨3, true, 0x10, 8, false⟩ = true ∧
    (⟨0, true, 0x10, 8, true⟩ : InTlp).malformed = true := by
  and_intros <;> decide +kernel

/-- Bus Master set and outbound read 3 under way until `ends`, quarantined or not, in Quoin state `st`. -/
def fetching (st ends : Nat) (q : Bool) : State := { mastering out with quo := { (mastering out).quo with
  st := st, tags := [(3, ⟨ends, q⟩)] } }

theorem witness_QuoinContainment :
    (∀ st ∈ [0, 1, 2], (fetching st 5 false).cold = false ∧ (fetching st 5 false).quo.img = none ∧
      (fetching st 5 false).quo.st = st ∧ (fetching st 5 false).bar0Off = false) ∧
    (Tbl.find (fetching 0 5 false).quo.tags 3 = some ⟨5, false⟩ ∧ (fetching 0 5 false).busMaster = true ∧
      5 ≤ (fetching 0 5 false).uptime ∧ out.uptime < 2 ^ 40 ∧ Tbl.find (fetching 0 5 false).quo.tags 4 = none ∧
      (fetching 0 5 false).quo.flr = none) ∧
    ((fetching 1 5 false).quarTags = 0 ∧ (fetching 1 5 true).quarTags ≠ 0 ∧ 0 / 8 * 8 ≠ QUO_RELEASE.base) ∧
    (let s := { fetching 1 5 true with quo := { (fetching 1 5 true).quo with entry := some (10000000, [3]) } };
      s.coincides true = true ∧ s.coincides false = false ∧ s.busMaster = true ∧ s.quo.entry = some (10000000, [3]) ∧
      Tbl.find s.quo.tags 3 = some ⟨5, true⟩ ∧ s.tagQuar 3 ⟨5, true⟩ true = false ∧ s.tagQuar 3 ⟨5, true⟩ false = true) ∧
    (let s := { out with quo := { out.quo with cfg := [] } }; s.cold = false ∧ s.bar0Off = true ∧ s.quo.flr = none) ∧
    (let s := { out with quo := { out.quo with flr := some 3 } }; s.bar0Off = true ∧ s.quo.tags = []) ∧
    (let s := pathed.setHolder 1 (some 204); (s.chan 1).mntHolder = some 204 ∧ s.quo.flr = none ∧ s.build ≤ 24) ∧
    (fetching 0 5 false).quo.tags ≠ [] := by
  and_intros <;> decide +kernel

/-- Export on, one record in the ring, vector 8 unmasked and MSI-X enabled. -/
def exporting : State := { fields (mastering out) [(QUO_EXPORT_CTL_EN, 0, 1), (PLB_TAG_STATUS_WR, 0, 1)] with
  plb := { PlbSt.init with recNo := 1 },
  quo := { (mastering out).quo with cfg := [(1, 0x100006), (20, 0x80000000)], msix := [(35, 0)], pba := [8] } }

theorem witness_QuoinOutbound :
    (out.serves ∧ out.quo.drain = none ∧ out.quarTags = 0 ∧ out.busMaster = false ∧ (mastering out).serves ∧
      (mastering out).busMaster = true ∧ (mastering out).quarTags = 0 ∧
      (fetching 0 5 true).serves ∧ (fetching 0 5 true).quarTags ≠ 0 ∧ out.quoOut = false) ∧
    (∀ d ∈ [(⟨0, 0, 4, 2, 7⟩ : Drain), ⟨0, 0, 4, 4, 7⟩, ⟨0, 0, 0, 0, 7⟩], let s := { mastering out with quo := { (mastering out).quo with drain := some d } };
      s.serves ∧ s.quo.drain = some d ∧ s.quoOut = true ∧ d.done ≤ d.count) ∧
    exporting.exportReady = true ∧ out.exportReady = false ∧ exporting.msixReady 8 = true ∧ out.msixReady 8 = false := by
  unfold State.serves; and_intros <;> decide +kernel

theorem witness_RegisterWrites :
    out.serves ∧ (∀ e ∈ plainRegs, ∀ f ∈ e.2, (RegW.whole 1).covers f = true ∧ (⟨1, false, false⟩ : RegW).covers f = false) ∧
    (∀ f ∈ [QUO_ERR_DRAIN_BUSY, QUO_ERR_POISON_RX], (fields out [(f, 0, 1)]).serves ∧ (fields out [(f, 0, 1)]).rawF f 0 0 0 ≤ 1) ∧
    (∀ fn, fn < 16 → (expertAt fn out).expert fn = true) ∧
    (∀ e ∈ expertRegs, 1 < e.1.n0 ∨ e.1.n0 = 1) ∧ (∀ e ∈ expertRegs, out.hasUnit e.1.base 0 = true ∧
      (∀ f ∈ e.2, out.expert f.fn = false) ∧ e.2 ≠ []) ∧
    (∀ e ∈ expertRegs, ∃ fn ∈ List.range 16, (∀ f ∈ e.2, f.fn = fn ∧ (expertAt fn out).expert f.fn = true) ∧ (expertAt fn out).serves) ∧
    (let o := 0x3F00000 / 8 * 8; regAt o = none ∧ ¬ (0x2000000 ≤ o ∧ o < 0x2C00000 ∧ o % 0x10000 < 0xC000) ∧
      ¬ (0x3000000 ≤ o ∧ o < 0x31C0000 ∧ o % 0x1000 < 0x20) ∧ ¬ (0x3E00000 ≤ o ∧ o < 0x3E00800)) ∧
    (let s := { out with build := 8 }; s.serves ∧ ∀ i ∈ [64, 191, 213, 252], s.hasRequester i = false) ∧
    (gatedBy 3 ≠ [] ∧ (∀ f ∈ (gatedBy 3).take 1, (f.reg.at (f.reg.off 0 0 0)).isSome = true)) := by
  unfold State.serves; and_intros <;> decide +kernel

theorem witness_ClocksAndChannelReset :
    (out.cold = false ∧ out.clkBad = [] ∧ (out.port 2).st = 0 ∧ ((porting 1 out).port 2).st ≠ 0 ∧
      ({ out with clkBad := [0] } : State).clkBad = [0] ∧ bonded.cold = false ∧ 0 ∈ bonded.bnd.link ∧ 1 ∉ bonded.bnd.link ∧
      0 ∉ bonded.bnd.held ∧ 13 ∉ bonded.clkBad ∧ 3 ∉ out.clkBad ∧ ((porting 1 out).port 2).abandoned = false) ∧
    (∀ b ∈ [true, false], (let s := { (porting 3 out).setPort 2 { (porting 3 out).port 2 with abandoned := b } with clkBad := [3] };
      (s.port 2).st ≠ 0 ∧ 3 ∈ s.clkBad ∧ (s.port 2).abandoned = b)) ∧
    (let s := holding (portReq .rdLine) (porting 1 out); s.req 1 = some (portReq .rdLine) ∧ (portReq .rdLine).stage ≠ .issued ∧
      (portReq .rdLine).inStore = false ∧ (portReq .rdLine).performed = false) ∧
    (out.pllRuns 1 = false ∧ live.pllRuns 1 = true) ∧
    (let s := fields live [(BLK_BOOT_STEP, 0, 8)]; s.serves ∧ (2 : Nat).testBit 1 = true ∧ s.resetTaken 1 = true ∧
      (∀ k, k < s.build → k ≠ 1 → (2 : Nat).testBit k = false) ∧ (s.chan 1).scr.run = 0 ∧ (s.chan 1).pllLost = false ∧
      s.isTrained 1 = true ∧ s.lpState 1 = 0 ∧ (∃ k ∈ s.physUnits 1, k ∉ (s.chan 1).pnt.sr) ∧
      (fields s [(SCR_STATUS_STATE, 1, 0)]).isTrained 1 = false ∧ (fields s [(SCR_STATUS_STATE, 1, 0)]).resetTaken 1 = true) ∧
    (live.serves ∧ live.resetTaken 1 = false) ∧
    (let s := holding entering (porting 1 live); s.req 1 = some entering ∧ entering.onChan 1 = true ∧
      entering.hasEntry = true ∧ entering.status = none ∧ entering.begun = false) ∧
    (∀ k ∈ [1, 2], let s := live.modChan 1 (fun x => { x with rstStep := k });
      s.cold = false ∧ s.pllRuns 1 = true ∧ (s.chan 1).rstStep = k) ∧
    (live.chan 1).rstStep ≠ 1 ∧ (live.chan 1).rstStep ≠ 2 ∧
    (let s := fields (live.modChan 1 (fun x => { x with rstStep := 2 })) [(PNT_STATUS_LPSTATE, 1, 3)];
      s.hasChan 1 = true ∧ (s.chan 1).rstStep = 2 ∧ s.lpState 1 ≠ 0) ∧
    (let s := fields (live.modChan 1 (fun x => { x with pllLost := true })) [(BLK_BOOT_STEP, 0, 8)];
      s.serves ∧ s.resetTaken 1 = true ∧ (s.chan 1).scr.run = 0 ∧ (s.chan 1).pllLost = true) ∧
    (∀ k ∈ [2, 3], (let s := live.modChan 1 (fun x => { x with rstStep := k });
      (s.chan 1).rstStep = k ∧ s.lpState 1 = 0 ∧ (s.chan 1).scr.run = 0)) ∧ (live.chan 1).rstStep < 2 := by
  unfold State.serves; and_intros <;> decide +kernel

end Sys2Proof.Tests
end

section
/-! Stability of the tables, and of blk_fatal_t, under every operation of the model.

`State.Kept s t` says that `t` still has what `s` had: tables in canonical form, and blk_fatal_t asserted. It is
transitive along an operation, so the lemma about an operation reads off its definition: a chain `h.a.b.c` for an
operation that does `a`, then `b`, then `c`, and `.ite` at a branch. -/

namespace Sys2Proof.Machine

/-- What `s` has and a command must not lose is there in `t`: tables in canonical form, and blk_fatal_t asserted. -/
structure State.Kept (s t : State) : Prop where
  tables : s.tablesWf = true → t.tablesWf = true
  alarm : s.fatal = true → t.fatal = true

/-- The command ends in a state that has what `s` had. -/
inductive State.KeptIn (s : State) : Host.Outcome State Fault Refusal → Prop
  | next {t : State} (h : s.Kept t) : s.KeptIn (.next t)

/-- The state, where there is one, has what `s` had. -/
def State.KeptOpt (s : State) (o : Option State) : Prop := ∀ u ∈ o, s.Kept u

/-- The state of the pair, where there is one, has what `s` had. -/
def State.KeptFst {α : Type} (s : State) (o : Option (State × α)) : Prop := ∀ x ∈ o, s.Kept x.1

/-! Branches, loops and options. -/

section
variable {s t u : State} {α β : Type} {c : Prop} {_ : Decidable c}

theorem State.Kept.refl : s.Kept s := ⟨id, id⟩

theorem State.Kept.ite (ht : s.Kept t) (hu : s.Kept u) : s.Kept (if c then t else u) := by
  split <;> assumption

theorem State.Kept.fst_ite {p q : State × α} (hp : s.Kept p.1) (hq : s.Kept q.1) :
    s.Kept (if c then p else q).1 := by
  split <;> assumption

theorem State.KeptIn.ite {o p : Host.Outcome State Fault Refusal} (ho : s.KeptIn o) (hp : s.KeptIn p) :
    s.KeptIn (if c then o else p) := by
  split <;> assumption

theorem State.KeptOpt.ite {o p : Option State} (ho : s.KeptOpt o) (hp : s.KeptOpt p) :
    s.KeptOpt (if c then o else p) := by
  split <;> assumption

theorem State.KeptFst.ite {o p : Option (State × α)} (ho : s.KeptFst o) (hp : s.KeptFst p) :
    s.KeptFst (if c then o else p) := by
  split <;> assumption

theorem State.KeptOpt.none : s.KeptOpt Option.none := by rintro _ ⟨⟩

theorem State.KeptOpt.some (h : s.Kept t) : s.KeptOpt (Option.some t) := by
  rintro _ ⟨⟩
  exact h

theorem State.KeptFst.none : s.KeptFst (Option.none : Option (State × α)) := by rintro _ ⟨⟩

theorem State.KeptFst.some {a : α} (h : s.Kept t) : s.KeptFst (Option.some (t, a)) := by
  rintro _ ⟨⟩
  exact h

theorem State.Kept.fst {a : α} (h : s.Kept t) : s.Kept (t, a).1 := h

theorem State.KeptOpt.bind {o : Option α} {f : α → Option State} (hf : ∀ x, s.KeptOpt (f x)) :
    s.KeptOpt (o.bind f) := by
  intro u hu
  obtain ⟨x, -, hx⟩ := Option.bind_eq_some_iff.mp hu
  exact hf x u hx

theorem State.KeptOpt.map {o : Option α} {f : α → State} (hf : ∀ x, s.Kept (f x)) : s.KeptOpt (o.map f) := by
  intro u hu
  obtain ⟨x, -, rfl⟩ := Option.map_eq_some_iff.mp hu
  exact hf x

theorem State.KeptFst.map {o : Option (State × α)} {f : State × α → State × β} (ho : s.KeptFst o)
    (hf : ∀ x, s.Kept x.1 → s.Kept (f x).1) : s.KeptFst (o.map f) := by
  intro y hy
  obtain ⟨x, hx, rfl⟩ := Option.map_eq_some_iff.mp hy
  exact hf x (ho x hx)

theorem State.KeptOpt.orElse {o : Option State} {f : Unit → Option State} (ho : s.KeptOpt o)
    (hf : s.KeptOpt (f ())) : s.KeptOpt (o.orElse f) := by
  cases o with
  | none => exact hf
  | some u => exact ho

theorem State.Kept.getD {o : Option State} (h : s.Kept t) (ho : s.KeptOpt o) : s.Kept (o.getD t) := by
  cases o with
  | none => exact h
  | some u => exact ho u rfl

theorem State.Kept.elim {o : Option α} {f : α → State} (h : s.Kept t) (hf : ∀ x, s.Kept (f x)) :
    s.Kept (o.elim t f) := by
  cases o with
  | none => exact h
  | some x => exact hf x

theorem State.Kept.foldl {f : State → α → State} {l : List α} (h : s.Kept t)
    (hf : ∀ u x, s.Kept u → s.Kept (f u x)) : s.Kept (l.foldl f t) :=
  List.foldlRecOn (motive := s.Kept) l f h fun u h x _ => hf u x h

theorem State.Kept.foldl_fst {f : State × β → α → State × β} {l : List α} {a : State × β} (h : s.Kept a.1)
    (hf : ∀ b x, s.Kept b.1 → s.Kept (f b x).1) : s.Kept (l.foldl f a).1 :=
  List.foldlRecOn (motive := fun b => s.Kept b.1) l f h fun b h x _ => hf b x h

theorem Tbl.sorted_foldl {f : Tbl α → β → Tbl α} {l : List β} {r : Tbl α} (hr : Tbl.sorted r = true)
    (hf : ∀ r x, Tbl.sorted r = true → Tbl.sorted (f r x) = true) : Tbl.sorted (l.foldl f r) = true :=
  List.foldlRecOn (motive := fun r => Tbl.sorted r = true) l f hr fun r hr x _ => hf r x hr

end

/-! Updates of the state's own fields. -/

variable {s t u : State}

theorem State.tablesWf_iff : s.tablesWf = true ↔ Tbl.sorted s.regs = true ∧ Tbl.sorted s.xregs = true ∧
    Tbl.sorted s.frozen = true ∧ Tbl.sorted s.dram = true ∧ Tbl.wf (fun _ => 0) s.pln.rows = true := by
  simp [State.tablesWf, and_assoc]

theorem State.Kept.of_tables (h : s.Kept t) (hr : Tbl.sorted t.regs = true → Tbl.sorted u.regs = true)
    (hx : Tbl.sorted t.xregs = true → Tbl.sorted u.xregs = true)
    (hf : Tbl.sorted t.frozen = true → Tbl.sorted u.frozen = true)
    (hd : Tbl.sorted t.dram = true → Tbl.sorted u.dram = true)
    (hp : Tbl.wf (fun _ => 0) t.pln.rows = true → Tbl.wf (fun _ => 0) u.pln.rows = true)
    (ha : t.fatal = true → u.fatal = true) : s.Kept u where
  tables w := by
    obtain ⟨r, x, f, d, p⟩ := State.tablesWf_iff.mp (h.tables w)
    exact State.tablesWf_iff.mpr ⟨hr r, hx x, hf f, hd d, hp p⟩
  alarm a := ha (h.alarm a)

/-- An update of any other field keeps what must last. -/
theorem State.Kept.frame (h : s.Kept t) {build pair cold warm warmAt warmSafe straps uptime rclkLost clkBad ports reqs
      xbar nextRid chans but plb dst masons imgs dbgOut hods popNext hodOut key bnd quo pending} :
    s.Kept (State.mk build pair cold warm warmAt warmSafe t.fatal straps uptime rclkLost clkBad t.regs t.xregs
      t.frozen ports reqs xbar nextRid chans t.dram but plb dst t.pln masons imgs dbgOut hods popNext hodOut key bnd
      quo pending) :=
  ⟨h.tables, h.alarm⟩

theorem State.Kept.setFatal (h : s.Kept t) : s.Kept { t with fatal := true } := ⟨h.tables, fun _ => rfl⟩

theorem State.Kept.setRegs (h : s.Kept t) {r x f : Tbl Nat} (hr : Tbl.sorted t.regs = true → Tbl.sorted r = true)
    (hx : Tbl.sorted t.xregs = true → Tbl.sorted x = true)
    (hf : Tbl.sorted t.frozen = true → Tbl.sorted f = true) :
    s.Kept { t with regs := r, xregs := x, frozen := f } :=
  h.of_tables hr hx hf id id id

theorem State.Kept.setDram (h : s.Kept t) {d : Tbl (List Nat)}
    (hd : Tbl.sorted t.dram = true → Tbl.sorted d = true) : s.Kept { t with dram := d } :=
  h.of_tables id id id hd id id

/-! Operations of Ops. -/

theorem State.Kept.live (h : s.Kept t) {f : State → State} (hf : ∀ u, s.Kept u → s.Kept (f u)) :
    s.Kept (t.live f) :=
  .ite h (hf _ h)

theorem State.Kept.whenTrue (h : s.Kept t) {c : Bool} {f : State → State} (hf : ∀ u, s.Kept u → s.Kept (f u)) :
    s.Kept (t.whenTrue c f) :=
  .ite (hf _ h) h

theorem State.Kept.setPort (h : s.Kept t) {n : Nat} {p : PortSt} : s.Kept (t.setPort n p) := h.frame

theorem State.Kept.setChan (h : s.Kept t) {c : Nat} {x : Chan} : s.Kept (t.setChan c x) := h.frame

theorem State.Kept.modChan (h : s.Kept t) {c : Nat} {f : Chan → Chan} : s.Kept (t.modChan c f) := h.setChan

theorem State.Kept.setMason (h : s.Kept t) {m : Nat} {x : Mason} : s.Kept (t.setMason m x) := h.frame

theorem State.Kept.modMason (h : s.Kept t) {m : Nat} {f : Mason → Mason} : s.Kept (t.modMason m f) := h.setMason

theorem State.Kept.setHod (h : s.Kept t) {h' : Nat} {x : Hod} : s.Kept (t.setHod h' x) := h.frame

theorem State.Kept.modReq (h : s.Kept t) {rid : Nat} {f : Req → Req} : s.Kept (t.modReq rid f) := h.frame

theorem State.Kept.dropReq (h : s.Kept t) {rid : Nat} : s.Kept (t.dropReq rid) := h.frame

theorem State.Kept.setF (h : s.Kept t) {f : Field} {i j k v : Nat} : s.Kept (t.setF f i j k v) :=
  h.setRegs (Tbl.sorted_set _ _ _ _) id id

theorem State.Kept.setBit (h : s.Kept t) {f : Field} {i j k : Nat} : s.Kept (t.setBit f i j k) := h.setF

theorem State.Kept.setX (h : s.Kept t) {f : Field} {i j k v : Nat} : s.Kept (t.setX f i j k v) :=
  h.setRegs id (Tbl.sorted_put _ _ _) id

theorem State.Kept.bumpF (h : s.Kept t) {f : Field} {i j k : Nat} : s.Kept (t.bumpF f i j k) := h.setF

/-! Operations of Flags. -/

theorem State.Kept.raiseVec (h : s.Kept t) {v : Nat} : s.Kept (t.raiseVec v) := .ite h h.frame

theorem State.Kept.dstDrop (h : s.Kept t) : s.Kept t.dstDrop := h.bumpF

theorem State.Kept.trigger (h : s.Kept t) {code detail : Nat} : s.Kept (t.trigger code detail) :=
  .ite h (.ite h.dstDrop h.frame)

theorem State.Kept.dstUpdate (h : s.Kept t) {f : DstSt → DstSt} : s.Kept (t.dstUpdate f) := .ite h.bumpF h.frame

theorem State.Kept.histAdd (h : s.Kept t) {c bin : Nat} : s.Kept (t.histAdd c bin) := .ite h h.dstUpdate

theorem State.Kept.extreme (h : s.Kept t) {key : Nat} {least : Bool} {v : Nat} :
    s.Kept (t.extreme key least v) :=
  .ite h h.dstUpdate

theorem State.Kept.readLatency (h : s.Kept t) {c v : Nat} : s.Kept (t.readLatency c v) :=
  h.histAdd.extreme.extreme

theorem State.Kept.writeLatency (h : s.Kept t) {c v : Nat} : s.Kept (t.writeLatency c v) :=
  h.histAdd.extreme.extreme

theorem State.Kept.queueDelay (h : s.Kept t) {c q v : Nat} : s.Kept (t.queueDelay c q v) := h.histAdd

theorem State.Kept.hodDepth (h : s.Kept t) {h' n : Nat} : s.Kept (t.hodDepth h' n) := h.extreme

theorem State.Kept.cntPin (h : s.Kept t) {n : Nat} : s.Kept (t.cntPin n) := h.frame

theorem State.Kept.rclkEdge (h : s.Kept t) {clear : Bool} : s.Kept (t.rclkEdge clear) := h.frame

theorem State.Kept.addCnt (h : s.Kept t) {k n : Nat} : s.Kept (t.addCnt k n) :=
  .ite h.frame (.raiseVec (.ite h.frame (.ite h.frame.frame.trigger h.frame.frame)))

theorem State.Kept.countN (h : s.Kept t) {code c : Nat} {e : Ev} {n : Nat} : s.Kept (t.countN code c e n) :=
  .ite h (.foldl (.ite (h.foldl fun _ _ h => .ite h.addCnt h) h) fun _ _ h => .ite h.addCnt h)

theorem State.Kept.count (h : s.Kept t) {code c : Nat} {e : Ev} : s.Kept (t.count code c e) := h.countN

theorem State.Kept.sampleTag (h : s.Kept t) {p : Nat} {e : Ev} : s.Kept (t.sampleTag p e).1 :=
  .fst_ite (.fst_ite h.frame.frame.count h.frame.count) h.frame

theorem State.Kept.keepRecord (h : s.Kept t) {ws : List Nat} : s.Kept (t.keepRecord ws) := h.frame

theorem State.Kept.tagDone (h : s.Kept t) {r : Req} {aborted : Bool} : s.Kept (t.tagDone r aborted) := by
  unfold State.tagDone
  split
  · exact h
  · exact h.keepRecord

theorem State.Kept.report (h : s.Kept t) {src : Nat} {r : Report} : s.Kept (t.report src r) :=
  .ite h (.ite h.frame h.frame.bumpF)

theorem State.Kept.reportUnit (h : s.Kept t) {src sev access reg kind : Nat} {addr : Option Nat} :
    s.Kept (t.reportUnit src sev access reg kind addr) :=
  h.report

theorem State.Kept.reportReq (h : s.Kept t) {src sev reg kind : Nat} {r : Req} :
    s.Kept (t.reportReq src sev reg kind r) :=
  h.report

theorem State.Kept.orF (h : s.Kept t) {f : Field} {i j k mask : Nat} : s.Kept (t.orF f i j k mask) :=
  h.setF

/-! Operations of Bar0. -/

theorem State.Kept.modQuo (h : s.Kept t) {f : QuoSt → QuoSt} : s.Kept (t.modQuo f) := h.frame

theorem State.Kept.setCfg (h : s.Kept t) {n v : Nat} : s.Kept (t.setCfg n v) := h.modQuo

theorem State.Kept.cfgOr (h : s.Kept t) {n bits : Nat} : s.Kept (t.cfgOr n bits) := h.setCfg

theorem State.Kept.aerFirst (h : s.Kept t) {bit : Nat} {logs : Bool} : s.Kept (t.aerFirst bit logs) :=
  .ite (h.setCfg.foldl fun _ _ h => h.setCfg) h.setCfg

theorem State.Kept.aerLog (h : s.Kept t) {bit : Nat} {logs : Bool} : s.Kept (t.aerLog bit logs) :=
  .ite h.cfgOr h.cfgOr.aerFirst

theorem State.Kept.aer (h : s.Kept t) {bit : Nat} {adv logs : Bool} : s.Kept (t.aer bit adv logs) := by
  unfold State.aer
  extract_lets _ s1 s2
  have h1 : s.Kept s1 := .ite h.cfgOr h
  have h2 : s.Kept s2 := h1.cfgOr.cfgOr
  exact .ite (.ite h2 h2.aerLog) h1.cfgOr.aerLog

theorem State.Kept.quoErr (h : s.Kept t) {f : Field} {kind sev aer : Nat} {adv logs : Bool} :
    s.Kept (t.quoErr f kind sev aer adv logs) :=
  h.setBit.reportUnit.aer

theorem State.Kept.urSent (h : s.Kept t) {posted : Bool} : s.Kept (t.urSent posted) := h.quoErr

theorem State.Kept.hostWrite (h : s.Kept t) {f : State → State} (hf : ∀ u, s.Kept u → s.Kept (f u)) :
    s.Kept (t.hostWrite f) :=
  .ite h.urSent (.ite h (hf _ h))

theorem State.Kept.hostRead (h : s.Kept t) {f : State → State} (hf : ∀ u, s.Kept u → s.Kept (f u)) :
    s.Kept (t.hostRead f) :=
  .ite h.urSent (hf _ h)

theorem State.Kept.host (h : s.Kept t) {f : State → State} (hf : ∀ u, s.Kept u → s.Kept (f u)) :
    s.Kept (t.host f) :=
  h.live fun _ h => h.hostWrite fun _ h => hf _ h

theorem State.Kept.hostRd (h : s.Kept t) {f : State → State} (hf : ∀ u, s.Kept u → s.Kept (f u)) :
    s.Kept (t.hostRd f) :=
  h.live fun _ h => h.hostRead fun _ h => hf _ h

/-! Operations of MasonRun. -/

theorem State.Kept.masonTake (h : s.Kept t) {m : Nat} {want : Bool} : s.Kept (t.masonTake m want) :=
  .ite h h.setMason

theorem State.Kept.masonFollow (h : s.Kept t) {m : Nat} : s.Kept (t.masonFollow m) := h.masonTake

theorem State.Kept.masonsApply (h : s.Kept t) : s.Kept t.masonsApply := h.foldl fun _ _ h => h.masonFollow

theorem State.Kept.masonsAnew (h : s.Kept t) : s.Kept t.masonsAnew := h.foldl fun _ _ h => h.masonTake

theorem State.Kept.masonsOf (h : s.Kept t) {c : Nat} : s.Kept (t.masonsOf c) :=
  h.foldl fun _ _ h => h.masonFollow

/-! Operations of Mapper. -/

theorem State.Kept.badEntry (h : s.Kept t) {r : Nat} : s.Kept (t.badEntry r) := .setBit (.ite h.setF h)

theorem State.Kept.writeRgnCtl (h : s.Kept t) {r : Nat} {w : RegW} : s.Kept (t.writeRgnCtl r w) := by
  unfold State.writeRgnCtl
  extract_lets _ _ _ _ _ s1 s2
  have h1 : s.Kept s1 := h.foldl fun _ _ h => h.setF
  have h2 : s.Kept s2 := .ite h1.setX.setX h1
  exact .ite h (.ite (.ite h.setBit h) (.ite h2.setF (.ite h2.setF.setF.setF h2.badEntry)))

theorem State.Kept.writeRgnBound (h : s.Kept t) {f : Field} {r : Nat} {w : RegW} :
    s.Kept (t.writeRgnBound f r w) :=
  .ite h (.ite h.setBit h.setF)

theorem State.Kept.writeGeom (h : s.Kept t) {c : Nat} {w : RegW} : s.Kept (t.writeGeom c w) := by
  unfold State.writeGeom
  extract_lets _ _ _ s1 s2
  have h1 : s.Kept s1 := h.foldl fun _ _ h => h.setF
  have h2 : s.Kept s2 := .ite h1.setX h1
  exact .ite h (.ite h.setBit (.ite h2.setF (.ite h2.setF.setF h2.setF.setBit)))

/-! Operations of PlinthOps. -/

theorem State.Kept.modPln (h : s.Kept t) {f : PlnSt → PlnSt}
    (hf : ∀ p, (f p).rows = p.rows := by exact fun _ => rfl) : s.Kept (t.modPln f) :=
  h.of_tables id id id id (fun w => by simpa [hf] using w) id

theorem State.Kept.setPlnRow (h : s.Kept t) {r : Nat} {v : BitVec 512} : s.Kept (t.setPlnRow r v) :=
  h.of_tables id id id id (Tbl.wf_set (fun _ => 0) _ _ _) id

theorem State.Kept.rowsLost (h : s.Kept t) {l : List Nat} : s.Kept (t.rowsLost l) := h.modPln

theorem State.Kept.setValid (h : s.Kept t) {type index : Nat} : s.Kept (t.setValid type index) := by
  unfold State.setValid
  split <;> exact h.setF.setF

theorem State.Kept.plnErr (h : s.Kept t) {f : Field} {kind sev : Nat} : s.Kept (t.plnErr f kind sev) :=
  h.setBit.reportUnit

theorem State.Kept.moveStart (h : s.Kept t) {pl : PlnPlan} {n : Nat} : s.Kept (t.moveStart pl n) := h.modPln

theorem State.Kept.askStore (h : s.Kept t) {type index : Nat} {body : List Nat} :
    s.Kept (t.askStore type index body) :=
  h.modPln

theorem State.Kept.tornRow (h : s.Kept t) {r type index : Nat} : s.Kept (t.tornRow r type index) :=
  .ite h.setPlnRow h

theorem State.Kept.storeBegin (h : s.Kept t) : s.Kept t.storeBegin := by
  unfold State.storeBegin
  split
  · exact h
  · exact h.modPln

theorem State.Kept.storeGone (h : s.Kept t) : s.Kept t.storeGone := h.modPln

theorem State.Kept.handValues (h : s.Kept t) {c : Nat} : s.Kept (t.handValues c) := h.askStore.modPln

theorem State.Kept.startSlot (h : s.Kept t) {w : Option (Nat × Nat)} : s.Kept (t.startSlot w) :=
  .elim h fun _ => h.modPln

theorem State.Kept.startRecord (h : s.Kept t) {e : Nat × Nat} : s.Kept (t.startRecord e) :=
  h.setValid.startSlot.startSlot

theorem State.Kept.startCycle (h : s.Kept t) : s.Kept t.startCycle := .askStore (.ite h.plnErr h)

theorem State.Kept.startSeal (h : s.Kept t) : s.Kept t.startSeal := .ite h h.askStore.setBit

theorem State.Kept.plnUpset (h : s.Kept t) {upset : Nat} : s.Kept (t.plnUpset upset) := .ite h.plnErr h

theorem State.Kept.recordUpset (h : s.Kept t) {type index upset : Nat} :
    s.Kept (t.recordUpset type index upset) :=
  .ite h.rowsLost.setValid h.plnUpset

theorem State.Kept.plinthStart (h : s.Kept t) {upset : Nat} {lost : List Nat} :
    s.Kept (t.plinthStart upset lost) :=
  (h.rowsLost.plnUpset.foldl fun _ _ h => h.startRecord).startCycle

theorem State.Kept.plinthReady (h : s.Kept t) {count : Nat} : s.Kept (t.plinthReady count) :=
  h.setF.setBit.startSeal

theorem State.Kept.setBuf (h : s.Kept t) {r : BitVec 512} : s.Kept (t.setBuf r) := h.foldl fun _ _ h => h.setF

theorem State.Kept.readRec (h : s.Kept t) {type upset : Nat} : s.Kept (t.readRec type upset) :=
  h.recordUpset.setBuf

theorem State.Kept.rawRead (h : s.Kept t) {row upset : Nat} : s.Kept (t.rawRead row upset) :=
  .setBuf (.ite h.rowsLost h.plnUpset)

theorem State.Kept.plnRun (h : s.Kept t) {x : PlnCmd} : s.Kept (t.plnRun x) := by
  unfold State.plnRun
  split
  · exact h.rawRead.modPln
  · exact h.readRec.modPln
  · exact h.modPln

theorem State.Kept.plnNext (h : s.Kept t) : s.Kept t.plnNext := by
  refine .ite h (.ite h.storeBegin ?_)
  split
  · exact .ite h.plnRun h
  · exact h

theorem State.Kept.stopStore (h : s.Kept t) : s.Kept t.stopStore := by
  unfold State.stopStore
  split
  · exact .ite h.modPln h
  · exact h

theorem State.Kept.killStore (h : s.Kept t) : s.Kept t.killStore := by
  unfold State.killStore
  split
  · refine .ite h.modPln ?_
    split
    · exact h.tornRow.moveStart.storeGone.plnNext
    · exact h.storeGone.plnNext
  · exact h

theorem State.Kept.fatalStore (h : s.Kept t) {body : List Nat} : s.Kept (t.fatalStore body) :=
  .ite h.modPln h.modPln.modPln.stopStore.plnNext

/-! Operations of QuoOps. -/

theorem State.Kept.issueReads (h : s.Kept t) {n : Nat} : s.Kept (t.issueReads n) := by
  induction n generalizing t with
  | zero => exact h
  | succ n ih =>
    unfold State.issueReads
    split
    · exact .ite (ih h.modQuo) h
    · exact h

theorem State.Kept.quarantine (h : s.Kept t) : s.Kept t.quarantine := h.modQuo

theorem State.Kept.imgEnd (h : s.Kept t) {kind result : Nat} : s.Kept (t.imgEnd kind result) :=
  h.modQuo.setF.setF.raiseVec

theorem State.Kept.imgAbort (h : s.Kept t) : s.Kept t.imgAbort := by
  unfold State.imgAbort
  split
  · exact h
  · exact .imgEnd (.ite h (.ite h.killStore h.modPln))

theorem State.Kept.drainStop (h : s.Kept t) {status : Nat} : s.Kept (t.drainStop status) := by
  unfold State.drainStop
  split
  · exact h
  · exact h.modQuo

theorem State.Kept.releaseCheck (h : s.Kept t) : s.Kept t.releaseCheck := .ite h.modQuo h

theorem State.Kept.contain (h : s.Kept t) {cause : Nat} : s.Kept (t.contain cause) :=
  .ite h h.modQuo.raiseVec.drainStop.setF.imgAbort.quarantine

theorem State.Kept.containWith (h : s.Kept t) {cause : Nat} {same : Bool} :
    s.Kept (t.containWith cause same) :=
  .ite h.modQuo h.contain

theorem State.Kept.masterOff (h : s.Kept t) : s.Kept t.masterOff := h.imgAbort.drainStop.quarantine

/-! Operations of Images. -/

theorem State.Kept.loadRuntime (h : s.Kept t) {i : Img} : s.Kept (t.loadRuntime i) :=
  h.foldl fun _ _ h => h.modMason

theorem State.Kept.seqLoad (h : s.Kept t) {c : Nat} : s.Kept (t.seqLoad c) := by
  unfold State.seqLoad
  split
  · exact h.modMason
  · exact h

theorem State.Kept.putImage (h : s.Kept t) {kind : Nat} {i : Img} : s.Kept (t.putImage kind i) :=
  .ite h.frame.setF.setF.loadRuntime h.frame.setF.setF

theorem State.Kept.selectImages (h : s.Kept t) : s.Kept t.selectImages :=
  .ite h.setF.setF (.elim (.elim h.setF.setF fun _ => h.setF.setF.putImage.foldl fun _ _ h => h.seqLoad)
      fun _ => .putImage (.elim h.setF.setF fun _ => h.setF.setF.putImage.foldl fun _ _ h => h.seqLoad))

theorem State.Kept.imgStart (h : s.Kept t) {op kind len : Nat} : s.Kept (t.imgStart op kind len) :=
  .ite h (.ite h.imgEnd (.ite h.imgEnd (.ite h.imgEnd h.modQuo.setBit.issueReads)))

theorem State.Kept.imgForce (h : s.Kept t) {kind : Nat} {b : List Nat} : s.Kept (t.imgForce kind b) :=
  h.putImage.imgEnd.masonsApply

theorem State.Kept.imgArrived (h : s.Kept t) {i : ImgOp} {b : List Nat} : s.Kept (t.imgArrived i b) :=
  .ite h.imgEnd (.ite h.imgEnd (.ite h.imgEnd (.ite h.imgEnd (.ite h.imgForce (.modQuo (.ite h h.askStore))))))

theorem State.Kept.imgLate (h : s.Kept t) {i : ImgOp} {b : List Nat} : s.Kept (t.imgLate i b) :=
  .ite h.imgEnd h.imgForce

theorem State.Kept.imgWaited (h : s.Kept t) : s.Kept t.imgWaited := by
  unfold State.imgWaited
  split
  · split
    · exact .ite h.imgLate h
    · exact h
  · exact h

theorem State.Kept.imgStored (h : s.Kept t) {type : Nat} {good : Bool} : s.Kept (t.imgStored type good) := by
  unfold State.imgStored
  split
  · refine .ite ?_ h
    split
    · exact .ite h.imgLate h.imgEnd
    · exact h
  · exact h

/-! Operations of Reqs. -/

theorem State.Kept.newRid (h : s.Kept t) : s.Kept t.newRid.1 := h.frame

theorem State.Kept.addReq (h : s.Kept t) {r : Req} : s.Kept (t.addReq r) := h.frame

theorem State.Kept.toEnd (h : s.Kept t) {rid : Nat} : s.Kept (t.toEnd rid) := h.frame

theorem State.Kept.rrHold (h : s.Kept t) {c rid : Nat} : s.Kept (t.rrHold c rid) := h.modChan

theorem State.Kept.rrDrop (h : s.Kept t) {c rid : Nat} : s.Kept (t.rrDrop c rid) := h.modChan

theorem State.Kept.rrDropAll (h : s.Kept t) {rid : Nat} : s.Kept (t.rrDropAll rid) :=
  h.foldl fun _ _ h => .ite h.modChan h

theorem State.Kept.untag (h : s.Kept t) {rid : Nat} : s.Kept (t.untag rid) := h.frame

theorem State.Kept.reserveReturn (h : s.Kept t) {r : Req} : s.KeptOpt (t.reserveReturn r) := by
  unfold State.reserveReturn
  split
  · exact .ite (.some h) (.ite (.some h.rrHold) .none)
  · exact .none

theorem State.Kept.takeTag (h : s.Kept t) {rid n : Nat} : s.Kept (t.takeTag rid n) := by
  unfold State.takeTag
  split
  · exact h
  · exact h.frame.getD (.bind fun _ => h.frame.reserveReturn)

theorem State.Kept.alloc (h : s.Kept t) {rid c : Nat} : s.Kept (t.alloc rid c) := by
  unfold State.alloc
  dsimp only
  split
  · exact h.modReq.setF.takeTag
  · exact h.modReq.setF

theorem State.Kept.xbarPass (h : s.Kept t) {out i : Nat} : s.Kept (t.xbarPass out i) := h.frame

theorem State.Kept.xbarGrants (h : s.Kept t) {out : Nat} {from' : Req → Nat} {ready : State → Req → Bool}
    {move : State → Req → State} {k : Nat} (hmove : ∀ u r, s.Kept u → s.Kept (move u r)) :
    s.Kept (State.xbarGrants out from' ready move k t) := by
  induction k generalizing t with
  | zero => exact h
  | succ k ih =>
    unfold State.xbarGrants
    split
    · exact h
    · exact ih (hmove _ _ h).xbarPass

theorem State.Kept.stageMove (h : s.Kept t) {n : Nat} : s.Kept (t.stageMove n) :=
  h.xbarGrants fun _ _ h => h.modReq.rrDropAll

theorem State.Kept.classUpset (h : s.Kept t) {k upset access : Nat} {addr : Option Nat} :
    s.Kept (t.classUpset k upset access addr) :=
  .ite h.orF.reportUnit (.ite h.orF.reportUnit h)

theorem State.Kept.storageUpset (h : s.Kept t) {k upset : Nat} {r : Req} :
    s.Kept (t.storageUpset k upset r) :=
  .ite h.orF.reportReq (.ite h.orF.reportReq h)

theorem State.Kept.rxReturn (h : s.Kept t) {k n : Nat} : s.Kept (t.rxReturn k n) := h.frame

theorem State.Kept.txLeave (h : s.Kept t) {sent : Bool} {e : TxEnt} : s.Kept (t.txLeave sent e) := by
  unfold State.txLeave
  dsimp only
  split
  · refine .keepRecord ?_
    split
    · exact h.rxReturn
    · exact h
  · split
    · exact h.rxReturn
    · exact h

theorem State.Kept.bondDrain (h : s.Kept t) {p : Nat} : s.Kept (t.bondDrain p) :=
  h.frame.foldl fun _ _ h => h.txLeave

theorem State.Kept.bondPut (h : s.Kept t) {p : Nat} {e : TxEnt} : s.Kept (t.bondPut p e) :=
  .ite h.txLeave h.frame.bondDrain

theorem State.Kept.bondSend (h : s.Kept t) {p : Nat} {m : Msg} : s.Kept (t.bondSend p m) := h.bondPut

theorem State.Kept.checkStore (h : s.Kept t) {c : Nat} : s.Kept (t.checkStore c) := .ite h h.reportUnit.modChan

theorem State.Kept.releaseStore (h : s.Kept t) {r : Req} : s.Kept (t.releaseStore r) := by
  unfold State.releaseStore
  split
  · exact .ite h.modChan.checkStore h
  · exact h

theorem State.Kept.leaveBanks (h : s.Kept t) {r : Req} : s.Kept (t.leaveBanks r) := by
  unfold State.leaveBanks
  split
  · exact .ite h.modChan h
  · exact h

theorem State.Kept.patrolLost (h : s.Kept t) {r : Req} : s.Kept (t.patrolLost r) := by
  unfold State.patrolLost
  split
  · exact .ite h.modChan h
  · exact h

theorem State.Kept.fix (h : s.Kept t) {rid : Nat} {st : Status} {data : BitVec 512} :
    s.Kept (t.fix rid st data) := by
  unfold State.fix
  split
  · exact h
  · extract_lets _ r' s1
    have h1 : s.Kept s1 := h.leaveBanks.releaseStore.untag.modReq
    refine .ite h ?_
    split
    · exact h1.rrDropAll.dropReq.xbarPass.bondPut
    · exact h1.rrDropAll.dropReq
    · exact h1.patrolLost.rrDropAll.dropReq
    · exact h1.stageMove
    · exact h1.rrDropAll

theorem State.Kept.fixAll (h : s.Kept t) {p : Req → Bool} {st : Status} : s.Kept (t.fixAll p st) :=
  h.foldl fun _ _ h => h.fix

theorem State.Kept.fenceReqs (h : s.Kept t) {c : Nat} : s.Kept (t.fenceReqs c) := h.fixAll

theorem State.Kept.fenceChan (h : s.Kept t) {c : Nat} : s.Kept (t.fenceChan c) := h.modChan.fenceReqs

theorem State.Kept.fencePort (h : s.Kept t) {n : Nat} : s.Kept (t.fencePort n) := h.setPort.fixAll

/-! Operations of HodOps. -/

theorem State.Kept.hodApply (h : s.Kept t) {h' : Nat} : s.Kept (t.hodApply h') := .ite (.ite h h.setHod) h

theorem State.Kept.hodApplyAll (h : s.Kept t) : s.Kept t.hodApplyAll := h.foldl fun _ _ h => .ite h.hodApply h

theorem State.Kept.spillReq (h : s.Kept t) {h' idx : Nat} {op : Op} {data : BitVec 512} :
    s.Kept (t.spillReq h' idx op data).1 :=
  h.newRid.addReq

theorem State.Kept.hodSpill (h : s.Kept t) {h' : Nat} : s.Kept (t.hodSpill h') := by
  unfold State.hodSpill
  dsimp only
  split
  · exact .ite h h.spillReq.setHod
  · exact h

theorem State.Kept.hodRefill (h : s.Kept t) {h' : Nat} : s.Kept (t.hodRefill h') := by
  refine .ite h ?_
  split
  · exact h
  · exact h.spillReq.setHod

theorem State.Kept.hodMove (h : s.Kept t) {h' : Nat} : s.Kept (t.hodMove h') :=
  h.setHod.hodSpill.hodRefill.hodRefill

theorem State.Kept.hodPtrFault (h : s.Kept t) {h' : Nat} : s.Kept (t.hodPtrFault h') :=
  h.setHod.setBit.report.hodApply

theorem State.Kept.hodPush (h : s.Kept t) {h' : Nat} {item : BitVec 256} {bad : Bool} :
    s.Kept (t.hodPush h' item bad).1 :=
  .fst_ite h.hodPtrFault (.fst_ite (.ite h.setBit.count.trigger h.setBit.count)
      (.hodDepth (.count (.ite h.setHod h.setHod.hodMove))))

theorem State.Kept.hodWait (h : s.Kept t) {h' who : Nat} : s.Kept (t.hodWait h' who) := .ite h h.setHod

theorem State.Kept.popGrant (h : s.Kept t) {who : Nat} : s.Kept (t.popGrant who) := h.frame

theorem State.Kept.hodsForget (h : s.Kept t) {who : Nat} : s.Kept (t.hodsForget who) := h.frame

theorem State.Kept.hodPop (h : s.Kept t) {h' who : Nat} {bad : Bool} : s.KeptFst (t.hodPop h' who bad) := by
  refine .ite (.some h.popGrant.hodPtrFault) <|
    .ite (.ite .none (.some h.popGrant.count)) (.ite (.some h.popGrant.setHod.hodApply.count) ?_)
  split
  · exact .none
  · exact .ite (.some h.popGrant.setHod.hodMove.hodApply.count) .none

theorem State.Kept.servePops (h : s.Kept t) : s.Kept t.servePops := by
  refine h.foldl fun u e h => .ite ?_ h
  split
  · next hp => exact (h.hodPop _ hp).frame
  · exact h

/-! Operations of BondOps. -/

theorem State.Kept.modBnd (h : s.Kept t) {f : BndSt → BndSt} : s.Kept (t.modBnd f) := h.frame

theorem State.Kept.bndErr (h : s.Kept t) {p bit node : Nat} {addr : Option Nat} {access mkind master : Nat} :
    s.Kept (t.bndErr p bit node addr access mkind master) :=
  .report (.ite h.orF h.orF.setBit.setF.setF.setF)

theorem State.Kept.msgErr (h : s.Kept t) {p bit : Nat} {m : Msg} : s.Kept (t.msgErr p bit m) := h.bndErr

theorem State.Kept.creditBack (h : s.Kept t) {p : Nat} {m : Msg} {flits : Nat} :
    s.Kept (t.creditBack p m flits) :=
  h.rxReturn

theorem State.Kept.malformed (h : s.Kept t) {p : Nat} {m : Msg} {flits : Nat} :
    s.Kept (t.malformed p m flits) :=
  .ite h.msgErr h.bumpF.msgErr

theorem State.Kept.laneUpset (h : s.Kept t) {m : Msg} : s.Kept (t.laneUpset m) := .ite h h.classUpset

theorem State.Kept.bondRx (h : s.Kept t) {p : Nat} {m : Msg} {flits : Nat} {f : State → State}
    (hf : ∀ u, s.Kept u → s.Kept (f u)) :
    s.Kept (t.bondRx p m flits f) :=
  .ite h <|
  .ite h.creditBack (.ite h.creditBack.malformed (.ite h.creditBack.laneUpset (.ite h (hf _ h.laneUpset))))

theorem State.Kept.transit (h : s.Kept t) {p : Nat} {m : Msg} {flits : Nat} : s.Kept (t.transit p m flits) := by
  unfold State.transit
  split
  · exact .ite h.creditBack.msgErr h.count.bondPut
  · exact .ite h.creditBack h.creditBack.msgErr

theorem State.Kept.bondIn (h : s.Kept t) {p : Nat} {m : Msg} {flits : Nat} {f : State → State}
    (hf : ∀ u, s.Kept u → s.Kept (f u)) :
    s.Kept (t.bondIn p m flits f) :=
  h.bondRx fun _ h => .ite h.transit (hf _ h.creditBack)

theorem State.Kept.resync (h : s.Kept t) {old : State} : s.Kept (t.resync old) := h.modBnd

theorem State.Kept.unsync (h : s.Kept t) {n : Nat} : s.Kept (t.unsync n) := h.modBnd

theorem State.Kept.pairInit (h : s.Kept t) {n : Nat} : s.Kept (t.pairInit n) := h.modBnd

theorem State.Kept.routesDue (h : s.Kept t) : s.Kept t.routesDue := h.modBnd

theorem State.Kept.upChanged (h : s.Kept t) : s.Kept t.upChanged := h.modBnd.routesDue

theorem State.Kept.discardTx (h : s.Kept t) {p : Nat} : s.Kept (t.discardTx p) :=
  h.modBnd.foldl fun _ _ h => h.txLeave

theorem State.Kept.nbrDown (h : s.Kept t) {p n : Nat} : s.Kept (t.nbrDown p n) :=
  h.discardTx.modBnd.upChanged.bndErr.resync

theorem State.Kept.linkFall (h : s.Kept t) {p : Nat} : s.Kept (t.linkFall p) :=
  h.discardTx.modBnd.upChanged.bndErr.resync

theorem State.Kept.linkRise (h : s.Kept t) {p : Nat} : s.Kept (t.linkRise p) := h.modBnd

theorem State.Kept.routesNew (h : s.Kept t) : s.Kept t.routesNew := h.modBnd.resync

theorem State.Kept.routeWrite (h : s.Kept t) {n : Nat} {w : RegW} : s.Kept (t.routeWrite n w) :=
  .ite h <|
  .ite (((h.foldl fun _ _ h => h.setX).modBnd).resync) <|
  .ite (((h.foldl fun _ _ h => h.setX).routesDue).resync) (h.foldl fun _ _ h => h.setX)

theorem State.Kept.answerTimeout (h : s.Kept t) {p : Nat} {m : Msg} : s.Kept (t.answerTimeout p m) := h.bondSend

theorem State.Kept.acceptIn (h : s.Kept t) {op : Op} {p : Nat} {m : Msg} {since : Nat} :
    s.Kept (t.acceptIn op p m since) :=
  .addReq (.sampleTag (h.modBnd.newRid.storageUpset.ite h.modBnd.newRid))

theorem State.Kept.seqRefuse (h : s.Kept t) {op : Op} {p : Nat} {m : Msg} : s.Kept (t.seqRefuse op p m) := by
  unfold State.seqRefuse
  split
  · exact h.answerTimeout
  · exact .ite h.answerTimeout h.bndErr

theorem State.Kept.leaveRx (h : s.Kept t) {p : Nat} {e : RxEnt} : s.Kept (t.leaveRx p e) :=
  .ite h.creditBack.acceptIn h.creditBack.seqRefuse

theorem State.Kept.admitRx (h : s.Kept t) {p : Nat} : s.Kept (t.admitRx p) :=
  h.foldl fun _ _ h => .ite h.modBnd.leaveRx h

/-! Operations of LockOps. -/

theorem State.Kept.keyLose (h : s.Kept t) {idx : Nat} : s.Kept (t.keyLose idx).1 := h.frame

theorem State.Kept.keyWon (h : s.Kept t) {res cls idx : Nat} : s.Kept (t.keyWon res cls idx) := h.frame

theorem State.Kept.keyLock (h : s.Kept t) {q : KeyReq} : s.Kept (t.keyLock q).1 := by
  unfold State.keyLock
  dsimp only
  refine .fst_ite h (.fst_ite h.keyLose.count ?_)
  split
  · exact h.frame
  · exact h.frame.frame.keyWon.count

theorem State.Kept.keyCycle (h : s.Kept t) {qs : List KeyReq} : s.Kept (t.keyCycle qs).1 :=
  .foldl_fst h fun _ _ h => h.keyLock

theorem State.Kept.keyAmong (h : s.Kept t) {qs : List KeyReq} {rivals : List KeyAsk} :
    s.Kept (t.keyAmong qs rivals).1 :=
  h.keyCycle.frame

theorem State.Kept.keyAsked (h : s.Kept t) {q : KeyReq} {rivals : List KeyAsk} :
    s.Kept (t.keyAsked q rivals).1 :=
  h.keyAmong

theorem State.Kept.keyUnlock (h : s.Kept t) {kind owner slot : Nat} :
    s.Kept (t.keyUnlock kind owner slot).1 := by
  unfold State.keyUnlock
  split
  · exact .fst_ite h.frame h
  · exact h

theorem State.Kept.keyTear (h : s.Kept t) {slot : Nat} : s.Kept (t.keyTear slot) := by
  unfold State.keyTear
  split
  · exact h.frame
  · exact h

theorem State.Kept.keyErr (h : s.Kept t) {bit : Field} {kind sev slot : Nat} {addr : Option Nat} :
    s.Kept (t.keyErr bit kind sev slot addr) :=
  .reportUnit (.setBit (.ite h.setF h))

theorem State.Kept.keyParity (h : s.Kept t) {slot : Nat} : s.Kept (t.keyParity slot) := by
  unfold State.keyParity
  split
  · exact .ite h h.keyTear.keyErr
  · exact h

theorem State.Kept.mailOp (h : s.Kept t) {k port sid : Nat} {rivals : List KeyAsk} :
    s.Kept (t.mailOp k port sid rivals).1 :=
  .fst_ite (.fst_ite h h.keyAsked) (.fst_ite h.keyUnlock h)

/-! Operations of Settle. -/

theorem State.Kept.dataMove (h : s.Kept t) {c : Nat} {r : Req} : s.Kept (t.dataMove c r) := h.modReq.modChan

theorem State.Kept.moveData (h : s.Kept t) : s.Kept t.moveData :=
  h.foldl fun _ _ h => (h.foldl fun _ _ h => .ite h.dataMove h).xbarGrants fun _ _ h => h.dataMove

theorem State.Kept.admitSpills (h : s.Kept t) : s.Kept t.admitSpills := by
  refine h.foldl fun _ _ h => ?_
  split
  · refine .ite ?_ h
    split
    · exact h.fix
    · split
      · exact h
      · exact h.modReq.toEnd.alloc
  · exact h

theorem State.Kept.admitBondOne (h : s.Kept t) {p : Nat} {r : Req} : s.KeptOpt (t.admitBondOne p r) := by
  unfold State.admitBondOne
  dsimp only
  refine .ite .none (.map fun _ => ?_)
  split
  · exact h.modReq.toEnd.alloc.count
  · exact .fix (.ite h.modReq.toEnd.alloc.count.count h.modReq.toEnd.alloc.count)

theorem State.Kept.admitBond (h : s.Kept t) : s.Kept t.admitBond := by
  refine .foldl_fst h fun a r h => ?_
  split
  · refine .fst_ite h ?_
    split
    · exact h
    · next hu => exact h.admitBondOne _ hu
  · exact h

theorem State.Kept.control (h : s.Kept t) {r : Req} {off : Nat} : s.Kept (t.control r off) := by
  unfold State.control
  refine .ite (.ite (.ite h.fix (.ite ?_ (h.fix.ite h.fix))) (.ite h.mailOp.fix h.fix)) ?_
  · split
    · exact h.hodWait
    · next hp => exact (h.hodPop _ hp).fix
  · split
    · exact h.fix
    · exact .ite (h.fix.ite (h.fix.ite h.hodPush.fix)) (.ite (h.fix.ite h.frame.fix) h.fix)

theorem State.Kept.serve (h : s.Kept t) {r e : Req} {c : Nat} : s.Kept (t.serve r e c) :=
  h.modReq.modReq.count.fix

theorem State.Kept.setStage (h : s.Kept t) {rid : Nat} {st : Stage} : s.Kept (t.setStage rid st) := h.modReq

theorem State.Kept.crossOver (h : s.Kept t) {r : Req} : s.Kept (t.crossOver r) := by
  unfold State.crossOver
  split
  · exact h.setStage.control
  · exact h

theorem State.Kept.hodGrants (h : s.Kept t) : s.Kept t.hodGrants := h.xbarGrants fun _ _ h => h.crossOver

theorem State.Kept.settleOne (h : s.Kept t) {rid : Nat} : s.Kept (t.settleOne rid) := by
  unfold State.settleOne
  split
  · exact h
  · refine .ite h (.ite h.setStage (.ite h.setStage ?_))
    split
    · exact h.setStage
    · exact h.setStage
    · exact .ite h.control (.ite h.setStage h.hodGrants)
    · split
      · exact h.serve
      · exact .ite h.modReq h.setStage

theorem State.Kept.checkStores (h : s.Kept t) : s.Kept t.checkStores := h.foldl fun _ _ h => .ite h.fenceReqs h

theorem State.Kept.enterOpen (h : s.Kept t) {n : Nat} : s.Kept (t.enterOpen n) := h.setPort

theorem State.Kept.drainCheck (h : s.Kept t) {n : Nat} : s.Kept (t.drainCheck n) :=
  .ite (.ite h.setPort.enterOpen h.setPort) h

theorem State.Kept.trimWaits (h : s.Kept t) : s.Kept t.trimWaits := h.frame

theorem State.Kept.settle (h : s.Kept t) : s.Kept t.settle :=
  (((h.trimWaits.admitSpills.admitBond.admitRx.admitRx.admitBond.moveData.servePops.foldl fun _ _ h =>
          h.settleOne).servePops).checkStores).foldl fun _ _ h => h.drainCheck

/-! Operations of MasOps. -/

theorem State.Kept.masErr (h : s.Kept t) {m bit sev : Nat} : s.Kept (t.masErr m bit sev) := .ite h h.orF.report

theorem State.Kept.masFault (h : s.Kept t) {m bit : Nat} : s.Kept (t.masFault m bit) := h.masErr.modMason

theorem State.Kept.akTrap (h : s.Kept t) {m cause sub tval epc : Nat} :
    s.Kept (t.akTrap m cause sub tval epc) :=
  .ite (.modMason (.ite (.count (.ite h.count h)) (.ite h.count h))) <|
  .ite (.modMason (.ite (.count (.ite h.count h)) (.ite h.count h)))
    (.masFault (.ite (.count (.ite h.count h)) (.ite h.count h)))

theorem State.Kept.akTrapHere (h : s.Kept t) {m cause sub tval : Nat} :
    s.Kept (t.akTrapHere m cause sub tval) :=
  h.akTrap

theorem State.Kept.akNext (h : s.Kept t) {m : Nat} : s.Kept (t.akNext m) := h.modMason

theorem State.Kept.akStall (h : s.Kept t) {m : Nat} : s.Kept (t.akStall m) := h.modMason

theorem State.Kept.akPut (h : s.Kept t) {m rd : Nat} {v : BitVec 64} : s.Kept (t.akPut m rd v) := h.modMason

theorem State.Kept.touch (h : s.Kept t) {m : Nat} {slots : List Nat} : s.Kept (t.touch m slots) :=
  .ite h h.modMason

theorem State.Kept.masEnter (h : s.Kept t) {r : Req} : s.Kept (t.masEnter r) := by
  unfold State.masEnter
  split
  · exact h
  · exact h.addReq.alloc.settle

theorem State.Kept.masRefused (h : s.Kept t) {r : Req} {st : Status} : s.Kept (t.masRefused r st) :=
  h.addReq.fix

theorem State.Kept.masIssue (h : s.Kept t) {m code : Nat} {r : Req} {o : MasOut} :
    s.Kept (t.masIssue m code r o) := by
  have hs : s.Kept ((t.count code 0 r.ev).sampleTag 12 r.ev).1 := h.count.sampleTag
  unfold State.masIssue
  generalize (t.count code 0 r.ev).sampleTag 12 r.ev = a at hs
  obtain ⟨u, tg⟩ := a
  dsimp only
  split <;> [exact hs.modMason.masRefused; exact hs.modMason.masEnter]

theorem State.Kept.adUpdate (h : s.Kept t) {m slot tea : Nat} {setA setD : Bool} :
    s.Kept (t.adUpdate m slot tea setA setD) := by
  unfold State.adUpdate
  dsimp only
  split
  · exact h.akTrapHere
  · exact h.count.akTrapHere
  · exact .ite h.newRid.masIssue h.akStall

theorem State.Kept.masMapTrap (h : s.Kept t) {m : Nat} {r : Req} {d : Decoded} :
    s.Kept (t.masMapTrap m r d) := by
  unfold State.masMapTrap
  split <;> exact h.count.akTrapHere

theorem State.Kept.memGo (h : s.Kept t) {m : Nat} {q : Ask} {ga : Nat} {slots : List Nat} :
    s.Kept (t.memGo m q ga slots) := by
  unfold State.memGo
  dsimp only
  split
  · exact .ite h.count.akTrapHere h.masMapTrap
  · exact h.masMapTrap
  · exact .ite h.akStall (.ite h.newRid.touch.storageUpset.masIssue.akNext h.newRid.touch.storageUpset.masIssue)

theorem State.Kept.memAsk (h : s.Kept t) {m align : Nat} {q : Ask} : s.Kept (t.memAsk m align q) := by
  unfold State.memAsk
  split
  · exact h.akTrapHere
  · split
    · exact h.akTrapHere
    · exact h.akTrapHere
    · exact h.adUpdate
    · exact h.memGo

theorem State.Kept.wordCorr (h : s.Kept t) {m upset : Nat} : s.Kept (t.wordCorr m upset) := .ite h.masErr h

theorem State.Kept.tplUpset (h : s.Kept t) {m upset : Nat} {vas : List Nat} :
    s.Kept (t.tplUpset m upset vas) := by
  unfold State.tplUpset
  split
  · exact h.masErr.modMason
  · exact h

theorem State.Kept.akRun (h : s.Kept t) {m upset word ign : Nat} {n : Names} {vas : List Nat}
    {f : State → State} (hf : ∀ u, s.Kept u → s.Kept (f u)) :
    s.Kept (t.akRun m upset word ign n vas f) :=
  .ite h <|
  .ite h.masFault <|
  .ite h.wordCorr.akTrapHere <|
  .ite h.wordCorr.akTrapHere (.ite h.wordCorr.akStall (.ite h.wordCorr.masFault (hf _ h.wordCorr.tplUpset)))

/-! Operations of AkletAlu. -/

theorem State.Kept.alu (h : s.Kept t) {m upset rd rs1 rs2 fn : Nat}
    {g : BitVec 64 → BitVec 64 → BitVec 64} :
    s.Kept (t.alu m upset rd rs1 rs2 fn g) :=
  h.akRun fun _ h => h.akPut

theorem State.Kept.aluImm (h : s.Kept t) {m upset op rd rs1 imm : Nat}
    {g : BitVec 64 → BitVec 64} :
    s.Kept (t.aluImm m upset op rd rs1 imm g) :=
  h.akRun fun _ h => h.akPut

theorem State.Kept.jumpTo (h : s.Kept t) {m rd : Nat} {target : BitVec 64} : s.Kept (t.jumpTo m rd target) :=
  .ite h.modMason h.akTrapHere

theorem State.Kept.branch (h : s.Kept t) {m upset op rs1 rs2 off : Nat}
    {g : BitVec 64 → BitVec 64 → Bool} :
    s.Kept (t.branch m upset op rs1 rs2 off g) :=
  h.akRun fun _ h => .ite h.jumpTo h.akNext

theorem State.Kept.scratchAt (h : s.Kept t) {m n : Nat} {a : BitVec 64} {bad : Bool} {f : State → State}
    (hf : ∀ u, s.Kept u → s.Kept (f u)) :
    s.Kept (t.scratchAt m n a bad f) :=
  .ite h.akTrapHere (.ite h.akTrapHere (.ite h.masFault (hf _ h)))

theorem State.Kept.scratchLoad (h : s.Kept t) {m upset op n rd rs1 imm : Nat} :
    s.Kept (t.scratchLoad m upset op n rd rs1 imm) :=
  h.akRun fun _ h => h.scratchAt fun _ h => h.akPut

theorem State.Kept.scratchStore (h : s.Kept t) {m upset op n rs2 rs1 imm : Nat} :
    s.Kept (t.scratchStore m upset op n rs2 rs1 imm) :=
  h.akRun fun _ h => h.scratchAt fun _ h => h.modMason

theorem State.Kept.useLine (h : s.Kept t) {m l : Nat} {f : LReg → State} (hf : ∀ x1, s.Kept (f x1)) :
    s.Kept (t.useLine m l f) :=
  .ite h.akTrapHere (hf _)

theorem State.Kept.execAdd (h : s.Kept t) {m upset rd rs1 rs2 : Nat} :
    s.KeptIn (execAdd m upset rd rs1 rs2 t) :=
  .next (h.live fun _ h => h.alu)

theorem State.Kept.execSub (h : s.Kept t) {m upset rd rs1 rs2 : Nat} :
    s.KeptIn (execSub m upset rd rs1 rs2 t) :=
  .next (h.live fun _ h => h.alu)

theorem State.Kept.execAnd (h : s.Kept t) {m upset rd rs1 rs2 : Nat} :
    s.KeptIn (execAnd m upset rd rs1 rs2 t) :=
  .next (h.live fun _ h => h.alu)

theorem State.Kept.execOr (h : s.Kept t) {m upset rd rs1 rs2 : Nat} :
    s.KeptIn (execOr m upset rd rs1 rs2 t) :=
  .next (h.live fun _ h => h.alu)

theorem State.Kept.execXor (h : s.Kept t) {m upset rd rs1 rs2 : Nat} :
    s.KeptIn (execXor m upset rd rs1 rs2 t) :=
  .next (h.live fun _ h => h.alu)

theorem State.Kept.execSll (h : s.Kept t) {m upset rd rs1 rs2 : Nat} :
    s.KeptIn (execSll m upset rd rs1 rs2 t) :=
  .next (h.live fun _ h => h.alu)

theorem State.Kept.execSrl (h : s.Kept t) {m upset rd rs1 rs2 : Nat} :
    s.KeptIn (execSrl m upset rd rs1 rs2 t) :=
  .next (h.live fun _ h => h.alu)

theorem State.Kept.execSra (h : s.Kept t) {m upset rd rs1 rs2 : Nat} :
    s.KeptIn (execSra m upset rd rs1 rs2 t) :=
  .next (h.live fun _ h => h.alu)

theorem State.Kept.execSlt (h : s.Kept t) {m upset rd rs1 rs2 : Nat} :
    s.KeptIn (execSlt m upset rd rs1 rs2 t) :=
  .next (h.live fun _ h => h.alu)

theorem State.Kept.execSltu (h : s.Kept t) {m upset rd rs1 rs2 : Nat} :
    s.KeptIn (execSltu m upset rd rs1 rs2 t) :=
  .next (h.live fun _ h => h.alu)

theorem State.Kept.execMin (h : s.Kept t) {m upset rd rs1 rs2 : Nat} :
    s.KeptIn (execMin m upset rd rs1 rs2 t) :=
  .next (h.live fun _ h => h.alu)

theorem State.Kept.execMax (h : s.Kept t) {m upset rd rs1 rs2 : Nat} :
    s.KeptIn (execMax m upset rd rs1 rs2 t) :=
  .next (h.live fun _ h => h.alu)

theorem State.Kept.execMinu (h : s.Kept t) {m upset rd rs1 rs2 : Nat} :
    s.KeptIn (execMinu m upset rd rs1 rs2 t) :=
  .next (h.live fun _ h => h.alu)

theorem State.Kept.execMaxu (h : s.Kept t) {m upset rd rs1 rs2 : Nat} :
    s.KeptIn (execMaxu m upset rd rs1 rs2 t) :=
  .next (h.live fun _ h => h.alu)

theorem State.Kept.execMul (h : s.Kept t) {m upset rd rs1 rs2 : Nat} :
    s.KeptIn (execMul m upset rd rs1 rs2 t) :=
  .next (h.live fun _ h => h.alu)

theorem State.Kept.execMulhu (h : s.Kept t) {m upset rd rs1 rs2 : Nat} :
    s.KeptIn (execMulhu m upset rd rs1 rs2 t) :=
  .next (h.live fun _ h => h.alu)

theorem State.Kept.execClz (h : s.Kept t) {m upset rd rs1 : Nat} :
    s.KeptIn (execClz m upset rd rs1 t) :=
  .next (h.live fun _ h => h.alu)

theorem State.Kept.execPopc (h : s.Kept t) {m upset rd rs1 : Nat} :
    s.KeptIn (execPopc m upset rd rs1 t) :=
  .next (h.live fun _ h => h.alu)

theorem State.Kept.execBswap (h : s.Kept t) {m upset rd rs1 : Nat} :
    s.KeptIn (execBswap m upset rd rs1 t) :=
  .next (h.live fun _ h => h.alu)

theorem State.Kept.execAddi (h : s.Kept t) {m upset rd rs1 imm : Nat} :
    s.KeptIn (execAddi m upset rd rs1 imm t) :=
  .next (h.live fun _ h => h.aluImm)

theorem State.Kept.execAndi (h : s.Kept t) {m upset rd rs1 imm : Nat} :
    s.KeptIn (execAndi m upset rd rs1 imm t) :=
  .next (h.live fun _ h => h.aluImm)

theorem State.Kept.execOri (h : s.Kept t) {m upset rd rs1 imm : Nat} :
    s.KeptIn (execOri m upset rd rs1 imm t) :=
  .next (h.live fun _ h => h.aluImm)

theorem State.Kept.execXori (h : s.Kept t) {m upset rd rs1 imm : Nat} :
    s.KeptIn (execXori m upset rd rs1 imm t) :=
  .next (h.live fun _ h => h.aluImm)

theorem State.Kept.execSlti (h : s.Kept t) {m upset rd rs1 imm : Nat} :
    s.KeptIn (execSlti m upset rd rs1 imm t) :=
  .next (h.live fun _ h => h.aluImm)

theorem State.Kept.execSltiu (h : s.Kept t) {m upset rd rs1 imm : Nat} :
    s.KeptIn (execSltiu m upset rd rs1 imm t) :=
  .next (h.live fun _ h => h.aluImm)

theorem State.Kept.execSlli (h : s.Kept t) {m upset rd rs1 imm : Nat} :
    s.KeptIn (execSlli m upset rd rs1 imm t) :=
  .next (h.live fun _ h => h.aluImm)

theorem State.Kept.execSrli (h : s.Kept t) {m upset rd rs1 imm : Nat} :
    s.KeptIn (execSrli m upset rd rs1 imm t) :=
  .next (h.live fun _ h => h.aluImm)

theorem State.Kept.execSrai (h : s.Kept t) {m upset rd rs1 imm : Nat} :
    s.KeptIn (execSrai m upset rd rs1 imm t) :=
  .next (h.live fun _ h => h.aluImm)

theorem State.Kept.execShi16 (h : s.Kept t) {m upset rd rs1 imm : Nat} :
    s.KeptIn (execShi16 m upset rd rs1 imm t) :=
  .next (h.live fun _ h => h.aluImm)

theorem State.Kept.execBeq (h : s.Kept t) {m upset rs1 rs2 off : Nat} :
    s.KeptIn (execBeq m upset rs1 rs2 off t) :=
  .next (h.live fun _ h => h.branch)

theorem State.Kept.execBne (h : s.Kept t) {m upset rs1 rs2 off : Nat} :
    s.KeptIn (execBne m upset rs1 rs2 off t) :=
  .next (h.live fun _ h => h.branch)

theorem State.Kept.execBlt (h : s.Kept t) {m upset rs1 rs2 off : Nat} :
    s.KeptIn (execBlt m upset rs1 rs2 off t) :=
  .next (h.live fun _ h => h.branch)

theorem State.Kept.execBge (h : s.Kept t) {m upset rs1 rs2 off : Nat} :
    s.KeptIn (execBge m upset rs1 rs2 off t) :=
  .next (h.live fun _ h => h.branch)

theorem State.Kept.execBltu (h : s.Kept t) {m upset rs1 rs2 off : Nat} :
    s.KeptIn (execBltu m upset rs1 rs2 off t) :=
  .next (h.live fun _ h => h.branch)

theorem State.Kept.execBgeu (h : s.Kept t) {m upset rs1 rs2 off : Nat} :
    s.KeptIn (execBgeu m upset rs1 rs2 off t) :=
  .next (h.live fun _ h => h.branch)

theorem State.Kept.execJal (h : s.Kept t) {m upset rd imm : Nat} :
    s.KeptIn (execJal m upset rd imm t) :=
  .next (h.live fun _ h => h.akRun fun _ h => h.jumpTo)

theorem State.Kept.execJalr (h : s.Kept t) {m upset rd rs1 imm : Nat} :
    s.KeptIn (execJalr m upset rd rs1 imm t) :=
  .next (h.live fun _ h => h.akRun fun _ h => h.jumpTo)

theorem State.Kept.execLds8 (h : s.Kept t) {m upset rd rs1 imm : Nat} :
    s.KeptIn (execLds8 m upset rd rs1 imm t) :=
  .next (h.live fun _ h => h.scratchLoad)

theorem State.Kept.execLds4 (h : s.Kept t) {m upset rd rs1 imm : Nat} :
    s.KeptIn (execLds4 m upset rd rs1 imm t) :=
  .next (h.live fun _ h => h.scratchLoad)

theorem State.Kept.execLds2 (h : s.Kept t) {m upset rd rs1 imm : Nat} :
    s.KeptIn (execLds2 m upset rd rs1 imm t) :=
  .next (h.live fun _ h => h.scratchLoad)

theorem State.Kept.execLds1 (h : s.Kept t) {m upset rd rs1 imm : Nat} :
    s.KeptIn (execLds1 m upset rd rs1 imm t) :=
  .next (h.live fun _ h => h.scratchLoad)

theorem State.Kept.execSts8 (h : s.Kept t) {m upset rs2 rs1 imm : Nat} :
    s.KeptIn (execSts8 m upset rs2 rs1 imm t) :=
  .next (h.live fun _ h => h.scratchStore)

theorem State.Kept.execSts4 (h : s.Kept t) {m upset rs2 rs1 imm : Nat} :
    s.KeptIn (execSts4 m upset rs2 rs1 imm t) :=
  .next (h.live fun _ h => h.scratchStore)

theorem State.Kept.execSts2 (h : s.Kept t) {m upset rs2 rs1 imm : Nat} :
    s.KeptIn (execSts2 m upset rs2 rs1 imm t) :=
  .next (h.live fun _ h => h.scratchStore)

theorem State.Kept.execSts1 (h : s.Kept t) {m upset rs2 rs1 imm : Nat} :
    s.KeptIn (execSts1 m upset rs2 rs1 imm t) :=
  .next (h.live fun _ h => h.scratchStore)

theorem State.Kept.execLls (h : s.Kept t) {m upset rd rs1 imm : Nat} :
    s.KeptIn (execLls m upset rd rs1 imm t) :=
  .next (h.live fun _ h => h.akRun fun _ h => h.scratchAt fun _ h => h.modMason)

theorem State.Kept.execSls (h : s.Kept t) {m upset rs2 rs1 imm : Nat} :
    s.KeptIn (execSls m upset rs2 rs1 imm t) :=
  .next (h.live fun _ h => h.akRun fun _ h => h.scratchAt fun _ h => h.useLine fun _ => h.modMason)

theorem State.Kept.execLget (h : s.Kept t) {m upset rd rs1 k : Nat} :
    s.KeptIn (execLget m upset rd rs1 k t) :=
  .next (h.live fun _ h => h.akRun fun _ h => h.useLine fun _ => h.akPut)

theorem State.Kept.execLput (h : s.Kept t) {m upset rd rs1 k : Nat} :
    s.KeptIn (execLput m upset rd rs1 k t) :=
  .next (h.live fun _ h => h.akRun fun _ h => h.modMason)

theorem State.Kept.execLmov (h : s.Kept t) {m upset rd rs1 : Nat} :
    s.KeptIn (execLmov m upset rd rs1 t) :=
  .next (h.live fun _ h => h.akRun fun _ h => h.modMason)

theorem State.Kept.execLclr (h : s.Kept t) {m upset rd : Nat} : s.KeptIn (execLclr m upset rd t) :=
  .next (h.live fun _ h => h.akRun fun _ h => h.modMason)

theorem State.Kept.execLcrc (h : s.Kept t) {m upset rd rs1 rs2 : Nat} :
    s.KeptIn (execLcrc m upset rd rs1 rs2 t) :=
  .next (h.live fun _ h => h.akRun fun _ h => h.useLine fun _ => h.akPut)

theorem State.Kept.execLsum32 (h : s.Kept t) {m upset rd rs1 rs2 : Nat} :
    s.KeptIn (execLsum32 m upset rd rs1 rs2 t) :=
  .next (h.live fun _ h => h.akRun fun _ h => h.useLine fun _ => h.akPut)

theorem State.Kept.execLpsn (h : s.Kept t) {m upset rd rs1 : Nat} :
    s.KeptIn (execLpsn m upset rd rs1 t) :=
  .next (h.live fun _ h => h.akRun fun _ h => h.akPut)

/-! Operations of AkletMem. -/

theorem State.Kept.amo (h : s.Kept t) {m upset rd rs1 rs2 rt : Nat} {posted wide : Bool}
    {fn : Nat} {op : Op} :
    s.Kept (t.amo m upset rd rs1 rs2 rt posted wide fn op) := by
  unfold State.amo
  exact h.akRun fun _ h => h.memAsk

theorem State.Kept.enterRun (h : s.Kept t) {rs : List Req} : s.KeptFst (t.enterRun rs) := by
  induction rs generalizing t with
  | nil => exact .some h
  | cons r rs ih =>
    have next {c d : Prop} {_ : Decidable c} {_ : Decidable d} {st : Status} {q : Req} {o : Option Nat} {rid : Nat} :
        s.KeptOpt (if c then some (t.newRid.1.masRefused q st)
          else if d then o.map (fun c => (t.newRid.1.addReq q).alloc rid c) else none) :=
      .ite (.some h.newRid.masRefused) (.ite (.map fun _ => h.newRid.addReq.alloc) .none)
    intro x hx
    obtain ⟨u, hu, hx⟩ := Option.bind_eq_some_iff.mp hx
    obtain ⟨y, hy, rfl⟩ := Option.map_eq_some_iff.mp hx
    exact ih (next u hu) y hy

theorem State.Kept.runReqs (h : s.Kept t) {m : Nat} {q : RunAsk} {indiv : Bool} {parts : List RunPart}
    {slots : List Nat} : s.Kept (t.runReqs m q indiv parts slots).1 :=
  h.newRid.touch.count.sampleTag

theorem State.Kept.runIssue (h : s.Kept t) {m : Nat} {q : RunAsk} {indiv : Bool} {parts : List RunPart}
    {slots : List Nat} : s.Kept (t.runIssue m q indiv parts slots) := by
  have hr : s.Kept (t.runReqs m q indiv parts slots).1 := h.runReqs
  unfold State.runIssue
  generalize t.runReqs m q indiv parts slots = a at hr
  obtain ⟨u, id, reqs⟩ := a
  refine .ite h.akStall ?_
  dsimp only
  split
  · exact h.akStall
  · next hv =>
    have hv := hr.enterRun _ hv
    exact (hv.modMason.akNext.ite hv.modMason).settle

theorem State.Kept.runGo (h : s.Kept t) {m : Nat} {q : RunAsk} {dests srcs : List RunLine} :
    s.Kept (t.runGo m q dests srcs) := by
  refine .ite h.akTrapHere ?_
  split
  · exact h.masMapTrap
  · exact h.runIssue

theorem State.Kept.runAsk (h : s.Kept t) {m : Nat} {q : RunAsk} : s.Kept (t.runAsk m q) := by
  unfold State.runAsk
  split
  · exact h.akTrapHere
  · extract_lets _ _ tr _ _ _ _ first trap
    have htrap : s.Kept trap := by
      unfold trap
      split
      · exact h.akTrapHere
      · split
        · exact h.akTrapHere
        · exact h.runGo
    clear_value tr first trap
    split
    · refine .ite ?_ htrap
      split
      · exact h.adUpdate
      · exact h
    · exact htrap

theorem State.Kept.execLd (h : s.Kept t) {m upset rd rs1 rt : Nat} {posted : Bool} {size : Nat}
    {sign : Bool} {off : Nat} :
    s.KeptIn (execLd m upset rd rs1 rt posted size sign off t) :=
  .next (h.live fun _ h => h.akRun fun _ h => h.memAsk)

theorem State.Kept.execSt (h : s.Kept t) {m upset rs2 rs1 rt : Nat} {posted : Bool} {size off : Nat} :
    s.KeptIn (execSt m upset rs2 rs1 rt posted size off t) :=
  .next (h.live fun _ h => h.akRun fun _ h => h.memAsk)

theorem State.Kept.execLl (h : s.Kept t) {m upset l rs1 rt : Nat} {posted : Bool} {off : Nat} :
    s.KeptIn (execLl m upset l rs1 rt posted off t) :=
  .next (h.live fun _ h => h.akRun fun _ h => h.memAsk)

theorem State.Kept.execSl (h : s.Kept t) {m upset l rs1 rt : Nat} {posted : Bool} {off : Nat} :
    s.KeptIn (execSl m upset l rs1 rt posted off t) :=
  .next (h.live fun _ h => h.akRun fun _ h => h.memAsk)

theorem State.Kept.execSlm (h : s.Kept t) {m upset l rs1 rt : Nat} {posted : Bool} {rm : Nat} :
    s.KeptIn (execSlm m upset l rs1 rt posted rm t) :=
  .next (h.live fun _ h => h.akRun fun _ h => h.memAsk)

theorem State.Kept.execAmoAdd (h : s.Kept t) {m upset rd rs1 rs2 rt : Nat} {posted wide : Bool}
    :
    s.KeptIn (execAmoAdd m upset rd rs1 rs2 rt posted wide t) :=
  .next (h.live fun _ h => h.amo)

theorem State.Kept.execAmoOr (h : s.Kept t) {m upset rd rs1 rs2 rt : Nat} {posted wide : Bool} :
    s.KeptIn (execAmoOr m upset rd rs1 rs2 rt posted wide t) :=
  .next (h.live fun _ h => h.amo)

theorem State.Kept.execAmoAnd (h : s.Kept t) {m upset rd rs1 rs2 rt : Nat} {posted wide : Bool}
    :
    s.KeptIn (execAmoAnd m upset rd rs1 rs2 rt posted wide t) :=
  .next (h.live fun _ h => h.amo)

theorem State.Kept.execAmoXor (h : s.Kept t) {m upset rd rs1 rs2 rt : Nat} {posted wide : Bool}
    :
    s.KeptIn (execAmoXor m upset rd rs1 rs2 rt posted wide t) :=
  .next (h.live fun _ h => h.amo)

theorem State.Kept.execAmoSwap (h : s.Kept t) {m upset rd rs1 rs2 rt : Nat} {posted wide : Bool}
    :
    s.KeptIn (execAmoSwap m upset rd rs1 rs2 rt posted wide t) :=
  .next (h.live fun _ h => h.amo)

theorem State.Kept.execAmoCas (h : s.Kept t) {m upset rd rs1 rs2 rt : Nat} {posted wide : Bool}
    :
    s.KeptIn (execAmoCas m upset rd rs1 rs2 rt posted wide t) :=
  .next (h.live fun _ h => h.amo)

theorem State.Kept.execAmoMin (h : s.Kept t) {m upset rd rs1 rs2 rt : Nat} {posted wide : Bool}
    :
    s.KeptIn (execAmoMin m upset rd rs1 rs2 rt posted wide t) :=
  .next (h.live fun _ h => h.amo)

theorem State.Kept.execAmoMax (h : s.Kept t) {m upset rd rs1 rs2 rt : Nat} {posted wide : Bool}
    :
    s.KeptIn (execAmoMax m upset rd rs1 rs2 rt posted wide t) :=
  .next (h.live fun _ h => h.amo)

theorem State.Kept.execAmoUmin (h : s.Kept t) {m upset rd rs1 rs2 rt : Nat} {posted wide : Bool}
    :
    s.KeptIn (execAmoUmin m upset rd rs1 rs2 rt posted wide t) :=
  .next (h.live fun _ h => h.amo)

theorem State.Kept.execAmoUmax (h : s.Kept t) {m upset rd rs1 rs2 rt : Nat} {posted wide : Bool}
    :
    s.KeptIn (execAmoUmax m upset rd rs1 rs2 rt posted wide t) :=
  .next (h.live fun _ h => h.amo)

theorem State.Kept.execAmoSetad (h : s.Kept t) {m upset rd rs1 rs2 rt : Nat} {posted : Bool} :
    s.KeptIn (execAmoSetad m upset rd rs1 rs2 rt posted t) :=
  .next (h.live fun _ h => h.amo)

theorem State.Kept.execWld (h : s.Kept t) {m upset rd rs1 imm : Nat} :
    s.KeptIn (execWld m upset rd rs1 imm t) :=
  .next (h.live fun _ h => h.akRun fun _ h => h.memAsk)

theorem State.Kept.execRunZero (h : s.Kept t) {m upset rd rs1 rt : Nat} {posted indiv : Bool} :
    s.KeptIn (execRunZero m upset rd rs1 rt posted indiv t) :=
  .next (h.live fun _ h => h.akRun fun _ h => h.runAsk)

theorem State.Kept.execRunFill (h : s.Kept t) {m upset rd rs1 rs2 rt : Nat}
    {posted indiv : Bool} :
    s.KeptIn (execRunFill m upset rd rs1 rs2 rt posted indiv t) :=
  .next (h.live fun _ h => h.akRun fun _ h => h.runAsk)

theorem State.Kept.execRunCopy (h : s.Kept t) {m upset rd rs1 rs2 rt : Nat}
    {posted indiv : Bool} :
    s.KeptIn (execRunCopy m upset rd rs1 rs2 rt posted indiv t) :=
  .next (h.live fun _ h => h.akRun fun _ h => h.runAsk)

/-! Operations of AkletSys. -/

theorem State.Kept.hpush (h : s.Kept t) {m upset rd rs1 rs2 k : Nat} :
    s.Kept (t.hpush m upset rd rs1 rs2 k) :=
  h.akRun fun _ h => .ite h.akTrapHere (.ite h.akTrapHere h.hodPush.akPut.settle)

theorem State.Kept.hpop (h : s.Kept t) {m upset rd rs1 rt k : Nat} : s.Kept (t.hpop m upset rd rs1 rt k) := by
  refine h.akRun fun u h => .ite h.akTrapHere ?_
  split
  · exact h.hodWait.akStall
  · next hp => exact (h.hodPop _ hp).modMason.settle

theorem State.Kept.lockAll (h : s.Kept t) {ms : List Nat} {rivals : List KeyAsk} :
    s.Kept (t.lockAll ms rivals) :=
  ((h.foldl fun _ _ h => h.touch).keyAmong).foldl fun _ _ h => h.akPut

theorem State.Kept.lockUpset (h : s.Kept t) {ga count : Nat} : s.Kept (t.lockUpset ga count) := by
  unfold State.lockUpset
  split
  · exact h.keyParity
  · exact h

theorem State.Kept.execHpushLo (h : s.Kept t) {m upset rd rs1 rs2 : Nat} :
    s.KeptIn (execHpushLo m upset rd rs1 rs2 t) :=
  .next (h.live fun _ h => h.hpush)

theorem State.Kept.execHpushHi (h : s.Kept t) {m upset rd rs1 rs2 : Nat} :
    s.KeptIn (execHpushHi m upset rd rs1 rs2 t) :=
  .next (h.live fun _ h => h.hpush)

theorem State.Kept.execHpopLo (h : s.Kept t) {m upset rd rs1 rt : Nat} :
    s.KeptIn (execHpopLo m upset rd rs1 rt t) :=
  .next (h.live fun _ h => h.hpop)

theorem State.Kept.execHpopHi (h : s.Kept t) {m upset rd rs1 rt : Nat} :
    s.KeptIn (execHpopHi m upset rd rs1 rt t) :=
  .next (h.live fun _ h => h.hpop)

theorem State.Kept.execHcount (h : s.Kept t) {m upset rd rs1 : Nat} :
    s.KeptIn (execHcount m upset rd rs1 t) :=
  .next (h.live fun _ h => h.akRun fun _ h => .ite h.akTrapHere h.akPut)

theorem State.Kept.execLock (h : s.Kept t) {m upset rd rs1 rs2 : Nat} {also : List Nat}
    {rivals : List KeyAsk} :
    s.KeptIn (execLock m upset rd rs1 rs2 also t rivals) := by
  unfold Machine.execLock
  dsimp only
  refine .next (h.live fun _ h => h.akRun fun _ h => ?_)
  split
  · exact h.akTrapHere
  · exact .ite h.akPut (.lockAll (.ite h.lockUpset h))

theorem State.Kept.execUnlock (h : s.Kept t) {m upset rd rs1 : Nat} :
    s.KeptIn (execUnlock m upset rd rs1 t) :=
  .next (h.live fun _ h => h.akRun fun _ h => .ite (.akStall (.ite h.keyParity h))
      (.akPut (.keyUnlock (.ite h.keyParity h))))

theorem State.Kept.execFence (h : s.Kept t) {m upset rd : Nat} : s.KeptIn (execFence m upset rd t) :=
  .next (h.live fun _ h => h.akRun fun _ h => .ite h.akStall h.modMason)

theorem State.Kept.execEret (h : s.Kept t) {m upset : Nat} : s.KeptIn (execEret m upset t) :=
  .next (h.live fun _ h => h.akRun fun _ h => h.modMason)

theorem State.Kept.execTend (h : s.Kept t) {m upset : Nat} : s.KeptIn (execTend m upset t) :=
  .next (h.live fun _ h => h.akRun fun _ h => .ite h.akTrapHere h.akTrap)

theorem State.Kept.execTrap (h : s.Kept t) {m upset rs1 : Nat} : s.KeptIn (execTrap m upset rs1 t) :=
  .next (h.live fun _ h => h.akRun fun _ h => h.akTrap)

theorem State.Kept.execWait (h : s.Kept t) {m upset rs1 : Nat} : s.KeptIn (execWait m upset rs1 t) :=
  .next (h.live fun _ h => h.akRun fun _ h => h.modMason)

theorem State.Kept.execWaitExpiry (h : s.Kept t) {m : Nat} : s.KeptIn (execWaitExpiry m t) := by
  refine .next (h.live fun _ h => ?_)
  split
  · exact .ite h.modMason h
  · exact h

theorem State.Kept.execHalt (h : s.Kept t) {m upset : Nat} : s.KeptIn (execHalt m upset t) :=
  .next (h.live fun _ h => h.akRun fun _ h => h.modMason)

theorem State.Kept.execCsrr (h : s.Kept t) {m upset rd n : Nat} :
    s.KeptIn (execCsrr m upset rd n t) :=
  .next (h.live fun _ h => h.akRun fun _ h => h.akPut)

theorem State.Kept.execCsrw (h : s.Kept t) {m upset n rs1 : Nat} :
    s.KeptIn (execCsrw m upset n rs1 t) :=
  .next (h.live fun _ h => h.akRun fun _ h => h.modMason)

theorem State.Kept.execTplWrite (h : s.Kept t) {m upset rs1 : Nat} : s.KeptIn (execTplWrite m upset rs1 t) :=
  .next (h.live fun _ h => h.akRun fun _ h => .ite h.akTrapHere (.ite h.akTrapHere h.modMason))

theorem State.Kept.execTplInv (h : s.Kept t) {m upset rs1 : Nat} : s.KeptIn (execTplInv m upset rs1 t) :=
  .next (h.live fun _ h => h.akRun fun _ h => h.modMason)

theorem State.Kept.execTplInvall (h : s.Kept t) {m upset : Nat} : s.KeptIn (execTplInvall m upset t) :=
  .next (h.live fun _ h => h.akRun fun _ h => h.modMason)

theorem State.Kept.execTplSync (h : s.Kept t) {m upset : Nat} : s.KeptIn (execTplSync m upset t) :=
  .next (h.live fun _ h => h.akRun fun _ h => .ite h.akStall h.akNext)

theorem State.Kept.execIllegalInstruction (h : s.Kept t) {m upset : Nat} :
    s.KeptIn (execIllegalInstruction m upset t) :=
  .next (h.live fun _ h => .ite h (.ite h.akTrapHere (.ite h.masFault (.ite h h.wordCorr.akTrapHere))))

/-! Operations of Ports. -/

theorem State.Kept.hclkCycle (h : s.Kept t) {n : Nat} {same : Bool} : s.Kept (t.hclkCycle n same) :=
  .ite h h.setPort

theorem State.Kept.hdrErr (h : s.Kept t) {n k slot tag : Nat} {r : Option Req} :
    s.Kept (t.hdrErr n k slot tag r) := by
  unfold State.hdrErr
  split
  · exact .reportReq (.ite h.setBit.setBit.setF.setF.setF.setPort h.setBit)
  · exact .reportUnit (.ite h.setBit.setBit.setF.setF.setF.setPort h.setBit)

theorem State.Kept.answerAtPort (h : s.Kept t) {n : Nat} {r : Req} {st : Status} :
    s.Kept (t.answerAtPort n r st) :=
  h.addReq.stageMove

theorem State.Kept.acceptSlot (h : s.Kept t) {p : PReq} {op : Option Op} {code : Nat} :
    s.Kept (t.acceptSlot p op code) := by
  refine .ite (.answerAtPort (.setPort ?_)) (.ite (.answerAtPort (.setPort ?_))
    (.ite (.answerAtPort (.setPort ?_)) (.addReq (.setPort ?_)))) <;>
  refine .ite (.hdrErr ?_) ?_ <;>
  exact .ite h.newRid.count.sampleTag.hdrErr h.newRid.count.sampleTag

theorem State.Kept.portReq (h : s.Kept t) {p : PReq} {op : Option Op} {code : Nat} :
    s.Kept (t.portReq p op code) :=
  h.whenTrue fun _ h => h.hclkCycle.acceptSlot

theorem State.Kept.joinData (h : s.Kept t) {w : WSlot} {rid : Nat} : s.Kept (t.joinData w rid) :=
  .modReq (.elim h fun _ => h.storageUpset)

theorem State.Kept.writeSlot (h : s.Kept t) {w : WSlot} : s.Kept (t.writeSlot w) := by
  unfold State.writeSlot
  extract_lets _ _ _ s1 _ s2
  have h1 : s.Kept s1 := h.count.setPort
  have h2 : s.Kept s2 := .ite h1.hdrErr h1
  refine .ite h1 ?_
  split
  · exact h2.hdrErr.fencePort.settle
  · exact .ite h2.joinData.settle h2.hdrErr.fencePort.settle

theorem State.Kept.execWriteDataSlot (h : s.Kept t) {w : WSlot} : s.KeptIn (execWriteDataSlot w t) :=
  .next (h.live fun _ h => h.whenTrue fun _ h => h.hclkCycle.writeSlot)

theorem State.Kept.execWdTimeout (h : s.Kept t) {port : Nat} : s.KeptIn (execWdTimeout port t) := by
  refine .next (h.live fun _ h => ?_)
  split
  · exact h.whenTrue fun _ h => h.hclkCycle.hdrErr.fix.fencePort.settle
  · exact h

theorem State.Kept.accepted (h : s.Kept t) {n : Nat} {r : Req} {upset : Nat} :
    s.Kept (t.accepted n r upset) := by
  unfold State.accepted
  exact .settle (.stageMove (.dropReq (.tagDone (.setPort (.ite (.ite h.storageUpset.count h.storageUpset)
              (.count (.ite h.storageUpset.count h.storageUpset)))))))

theorem State.Kept.execCompletionAccepted (h : s.Kept t) {port rid upset : Nat} {same : Bool} :
    s.KeptIn (execCompletionAccepted port rid upset t same) := by
  refine .next (h.live fun _ h => ?_)
  split
  · exact h.whenTrue fun _ h => h.hclkCycle.accepted
  · exact h

theorem State.Kept.execCplStall (h : s.Kept t) {port rid : Nat} : s.KeptIn (execCplStall port rid t) := by
  refine .next (h.live fun _ h => ?_)
  split
  · exact h.whenTrue fun _ h => h.hclkCycle.setPort.hdrErr
  · exact h

theorem State.Kept.portOpen (h : s.Kept t) {n v : Nat} : s.Kept (t.portOpen n v) :=
  .ite (.enterOpen (.setF (.ite h.setF h))) <|
  .ite (.drainCheck (.setPort (.setF (.ite h.setF h)))) (.setF (.ite h.setF h))

theorem State.Kept.portFence (h : s.Kept t) {n : Nat} : s.Kept (t.portFence n) := h.fencePort.settle

theorem State.Kept.portUnfence (h : s.Kept t) {n : Nat} : s.Kept (t.portUnfence n) := .ite h.setPort.setF h

theorem State.Kept.abandon (h : s.Kept t) {n : Nat} : s.Kept (t.abandon n) := by
  unfold State.abandon
  exact ((h.setPort.foldl fun _ _ h => .ite h.tagDone.modReq h.tagDone.untag.rrDropAll.dropReq).hdrErr).settle

theorem State.Kept.execPortOpen (h : s.Kept t) {port : Nat} : s.KeptIn (execPortOpen port t) :=
  .next (h.host fun _ h => h.whenTrue fun _ h => h.portOpen)

theorem State.Kept.execPortDrain (h : s.Kept t) {port : Nat} : s.KeptIn (execPortDrain port t) :=
  .next (h.host fun _ h => h.whenTrue fun _ h => h.portOpen)

theorem State.Kept.execPortFence (h : s.Kept t) {port : Nat} : s.KeptIn (execPortFence port t) :=
  .next (h.host fun _ h => h.whenTrue fun _ h => h.portFence)

theorem State.Kept.execPortUnfence (h : s.Kept t) {port : Nat} : s.KeptIn (execPortUnfence port t) :=
  .next (h.host fun _ h => h.whenTrue fun _ h => h.portUnfence)

theorem State.Kept.portRow (h : s.Kept t) {op : Op} {p : PReq} : s.KeptIn (portRow op p t) :=
  .next (h.live fun _ h => h.portReq)

theorem State.Kept.execRdLine (h : s.Kept t) {p : PReq} : s.KeptIn (execRdLine p t) := h.portRow

theorem State.Kept.execRdPart (h : s.Kept t) {p : PReq} : s.KeptIn (execRdPart p t) := h.portRow

theorem State.Kept.execWrLine (h : s.Kept t) {p : PReq} : s.KeptIn (execWrLine p t) := h.portRow

theorem State.Kept.execWrPart (h : s.Kept t) {p : PReq} : s.KeptIn (execWrPart p t) := h.portRow

theorem State.Kept.execWrZero (h : s.Kept t) {p : PReq} : s.KeptIn (execWrZero p t) := h.portRow

theorem State.Kept.execAtAdd (h : s.Kept t) {p : PReq} : s.KeptIn (execAtAdd p t) := h.portRow

theorem State.Kept.execAtOr (h : s.Kept t) {p : PReq} : s.KeptIn (execAtOr p t) := h.portRow

theorem State.Kept.execAtAnd (h : s.Kept t) {p : PReq} : s.KeptIn (execAtAnd p t) := h.portRow

theorem State.Kept.execAtXor (h : s.Kept t) {p : PReq} : s.KeptIn (execAtXor p t) := h.portRow

theorem State.Kept.execAtSwap (h : s.Kept t) {p : PReq} : s.KeptIn (execAtSwap p t) := h.portRow

theorem State.Kept.execAtCas (h : s.Kept t) {p : PReq} : s.KeptIn (execAtCas p t) := h.portRow

theorem State.Kept.execAtMin (h : s.Kept t) {p : PReq} : s.KeptIn (execAtMin p t) := h.portRow

theorem State.Kept.execAtMax (h : s.Kept t) {p : PReq} : s.KeptIn (execAtMax p t) := h.portRow

theorem State.Kept.execAtUmin (h : s.Kept t) {p : PReq} : s.KeptIn (execAtUmin p t) := h.portRow

theorem State.Kept.execAtUmax (h : s.Kept t) {p : PReq} : s.KeptIn (execAtUmax p t) := h.portRow

theorem State.Kept.execSetad (h : s.Kept t) {p : PReq} : s.KeptIn (execSetad p t) := h.portRow

theorem State.Kept.execFlush (h : s.Kept t) {p : PReq} : s.KeptIn (execFlush p t) := h.portRow

theorem State.Kept.execReservedOpcode (h : s.Kept t) {p : PReq} {code : Nat} :
    s.KeptIn (execReservedOpcode p code t) :=
  .next (h.live fun _ h => h.portReq)

/-! Operations of Mortar. -/

theorem State.Kept.enter (h : s.Kept t) {r : Req} {c upset : Nat} {rivals : List KeyAsk} :
    s.Kept (t.enter r c upset rivals) := by
  unfold State.enter
  exact .settle (.ite h.modReq.toEnd.alloc.modReq.storageUpset.fix h.modReq.toEnd.alloc.modReq.storageUpset)

theorem State.Kept.admitHead (h : s.Kept t) {n upset : Nat} {rivals : List KeyAsk} :
    s.Kept (t.admitHead n upset rivals) := by
  unfold State.admitHead
  split
  · exact h
  · split
    · exact .ite h (.settle (.fix (.ite h h.count)))
    · refine .ite h ?_
      split
      · exact h
      · exact h.enter

theorem State.Kept.execMortarAdmit (h : s.Kept t) {port upset : Nat} {rivals : List KeyAsk} :
    s.KeptIn (execMortarAdmit port upset t rivals) :=
  .next (h.live fun _ h => h.whenTrue fun _ h => h.admitHead)

theorem State.Kept.execFlushComplete (h : s.Kept t) {rid : Nat} : s.KeptIn (execFlushComplete rid t) := by
  refine .next (h.live fun _ h => ?_)
  split
  · exact h
  · exact h.whenTrue fun _ h => h.fix.settle

theorem State.Kept.execHandshakeStall (h : s.Kept t) {rid : Nat} : s.KeptIn (execHandshakeStall rid t) := by
  refine .next (h.live fun _ h => ?_)
  split
  · exact h
  · exact h.orF.reportReq.releaseStore.untag.rrDropAll.tagDone.dropReq.settle

theorem State.Kept.senseVdd (h : s.Kept t) {mv : Nat} : s.Kept (t.senseVdd mv) := h.setF

theorem State.Kept.execDerateSet (h : s.Kept t) {vdd mv : Nat} : s.KeptIn (execDerateSet t vdd mv) :=
  .next (h.live fun _ h => h.whenTrue fun _ h => h.senseVdd.setBit.setBit)

theorem State.Kept.execDerateClear (h : s.Kept t) {mv : Nat} : s.KeptIn (execDerateClear t mv) :=
  .next (h.live fun _ h => h.senseVdd.setF)

theorem State.Kept.firstMeasure (h : s.Kept t) {low : Bool} {vdd mv : Nat} :
    s.Kept (t.firstMeasure low vdd mv) :=
  .ite h.senseVdd.setBit.setBit h.senseVdd.setF

theorem State.Kept.peakClr (h : s.Kept t) : s.Kept t.peakClr := h.foldl fun _ _ h => h.setF

theorem State.Kept.execPeakClr (h : s.Kept t) : s.KeptIn (execPeakClr t) := .next (h.host fun _ h => h.peakClr)

/-! Operations of Setter. -/

theorem State.Kept.setMeter (h : s.Kept t) {c q : Nat} {m : Meter} : s.Kept (t.setMeter c q m) := h.modChan

theorem State.Kept.execRefillTick (h : s.Kept t) : s.KeptIn (execRefillTick t) :=
  .next (h.live fun _ h => h.foldl fun _ _ h => .ite h h.modChan)

theorem State.Kept.gauRefill (h : s.Kept t) {c : Nat} : s.Kept (t.gauRefill c) := h.setMeter

theorem State.Kept.gauRefillAll (h : s.Kept t) {c : Nat} : s.Kept (t.gauRefillAll c) := h.modChan

theorem State.Kept.execGauRefill (h : s.Kept t) {chan : Nat} : s.KeptIn (execGauRefill chan t) :=
  .next (h.host fun _ h => h.whenTrue fun _ h => h.gauRefill)

theorem State.Kept.execGauRefillAll (h : s.Kept t) {chan : Nat} : s.KeptIn (execGauRefillAll chan t) :=
  .next (h.host fun _ h => h.whenTrue fun _ h => h.gauRefillAll)

theorem State.Kept.gauErr (h : s.Kept t) {c q : Nat} {m : Meter} : s.Kept (t.gauErr c q m) :=
  .ite (.setBit (.ite (.setBit (.ite h.setF h)) (.ite h.setF h))) <|
  .ite (.setBit (.ite h.setF h)) (.ite h.setF h)

theorem State.Kept.gauRate (h : s.Kept t) {c : Nat} {w : RegW} : s.Kept (t.gauRate c w) := h.setMeter.gauErr

theorem State.Kept.gauBurst (h : s.Kept t) {c : Nat} {w : RegW} : s.Kept (t.gauBurst c w) := h.setMeter.gauErr

theorem State.Kept.execGauRateWrite (h : s.Kept t) {chan : Nat} {w : RegW} :
    s.KeptIn (execGauRateWrite chan w t) :=
  .next (h.host fun _ h => h.whenTrue fun _ h => h.gauRate)

theorem State.Kept.execGauBurstWrite (h : s.Kept t) {chan : Nat} {w : RegW} :
    s.KeptIn (execGauBurstWrite chan w t) :=
  .next (h.host fun _ h => h.whenTrue fun _ h => h.gauBurst)

theorem State.Kept.enqueue (h : s.Kept t) {r : Req} {c : Nat} : s.Kept (t.enqueue r c) :=
  .count (.count (.modReq (.ite h h.setMeter)))

theorem State.Kept.execSetterEnqueue (h : s.Kept t) {rid upset : Nat} :
    s.KeptIn (execSetterEnqueue rid upset t) := by
  refine .next (h.live fun _ h => ?_)
  split
  · exact h
  · split
    · refine h.whenTrue fun _ h => ?_
      extract_lets _ s1
      have h1 : s.Kept s1 := .ite h.storageUpset (.ite h.storageUpset h)
      exact .ite h1.fix.settle (.ite h1.fix.settle h1.enqueue)
    · exact h

theorem State.Kept.sampleQueues (h : s.Kept t) {c : Nat} : s.Kept (t.sampleQueues c) :=
  (h.foldl fun _ _ h => h.extreme.extreme).histAdd

theorem State.Kept.execQueueSample (h : s.Kept t) : s.KeptIn (execQueueSample t) :=
  .next (h.live fun _ h => h.foldl fun _ _ h => .ite h h.modChan.sampleQueues)

theorem State.Kept.setDrr (h : s.Kept t) {c : Nat} {d : Drr} : s.Kept (t.setDrr c d) := h.modChan

theorem State.Kept.chooseQueue (h : s.Kept t) {c : Nat} {holds has ready : Nat → Bool} {charge : Nat → Nat} :
    s.Kept (t.chooseQueue c holds has ready charge).1 := by
  unfold State.chooseQueue
  split
  · exact h
  · exact .fst_ite h.setDrr (.fst_ite h h)

theorem State.Kept.cutDeficits (h : s.Kept t) {c : Nat} {hit : Nat → Bool} : s.Kept (t.cutDeficits c hit) :=
  h.modChan

theorem State.Kept.weightsFrom (h : s.Kept t) {old : State} {c : Nat} : s.Kept (t.weightsFrom old c) :=
  h.cutDeficits

/-! Operations of PntOps. -/

theorem State.Kept.setOwed (h : s.Kept t) {c u : Nat} {v : ℤ} : s.Kept (t.setOwed c u v) := h.modChan

theorem State.Kept.modPnt (h : s.Kept t) {c : Nat} {f : PntSt → PntSt} : s.Kept (t.modPnt c f) := h.modChan

theorem State.Kept.pntErr (h : s.Kept t) {c : Nat} {f : Field} {kind sev : Nat} :
    s.Kept (t.pntErr c f kind sev) :=
  h.setBit.reportUnit

theorem State.Kept.protectAct (h : s.Kept t) {c b u row : Nat} : s.Kept (t.protectAct c b u row) :=
  .ite h (.ite (.modPnt (.ite h.modPnt h)) (.modPnt (.ite h.modPnt h)))

theorem State.Kept.raaDrop (h : s.Kept t) {c : Nat} {p : Nat → Bool} : s.Kept (t.raaDrop c p) := by
  unfold State.raaDrop
  exact h.modPnt

theorem State.Kept.raaCheck (h : s.Kept t) {old : State} {c : Nat} : s.Kept (t.raaCheck old c) :=
  .ite h.pntErr h

/-! Operations of AshOps. -/

theorem State.Kept.modAsh (h : s.Kept t) {c : Nat} {f : AshSt → AshSt} : s.Kept (t.modAsh c f) := h.modChan

theorem State.Kept.offer (h : s.Kept t) {k c L : Nat} {op : Op} : s.Kept (t.offer k c L op) := h.newRid.addReq

theorem State.Kept.initNext (h : s.Kept t) {c : Nat} : s.Kept (t.initNext c) := by
  unfold State.initNext
  split
  · exact h
  · refine .ite h ?_
    split
    · exact h.modAsh
    · exact .ite h.modAsh h.modAsh.offer

theorem State.Kept.spareNext (h : s.Kept t) {c : Nat} : s.Kept (t.spareNext c) := by
  refine .ite h ?_
  split
  · exact h.modAsh
  · exact h.modAsh.offer

theorem State.Kept.passEnd (h : s.Kept t) {c : Nat} : s.Kept (t.passEnd c) := by
  unfold State.passEnd
  exact .modAsh (.ite h.bumpF h.bumpF.setF)

theorem State.Kept.patrolRead (h : s.Kept t) {c L : Nat} : s.Kept (t.patrolRead c L) := .ite h.passEnd h

theorem State.Kept.walksResume (h : s.Kept t) {c : Nat} : s.Kept (t.walksResume c) :=
  h.initNext.spareNext.modAsh.foldl fun _ _ h => h.offer

theorem State.Kept.ashErr (h : s.Kept t) {c sub bit dev rank : Nat} {addr : Option Nat} {r : Option Req}
    :
    s.Kept (t.ashErr c sub bit dev rank addr r) :=
  .report (.ite h.orF h.orF.setBit.setF.setF.setF.setF)

theorem State.Kept.setMark (h : s.Kept t) {c sub rank v : Nat} : s.Kept (t.setMark c sub rank v) :=
  h.setF

theorem State.Kept.setDevCnt (h : s.Kept t) {c sub rank d v : Nat} :
    s.Kept (t.setDevCnt c sub rank d v) :=
  h.setF

theorem State.Kept.markDev (h : s.Kept t) {c sub rank d : Nat} {addr : Option Nat} {r : Option Req} :
    s.Kept (t.markDev c sub rank d addr r) :=
  .ite h.setMark.ashErr.ashErr h.setMark.ashErr

theorem State.Kept.spareStart (h : s.Kept t) {c rank : Nat} : s.Kept (t.spareStart c rank) :=
  .ite ((h.setF.setF.modAsh.foldl fun _ _ h => .ite h h.setOwed.modPnt).spareNext) h

theorem State.Kept.judgeDev (h : s.Kept t) {c sub rank d : Nat} {addr : Option Nat} {r : Option Req} :
    s.Kept (t.judgeDev c sub rank d addr r) :=
  .ite h (.ite h.markDev h.ashErr.spareStart)

theorem State.Kept.judgeRank (h : s.Kept t) {c sub rank : Nat} : s.Kept (t.judgeRank c sub rank) :=
  h.foldl fun _ _ h => h.judgeDev

theorem State.Kept.dramPut (h : s.Kept t) {c : Nat} {p : Pos} {w : List Nat} : s.Kept (t.dramPut c p w) :=
  h.setDram (Tbl.sorted_put _ _ _)

/-! Operations of Issue. -/

theorem State.Kept.modTim (h : s.Kept t) {c : Nat} {f : TimSt → TimSt} : s.Kept (t.modTim c f) := h.modChan

theorem State.Kept.slotsDue (h : s.Kept t) {c : Nat} : s.Kept (t.slotsDue c) := by
  unfold State.slotsDue
  exact (h.foldl fun _ _ h => h.count).modTim

theorem State.Kept.endReplay (h : s.Kept t) {c : Nat} : s.Kept (t.endReplay c) := h.slotsDue.modTim

theorem State.Kept.setBank (h : s.Kept t) {c b : Nat} {x : Bank} : s.Kept (t.setBank c b x) := h.modTim

theorem State.Kept.queueFor (h : s.Kept t) {c sub cyc : Nat} : s.Kept (t.queueFor c sub cyc).1 := h.chooseQueue

theorem State.Kept.choice (h : s.Kept t) {c sub cyc : Nat} : s.Kept (t.choice c sub cyc).1 := by
  refine .fst_ite h ?_
  split
  · exact h
  · split
    · exact h.queueFor
    · exact h

theorem State.Kept.timErr (h : s.Kept t) {c : Nat} {f : Field} {kind sev : Nat} {who : Option Req} :
    s.Kept (t.timErr c f kind sev who) := by
  unfold State.timErr
  split
  · exact h.setBit.reportReq
  · exact h.setBit.reportUnit

theorem State.Kept.violate (h : s.Kept t) {c : Nat} {n : Passed} {rule short : Nat} {who : Option Req} :
    s.Kept (t.violate c n rule short who) := by
  unfold State.violate
  exact .settle (.fenceChan (.timErr (.ite (.endReplay (.ite h h.setBit.setF.setF.setF.setF.setF.setF.setF))
          (.ite h h.setBit.setF.setF.setF.setF.setF.setF.setF))))

theorem State.Kept.block (h : s.Kept t) {c : Nat} {n : Passed} {rule short : Nat} {who : Option Req} :
    s.Kept (t.block c n rule short who) :=
  h.violate.modChan

theorem State.Kept.issue (h : s.Kept t) {c : Nat} {n : Passed} {f : State → Option (State × Bool)} {who : Option Req}
    (hf : ∀ u, s.Kept u → s.KeptFst (f u)) : s.Kept (t.issue c n f who) := by
  refine .ite h ?_
  split
  · exact h.block
  · split
    · exact h
    · next hu => exact State.Kept.modChan (hf _ h _ hu)
    · next hu => exact hf _ h _ hu

theorem State.Kept.actBank (h : s.Kept t) {c : Nat} {p : Pos} {cyc : Nat} : s.Kept (t.actBank c p cyc) :=
  h.setBank.modTim.protectAct.raaCheck

theorem State.Kept.closeBanks (h : s.Kept t) {c : Nat} {p : Nat → Bool} : s.Kept (t.closeBanks c p) := h.modTim

theorem State.Kept.refuseRun (h : s.Kept t) {c : Nat} {r : Req} : s.Kept (t.refuseRun c r) :=
  .fixAll (.count (.bumpF (.setBit (.ite h h.setF))))

theorem State.Kept.judge (h : s.Kept t) {c cyc : Nat} {r : Req} : s.Kept (t.judge c cyc r) :=
  .ite h.refuseRun (.ite h.modReq h.modReq.modReq.count)

theorem State.Kept.judgeNext (h : s.Kept t) {c sub cyc k : Nat} : s.Kept (State.judgeNext c sub cyc k t) := by
  induction k generalizing t with
  | zero => exact h
  | succ k ih =>
    unfold State.judgeNext
    split
    · exact h
    · exact .ite h (.ite h.judge (ih h.judge))

theorem State.Kept.judgeHeads (h : s.Kept t) {c sub cyc : Nat} : s.Kept (t.judgeHeads c sub cyc) := h.judgeNext

theorem State.Kept.rejudge (h : s.Kept t) {c : Nat} : s.Kept (t.rejudge c) :=
  h.foldl fun _ _ h => .ite h.refuseRun h.modReq

theorem State.Kept.modLine (h : s.Kept t) {rid : Nat} {l : LineJob} {f : LineJob → LineJob} :
    s.Kept (t.modLine rid l f) :=
  h.modReq

theorem State.Kept.passOver (h : s.Kept t) {c sub : Nat} {r : Req} : s.Kept (t.passOver c sub r) := h.frame

theorem State.Kept.firstCmd (h : s.Kept t) {c sub : Nat} {k : Cand} : s.Kept (t.firstCmd c sub k) :=
  .ite (.ite h h.passOver) (.queueDelay (.count (.modReq (.ite h h.passOver))))

theorem State.Kept.colUsed (h : s.Kept t) {c : Nat} {p : Pos} {cyc : Nat} : s.Kept (t.colUsed c p cyc) := by
  unfold State.colUsed
  exact h.setBank.modPnt

theorem State.Kept.hitUp (h : s.Kept t) {c : Nat} {k : Cand} : s.Kept (t.hitUp c k) := .ite h.setBank h

theorem State.Kept.scrubUsed (h : s.Kept t) {c sub cyc : Nat} {r : Req} : s.Kept (t.scrubUsed c sub cyc r) :=
  h.modAsh.count

theorem State.Kept.tagData (h : s.Kept t) {c rid n : Nat} : s.Kept (t.tagData c rid n) := h.modReq

theorem State.Kept.doAct (h : s.Kept t) {c cyc : Nat} {k : Cand} : s.Kept (t.doAct c cyc k) :=
  .ite h.firstCmd.modLine.actBank h.firstCmd.modLine.actBank.count

theorem State.Kept.doPre (h : s.Kept t) {c : Nat} {k : Cand} : s.Kept (t.doPre c k) :=
  h.firstCmd.modLine.closeBanks.count

theorem State.Kept.doRead (h : s.Kept t) {c cyc : Nat} {k : Cand} {auto : Bool} : s.Kept (t.doRead c cyc k auto) := by
  unfold State.doRead
  extract_lets _ s1 s2 s2' s3 s4 s5
  have h2' : s.Kept s2' := h.hitUp.firstCmd.modLine.colUsed.tagData.rrHold
  have h4 : s.Kept s4 := .modTim (.ite h2'.scrubUsed h2'.count)
  have h5 : s.Kept s5 := .ite h4.patrolRead h4
  exact .ite h5.closeBanks h5

theorem State.Kept.scrubEnd (h : s.Kept t) {c : Nat} {r : Req} : s.Kept (t.scrubEnd c r) := by
  unfold State.scrubEnd
  split
  · exact h.rrDropAll.dropReq.modAsh.spareNext
  · exact h.rrDropAll.dropReq.modAsh.initNext
  · exact h.rrDropAll.dropReq

theorem State.Kept.doWrite (h : s.Kept t) {c cyc : Nat} {k : Cand} {auto : Bool} :
    s.Kept (t.doWrite c cyc k auto) := by
  unfold State.doWrite
  extract_lets _ _ s1 s2 s3 s4 s5
  have h3 : s.Kept s3 := .modTim (.dramPut h.hitUp.firstCmd.modLine.colUsed.tagData)
  have h4 : s.Kept s4 := .ite h3.closeBanks h3
  refine .ite h4.scrubUsed.scrubEnd ?_
  split
  · exact h4.count
  · exact .ite h4.count.writeLatency.fix.settle h4.count

theorem State.Kept.setterEffect (h : s.Kept t) {cmd : Cmd} {kind : CmdKind} :
    s.KeptFst (State.setterEffect cmd kind t) := by
  unfold State.setterEffect
  dsimp only
  split
  · exact .none
  · refine .ite .none ?_
    split
    · exact .some h.choice.doAct
    · exact .some h.choice.doPre
    · exact .some h.choice.doRead
    · exact .some h.choice.doRead
    · exact .some h.choice.doWrite
    · exact .some h.choice.doWrite
    · exact .none

theorem State.Kept.setterCmd (h : s.Kept t) {cmd : Cmd} {kind : CmdKind} : s.Kept (t.setterCmd cmd kind) := by
  unfold State.setterCmd
  dsimp only
  split
  · exact .block (.ashErr (.ite h.judgeHeads h))
  · exact .issue (.ite h.judgeHeads h) fun _ h => h.setterEffect

/-! Operations of Ashlar. -/

theorem State.Kept.countVerdict (h : s.Kept t) {c : Nat} {b : Burst} {r : Req} {j : Judged} :
    s.Kept (t.countVerdict c b r j) := by
  unfold State.countVerdict
  dsimp only
  split
  · exact h.count.bumpF
  · exact h.count.bumpF
  · exact h.count.bumpF
  · exact h.count

theorem State.Kept.reportVerdict (h : s.Kept t) {c : Nat} {b : Burst} {r : Req} {j : Judged} :
    s.Kept (t.reportVerdict c b r j) := by
  unfold State.reportVerdict
  split
  · exact h.ashErr
  · refine .ite h.ashErr ?_
    split
    · exact h.ashErr
    · exact h
    · exact h.ashErr
  · split
    · exact h
    · exact h.ashErr
  · exact h

theorem State.Kept.repair (h : s.Kept t) {c : Nat} {b : Burst} {r : Req} {j : Judged} :
    s.Kept (t.repair c b r j) := by
  unfold State.repair
  dsimp only
  split
  · split
    · exact h.setDevCnt.judgeDev
    · exact h
  · exact .ite h.spareStart h
  · exact h

theorem State.Kept.writeBack (h : s.Kept t) {c : Nat} {r : Req} {l : LineJob} {j : Judged} :
    s.Kept (t.writeBack c r l j) :=
  .ite h.newRid.frame h

theorem State.Kept.endRead (h : s.Kept t) {c : Nat} {r : Req} {l : LineJob} {j : Judged} {lost : Bool} :
    s.Kept (t.endRead c r l j lost) :=
  .ite h.modLine.writeBack.fix h.modLine.writeBack.fix

theorem State.Kept.feedCopy (h : s.Kept t) {run src : Nat} {line : BitVec 512} {poison : Bool} :
    s.Kept (t.feedCopy run src line poison) :=
  h.frame

theorem State.Kept.endRunRead (h : s.Kept t) {c run : Nat} {r : Req} {l : LineJob} {j : Judged} {lost : Bool} :
    s.Kept (t.endRunRead c run r l j lost) := by
  unfold State.endRunRead
  dsimp only
  split
  · exact h.modLine.rrDrop.modReq.feedCopy.writeBack
  · exact .ite h.modLine.rrDrop.modReq.feedCopy.writeBack.fix h.modLine.rrDrop.modReq.feedCopy.writeBack

theorem State.Kept.toWrite (h : s.Kept t) {c : Nat} {r : Req} {l : LineJob} {line old : BitVec 512}
    {poison corrected : Bool} :
    s.Kept (t.toWrite c r l line old poison corrected) :=
  .ite h.fix h.modLine.modReq

theorem State.Kept.endRmw (h : s.Kept t) {c : Nat} {r : Req} {l : LineJob} {j : Judged} {lost : Bool} :
    s.Kept (t.endRmw c r l j lost) :=
  .ite h.toWrite (.ite h.fix (.ite h.fix h.toWrite))

theorem State.Kept.endPatrol (h : s.Kept t) {r : Req} {l : LineJob} {j : Judged} {lost : Bool} :
    s.Kept (t.endPatrol r l j lost) := by
  unfold State.endPatrol
  split
  · exact .ite h.rrDropAll.dropReq h.modLine
  · exact h.modLine
  · exact h.rrDropAll.dropReq

theorem State.Kept.endSpare (h : s.Kept t) {c : Nat} {r : Req} {l : LineJob} {j : Judged}
    {word : Option (List Nat)} {lost : Bool} :
    s.Kept (t.endSpare c r l j word lost) := by
  unfold State.endSpare
  exact h.modLine.modAsh

theorem State.Kept.verdictTime (h : s.Kept t) {c : Nat} {r : Req} : s.Kept (t.verdictTime c r) :=
  .ite h (.ite h.modReq.readLatency h.modReq)

theorem State.Kept.decodeBurst (h : s.Kept t) {c : Nat} {errs : List (Nat × Nat)} {upset : Nat} :
    s.Kept (t.decodeBurst c errs upset) := by
  unfold State.decodeBurst
  split
  · exact h
  · extract_lets s0
    have h0 : s.Kept s0 := h.modTim
    split
    · exact h0
    · split
      · exact h0
      · extract_lets s1 s2
        have h1 : s.Kept s1 := h0.verdictTime.countVerdict.reportVerdict.repair.storageUpset
        have h2 : s.Kept s2 := by
          unfold s2
          split
          · exact h1.endSpare
          · exact h1.endPatrol
          · refine .ite h1.endRmw ?_
            split
            · exact h1.endRunRead
            · exact h1.endRead
        exact h2.settle

theorem State.Kept.execBurstDecode (h : s.Kept t) {chan : Nat} {errs : List (Nat × Nat)} {upset : Nat} :
    s.KeptIn (execBurstDecode chan errs upset t) :=
  .next (h.live fun _ h => h.whenTrue fun _ h => h.decodeBurst)

theorem State.Kept.spareDone (h : s.Kept t) {c : Nat} : s.Kept (t.spareDone c) :=
  h.setF.foldl fun _ _ h => h.setMark.setF

theorem State.Kept.execSparingDone (h : s.Kept t) {chan : Nat} : s.KeptIn (execSparingDone chan t) :=
  .next (h.live fun _ h => h.whenTrue fun _ h => h.spareDone)

theorem State.Kept.patrolLine (h : s.Kept t) {c L : Nat} : s.Kept (t.patrolLine c L) := h.modAsh.offer

theorem State.Kept.walkOver (h : s.Kept t) {c : Nat} : s.Kept (t.walkOver c) := .ite h.modAsh.passEnd h.modAsh

theorem State.Kept.patrolNext (h : s.Kept t) {c : Nat} : s.Kept (t.patrolNext c) := by
  unfold State.patrolNext
  split
  · exact h.patrolLine
  · exact .elim h.walkOver fun _ => h.walkOver.patrolLine

theorem State.Kept.execPatrolLineDue (h : s.Kept t) {chan : Nat} : s.KeptIn (execPatrolLineDue chan t) :=
  .next (h.live fun _ h => h.whenTrue fun _ h => h.patrolNext)

theorem State.Kept.patrolPause (h : s.Kept t) {c dt : Nat} : s.Kept (t.patrolPause c dt) := .ite h h.modAsh

theorem State.Kept.execPatrolLate (h : s.Kept t) {chan : Nat} : s.KeptIn (execPatrolLate chan t) :=
  .next (h.live fun _ h => h.whenTrue fun _ h => h.setBit.ashErr)

theorem State.Kept.leakStep (h : s.Kept t) {c sub : Nat} : s.Kept (t.leakStep c sub) :=
  ((h.foldl fun _ _ h => h.setF).modAsh).foldl fun _ _ h => h.judgeRank

theorem State.Kept.execCounterLeak (h : s.Kept t) {chan sub : Nat} : s.KeptIn (execCounterLeak chan sub t) :=
  .next (h.live fun _ h => h.whenTrue fun _ h => h.leakStep)

theorem State.Kept.initStart (h : s.Kept t) {c : Nat} : s.Kept (t.initStart c) := by
  unfold State.initStart
  dsimp only
  refine .ite h ?_
  split
  · exact .ite h.setF.setBit.modAsh.initNext h.setBit
  · exact h.setBit

theorem State.Kept.execAshInitStart (h : s.Kept t) {chan : Nat} : s.KeptIn (execAshInitStart chan t) :=
  .next (h.host fun _ h => h.whenTrue fun _ h => h.initStart)

theorem State.Kept.execAshInitDone (h : s.Kept t) {chan : Nat} : s.KeptIn (execAshInitDone chan t) :=
  .next (h.live fun _ h => h.whenTrue fun _ h => h.setBit.setF.modAsh)

theorem State.Kept.walksOn (h : s.Kept t) : s.Kept t.walksOn := h.foldl fun _ _ h => h.frame.initNext.spareNext

theorem State.Kept.execMapRgnCtlWrite (h : s.Kept t) {entry : Nat} {w : RegW} :
    s.KeptIn (execMapRgnCtlWrite entry w t) :=
  .next (h.host fun _ h => h.writeRgnCtl.walksOn)

theorem State.Kept.markWrite (h : s.Kept t) {c sub : Nat} {w : RegW} : s.Kept (t.markWrite c sub w) :=
  .ite h (h.foldl fun _ _ h => .ite h (.ite h.setMark.ashErr h.setMark))

theorem State.Kept.execAshMarkWrite (h : s.Kept t) {chan sub : Nat} {w : RegW} :
    s.KeptIn (execAshMarkWrite chan sub w t) :=
  .next (h.host fun _ h => h.whenTrue fun _ h => h.markWrite)

theorem State.Kept.threshWrite (h : s.Kept t) {c sub : Nat} {w : RegW} : s.Kept (t.threshWrite c sub w) :=
  .ite h (.ite (h.setX.setX.foldl fun _ _ h => h.judgeRank) h.setX.setX)

theorem State.Kept.execAshThreshWrite (h : s.Kept t) {chan sub : Nat} {w : RegW} :
    s.KeptIn (execAshThreshWrite chan sub w t) :=
  .next (h.host fun _ h => h.whenTrue fun _ h => h.threshWrite)

/-! Operations of Bond. -/

theorem State.Kept.execLinkUp (h : s.Kept t) {port : Nat} : s.KeptIn (execLinkUp port t) :=
  .next (h.live fun _ h => h.whenTrue fun _ h => .ite h.modBnd h.modBnd.linkRise)

theorem State.Kept.linkLow (h : s.Kept t) {p : Nat} : s.Kept (t.linkLow p) := .ite h.modBnd.linkFall h.modBnd

theorem State.Kept.execLinkDown (h : s.Kept t) {port : Nat} : s.KeptIn (execLinkDown port t) :=
  .next (h.live fun _ h => h.whenTrue fun _ h => h.linkLow)

theorem State.Kept.execTxCreditReturn (h : s.Kept t) {port lane cls : Nat} :
    s.KeptIn (execTxCreditReturn port lane cls t) :=
  .next (h.live fun _ h => h.whenTrue fun _ h => .ite h.modBnd.bondDrain h.modBnd)

theorem State.Kept.bondReq (h : s.Kept t) {op : Op} {p : Nat} {m0 : Msg} : s.Kept (t.bondReq op p m0) :=
  h.bondRx fun _ h => .ite h.transit (.ite h.modBnd (.ite h.creditBack.acceptIn.settle h.creditBack.seqRefuse))

theorem State.Kept.bondRow (h : s.Kept t) {op : Op} {port : Nat} {m : Msg} :
    s.KeptIn (bondRow op port m t) :=
  .next (h.live fun _ h => h.bondReq)

theorem State.Kept.execBondRdLine (h : s.Kept t) {port : Nat} {msg : Msg} :
    s.KeptIn (execBondRdLine port msg t) :=
  h.bondRow

theorem State.Kept.execBondRdPart (h : s.Kept t) {port : Nat} {msg : Msg} :
    s.KeptIn (execBondRdPart port msg t) :=
  h.bondRow

theorem State.Kept.execBondWrZero (h : s.Kept t) {port : Nat} {msg : Msg} :
    s.KeptIn (execBondWrZero port msg t) :=
  h.bondRow

theorem State.Kept.execBondWrLine (h : s.Kept t) {port : Nat} {msg : Msg} :
    s.KeptIn (execBondWrLine port msg t) :=
  h.bondRow

theorem State.Kept.execBondWrPart (h : s.Kept t) {port : Nat} {msg : Msg} :
    s.KeptIn (execBondWrPart port msg t) :=
  h.bondRow

theorem State.Kept.execBondAtAdd (h : s.Kept t) {port : Nat} {msg : Msg} :
    s.KeptIn (execBondAtAdd port msg t) :=
  h.bondRow

theorem State.Kept.execBondAtOr (h : s.Kept t) {port : Nat} {msg : Msg} :
    s.KeptIn (execBondAtOr port msg t) :=
  h.bondRow

theorem State.Kept.execBondAtAnd (h : s.Kept t) {port : Nat} {msg : Msg} :
    s.KeptIn (execBondAtAnd port msg t) :=
  h.bondRow

theorem State.Kept.execBondAtXor (h : s.Kept t) {port : Nat} {msg : Msg} :
    s.KeptIn (execBondAtXor port msg t) :=
  h.bondRow

theorem State.Kept.execBondAtSwap (h : s.Kept t) {port : Nat} {msg : Msg} :
    s.KeptIn (execBondAtSwap port msg t) :=
  h.bondRow

theorem State.Kept.execBondAtCas (h : s.Kept t) {port : Nat} {msg : Msg} :
    s.KeptIn (execBondAtCas port msg t) :=
  h.bondRow

theorem State.Kept.execBondAtMin (h : s.Kept t) {port : Nat} {msg : Msg} :
    s.KeptIn (execBondAtMin port msg t) :=
  h.bondRow

theorem State.Kept.execBondAtMax (h : s.Kept t) {port : Nat} {msg : Msg} :
    s.KeptIn (execBondAtMax port msg t) :=
  h.bondRow

theorem State.Kept.execBondAtUmin (h : s.Kept t) {port : Nat} {msg : Msg} :
    s.KeptIn (execBondAtUmin port msg t) :=
  h.bondRow

theorem State.Kept.execBondAtUmax (h : s.Kept t) {port : Nat} {msg : Msg} :
    s.KeptIn (execBondAtUmax port msg t) :=
  h.bondRow

theorem State.Kept.execBondSetad (h : s.Kept t) {port : Nat} {msg : Msg} :
    s.KeptIn (execBondSetad port msg t) :=
  h.bondRow

theorem State.Kept.syncIn (h : s.Kept t) {m : Msg} : s.Kept (t.syncIn m) := .ite h.modBnd h

theorem State.Kept.execSync (h : s.Kept t) {port : Nat} {msg : Msg} : s.KeptIn (execSync port msg t) :=
  .next (h.live fun _ h => h.bondIn fun _ h => h.syncIn)

theorem State.Kept.cplIn (h : s.Kept t) {p : Nat} {m : Msg} {data : Bool} : s.Kept (t.cplIn p m data) := by
  unfold State.cplIn
  dsimp only
  split
  · exact h.msgErr
  · refine .ite h.modBnd.bumpF.count ?_
    split
    · exact .ite h.modBnd.unsync h.modBnd
    · exact .settle (.fix (.modReq (.ite h.modBnd.unsync h.modBnd)))

theorem State.Kept.bondCpl (h : s.Kept t) {p : Nat} {m0 : Msg} {opc : Nat} : s.Kept (t.bondCpl p m0 opc) :=
  h.bondIn fun _ h => h.cplIn

theorem State.Kept.execCpl (h : s.Kept t) {port : Nat} {msg : Msg} : s.KeptIn (execCpl port msg t) :=
  .next (h.live fun _ h => h.bondCpl)

theorem State.Kept.execCplData (h : s.Kept t) {port : Nat} {msg : Msg} : s.KeptIn (execCplData port msg t) :=
  .next (h.live fun _ h => h.bondCpl)

theorem State.Kept.helloIn (h : s.Kept t) {p : Nat} {m : Msg} : s.Kept (t.helloIn p m) := by
  refine .ite h (.ite (.ite h h.modBnd.bndErr) ?_)
  split
  · exact .ite (.ite h.nbrDown.pairInit.modBnd h.modBnd) (.ite h.modBnd.upChanged h.modBnd)
  · exact .ite h.modBnd.upChanged h.modBnd

theorem State.Kept.execHello (h : s.Kept t) {port : Nat} {msg : Msg} : s.KeptIn (execHello port msg t) :=
  .next (h.live fun _ h => h.bondRx fun _ h => h.creditBack.helloIn)

theorem State.Kept.lsaIn (h : s.Kept t) {p : Nat} {m : Msg} : s.Kept (t.lsaIn p m) :=
  .ite (.ite h h.bndErr) (.ite h (.bondSend (.routesDue (.modBnd (.ite h.pairInit h)))))

theorem State.Kept.execLsa (h : s.Kept t) {port : Nat} {msg : Msg} : s.KeptIn (execLsa port msg t) :=
  .next (h.live fun _ h => h.bondRx fun _ h => h.creditBack.lsaIn)

theorem State.Kept.execMalformedMessage (h : s.Kept t) {port : Nat} {msg : Msg} {flits : Nat} :
    s.KeptIn (execMalformedMessage port msg flits t) :=
  .next (h.live fun _ h => h.whenTrue fun _ h => h.bondRx fun _ => id)

theorem State.Kept.execHelloTimer (h : s.Kept t) {port : Nat} : s.KeptIn (execHelloTimer port t) :=
  .next (h.live fun _ h => h.whenTrue fun _ h => h.modBnd.bondSend)

theorem State.Kept.execNeighbourTimeout (h : s.Kept t) {port node : Nat} :
    s.KeptIn (execNeighbourTimeout port node t) := by
  refine .next (h.live fun _ h => ?_)
  split
  · exact h.whenTrue fun _ h => h.nbrDown
  · exact h

theorem State.Kept.execLsaOriginate (h : s.Kept t) : s.KeptIn (execLsaOriginate t) :=
  .next (h.live fun _ h => h.whenTrue fun _ h => h.modBnd.bondSend.bondSend)

theorem State.Kept.execLsaExpiry (h : s.Kept t) {node : Nat} : s.KeptIn (execLsaExpiry node t) := by
  refine .next (h.live fun _ h => ?_)
  split
  · exact h.whenTrue fun _ h => h.modBnd.routesDue
  · exact h

theorem State.Kept.execRouteCompute (h : s.Kept t) : s.KeptIn (execRouteCompute t) :=
  .next (h.live fun _ h => h.whenTrue fun _ h => h.routesNew)

theorem State.Kept.execRoutesStable (h : s.Kept t) : s.KeptIn (execRoutesStable t) :=
  .next (h.live fun _ h => h.whenTrue fun _ h => h.modBnd)

theorem State.Kept.sendOut (h : s.Kept t) {r : Req} {n : Nat} {rt : Route} : s.Kept (t.sendOut r n rt) := by
  unfold State.sendOut
  split
  · next hs => exact (h.reserveReturn _ hs).modBnd.modReq.xbarPass.count.bondSend.settle
  · exact h

theorem State.Kept.execRemoteRequestSend (h : s.Kept t) {rid : Nat} :
    s.KeptIn (execRemoteRequestSend rid t) := by
  refine .next (h.live fun _ h => ?_)
  split
  · exact h
  · split
    · refine h.whenTrue fun _ h => ?_
      split
      · exact h.fix.settle
      · exact .ite h.sendOut h
    · exact h

theorem State.Kept.execSyncSend (h : s.Kept t) {node : Nat} : s.KeptIn (execSyncSend node t) := by
  refine .next (h.live fun _ h => ?_)
  split
  · exact h
  · exact h.whenTrue fun _ h => h.modBnd.bondSend

theorem State.Kept.execBondTimeout (h : s.Kept t) {tag : Nat} : s.KeptIn (execBondTimeout tag t) := by
  refine .next (h.live fun _ h => ?_)
  split
  · exact h
  · refine h.whenTrue fun _ h => ?_
    split
    · exact h.modBnd.unsync.bndErr.count
    · exact h.modBnd.unsync.bndErr.count.fix.rrDropAll.settle

theorem State.Kept.execTagQuarantineExpiry (h : s.Kept t) {tag : Nat} :
    s.KeptIn (execTagQuarantineExpiry tag t) := by
  refine .next (h.live fun _ h => ?_)
  split
  · exact h
  · exact h.whenTrue fun _ h => h.modBnd

/-! Operations of ButtressOps. -/

theorem State.Kept.modBut (h : s.Kept t) {f : ButSt → ButSt} : s.Kept (t.modBut f) := h.frame

theorem State.Kept.setSrcStatus (h : s.Kept t) {src : Nat} : s.Kept (t.setSrcStatus src) := .ite h.orF h.orF

theorem State.Kept.setSrcWire (h : s.Kept t) {src : Nat} : s.Kept (t.setSrcWire src) := .ite h.orF h.orF

theorem State.Kept.setSrcState (h : s.Kept t) {src st : Nat} : s.Kept (t.setSrcState src st) := h.setF.modBut

theorem State.Kept.capture (h : s.Kept t) {src : Nat} {r : Report} : s.Kept (t.capture src r) :=
  h.foldl fun _ _ h => h.setF

theorem State.Kept.captureOrMerge (h : s.Kept t) {src : Nat} {r : Report} :
    s.Kept (t.captureOrMerge src r) :=
  .ite h.capture (.ite h.bumpF.setF.raiseVec h.bumpF)

theorem State.Kept.record (h : s.Kept t) {src : Nat} {r : Report} : s.Kept (t.record src r) := by
  unfold State.record
  extract_lets s1 s2 s3 s4
  have h1 : s.Kept s1 := .ite h h.setSrcStatus.raiseVec
  have h2 : s.Kept s2 := h1.setF.bumpF
  have h3 : s.Kept s3 := .ite h2.setBit h2
  have h4 : s.Kept s4 := h3.captureOrMerge.count
  exact .ite h4.trigger h4

theorem State.Kept.goFatal (h : s.Kept t) : s.Kept t.goFatal := h.setFatal.fatalStore

theorem State.Kept.fenceTarget (h : s.Kept t) {src : Nat} : s.Kept (t.fenceTarget src) :=
  .ite h.fenceChan.settle (.ite h.portFence (.ite (.ite h.modBnd.linkFall h.modBnd) h))

theorem State.Kept.escalateFatal (h : s.Kept t) {src : Nat} : s.Kept (t.escalateFatal src) :=
  .fenceTarget (.goFatal (.setSrcState (.ite h h.raiseVec)))

theorem State.Kept.judgeReport (h : s.Kept t) {src sev : Nat} : s.Kept (t.judgeReport src sev) :=
  .ite h.escalateFatal (.ite h.setSrcState h)

theorem State.Kept.react (h : s.Kept t) {src : Nat} : s.Kept (t.react src) := by
  unfold State.react
  split
  · exact h.setSrcState.raiseVec
  · exact h.setSrcState.raiseVec.fenceTarget
  · exact h.escalateFatal

theorem State.Kept.sample (h : s.Kept t) : s.Kept t.sample :=
  (h.foldl fun _ _ h => h.modBut.record).foldl fun _ _ h => h.judgeReport

theorem State.Kept.ownReport (h : s.Kept t) {src sev access kind : Nat} :
    s.Kept (t.ownReport src sev access kind) :=
  h.record.judgeReport

theorem State.Kept.lostWrite (h : s.Kept t) {c : Nat} : s.Kept (t.lostWrite c) := h.reportUnit.fenceChan.settle

theorem State.Kept.butAck (h : s.Kept t) {src : Nat} : s.Kept (t.butAck src) :=
  .ite h <|
  .ite (.ite (.linkRise (.modBnd (.setSrcState (.ite h.react h)))) (.modBnd (.setSrcState (.ite h.react h))))
    (.setSrcState (.ite h.react h))

theorem State.Kept.forceReport (h : s.Kept t) {src sev : Nat} {coincide : Bool} :
    s.Kept (t.forceReport src sev coincide) := by
  unfold State.forceReport
  dsimp only
  refine .ite h ?_
  split
  · exact h.modBut
  · split
    · exact h.modBut.setBit
    · exact h.report

theorem State.Kept.capRelease (h : s.Kept t) : s.Kept t.capRelease := h.setF

theorem State.Kept.passStart (h : s.Kept t) : s.Kept t.passStart := h.modBut

theorem State.Kept.wireFail (h : s.Kept t) {src : Nat} : s.Kept (t.wireFail src) := h.setSrcWire.ownReport

theorem State.Kept.sweepFail (h : s.Kept t) {k : SweepItem} : s.Kept (t.sweepFail k) :=
  .ite h (.ite h.wireFail (.ite (.ite h.lostWrite h) (.ownReport (.setBit (.ite h.setF h)))))

theorem State.Kept.sweepStores (h : s.Kept t) : s.Kept t.sweepStores := h.foldl fun _ _ h => .ite h h.lostWrite

/-! Operations of Buttress. -/

theorem State.Kept.butParity (h : s.Kept t) : s.Kept t.butParity := h.captureOrMerge.goFatal

theorem State.Kept.execReportRead (h : s.Kept t) {parity : Bool} : s.KeptIn (execReportRead parity t) :=
  .next (h.live fun _ h => .ite h.sample.butParity h.sample)

theorem State.Kept.execWireFault (h : s.Kept t) {src : Nat} {equal ended : Bool} :
    s.KeptIn (execWireFault src t equal ended) :=
  .next (h.live fun _ h => h.whenTrue fun _ h => .ite h.modBut (.ite h h.modBut.wireFail))

theorem State.Kept.execGraceExpiry (h : s.Kept t) {src : Nat} : s.KeptIn (execGraceExpiry src t) :=
  .next (h.live fun _ h => h.whenTrue fun _ h => h.react)

theorem State.Kept.execButAck (h : s.Kept t) {src : Nat} : s.KeptIn (execButAck src t) :=
  .next (h.host fun _ h => h.whenTrue fun _ h => h.butAck)

theorem State.Kept.execForce (h : s.Kept t) {src sev : Nat} {coincide : Bool} :
    s.KeptIn (execForce src sev coincide t) :=
  .next (h.host fun _ h => h.forceReport)

theorem State.Kept.execCaptureRelease (h : s.Kept t) : s.KeptIn (execCaptureRelease t) :=
  .next (h.host fun _ h => h.capRelease)

theorem State.Kept.execSweepStart (h : s.Kept t) : s.KeptIn (execSweepStart t) :=
  .next (h.live fun _ h => h.whenTrue fun _ h => .ite h.modBut h.passStart)

theorem State.Kept.execSweepPassEnd (h : s.Kept t) {failed : List SweepItem} :
    s.KeptIn (execSweepPassEnd failed t) :=
  .next (h.live fun _ h => h.whenTrue fun _ h => .ite
      ((h.modBut.bumpF.sweepStores.foldl fun _ _ h => h.sweepFail).passStart)
      ((h.modBut.bumpF.sweepStores.foldl fun _ _ h => h.sweepFail).modBut))

/-! Operations of Table. -/

theorem State.Kept.setRow (h : s.Kept t) {c k v : Nat} : s.Kept (t.setRow c k v) := .ite h (.ite h.setX h.setF)

theorem State.Kept.loadPend (h : s.Kept t) {c row14 row15 : Nat} : s.Kept (t.loadPend c row14 row15) :=
  .setRow (.setRow (.ite h (h.foldl fun _ _ h => h.setRow)))

theorem State.Kept.tabRefused (h : s.Kept t) {c bit row : Nat} : s.Kept (t.tabRefused c bit row) :=
  h.setBit.setF

theorem State.Kept.timApply (h : s.Kept t) {c : Nat} : s.Kept (t.timApply c) := by
  unfold State.timApply
  dsimp only
  split
  · exact h.tabRefused
  · exact h.modTim.setBit

theorem State.Kept.timSeam (h : s.Kept t) {c : Nat} {trained : Option (Nat × Nat)} :
    s.Kept (t.timSeam c trained) := by
  unfold State.timSeam
  split
  · exact h
  · exact h.modTim.setF.setF

theorem State.Kept.timTrained (h : s.Kept t) {c row14 row15 : Nat} : s.Kept (t.timTrained c row14 row15) :=
  .ite h.loadPend.timApply h.loadPend.timApply.timSeam

theorem State.Kept.timProfile (h : s.Kept t) {c : Nat} : s.Kept (t.timProfile c) :=
  .timApply (.ite h.modTim.setF.loadPend h.modTim.setF.loadPend)

/-! Operations of Maint. -/

theorem State.Kept.setHolder (h : s.Kept t) {c : Nat} {h' : Option Nat} : s.Kept (t.setHolder c h') := h.modChan

theorem State.Kept.loseHold (h : s.Kept t) {c : Nat} : s.Kept (t.loseHold c) :=
  .ite h.setBit (.ite h.modChan (.ite h.modChan h))

theorem State.Kept.askPath (h : s.Kept t) {c idx : Nat} {rivals : List KeyAsk} :
    s.Kept (t.askPath c idx rivals).1 := by
  unfold State.askPath
  split
  · exact .fst_ite h.keyLose h.setHolder.keyWon
  · exact .fst_ite h h.keyLose

theorem State.Kept.seizePath (h : s.Kept t) {c : Nat} : s.Kept (t.seizePath c) := by
  unfold State.seizePath
  split
  · exact h.setHolder
  · exact .ite h (.ite h.setHolder h.loseHold.setHolder.setBit)

theorem State.Kept.freePath (h : s.Kept t) {c : Nat} : s.Kept (t.freePath c) := h.setHolder

theorem State.Kept.pntPath (h : s.Kept t) {c : Nat} {rivals : List KeyAsk} : s.Kept (t.pntPath c rivals).1 :=
  .fst_ite h (.fst_ite h.seizePath h.askPath)

theorem State.Kept.pathBack (h : s.Kept t) {c : Nat} {rivals : List KeyAsk} :
    s.Kept (t.pathBack c rivals).1 :=
  .fst_ite h h.pntPath

theorem State.Kept.pathReturn (h : s.Kept t) {c : Nat} : s.Kept (t.pathReturn c) := .ite h.pathBack h

theorem State.Kept.onPath (h : s.Kept t) {c : Nat} {rivals : List KeyAsk} {f : State → Option (State × Bool)}
    (hf : ∀ u, s.Kept u → s.KeptFst (f u)) : s.KeptFst (t.onPath c rivals f) := by
  have ha : s.Kept (t.askPath c (205 + c) rivals).1 := h.askPath
  unfold State.onPath
  generalize t.askPath c (205 + c) rivals = a at ha
  exact .ite (hf _ h) (.ite (.map (hf _ ha) fun _ h => .fst h.freePath) (.some ha))

theorem State.Kept.srPath (h : s.Kept t) {c cyc : Nat} {rivals : List KeyAsk} :
    s.Kept (t.srPath c cyc rivals) :=
  .ite (.ite h.pntPath.modPnt h.pntPath) h

theorem State.Kept.refreshed (h : s.Kept t) {c u : Nat} : s.Kept (t.refreshed c u) :=
  .count (.ite h.modPnt.pntErr h.modPnt.setOwed)

theorem State.Kept.backoffStart (h : s.Kept t) {c pr onset : Nat} : s.Kept (t.backoffStart c pr onset) :=
  h.modTim.modPnt.count

theorem State.Kept.backoffRfm (h : s.Kept t) {c u cyc : Nat} : s.Kept (t.backoffRfm c u cyc) :=
  .count (.raaDrop (.ite h.modPnt h.modPnt.modTim))

theorem State.Kept.mpcDone (h : s.Kept t) {c key op cyc : Nat} : s.Kept (t.mpcDone c key op cyc) :=
  .ite h.modPnt (.ite h.modPnt h)

theorem State.Kept.mrwDone (h : s.Kept t) {c u addr data : Nat} : s.Kept (t.mrwDone c u addr data) := by
  unfold State.mrwDone
  split
  · exact h
  · exact .ite h.modPnt h

theorem State.Kept.pdCount (h : s.Kept t) {c cyc : Nat} : s.Kept (t.pdCount c cyc) := by
  unfold State.pdCount
  split
  · exact h
  · exact h.modPnt.countN

theorem State.Kept.bankEffect (h : s.Kept t) {c : Nat} {p : Passed} : s.Kept (t.bankEffect c p) := by
  unfold State.bankEffect
  split
  · exact h.actBank
  · exact h.closeBanks
  · exact h.closeBanks
  · exact h.closeBanks
  · exact h.closeBanks
  · exact h.closeBanks
  · exact h.pdCount.modPnt
  · exact h.pdCount.modPnt
  · exact h

theorem State.Kept.chanLogic (h : s.Kept t) {c : Nat} : s.Kept (t.chanLogic c) := by
  unfold State.chanLogic
  extract_lets weights s0 s1 s2
  have h0 : s.Kept s0 := h.pdCount.slotsDue
  have h1 : s.Kept s1 := h0.setRegs id (Tbl.sorted_keep _ _) (Tbl.sorted_del _ _)
  have h2 : s.Kept s2 := h1.foldl fun _ _ h => h.setF
  exact h2.modChan

theorem State.Kept.exitBegin (h : s.Kept t) {c : Nat} : s.Kept (t.exitBegin c) := h.setF.modPnt

theorem State.Kept.resetExit (h : s.Kept t) {c : Nat} : s.Kept (t.resetExit c) := h.chanLogic.exitBegin.modChan

theorem State.Kept.srBegin (h : s.Kept t) {c why : Nat} : s.Kept (t.srBegin c why) := h.setF.modPnt

theorem State.Kept.srStopped (h : s.Kept t) {c : Nat} : s.Kept (t.srStopped c) :=
  .ite h.setF.modPnt.resetExit (.ite h.setF.modPnt.exitBegin h.setF.modPnt)

theorem State.Kept.srClock (h : s.Kept t) {c : Nat} : s.Kept (t.srClock c) := .ite h.srStopped h

theorem State.Kept.srEntered (h : s.Kept t) {c key : Nat} : s.Kept (t.srEntered c key) :=
  .ite h.modPnt.modPnt h.modPnt

theorem State.Kept.ticksRestart (h : s.Kept t) {c t' : Nat} : s.Kept (t.ticksRestart c t') := by
  unfold State.ticksRestart
  exact h.modPnt

/-! Operations of Timing. -/

theorem State.Kept.execAct (h : s.Kept t) {c : Cmd} : s.KeptIn (execAct c t) :=
  .next (h.live fun _ h => h.setterCmd)

theorem State.Kept.execRd (h : s.Kept t) {c : Cmd} : s.KeptIn (execRd c t) :=
  .next (h.live fun _ h => h.setterCmd)

theorem State.Kept.execRda (h : s.Kept t) {c : Cmd} : s.KeptIn (execRda c t) :=
  .next (h.live fun _ h => h.setterCmd)

theorem State.Kept.execWr (h : s.Kept t) {c : Cmd} : s.KeptIn (execWr c t) :=
  .next (h.live fun _ h => h.setterCmd)

theorem State.Kept.execWra (h : s.Kept t) {c : Cmd} : s.KeptIn (execWra c t) :=
  .next (h.live fun _ h => h.setterCmd)

theorem State.Kept.pntPre (h : s.Kept t) {c cyc : Nat} {p : Nat → Bool} : s.KeptFst (t.pntPre c cyc p) :=
  .ite (.some h.closeBanks.count) .none

theorem State.Kept.execPre (h : s.Kept t) {c : Cmd} : s.KeptIn (execPre c t) := by
  refine .next (h.live fun u h => .issue (.ite h.judgeHeads h.srPath) fun u h => ?_)
  split
  · next he => exact he ▸ h.setterEffect
  · exact .ite .none h.pntPre

theorem State.Kept.execPresb (h : s.Kept t) {c : Cmd} : s.KeptIn (execPresb c t) :=
  .next (h.live fun _ h => h.srPath.issue fun _ h => h.pntPre)

theorem State.Kept.execPreab (h : s.Kept t) {c : Cmd} : s.KeptIn (execPreab c t) :=
  .next (h.live fun _ h => h.srPath.issue fun _ h => h.pntPre)

theorem State.Kept.compareTables (h : s.Kept t) {c : Nat} {upset banks : Bool} :
    s.Kept (t.compareTables c upset banks) :=
  .ite h.timErr.violate h

theorem State.Kept.execRefab (h : s.Kept t) {c : Cmd} : s.KeptIn (execRefab c t) :=
  .next
    (h.live fun _ h => h.srPath.issue fun _ h => .ite (.some h.refreshed.raaDrop.rejudge.compareTables) .none)

theorem State.Kept.execRefsb (h : s.Kept t) {c : Cmd} : s.KeptIn (execRefsb c t) :=
  .next (h.live fun _ h => h.srPath.issue fun _ h => .ite (.some h.refreshed.modPnt.raaDrop.rejudge) .none)

theorem State.Kept.execRfmab (h : s.Kept t) {c : Cmd} : s.KeptIn (execRfmab c t) :=
  .next (h.live fun _ h => h.issue fun _ h => .ite (.some h.backoffRfm) .none)

theorem State.Kept.execRfmsb (h : s.Kept t) {c : Cmd} : s.KeptIn (execRfmsb c t) :=
  .next (h.live fun _ h => h.issue fun _ h => .ite (.some h.modPnt.raaDrop.count) .none)

theorem State.Kept.execMrr (h : s.Kept t) {c : Cmd} (addr data : Nat) : s.KeptIn (execMrr c addr data t) :=
  .next (h.live fun _ h => h.issue fun _ h => h.onPath fun _ h => .some h)

theorem State.Kept.execMrw (h : s.Kept t) {c : Cmd} {addr data : Nat} : s.KeptIn (execMrw c addr data t) :=
  .next (h.live fun _ h => h.issue fun _ h => h.onPath fun _ h => .some h.mrwDone)

theorem State.Kept.execMpc (h : s.Kept t) {c : Cmd} (addr : Nat) {data : Nat} :
    s.KeptIn (execMpc c addr data t) :=
  .next (h.live fun _ h => h.issue fun _ h => h.onPath fun _ h => .some h.mpcDone)

theorem State.Kept.execSre (h : s.Kept t) {c : Cmd} : s.KeptIn (execSre c t) :=
  .next (h.live fun _ h => h.srPath.issue fun _ h => .ite (.some h.srEntered) .none)

theorem State.Kept.execSrx (h : s.Kept t) {c : Cmd} : s.KeptIn (execSrx c t) :=
  .next (h.live fun _ h => h.issue fun _ h => .ite (.ite (.some h.pathBack.modPnt) (.some h.pathBack)) .none)

theorem State.Kept.execPde (h : s.Kept t) {c : Cmd} : s.KeptIn (execPde c t) :=
  .next (h.live fun _ h => h.issue fun _ h => .ite (.some h.pdCount.modPnt) .none)

theorem State.Kept.execPdx (h : s.Kept t) {c : Cmd} : s.KeptIn (execPdx c t) :=
  .next (h.live fun _ h => h.issue fun _ h => .ite (.some h.pdCount.modPnt) .none)

theorem State.Kept.execIdleCloseExpiry (h : s.Kept t) {c : Cmd} : s.KeptIn (execIdleCloseExpiry c t) :=
  .next (h.live fun _ h => h.issue fun _ h => .ite (.some h.closeBanks.count) .none)

theorem State.Kept.execTableCompare (h : s.Kept t) {chan upset : Nat} :
    s.KeptIn (execTableCompare chan upset t) :=
  .next (h.live fun _ h => h.whenTrue fun _ h => h.compareTables)

theorem State.Kept.execTimApply (h : s.Kept t) {chan : Nat} : s.KeptIn (execTimApply chan t) :=
  .next (h.host fun _ h => h.whenTrue fun _ h => h.timApply)

theorem State.Kept.parityAlert (h : s.Kept t) {c onset cyc : Nat} : s.Kept (t.parityAlert c onset cyc) :=
  .ite h (.ite h.modTim (.ite h.endReplay.timErr.fenceChan.settle h.modTim))

theorem State.Kept.execAlertNPulse (h : s.Kept t) {chan cyc width rank : Nat} :
    s.KeptIn (execAlertNPulse chan cyc width rank t) :=
  .next (h.live fun _ h => h.whenTrue fun _ h => .ite h.timErr
      (.ite (.ite h (.ite h.modTim h.backoffStart)) h.parityAlert))

theorem State.Kept.replayCmd {a : State × Bool} (h : s.Kept a.1) {c start : Nat} {p : Passed} :
    s.Kept (State.replayCmd c start a p).1 := by
  refine .fst_ite h ?_
  split
  · exact h.block
  · exact .ite h.bankEffect.modChan.count h.bankEffect.modChan

theorem State.Kept.reissue {a : State × Bool} (h : s.Kept a.1) {c start : Nat} {p : Passed} :
    s.Kept (State.reissue c start a p).1 := by
  have hr : s.Kept (State.replayCmd c start ((a.1.replayActs c p).foldl (State.replayCmd c start) a) p).1 :=
    (State.Kept.foldl_fst h fun _ _ h => h.replayCmd).replayCmd
  unfold State.reissue
  generalize State.replayCmd c start _ p = u at hr
  exact .fst_ite h (.fst_ite (.fst hr.modTim) (.fst hr))

theorem State.Kept.emergency (h : s.Kept t) {c : Nat} : s.Kept (t.emergency c) := .ite h h.seizePath.freePath

theorem State.Kept.replayShut (h : s.Kept t) {c : Nat} : s.Kept (t.replayShut c).1 :=
  .foldl_fst h.emergency fun _ _ h => h.replayCmd

theorem State.Kept.replaySend (h : s.Kept t) {c cyc : Nat} : s.Kept (t.replaySend c cyc) := by
  refine .ite h (.ite (.endReplay ?_) (.ite h (.count (.bumpF (.timErr (.modTim (.endReplay ?_))))))) <;>
  exact .foldl_fst h fun _ _ h => h.reissue

theorem State.Kept.execReplay (h : s.Kept t) {chan cyc : Nat} : s.KeptIn (execReplay chan cyc t) :=
  .next (h.live fun _ h => h.whenTrue fun _ h => .ite h.replaySend (.ite h.replayShut.endReplay
        (.ite h ((h.replayShut.modTim.foldl fun _ _ h => h.backoffStart).replaySend))))

theorem State.Kept.execPhaseChange (h : s.Kept t) {chan sub : Nat} : s.KeptIn (execPhaseChange chan sub t) :=
  .next (h.live fun _ h => h.whenTrue fun _ h => .count (.modTim (.ite h.setF h.setF)))

theorem State.Kept.execSlot (h : s.Kept t) {chan sub cyc late : Nat} :
    s.KeptIn (execSlot chan sub t cyc late) :=
  .next (h.live fun _ h => h.whenTrue fun _ h => .ite h.modChan.modTim h.modChan.count)

/-! Operations of Keystone. -/

theorem State.Kept.hostResult {a : State × Nat} (h : s.Kept a.1) : s.Kept (State.hostResult a) := h.frame

theorem State.Kept.hostLock (h : s.Kept t) {line : Nat} {rivals : List KeyAsk} :
    s.Kept (t.hostLock line rivals) :=
  .hostResult (.fst_ite h h.keyAsked)

theorem State.Kept.hostUnlock (h : s.Kept t) {slot : Nat} : s.Kept (t.hostUnlock slot) := h.keyUnlock.hostResult

theorem State.Kept.hostOther (h : s.Kept t) : s.Kept t.hostOther := h.hostResult

theorem State.Kept.execKeyHostLock (h : s.Kept t) {line : Nat} {rivals : List KeyAsk} :
    s.KeptIn (execKeyHostLock line t rivals) :=
  .next (h.host fun _ h => h.hostLock)

theorem State.Kept.execKeyHostUnlock (h : s.Kept t) {slot : Nat} : s.KeptIn (execKeyHostUnlock slot t) :=
  .next (h.host fun _ h => h.hostUnlock)

theorem State.Kept.clearTorn (h : s.Kept t) {slot : Nat} : s.Kept (t.clearTorn slot) := by
  unfold State.clearTorn
  split
  · exact .ite h.frame h
  · exact h

theorem State.Kept.execClearTorn (h : s.Kept t) {slot : Nat} : s.KeptIn (execClearTorn slot t) :=
  .next (h.host fun _ h => h.clearTorn)

theorem State.Kept.execLockWatchdog (h : s.Kept t) {slot : Nat} : s.KeptIn (execLockWatchdog slot t) := by
  refine .next (h.live fun _ h => ?_)
  split
  · exact .ite h.keyTear.keyErr h
  · exact h

theorem State.Kept.execMntWatchdog (h : s.Kept t) {chan : Nat} : s.KeptIn (execMntWatchdog chan t) :=
  .next (h.live fun _ h => .ite h.freePath.setBit.keyErr h)

theorem State.Kept.mntReq (h : s.Kept t) {c : Nat} {rivals : List KeyAsk} : s.Kept (t.mntReq c rivals) :=
  .ite h (.ite h.keyLose h.askPath)

theorem State.Kept.execMntReq (h : s.Kept t) {chan : Nat} {rivals : List KeyAsk} :
    s.KeptIn (execMntReq chan t rivals) :=
  .next (h.host fun _ h => h.mntReq)

theorem State.Kept.mntRelease (h : s.Kept t) {c : Nat} : s.Kept (t.mntRelease c) := .ite h.freePath h

theorem State.Kept.execMntRelease (h : s.Kept t) {chan : Nat} : s.KeptIn (execMntRelease chan t) :=
  .next (h.host fun _ h => h.mntRelease)

theorem State.Kept.mntCmd (h : s.Kept t) {c cyc rank : Nat} {kind : CmdKind} {data : Nat} {f : State → State}
    (hf : ∀ u, s.Kept u → s.Kept (f u)) :
    s.Kept (t.mntCmd c cyc rank kind data f) :=
  .ite h ((h.issue fun _ h => .some (hf _ h)).issue fun _ h => .some h)

theorem State.Kept.execKeyMntMrr (h : s.Kept t) {chan cyc rank : Nat} (addr : Nat) {data : Nat} :
    s.KeptIn (execKeyMntMrr chan cyc rank addr data t) :=
  .next (h.host fun _ h => h.mntCmd fun _ h => h.setF)

theorem State.Kept.execKeyMntMrw (h : s.Kept t) {chan cyc rank : Nat} (addr : Nat) (data : Nat) :
    s.KeptIn (execKeyMntMrw chan cyc rank addr data t) :=
  .next (h.host fun _ h => h.mntCmd fun _ => id)

theorem State.Kept.execKeyMntMpc (h : s.Kept t) {chan cyc rank addr : Nat} (data : Nat) :
    s.KeptIn (execKeyMntMpc chan cyc rank addr data t) :=
  .next (h.host fun _ h => h.mntCmd fun _ => id)

theorem State.Kept.takeSlot (h : s.Kept t) {slot : Nat} : s.Kept (t.takeSlot slot) := by
  unfold State.takeSlot
  split
  · exact .ite h h.frame
  · exact h

theorem State.Kept.takePath (h : s.Kept t) {c : Nat} : s.Kept (t.takePath c) := .ite h h.loseHold.setHolder

theorem State.Kept.execDebugTakeover (h : s.Kept t) {slot : Option Nat} {chan : Nat} :
    s.KeptIn (execDebugTakeover slot chan t) := by
  refine .next (h.live fun _ h => h.whenTrue fun _ h => ?_)
  split
  · exact h.takeSlot
  · exact h.takePath

theorem State.Kept.execDebugRelease (h : s.Kept t) {slot : Option Nat} {chan : Nat} :
    s.KeptIn (execDebugRelease slot chan t) := by
  refine .next (h.live fun _ h => h.whenTrue fun _ h => ?_)
  split
  · split
    · exact .ite h.keyTear h
    · exact h
  · exact .ite h.freePath.pathReturn h

/-! Operations of Plumb. -/

theorem State.Kept.modPlb (h : s.Kept t) {f : PlbSt → PlbSt} : s.Kept (t.modPlb f) := h.frame

theorem State.Kept.plbFreeze (h : s.Kept t) {on : Bool} : s.Kept (t.plbFreeze on) := h.setF

theorem State.Kept.plbClear (h : s.Kept t) : s.Kept t.plbClear := h.modPlb

theorem State.Kept.lfsrReloadAll (h : s.Kept t) : s.Kept t.lfsrReloadAll := h.modPlb

theorem State.Kept.lfsrPin (h : s.Kept t) : s.Kept t.lfsrPin := h.modPlb

theorem State.Kept.putX (h : s.Kept t) {w : RegW} {i j : Nat} {fs : List Field} : s.Kept (t.putX w i j fs) :=
  h.foldl fun _ _ h => .ite h.setX h

theorem State.Kept.tagCfgWrite (h : s.Kept t) {w : RegW} : s.Kept (t.tagCfgWrite w) := h.putX.lfsrReloadAll

theorem State.Kept.tagRdWrite (h : s.Kept t) {w : RegW} : s.Kept (t.tagRdWrite w) := h.setF

theorem State.Kept.plbErr (h : s.Kept t) {upset : Nat} : s.Kept (t.plbErr upset) := by
  unfold State.plbErr
  split
  · exact h
  · exact h.setBit.reportUnit
  · exact h.setBit.reportUnit

theorem State.Kept.tagWrite (h : s.Kept t) {upset : Nat} : s.Kept (t.tagWrite upset) := by
  unfold State.tagWrite
  split
  · exact h
  · exact h.modPlb.setF.plbErr

theorem State.Kept.execPlbFreeze (h : s.Kept t) : s.KeptIn (execPlbFreeze t) :=
  .next (h.host fun _ h => h.plbFreeze)

theorem State.Kept.execPlbUnfreeze (h : s.Kept t) : s.KeptIn (execPlbUnfreeze t) :=
  .next (h.host fun _ h => h.plbFreeze)

theorem State.Kept.execPlbClear (h : s.Kept t) : s.KeptIn (execPlbClear t) :=
  .next (h.host fun _ h => h.plbClear)

theorem State.Kept.execPlbTagCfgWrite (h : s.Kept t) {w : RegW} : s.KeptIn (execPlbTagCfgWrite w t) :=
  .next (h.host fun _ h => h.tagCfgWrite)

theorem State.Kept.execPlbTagRdWrite (h : s.Kept t) {w : RegW} : s.KeptIn (execPlbTagRdWrite w t) :=
  .next (h.host fun _ h => h.tagRdWrite)

theorem State.Kept.execTagRecordWrite (h : s.Kept t) {upset : Nat} : s.KeptIn (execTagRecordWrite upset t) :=
  .next (h.live fun _ h => h.tagWrite)

/-! Operations of Datestone. -/

theorem State.Kept.modDst (h : s.Kept t) {f : DstSt → DstSt} : s.Kept (t.modDst f) := h.frame

theorem State.Kept.extClear (h : s.Kept t) : s.Kept t.extClear := h.modDst

theorem State.Kept.histClear (h : s.Kept t) : s.Kept t.histClear := h.modDst

theorem State.Kept.snapDiscard (h : s.Kept t) : s.Kept t.snapDiscard := .ite h h.modDst.dstDrop

theorem State.Kept.logClear (h : s.Kept t) : s.Kept t.logClear := h.snapDiscard.modDst.setF

theorem State.Kept.trigDropAll (h : s.Kept t) : s.Kept t.trigDropAll := (h.foldl fun _ _ h => h.dstDrop).modDst

theorem State.Kept.dstModeFrom (h : s.Kept t) {old : Nat} : s.Kept (t.dstModeFrom old) :=
  .ite h (.ite h.trigDropAll.modDst (.ite h.trigDropAll.modDst h.trigDropAll))

theorem State.Kept.dstModeWrite (h : s.Kept t) {mode : Nat} : s.Kept (t.dstModeWrite mode) :=
  .ite h.setX.dstModeFrom h

theorem State.Kept.dstFreezeWrite (h : s.Kept t) {on : Bool} : s.Kept (t.dstFreezeWrite on) := h.setF.modDst

theorem State.Kept.histCfgWrite (h : s.Kept t) {w : RegW} : s.Kept (t.histCfgWrite w) := .ite h.putX.histClear h

theorem State.Kept.dstTrigWrite (h : s.Kept t) {w : RegW} : s.Kept (t.dstTrigWrite w) :=
  .ite h.putX.modDst h.putX

theorem State.Kept.snapTake (h : s.Kept t) : s.Kept t.snapTake := by
  unfold State.snapTake
  split
  · exact h
  · exact .ite h.modDst.dstDrop (.ite h.modDst.modDst h.modDst.dstDrop.setBit.raiseVec)

theorem State.Kept.itemZero (h : s.Kept t) {region n w : Nat} : s.Kept (t.itemZero region n w) := by
  unfold State.itemZero
  split
  · exact h.modDst
  · exact h.modDst
  · exact h.modDst
  · exact h.modPlb

theorem State.Kept.plbUpset (h : s.Kept t) {u : PlbUpset} : s.Kept (t.plbUpset u) :=
  .ite h.plbErr (.ite h.plbErr.modPlb h.plbErr.itemZero)

theorem State.Kept.cursorNext (h : s.Kept t) : s.Kept t.cursorNext := h.setF

theorem State.Kept.windowRead (h : s.Kept t) {w : Nat} {top : Bool} {upset : Nat} :
    s.Kept (t.windowRead w top upset) :=
  .ite (.cursorNext (.modDst (.ite (.itemZero (.ite h.plbErr h)) (.ite h.plbErr h))))
    (.modDst (.ite (.itemZero (.ite h.plbErr h)) (.ite h.plbErr h)))

theorem State.Kept.execExtClear (h : s.Kept t) : s.KeptIn (execExtClear t) :=
  .next (h.host fun _ h => h.extClear)

theorem State.Kept.execHistClear (h : s.Kept t) : s.KeptIn (execHistClear t) :=
  .next (h.host fun _ h => h.histClear)

theorem State.Kept.execLogClear (h : s.Kept t) : s.KeptIn (execLogClear t) :=
  .next (h.host fun _ h => h.logClear)

theorem State.Kept.execSnap (h : s.Kept t) : s.KeptIn (execSnap t) := .next (h.host fun _ h => h.trigger)

theorem State.Kept.execSnapshotPeriod (h : s.Kept t) : s.KeptIn (execSnapshotPeriod t) :=
  .next (h.live fun _ h => h.whenTrue fun _ h => h.modDst.trigger)

theorem State.Kept.execSnapshotTaken (h : s.Kept t) : s.KeptIn (execSnapshotTaken t) :=
  .next (h.live fun _ h => h.snapTake)

theorem State.Kept.execDstModeWrite (h : s.Kept t) {mode : Nat} : s.KeptIn (execDstModeWrite mode t) :=
  .next (h.host fun _ h => h.dstModeWrite)

theorem State.Kept.execDstFreezeWrite (h : s.Kept t) {on : Bool} : s.KeptIn (execDstFreezeWrite on t) :=
  .next (h.host fun _ h => h.dstFreezeWrite)

theorem State.Kept.execDstHistCfgWrite (h : s.Kept t) {w : RegW} : s.KeptIn (execDstHistCfgWrite w t) :=
  .next (h.host fun _ h => h.histCfgWrite)

theorem State.Kept.execDstWindowRead (h : s.Kept t) {word : Nat} {top : Bool} {upset : Nat} :
    s.KeptIn (execDstWindowRead word top upset t) :=
  .next (h.hostRd fun _ h => h.whenTrue fun _ h => h.windowRead)

/-! Operations of Hods. -/

theorem State.Kept.execHodItemPush (h : s.Kept t) {hod : Nat} {item : BitVec 256} {upset : Bool} :
    s.KeptIn (execHodItemPush hod item upset t) :=
  .next (h.host fun _ h => .ite h (.ite h.hodPush.settle h.urSent))

theorem State.Kept.execHodItemPop (h : s.Kept t) {hod : Nat} {upset : Bool} :
    s.KeptIn (execHodItemPop hod upset t) := by
  refine .next (h.hostRd fun u h => .ite h.frame (.ite h.urSent ?_))
  split
  · exact h.hodWait
  · next hp => exact (h.hodPop _ hp).frame.settle

theorem State.Kept.spillErr (h : s.Kept t) {h' : Nat} : s.Kept (t.spillErr h') := h.setBit.report

theorem State.Kept.spillWritten (h : s.Kept t) {h' : Nat} {l : HodLine} {good : Bool} :
    s.Kept (t.spillWritten h' l good) :=
  h.setHod

theorem State.Kept.spillRead (h : s.Kept t) {h' : Nat} {l : HodLine} {good : Bool} {d : BitVec 512} :
    s.Kept (t.spillRead h' l good d) :=
  .ite h.setHod h.setHod.spillErr

theorem State.Kept.spillDone (h : s.Kept t) {rid : Nat} : s.Kept (t.spillDone rid) := by
  unfold State.spillDone
  dsimp only
  split
  · exact h
  · split
    · split
      · exact h.tagDone.dropReq.hodApply.settle
      · exact .ite h
          (.settle (.hodApply (.hodMove (.ite h.tagDone.dropReq.spillWritten h.tagDone.dropReq.spillRead))))
    · exact h

theorem State.Kept.execSpillComplete (h : s.Kept t) {rid : Nat} : s.KeptIn (execSpillComplete rid t) :=
  .next (h.live fun _ h => h.spillDone)

theorem State.Kept.hodCfgWrite (h : s.Kept t) {h' : Nat} {carve : Bool} {w : RegW} :
    s.Kept (t.hodCfgWrite h' carve w) :=
  .ite h (.ite h.setBit (.hodApply (.ite h.setX h.setX.setX)))

theorem State.Kept.execHodCfgWrite (h : s.Kept t) {hod : Nat} {carve : Bool} {w : RegW} :
    s.KeptIn (execHodCfgWrite hod carve w t) :=
  .next (h.host fun _ h => h.hodCfgWrite)

/-! Operations of Masons. -/

theorem State.Kept.masEnd (h : s.Kept t) {m : Nat} {o : MasOut} {st : Status} {d : BitVec 512} :
    s.Kept (t.masEnd m o st d) :=
  .ite h.modMason.modMason (.ite h.modMason.akNext (.ite h.modMason.akTrapHere h.modMason.akTrapHere))

theorem State.Kept.adEnd (h : s.Kept t) {m : Nat} {o : MasOut} {st : Status} : s.Kept (t.adEnd m o st) :=
  .ite h.modMason.akTrapHere (.ite h.modMason h.modMason.modMason)

theorem State.Kept.starve (h : s.Kept t) {run : Nat} {srcs : List Nat} {st : Status} :
    s.Kept (t.starve run srcs st) :=
  h.frame.fixAll

theorem State.Kept.copyFed (h : s.Kept t) {run : Nat} {r : Req} {st : Status} :
    s.Kept (t.copyFed run r st) := by
  refine .ite h ?_
  split
  · exact .ite (h.foldl fun _ _ h => h.feedCopy) (.ite (h.foldl fun _ _ h => h.feedCopy) h.starve)
  · exact .ite h h.starve

theorem State.Kept.runPart (h : s.Kept t) {m : Nat} {o : MasOut} {r : Req} {st : Status} :
    s.Kept (t.runPart m o r st) := by
  refine .ite (.masEnd ?_) h.copyFed.modMason
  split
  · exact h.copyFed.keepRecord
  · exact h.copyFed

theorem State.Kept.resultCross (h : s.Kept t) {m : Nat} {r : Req} : s.Kept (t.resultCross m r) :=
  .ite h h.xbarPass

theorem State.Kept.masResult (h : s.Kept t) {rid upset : Nat} : s.Kept (t.masResult rid upset) := by
  unfold State.masResult
  split
  · exact h
  · split
    · extract_lets s0 s1
      have h0 : s.Kept s0 := h.storageUpset.resultCross
      have h1 : s.Kept s1 := .dropReq (.ite h0 h0.tagDone)
      refine .settle ?_
      split
      · exact .elim h1 fun _ => h1.copyFed
      · split
        · exact h1.runPart
        · exact h1.adEnd
        · exact h1.masEnd
    · exact h

theorem State.Kept.execMasonResultArrival (h : s.Kept t) {rid upset : Nat} :
    s.KeptIn (execMasonResultArrival rid t upset) := by
  refine .next (h.live fun _ h => ?_)
  split
  · exact h.whenTrue fun _ h => h.masResult
  · exact h

theorem State.Kept.masRunWrite (h : s.Kept t) {m run : Nat} : s.Kept (t.masRunWrite m run) :=
  .ite h.setX.masonFollow h

theorem State.Kept.masProfileWrite (h : s.Kept t) {p : Nat} : s.Kept (t.masProfileWrite p) :=
  .ite h h.setF.masonsAnew

theorem State.Kept.execMasRunWrite (h : s.Kept t) {m : Nat} {run : Bool} :
    s.KeptIn (execMasRunWrite m run t) :=
  .next (h.host fun _ h => h.masRunWrite)

theorem State.Kept.execMasGlobalProfileWrite (h : s.Kept t) {profile : Nat} :
    s.KeptIn (execMasGlobalProfileWrite profile t) :=
  .next (h.host fun _ h => h.masProfileWrite)

theorem State.Kept.abortRuns (h : s.Kept t) {m : Nat} : s.Kept (t.abortRuns m) :=
  (h.foldl fun _ _ h => .elim h fun _ => h.keepRecord).modMason

theorem State.Kept.abortTags (h : s.Kept t) {src : Src} : s.Kept (t.abortTags src) := by
  refine .frame (.foldl ?_ fun _ _ h => .ite h.tagDone h)
  split
  · exact h.abortRuns
  · exact h

theorem State.Kept.masonReset (h : s.Kept t) {m : Nat} : s.Kept (t.masonReset m) :=
  .ite h.abortTags.hodsForget.modMason h

theorem State.Kept.execMasonReset (h : s.Kept t) {m : Nat} : s.KeptIn (execMasonReset m t) :=
  .next (h.host fun _ h => h.masonReset)

theorem State.Kept.execMasonResetComplete (h : s.Kept t) {m : Nat} : s.KeptIn (execMasonResetComplete m t) :=
  .next (h.live fun _ h => h.whenTrue fun _ h => h.modMason.masonFollow)

theorem State.Kept.execImgCheck (h : s.Kept t) {kind len : Nat} : s.KeptIn (execImgCheck kind len t) :=
  .next (h.host fun _ h => h.imgStart)

theorem State.Kept.execImgLoad (h : s.Kept t) {kind len : Nat} : s.KeptIn (execImgLoad kind len t) :=
  .next (h.host fun _ h => h.imgStart)

theorem State.Kept.execImgLoadStore (h : s.Kept t) {kind len : Nat} :
    s.KeptIn (execImgLoadStore kind len t) :=
  .next (h.host fun _ h => h.imgStart)

theorem State.Kept.execImageCheckOrLoadComplete (h : s.Kept t) {bytes : List Nat} :
    s.KeptIn (execImageCheckOrLoadComplete bytes t) := by
  refine .next (h.live fun _ h => ?_)
  split
  · exact .ite h.imgArrived h
  · exact h

theorem State.Kept.masStoreWrite (h : s.Kept t) {m off : Nat} {w : RegW} :
    s.Kept (t.masStoreWrite m off w) :=
  .ite h (.ite h.orF (.ite h.modMason h.modMason))

theorem State.Kept.execMasonStoreWrite (h : s.Kept t) {m off : Nat} {w : RegW} :
    s.KeptIn (execMasonStoreWrite m off w t) :=
  .next (h.host fun _ h => h.masStoreWrite)

theorem State.Kept.execDebugHalt (h : s.Kept t) {m : Nat} : s.KeptIn (execDebugHalt m t) :=
  .next (h.live fun _ h => h.whenTrue fun _ h => h.modMason)

theorem State.Kept.execDebugStep (h : s.Kept t) {m : Nat} : s.KeptIn (execDebugStep m t) :=
  .next (h.live fun _ h => h.whenTrue fun _ h => h.modMason)

theorem State.Kept.execDebugResume (h : s.Kept t) {m : Nat} : s.KeptIn (execDebugResume m t) :=
  .next (h.live fun _ h => h.whenTrue fun _ h => h.modMason)

/-! Operations of Plinth. -/

theorem State.Kept.execPlinthStore (h : s.Kept t) : s.KeptIn (execPlinthStore t) :=
  .next (h.live fun _ h => h.whenTrue fun _ h => h.storeBegin)

theorem State.Kept.plnCommand (h : s.Kept t) {w : RegW} {upset : Nat} : s.Kept (t.plnCommand w upset) :=
  .ite h.setBit (.ite h (.ite h.setF.setBit (.ite h.setF.modPln h.setF.plnRun)))

theorem State.Kept.plnRowCmd (h : s.Kept t) {op : Nat} {w : RegW} {upset : Nat} :
    s.KeptIn (plnRowCmd op w upset t) :=
  .next (h.host fun _ h => h.whenTrue fun _ h => h.plnCommand)

theorem State.Kept.execRawWrite (h : s.Kept t) {w : RegW} : s.KeptIn (execRawWrite w t) := h.plnRowCmd

theorem State.Kept.execRawRead (h : s.Kept t) {w : RegW} {upset : Nat} : s.KeptIn (execRawRead w upset t) :=
  h.plnRowCmd

theorem State.Kept.execReadRec (h : s.Kept t) {w : RegW} {upset : Nat} : s.KeptIn (execReadRec w upset t) :=
  h.plnRowCmd

theorem State.Kept.bootPlinth (h : s.Kept t) {count : Nat} : s.Kept (t.bootPlinth count) :=
  .ite h.plinthReady.selectImages.setF h

theorem State.Kept.storeEnd (h : s.Kept t) {type : Nat} {good : Bool} {count : Nat} :
    s.Kept (t.storeEnd type good count) :=
  .plnNext (.imgWaited (.imgStored (.ite h.bootPlinth h)))

theorem State.Kept.storeRowDone (h : s.Kept t) {st : PlnStore} {k : Nat} {good : Bool} :
    s.Kept (t.storeRowDone st k good) := by
  unfold State.storeRowDone
  split
  · exact h.storeGone
  · exact .ite (.ite h.setPlnRow.moveStart.storeGone.storeEnd
          (.ite h.setPlnRow.modPln h.setPlnRow.moveStart.storeGone.setValid.storeEnd)) <|
      .ite h.modPln h.tornRow.moveStart.storeGone.plnErr.storeEnd

theorem State.Kept.rawRowDone (h : s.Kept t) {row : Nat} {good : Bool} : s.Kept (t.rawRowDone row good) :=
  .ite h.setPlnRow.modPln.plnNext (.ite h.modPln h.setPlnRow.modPln.plnErr.setBit.plnNext)

theorem State.Kept.execPlinthRowWriteDone (h : s.Kept t) {good corr : Bool} :
    s.KeptIn (execPlinthRowWriteDone good t corr) := by
  refine .next (h.live fun _ h => ?_)
  split
  · exact h.plnUpset.storeRowDone
  · split
    · exact h.whenTrue fun _ h => h.plnUpset.rawRowDone
    · exact h

theorem State.Kept.rowCut (h : s.Kept t) : s.Kept t.rowCut := by
  unfold State.rowCut
  split
  · exact h.tornRow
  · exact h.setPlnRow
  · exact h

/-! Operations of ScreedOps. -/

theorem State.Kept.modScr (h : s.Kept t) {c : Nat} {f : ScrSt → ScrSt} : s.Kept (t.modScr c f) := h.modChan

theorem State.Kept.setScrState (h : s.Kept t) {c v : Nat} : s.Kept (t.setScrState c v) :=
  .ite h h.setF.modChan.raiseVec

theorem State.Kept.scrErr (h : s.Kept t) {c : Nat} {f : Field} {kind sev : Nat} :
    s.Kept (t.scrErr c f kind sev) :=
  h.setBit.reportUnit

theorem State.Kept.setStale (h : s.Kept t) {c : Nat} {subs : List Nat} {v : Nat} :
    s.Kept (t.setStale c subs v) :=
  h.foldl fun _ _ h => h.foldl fun _ _ h => h.setF

theorem State.Kept.noteRank (h : s.Kept t) {c sub k verdict rank lanes : Nat} :
    s.Kept (t.noteRank c sub k verdict rank lanes) :=
  h.modScr

theorem State.Kept.clearRow (h : s.Kept t) {c k : Nat} : s.Kept (t.clearRow c k) := h.modScr

theorem State.Kept.putResult (h : s.Kept t) {c sub k w : Nat} : s.Kept (t.putResult c sub k w) :=
  h.setF.setF.setF.setF

theorem State.Kept.commitResults (h : s.Kept t) {c : Nat} {ks : List Nat} : s.Kept (t.commitResults c ks) := by
  unfold State.commitResults
  exact ((h.foldl fun _ _ h => h.foldl fun _ _ h => h.putResult).setStale).modScr

theorem State.Kept.zqGrant (h : s.Kept t) {g : Nat} {but : Option Nat} : s.Kept (t.zqGrant g but) := by
  refine .ite h ?_
  split
  · exact h.modScr
  · exact h

theorem State.Kept.zqFree (h : s.Kept t) {c : Nat} : s.Kept (t.zqFree c) := .ite h.modScr.zqGrant h

theorem State.Kept.bootCheck (h : s.Kept t) : s.Kept t.bootCheck :=
  .ite (.ite h.setF h) (.ite (.ite ((h.foldl fun _ _ h => h.modChan).setF) h) h)

theorem State.Kept.screedCmd (h : s.Kept t) {c : Nat} {p : Passed} : s.Kept (t.screedCmd c p) := by
  unfold State.screedCmd
  dsimp only
  split
  · exact h.violate
  · exact .ite h.bankEffect.modTim.count h.bankEffect.modTim

theorem State.Kept.screedCmds (h : s.Kept t) {c : Nat} {ps : List Passed} : s.Kept (t.screedCmds c ps) :=
  h.foldl fun _ _ h => h.screedCmd

theorem State.Kept.shutSub (h : s.Kept t) {c sub : Nat} : s.Kept (t.shutSub c sub) := h.screedCmds

theorem State.Kept.measureCmds (h : s.Kept t) {c sub : Nat} : s.Kept (t.measureCmds c sub) := h.screedCmds

theorem State.Kept.dramWrites (h : s.Kept t) {c : Nat} : s.Kept (t.dramWrites c) := h.screedCmds

theorem State.Kept.pastScreed (h : s.Kept t) {c : Nat} : s.Kept (t.pastScreed c) := by
  unfold State.pastScreed
  exact h.modChan

theorem State.Kept.resetPulse (h : s.Kept t) {c : Nat} : s.Kept (t.resetPulse c) := h.pdCount.closeBanks.modPnt

theorem State.Kept.startAttempt (h : s.Kept t) {c n : Nat} {full : Bool} :
    s.Kept (t.startAttempt c n full) := by
  unfold State.startAttempt
  exact .modScr (.ite h.resetPulse.setF.clearRow.setF h.resetPulse.setF.clearRow)

theorem State.Kept.scrRelease (h : s.Kept t) {c : Nat} : s.Kept (t.scrRelease c) := .ite h.freePath h

theorem State.Kept.trainFail (h : s.Kept t) {c : Nat} : s.Kept (t.trainFail c) := by
  unfold State.trainFail
  exact h.zqFree.commitResults.modScr.scrRelease.setScrState.scrErr.fenceReqs.settle.bootCheck

theorem State.Kept.seqStart (h : s.Kept t) {c : Nat} {full : Bool} : s.Kept (t.seqStart c full) :=
  .ite h (.modMason (.ite h.seqLoad h))

theorem State.Kept.startRun (h : s.Kept t) {c run : Nat} {rivals : List KeyAsk} :
    s.Kept (t.startRun c run rivals) :=
  .ite h.seqStart.setScrState.setF.setStale.modScr.startAttempt.modScr.noteRank.noteRank.trainFail
    h.seqStart.setScrState.setF.setStale.modScr.startAttempt.modScr.askPath

theorem State.Kept.attemptFail (h : s.Kept t) {c : Nat} : s.Kept (t.attemptFail c) :=
  .ite h.zqFree.commitResults.modScr.scrErr.startRun (.ite h.zqFree.modScr.startAttempt h.zqFree.trainFail)

theorem State.Kept.loseTrainingRows (h : s.Kept t) {c : Nat} : s.Kept (t.loseTrainingRows c) :=
  h.setDram (Tbl.sorted_keep _ _)

theorem State.Kept.nextStep (h : s.Kept t) {c k : Nat} : s.Kept (t.nextStep c k) :=
  .ite (.zqGrant (.modScr (.clearRow (.setF (.ite h.loseTrainingRows h)))))
    (.modScr (.clearRow (.setF (.ite h.loseTrainingRows h))))

theorem State.Kept.stepPassed (h : s.Kept t) {c k : Nat} : s.Kept (t.stepPassed c k) :=
  .ite (.modScr (.ite h.zqFree h)) <|
  .ite (.modScr (.ite h.zqFree h)) <|
  .ite (.modScr (.noteRank (.noteRank (.clearRow (.setF (.ite h.zqFree h)))))) (.nextStep (.ite h.zqFree h))

theorem State.Kept.rankEnd (h : s.Kept t) {c sub : Nat} {e : StepEnd} {timeout : Bool} :
    s.Kept (t.rankEnd c sub e timeout) :=
  .ite h (.modScr (.noteRank (.ite h h.screedCmds)))

theorem State.Kept.stepJudge (h : s.Kept t) {c : Nat} : s.Kept (t.stepJudge c) :=
  .ite h (.ite h.stepPassed h.attemptFail)

theorem State.Kept.allOut (h : s.Kept t) {c : Nat} {e : StepEnd} : s.Kept (t.allOut c e) :=
  (h.foldl fun _ _ h => h.rankEnd).stepJudge

theorem State.Kept.setBase (h : s.Kept t) {c temp : Nat} : s.Kept (t.setBase c temp) := h.setF.setF.modScr

theorem State.Kept.pntTrained (h : s.Kept t) {c : Nat} : s.Kept (t.pntTrained c) :=
  h.setF.setF.setF.setF.modPnt.ticksRestart

theorem State.Kept.trainDone (h : s.Kept t) {c : Nat} {e : StepEnd} : s.Kept (t.trainDone c e) := by
  unfold State.trainDone
  extract_lets _ _ _ s1 s2 s3 s4
  have h1 : s.Kept s1 := h.commitResults.modScr.modChan
  have h2 : s.Kept s2 := h1.timTrained.setBase.setF.dramWrites.pastScreed.pntTrained
  have h3 : s.Kept s3 := h2.setF.scrRelease.setScrState
  have h4 : s.Kept s4 := .ite h3.handValues h3
  exact h4.masonsOf.walksResume.settle.bootCheck

theorem State.Kept.abortRun (h : s.Kept t) {c : Nat} : s.Kept (t.abortRun c) :=
  .ite h h.zqFree.commitResults.modScr.scrRelease.setScrState

theorem State.Kept.pause (h : s.Kept t) {c quiet : Nat} : s.Kept (t.pause c quiet) := by
  unfold State.pause
  exact h.modScr.modPnt

theorem State.Kept.startMeasure (h : s.Kept t) {c run quiet : Nat} {rivals : List KeyAsk} :
    s.Kept (t.startMeasure c run quiet rivals) :=
  h.seqStart.setScrState.setStale.modScr.pause.askPath

theorem State.Kept.measured (h : s.Kept t) {c sub : Nat} {e : StepEnd} : s.Kept (t.measured c sub e) :=
  .ite (.ite h.measureCmds.setBase.noteRank.modScr.modScr.setBit.setBit
        h.measureCmds.setBase.noteRank.modScr.modScr) <|
  .ite h.measureCmds.setBase.noteRank.scrErr.modScr.scrErr h.measureCmds.setBase.noteRank.scrErr.modScr

theorem State.Kept.measureNext (h : s.Kept t) {c : Nat} : s.Kept (t.measureNext c) :=
  h.commitResults.setStale.modScr.pause

theorem State.Kept.measureDone (h : s.Kept t) {c : Nat} : s.Kept (t.measureDone c) :=
  .bootCheck (.ite (.ite h.commitResults.modScr.setScrState.scrRelease.setF.modPnt.walksResume.srBegin
        h.commitResults.modScr.setScrState.scrRelease.setF.modPnt.walksResume)
      h.commitResults.modScr.setScrState.scrRelease)

theorem State.Kept.applyTable (h : s.Kept t) {c : Nat} : s.Kept (t.applyTable c) :=
  .ite h.timSeam.rejudge.dramWrites h.timSeam.rejudge

/-! Operations of Pointing. -/

theorem State.Kept.rateTick (h : s.Kept t) {c u : Nat} : s.Kept (t.rateTick c u) :=
  .ite h (.ite h.setF.modPnt.rejudge h.modPnt)

theorem State.Kept.coldTick (h : s.Kept t) {c cyc : Nat} : s.Kept (t.coldTick c cyc) :=
  .ite h (.ite h.modPnt h.modPnt.setF.modPnt)

theorem State.Kept.tick (h : s.Kept t) {c u cyc : Nat} : s.Kept (t.tick c u cyc) :=
  .ite h.modChan.setOwed.rateTick.modPnt.coldTick.violate h.modChan.setOwed.rateTick.modPnt.coldTick

theorem State.Kept.execRefreshTick (h : s.Kept t) {chan unit cyc : Nat} :
    s.KeptIn (execRefreshTick chan unit cyc t) :=
  .next (h.live fun _ h => h.whenTrue fun _ h => h.tick)

theorem State.Kept.polled (h : s.Kept t) {c hot : Nat} : s.Kept (t.polled c hot) :=
  .ite (.ite h.modPnt.modPnt h.modPnt.modPnt) (.ite h.modPnt.modPnt h.modPnt.modPnt.pntErr)

theorem State.Kept.execMr4Poll (h : s.Kept t) {chan hot : Nat} {rivals : List KeyAsk} :
    s.KeptIn (execMr4Poll chan hot t rivals) :=
  .next (h.live fun _ h => h.whenTrue fun _ h => .ite h.polled (.ite h.askPath.freePath.polled h.askPath))

theorem State.Kept.execZqPeriodExpiry (h : s.Kept t) {c : Cmd} : s.KeptIn (execZqPeriodExpiry c t) :=
  .next (h.live fun _ h => h.issue fun _ h => .ite (h.onPath fun _ h => .some h.mpcDone) .none)

theorem State.Kept.execZqcalLatchDue (h : s.Kept t) {c : Cmd} : s.KeptIn (execZqcalLatchDue c t) := by
  unfold Machine.execZqcalLatchDue
  dsimp only
  refine .next (h.live fun _ h => h.issue fun _ h => ?_)
  split
  · exact .ite (h.onPath fun _ h => .some h.mpcDone) .none
  · exact .none

theorem State.Kept.modeWrite (h : s.Kept t) {c m : Nat} : s.Kept (t.modeWrite c m) := .ite h.setF h.setF.modPnt

theorem State.Kept.execRefreshModeWrite (h : s.Kept t) {chan mode : Nat} :
    s.KeptIn (execRefreshModeWrite chan mode t) :=
  .next (h.host fun _ h => h.whenTrue fun _ h => h.modeWrite)

theorem State.Kept.modeSwitch (h : s.Kept t) {c m t' : Nat} : s.Kept (t.modeSwitch c m t') :=
  h.setF.modChan.modPnt.rejudge

theorem State.Kept.execRefreshModeSwitch (h : s.Kept t) {chan : Nat} :
    s.KeptIn (execRefreshModeSwitch chan t) := by
  unfold Machine.execRefreshModeSwitch
  dsimp only
  refine .next (h.live fun _ h => ?_)
  split
  · exact h.whenTrue fun _ h => h.modeSwitch
  · exact h

theorem State.Kept.execTrackerHalving (h : s.Kept t) {chan : Nat} : s.KeptIn (execTrackerHalving chan t) :=
  .next (h.live fun _ h => h.whenTrue fun _ h => h.modPnt)

theorem State.Kept.execColdStartEnd (h : s.Kept t) {chan : Nat} : s.KeptIn (execColdStartEnd chan t) :=
  .next (h.live fun _ h => h.whenTrue fun _ h => h.setF.modPnt)

theorem State.Kept.srRequest (h : s.Kept t) {c : Nat} : s.Kept (t.srRequest c) := .ite h.setF.srBegin h.setF

theorem State.Kept.execSrRequest (h : s.Kept t) {chan : Nat} : s.KeptIn (execSrRequest chan t) :=
  .next (h.host fun _ h => h.whenTrue fun _ h => h.srRequest)

theorem State.Kept.execSrIdleExpiry (h : s.Kept t) {chan : Nat} : s.KeptIn (execSrIdleExpiry chan t) :=
  .next (h.live fun _ h => h.whenTrue fun _ h => h.srBegin)

theorem State.Kept.srExit (h : s.Kept t) {c : Nat} : s.Kept (t.srExit c) := .ite h.setF.exitBegin h.setF

theorem State.Kept.execSrExitRequest (h : s.Kept t) {chan : Nat} : s.KeptIn (execSrExitRequest chan t) :=
  .next (h.live fun _ h => h.whenTrue fun _ h => h.srExit)

theorem State.Kept.execSrExitDone (h : s.Kept t) {chan hot : Nat} {rivals : List KeyAsk} :
    s.KeptIn (execSrExitDone chan hot t rivals) := by
  refine .next (h.live fun _ h => ?_)
  split
  · exact h
  · exact h.whenTrue fun _ h => .ite h.pathBack (.startMeasure
        (.modPnt (.ite h.pathBack.modChan.ticksRestart.polled.freePath h.pathBack.modChan.ticksRestart.polled)))

/-! Operations of Quoin. -/

theorem State.Kept.flrStart (h : s.Kept t) : s.Kept t.flrStart :=
  .ite h (h.modQuo.imgAbort.drainStop.setF.modQuo.foldl fun _ _ h => .ite h.freePath.setBit h)

theorem State.Kept.flrEnd (h : s.Kept t) : s.Kept t.flrEnd := (h.foldl fun _ _ h => h.setF).modQuo

theorem State.Kept.cfgPut (h : s.Kept t) {n v : Nat} : s.Kept (t.cfgPut n v) :=
  .ite h.setCfg.masterOff h.setCfg.issueReads

theorem State.Kept.cfgWrite (h : s.Kept t) {n data mask : Nat} : s.Kept (t.cfgWrite n data mask) :=
  .ite h (.ite (.flrStart (.ite h h.cfgPut)) (.ite h h.cfgPut))

theorem State.Kept.execConfigWrite (h : s.Kept t) {off data bytes : Nat} :
    s.KeptIn (execConfigWrite off data bytes t) :=
  .next (h.live fun _ h => h.cfgWrite)

theorem State.Kept.execPowerStateChange (h : s.Kept t) {state : Nat} :
    s.KeptIn (execPowerStateChange state t) :=
  .next (h.live fun _ h => h.cfgWrite)

theorem State.Kept.execBusMasterDisable (h : s.Kept t) : s.KeptIn (execBusMasterDisable t) :=
  .next (h.live fun _ h => h.cfgWrite)

theorem State.Kept.badTlp (h : s.Kept t) {t' : InTlp} : s.Kept (t.badTlp t') := .ite h.quoErr (.ite h.urSent h)

theorem State.Kept.execUnsupportedRequest (h : s.Kept t) {t' : InTlp} :
    s.KeptIn (execUnsupportedRequest t' t) :=
  .next (h.live fun _ h => h.badTlp)

theorem State.Kept.execPoisonedWriteRx (h : s.Kept t) {same : Bool} :
    s.KeptIn (execPoisonedWriteRx t same) :=
  .next (h.live fun _ h => h.quoErr.containWith)

theorem State.Kept.tagFree (h : s.Kept t) {tag : Nat} : s.Kept (t.tagFree tag) := h.modQuo.releaseCheck

theorem State.Kept.cplErrs (h : s.Kept t) {poisoned malformed unexpected same : Bool} :
    s.Kept (t.cplErrs poisoned malformed unexpected same) := by
  unfold State.cplErrs
  extract_lets s1 s2 s3
  have h1 : s.Kept s1 := .ite h.quoErr h
  have h2 : s.Kept s2 := .ite h1.quoErr h1
  have h3 : s.Kept s3 := .ite h2.quoErr h2
  exact .ite h3.containWith (.ite h3.containWith (.ite h3.containWith h3))

theorem State.Kept.quoCompletion (h : s.Kept t) {tag : Nat} {poisoned malformed same : Bool} :
    s.Kept (t.quoCompletion tag poisoned malformed same) := by
  unfold State.quoCompletion
  split
  · exact .ite h.tagFree (.ite h.tagFree.cplErrs h.tagFree.issueReads)
  · exact .ite h.cplErrs h

theorem State.Kept.execQuoCompletionRx (h : s.Kept t) {tag : Nat} (good : Bool) {poisoned : Bool}
    {malformed same : Bool} :
    s.KeptIn (execQuoCompletionRx tag good poisoned malformed t same) :=
  .next (h.live fun _ h => h.quoCompletion)

theorem State.Kept.execQuoCplTimeout (h : s.Kept t) {tag : Nat} {same : Bool} :
    s.KeptIn (execQuoCplTimeout tag t same) := by
  refine .next (h.live fun _ h => ?_)
  split
  · exact h.whenTrue fun _ h => .ite h.tagFree h.tagFree.quoErr.containWith
  · exact h

theorem State.Kept.quoRelease (h : s.Kept t) : s.Kept t.quoRelease :=
  .ite h.urSent (.ite h.modQuo.releaseCheck h)

theorem State.Kept.execQuoRelease (h : s.Kept t) : s.KeptIn (execQuoRelease t) :=
  .next (h.live fun _ h => h.quoRelease)

theorem State.Kept.execFlrInitiate (h : s.Kept t) : s.KeptIn (execFlrInitiate t) :=
  .next (h.live fun _ h => h.flrStart)

theorem State.Kept.execFlrComplete (h : s.Kept t) : s.KeptIn (execFlrComplete t) :=
  .next (h.live fun _ h => h.whenTrue fun _ h => h.flrEnd)

theorem State.Kept.drainStart (h : s.Kept t) : s.Kept t.drainStart :=
  .ite h.setBit (.ite h (.ite h.modQuo h.modQuo))

theorem State.Kept.execDrainStart (h : s.Kept t) : s.KeptIn (execDrainStart t) :=
  .next (h.host fun _ h => h.drainStart)

theorem State.Kept.drainNext (h : s.Kept t) {d : Drain} {n : Nat} : s.Kept (t.drainNext d n) := by
  unfold State.drainNext
  exact h.modQuo

theorem State.Kept.drainTick (h : s.Kept t) : s.Kept t.drainTick := by
  unfold State.drainTick
  split
  · exact .ite h.drainNext h
  · exact h

theorem State.Kept.drainRecord (h : s.Kept t) {d : Drain} {status : Nat} : s.Kept (t.drainRecord d status) :=
  h.modQuo.raiseVec

theorem State.Kept.drainEnd (h : s.Kept t) {d : Drain} : s.Kept (t.drainEnd d) := h.drainNext.drainRecord

theorem State.Kept.drainAbort (h : s.Kept t) : s.Kept t.drainAbort := by
  unfold State.drainAbort
  split
  · exact .ite h.modQuo.drainRecord h.drainStop
  · exact h

theorem State.Kept.execDrainComplete (h : s.Kept t) : s.KeptIn (execDrainComplete t) := by
  refine .next (h.live fun _ h => ?_)
  split
  · exact h.whenTrue fun _ h => h.drainEnd
  · exact h

theorem State.Kept.exportOne (h : s.Kept t) {n : Nat} : s.Kept (t.exportOne n) := h.modQuo.setF.raiseVec

theorem State.Kept.execExportRecord (h : s.Kept t) : s.KeptIn (execExportRecord t) :=
  .next (h.live fun _ h => h.whenTrue fun _ h => h.exportOne)

theorem State.Kept.execMsixSend (h : s.Kept t) {vector : Nat} : s.KeptIn (execMsixSend vector t) :=
  .next (h.live fun _ h => h.whenTrue fun _ h => h.modQuo)

/-! Operations of Screed. -/

theorem State.Kept.geomWrite (h : s.Kept t) {c : Nat} {w : RegW} : s.Kept (t.geomWrite c w) :=
  h.writeGeom.walksOn.bootCheck

theorem State.Kept.execMapGeomWrite (h : s.Kept t) {chan : Nat} {w : RegW} :
    s.KeptIn (execMapGeomWrite chan w t) :=
  .next (h.host fun _ h => h.geomWrite)

theorem State.Kept.train (h : s.Kept t) {c : Nat} {rivals : List KeyAsk} : s.Kept (t.train c rivals) :=
  .ite h.startRun h.setBit

theorem State.Kept.execTrain (h : s.Kept t) {chan : Nat} {rivals : List KeyAsk} :
    s.KeptIn (execTrain chan t rivals) :=
  .next (h.host fun _ h => h.whenTrue fun _ h => h.train)

theorem State.Kept.retrain (h : s.Kept t) {c : Nat} : s.Kept (t.retrain c) := h.modScr

theorem State.Kept.execRetrain (h : s.Kept t) {chan : Nat} : s.KeptIn (execRetrain chan t) :=
  .next (h.host fun _ h => h.whenTrue fun _ h => h.retrain)

theorem State.Kept.storeValues (h : s.Kept t) {c : Nat} : s.Kept (t.storeValues c) := .ite h.handValues h

theorem State.Kept.execStore (h : s.Kept t) {chan : Nat} : s.KeptIn (execStore chan t) :=
  .next (h.host fun _ h => h.whenTrue fun _ h => h.storeValues)

theorem State.Kept.firstRun (h : s.Kept t) {c : Nat} {rivals : List KeyAsk} {upset : Nat} :
    s.Kept (t.firstRun c rivals upset) :=
  .ite h (.ite h.recordUpset.startRun h.startRun)

theorem State.Kept.trainGo (h : s.Kept t) {rivals : List KeyAsk} {stored : List (Nat × Nat)} :
    s.Kept (t.trainGo rivals stored) :=
  .ite h (((h.setF.foldl fun _ _ h => h.firstRun).masonsApply).bootCheck)

theorem State.Kept.execTrainGo (h : s.Kept t) {rivals : List KeyAsk} {stored : List (Nat × Nat)} :
    s.KeptIn (execTrainGo t rivals stored) :=
  .next (h.host fun _ h => h.trainGo)

theorem State.Kept.scrPath (h : s.Kept t) {c : Nat} {rivals : List KeyAsk} : s.Kept (t.scrPath c rivals).1 :=
  h.askPath

theorem State.Kept.resumeCmds (h : s.Kept t) {c sub : Nat} : s.Kept (t.resumeCmds c sub) :=
  h.screedCmds.measureCmds

theorem State.Kept.resumeCheck (h : s.Kept t) {c sub : Nat} {e : StepEnd} : s.Kept (t.resumeCheck c sub e) :=
  .ite h.resumeCmds.noteRank.attemptFail <|
  .ite h.resumeCmds.noteRank.modScr.trainDone h.resumeCmds.noteRank.modScr

theorem State.Kept.stepEnd (h : s.Kept t) {c sub : Nat} {e : StepEnd} : s.Kept (t.stepEnd c sub e) :=
  .ite h.resumeCheck h.rankEnd.stepJudge

theorem State.Kept.execTrainingStepEnd (h : s.Kept t) {chan : Nat} {e : StepEnd} {sub : Nat}
    {rivals : List KeyAsk} :
    s.KeptIn (execTrainingStepEnd chan e t sub rivals) :=
  .next (h.live fun _ h => h.whenTrue fun _ h => .ite h.scrPath.stepEnd h.scrPath)

theorem State.Kept.execStepTimeout (h : s.Kept t) {chan : Nat} {e : StepEnd} {sub : Nat} :
    s.KeptIn (execStepTimeout chan e t sub) :=
  .next
    (h.live fun _ h => h.whenTrue fun _ h => .ite (.ite h.attemptFail h.allOut) (.ite h.rankEnd.stepJudge h))

theorem State.Kept.retrainFrom (h : s.Kept t) {old : State} {c : Nat} : s.Kept (t.retrainFrom old c) :=
  .ite h h.modScr

theorem State.Kept.retrainTick (h : s.Kept t) {c temp : Nat} {rivals : List KeyAsk} :
    s.Kept (t.retrainTick c temp rivals) :=
  .ite h.modScr (.ite h.modScr.setF.modScr.startMeasure h.modScr.setF)

theorem State.Kept.execRetrainTick (h : s.Kept t) {chan temp : Nat} {rivals : List KeyAsk} :
    s.KeptIn (execRetrainTick chan temp t rivals) :=
  .next (h.live fun _ h => h.whenTrue fun _ h => h.retrainTick)

theorem State.Kept.measureOut (h : s.Kept t) {c : Nat} : s.Kept (t.measureOut c) :=
  .ite ((h.foldl fun _ _ h => h.noteRank).measureDone) (((h.foldl fun _ _ h => h.noteRank).measureNext).modScr)

theorem State.Kept.measureSeam (h : s.Kept t) {c : Nat} {e : StepEnd} : s.Kept (t.measureSeam c e) :=
  .ite h.measureOut <|
  .ite (.ite h.shutSub.shutSub.setF.measured.measured.applyTable.measureDone h) <|
  .ite (.ite h.shutSub.setF.measured.measureNext h) (.ite h.shutSub.measured.measureDone h)

theorem State.Kept.applyRun (h : s.Kept t) {c : Nat} : s.Kept (t.applyRun c) :=
  .ite (.scrRelease
        (.modScr (.commitResults (.applyTable (.shutSub (.shutSub (.ite h h.setStale.modScr.pause))))))) <|
  .ite h h.setStale.modScr.pause

theorem State.Kept.resumeSeam (h : s.Kept t) {c upset : Nat} : s.Kept (t.resumeSeam c upset) :=
  .ite h.recordUpset.attemptFail h.recordUpset.loseTrainingRows.modScr.dramWrites

theorem State.Kept.seamPoint (h : s.Kept t) {c : Nat} {e : StepEnd} : s.Kept (t.seamPoint c e) :=
  .ite h.trainDone (.ite h.resumeSeam (.ite h.measureSeam (.ite h.applyRun h)))

theorem State.Kept.execSeamPoint (h : s.Kept t) {chan : Nat} {e : StepEnd} {rivals : List KeyAsk} :
    s.KeptIn (execSeamPoint chan e t rivals) :=
  .next (h.live fun _ h => h.whenTrue fun _ h => .ite h.scrPath.seamPoint h.scrPath)

/-! Operations of Resets. -/

theorem State.Kept.clocksReturn (h : s.Kept t) : s.Kept t.clocksReturn :=
  (h.foldl fun _ _ h => .ite h.setPort.frame h).frame

theorem State.Kept.countTime (h : s.Kept t) {c : Nat} : s.Kept (t.countTime c) :=
  .ite (.count (.ite h.count h)) (.ite h.count h)

theorem State.Kept.rclkTick (h : s.Kept t) : s.Kept t.rclkTick := by
  unfold State.rclkTick
  extract_lets s1 s2 s3 s4
  have h2 : s.Kept s2 := h.frame.foldl fun _ _ h => h.countTime.patrolPause.srClock.pdCount
  have h3 : s.Kept s3 := .ite h2.count h2
  have h4 : s.Kept s4 := .ite h3.count h3
  exact .ite h h4.clocksReturn.rclkEdge

theorem State.Kept.execRclkCycle (h : s.Kept t) {upsets : List PlbUpset} :
    s.KeptIn (execRclkCycle t upsets) :=
  .next (h.live fun _ h => .ite h.rclkTick (((h.foldl fun _ _ h => h.plbUpset).drainTick).rclkTick))

theorem State.Kept.clockReport (h : s.Kept t) {sev kind domain : Nat} :
    s.Kept (t.clockReport sev kind domain) :=
  h.reportUnit

theorem State.Kept.clockFatal (h : s.Kept t) : s.Kept t.clockFatal := h.setFatal.modPln

theorem State.Kept.hclkFault (h : s.Kept t) {n : Nat} {stopped : Bool} : s.Kept (t.hclkFault n stopped) := by
  unfold State.hclkFault
  extract_lets _ s1 s2 _ s3
  have h2 : s.Kept s2 := .ite h.setPort h.setPort.frame.clockReport
  have h3 : s.Kept s3 := h2.setPort
  exact .ite h.setPort (.ite (.ite h3 h3.abandon) (.ite h3 h3.fencePort.settle))

theorem State.Kept.pclkFault (h : s.Kept t) {p : Nat} : s.Kept (t.pclkFault p) :=
  .ite h h.frame.clockReport.linkLow

theorem State.Kept.clockFault (h : s.Kept t) {d : Nat} {stopped : Bool} : s.Kept (t.clockFault d stopped) :=
  .ite (.ite h h.frame.clockReport.clockFatal) (.ite h.hclkFault (.ite h.pclkFault h))

theorem State.Kept.execClockFault (h : s.Kept t) {domain : Nat} {stopped : Bool} :
    s.KeptIn (execClockFault domain t stopped) :=
  .next (h.live fun _ h => h.clockFault)

theorem State.Kept.fixWritten (h : s.Kept t) {c : Nat} : s.Kept (t.fixWritten c) := h.foldl fun _ _ h => h.fix

theorem State.Kept.resetPlain (h : s.Kept t) {c : Nat} : s.Kept (t.resetPlain c) := by
  unfold State.resetPlain
  exact .modChan (.ite (.modPnt (.setF (.setScrState (.ite h.chanLogic.freePath h.chanLogic)))) h.chanLogic)

theorem State.Kept.pllLoss (h : s.Kept t) {c : Nat} : s.Kept (t.pllLoss c) := by
  unfold State.pllLoss
  extract_lets s1 s2 s3 s4
  have h3 : s.Kept s3 := h.scrErr.abortRun.modChan.setDram (Tbl.sorted_keep _ _)
  have h4 : s.Kept s4 := h3.fixWritten.fixAll
  exact (h4.resetPlain.ite h4).settle.bootCheck

theorem State.Kept.execPllLossOfLock (h : s.Kept t) {chan : Nat} : s.KeptIn (execPllLossOfLock chan t) :=
  .next (h.live fun _ h => h.whenTrue fun _ h => h.pllLoss)

theorem State.Kept.rclkLoss (h : s.Kept t) : s.Kept t.rclkLoss :=
  .ite h (h.frame.clockReport.clockFatal.rowCut.modPln.foldl fun _ _ h => .ite h.pllLoss h)

theorem State.Kept.execRclkLoss (h : s.Kept t) : s.KeptIn (execRclkLoss t) :=
  .next (h.live fun _ h => h.rclkLoss)

theorem State.coldAssert_tablesWf (h : s.tablesWf = true) : s.coldAssert.tablesWf = true := by
  obtain ⟨-, -, -, -, hp⟩ := State.tablesWf_iff.mp ((State.Kept.refl (s := s)).rowCut.tables h)
  exact State.tablesWf_iff.mpr ⟨rfl, rfl, rfl, rfl, hp⟩

theorem State.Kept.coldRelease (h : s.Kept t) {x : Straps} {upset : Nat} {lost : List Nat} :
    s.Kept (t.coldRelease x upset lost) :=
  (h.frame.foldl fun _ _ h => h.setPort).firstMeasure.setF.plinthStart

theorem State.Kept.execColdResetRelease (h : s.Kept t) {straps : Straps} {corr : Bool} {lost : List Nat} :
    s.KeptIn (execColdResetRelease straps t corr lost) :=
  .next (h.whenTrue fun _ h => h.coldRelease)

theorem State.Kept.srForce (h : s.Kept t) {c why : Nat} : s.Kept (t.srForce c why) :=
  .ite (.modPnt (.ite h.setHolder h)) <|
  .ite (.modPnt (.setF (.ite h.setHolder h))) (.srBegin (.ite h.setHolder h))

theorem State.Kept.warmRequest (h : s.Kept t) : s.Kept t.warmRequest :=
  ((h.frame.foldl fun _ _ h => h.abortRun.endReplay.modChan).foldl fun _ _ h =>
    h.abortTags.modMason).modBut.drainAbort

theorem State.Kept.execWarmResetRequest (h : s.Kept t) : s.KeptIn (execWarmResetRequest t) :=
  .next (h.live fun _ h => h.whenTrue fun _ h => h.warmRequest)

theorem State.Kept.remoteOut (h : s.Kept t) : s.Kept t.remoteOut := h.modBnd.fixAll

theorem State.Kept.answerAll (h : s.Kept t) : s.Kept t.answerAll := h.fixAll.fixAll.fixAll

theorem State.Kept.freeEntries (h : s.Kept t) : s.Kept t.freeEntries := (h.foldl fun _ _ h => h.tagDone).frame

theorem State.Kept.warmDrain (h : s.Kept t) : s.Kept t.warmDrain :=
  h.remoteOut.answerAll.freeEntries.frame.foldl fun _ _ h => .ite h.srForce h

theorem State.Kept.execWarmResetDrainDone (h : s.Kept t) : s.KeptIn (execWarmResetDrainDone t) :=
  .next (h.live fun _ h => h.whenTrue fun _ h => h.warmDrain)

theorem State.Kept.warmRegs (h : s.Kept t) : s.Kept t.warmRegs :=
  h.setRegs (Tbl.sorted_keep _ _) (Tbl.sorted_keep _ _) (Tbl.sorted_del _ _)

theorem State.Kept.warmChan (h : s.Kept t) {c : Nat} : s.Kept (t.warmChan c) := by
  unfold State.warmChan
  exact .modChan (.ite h.chanLogic h.chanLogic.loseHold.freePath)

theorem State.Kept.bondEmptied (h : s.Kept t) : s.Kept t.bondEmptied :=
  (h.foldl fun _ _ h => h.foldl fun _ _ h => h.creditBack).foldl fun _ _ h => h.foldl fun _ _ h => h.txLeave

theorem State.Kept.warmBond (h : s.Kept t) {nonce : Nat} : s.Kept (t.warmBond nonce) := by
  unfold State.warmBond
  exact h.bondEmptied.modBnd

theorem State.Kept.warmUnits (h : s.Kept t) {nonce : Nat} : s.Kept (t.warmUnits nonce) := by
  unfold State.warmUnits
  exact ((((((((((((h.foldl fun _ _ h => h.tagDone).frame).warmRegs).frame).foldl fun _ _ h => h.warmChan).foldl
                  fun _ _ h => h.modMason).frame).hodApplyAll).warmBond).lfsrReloadAll).modPlb).modDst).dstModeFrom

theorem State.Kept.warmApply (h : s.Kept t) {nonce : Nat} {low : Bool} {vdd mv : Nat} :
    s.Kept (t.warmApply nonce low vdd mv) :=
  h.warmUnits.firstMeasure.frame

theorem State.Kept.execWarmResetApplied (h : s.Kept t) {nonce : Nat} {low : Bool} {vdd mv : Nat} :
    s.KeptIn (execWarmResetApplied nonce t low vdd mv) :=
  .next (h.live fun _ h => h.whenTrue fun _ h => h.warmApply)

theorem State.Kept.warmExit (h : s.Kept t) {c : Nat} : s.Kept (t.warmExit c) := .ite h.exitBegin h

theorem State.Kept.warmRelease (h : s.Kept t) : s.Kept t.warmRelease :=
  .bootCheck (.ite (((h.frame.setF.foldl fun _ _ h => h.warmExit).masonsApply.modBut).passStart)
      ((h.frame.setF.foldl fun _ _ h => h.warmExit).masonsApply.modBut))

theorem State.Kept.execWarmResetRelease (h : s.Kept t) : s.KeptIn (execWarmResetRelease t) :=
  .next (h.live fun _ h => h.whenTrue fun _ h => h.warmRelease)

theorem State.Kept.chanReset (h : s.Kept t) {c : Nat} : s.Kept (t.chanReset c) := by
  unfold State.chanReset
  exact .bootCheck (.settle (.ite
        (.ite h.fixAll.abortRun.endReplay.modChan.srForce.resetExit h.fixAll.abortRun.endReplay.modChan.srForce)
        h.fixAll.abortRun.endReplay.resetPlain))

theorem State.Kept.chanResets (h : s.Kept t) {mask : Nat} : s.Kept (t.chanResets mask) :=
  h.foldl fun _ _ h => .ite h.chanReset h

theorem State.Kept.execChannelReset (h : s.Kept t) {mask : Nat} : s.KeptIn (execChannelReset mask t) :=
  .next (h.host fun _ h => h.chanResets)

theorem State.Kept.execChannelResetDone (h : s.Kept t) {chan : Nat} :
    s.KeptIn (execChannelResetDone chan t) :=
  .next (h.live fun _ h => h.whenTrue fun _ h => h.modChan.settle.bootCheck)

/-! Operations of Registers. -/

theorem State.Kept.writeField (h : s.Kept t) {f : Field} {i j k : Nat} {w : RegW} :
    s.Kept (t.writeField f i j k w) := by
  refine .ite h ?_
  split
  · exact h
  · exact h
  · exact h
  · exact h.setF
  · exact h.setF
  · exact h.setF
  · exact h.setF
  · exact .ite h.setF h
  · exact h.setF
  · exact .ite h.setX h

theorem State.Kept.writePlain (h : s.Kept t) {fs : List Field} {i j k : Nat} {w : RegW} :
    s.Kept (t.writePlain fs i j k w) :=
  h.foldl fun _ _ h => h.writeField

theorem State.Kept.onOne (h : s.Kept t) {w : RegW} {f : Field} {g : State → State}
    (hg : ∀ u, s.Kept u → s.Kept (g u)) :
    s.Kept (t.onOne w f g) :=
  h.whenTrue fun _ h => hg _ h

theorem State.Kept.onCover (h : s.Kept t) {w : RegW} {f : Field} {old : Nat} {g : State → Nat → State}
    (hg : ∀ u x1, s.Kept u → s.Kept (g u x1)) :
    s.Kept (t.onCover w f old g) :=
  .ite (hg _ _ h) h

theorem State.Kept.creditWrite (h : s.Kept t) {n : Nat} {w : RegW} : s.Kept (t.creditWrite n w) :=
  .ite h ((h.writePlain.onCover fun _ _ h => h.setX).onCover fun _ _ h => h.setX)

theorem State.Kept.rsvWrite (h : s.Kept t) {c : Nat} {w : RegW} : s.Kept (t.rsvWrite c w) :=
  h.foldl fun _ _ h => .ite (h.onCover fun _ _ h => h.setX) h

theorem State.Kept.writePorts (h : s.Kept t) {r : RegAt} {fs : List Field} {i : Nat} {w : RegW} :
    s.KeptOpt (t.writePorts r fs i w) :=
  .ite (.some (((h.onCover fun _ _ h => h.portOpen).onOne fun _ h => h.portFence).onOne fun _ h => h.portUnfence)) <|
  .ite (.some h.creditWrite) <|
  .ite (.some (h.writePlain.onOne fun _ h => h.peakClr)) <|
  .ite (.some h.rsvWrite) <|
  .ite (.some h.writeRgnBound) <|
  .ite (.some h.writeRgnBound) <|
  .ite (.some h.writeRgnCtl.walksOn) <|
  .ite (.some h.geomWrite) .none

theorem State.Kept.pntCtrlWrite (h : s.Kept t) {c : Nat} {w : RegW} : s.Kept (t.pntCtrlWrite c w) := by
  unfold State.pntCtrlWrite
  exact (h.writePlain.onCover fun _ _ h => h.modeWrite).onCover fun _ _ h => .ite h.srRequest h.srExit

theorem State.Kept.spareWrite (h : s.Kept t) {c : Nat} {fs : List Field} {w : RegW} :
    s.Kept (t.spareWrite c fs w) :=
  .ite h.writePlain.modAsh.spareNext h.writePlain

theorem State.Kept.writeChan (h : s.Kept t) {r : RegAt} {fs : List Field} {i j k : Nat} {w : RegW} :
    s.KeptOpt (t.writeChan r fs i j k w) :=
  .ite (.some h.writePlain.weightsFrom) <|
  .ite (.some h.modChan) <|
  .ite (.some (.ite h h.writePlain.weightsFrom)) <|
  .ite (.some (.ite h.writePlain.setF.setF h.writePlain)) <|
  .ite (.some h.gauRate) <|
  .ite (.some h.gauBurst) <|
  .ite (.some ((h.onOne fun _ h => h.gauRefill).onOne fun _ h => h.gauRefillAll)) <|
  .ite (.some (h.writePlain.onOne fun _ h => h.setF)) <|
  .ite (.some (h.writePlain.onOne fun _ h => h.timApply)) <|
  .ite (.some h.pntCtrlWrite) <|
  .ite (.some h.writePlain.raaCheck) <|
  .ite (.some (h.writePlain.onOne fun _ h => h.initStart)) <|
  .ite (.some h.spareWrite) <|
  .ite (.some h.threshWrite) <|
  .ite (.some h.markWrite) <|
  .ite (.some h.writePlain.retrainFrom) <|
  .ite (.some (((h.onOne fun _ h => h.train).onOne fun _ h => h.retrain).onOne fun _ h => h.storeValues)) .none

theorem State.Kept.hostReqWrite (h : s.Kept t) {w : RegW} : s.Kept (t.hostReqWrite w) := by
  refine .ite h ?_
  split
  · exact h.hostLock
  · exact h.hostUnlock
  · exact h.hostOther

theorem State.Kept.writeEngines (h : s.Kept t) {r : RegAt} {fs : List Field} {i j k : Nat} {w : RegW} :
    s.KeptOpt (t.writeEngines r fs i j k w) :=
  .ite (.some h.plnCommand) <|
  .ite (.some h.writePlain.masonFollow) <|
  .ite (.some (h.onOne fun _ h => h.masonReset)) <|
  .ite (.some (h.onCover fun _ _ h => h.masProfileWrite)) <|
  .ite (.some (h.onOne fun _ h => h.imgStart)) <|
  .ite (.some h.hodCfgWrite) <|
  .ite (.some h.hodCfgWrite) <|
  .ite (.some h.writePlain.hodApplyAll) <|
  .ite (.some (h.onOne fun _ h => h.clearTorn)) <|
  .ite (.some h.hostReqWrite) <|
  .ite (.some ((h.writePlain.onOne fun _ h => h.mntReq).onOne fun _ h => h.mntRelease)) .none

theorem State.Kept.srcWrite (h : s.Kept t) {fs : List Field} {n : Nat} {w : RegW} :
    s.Kept (t.srcWrite fs n w) :=
  .onOne (.ite h.writePlain.setF h.writePlain) fun _ h => h.forceReport

theorem State.Kept.cntWrite (h : s.Kept t) {n : Nat} {w : RegW} : s.Kept (t.cntWrite n w) := h.modPlb

theorem State.Kept.cntCtlWrite (h : s.Kept t) {fs : List Field} {i j n : Nat} {w : RegW} :
    s.Kept (t.cntCtlWrite fs i j n w) :=
  h.cntPin.writePlain.onOne fun _ h => h.modPlb

theorem State.Kept.plbCtrlWrite (h : s.Kept t) {w : RegW} : s.Kept (t.plbCtrlWrite w) :=
  (h.writePlain.dstModeFrom.onCover fun _ _ h => h.plbFreeze).onOne fun _ h => h.plbClear

theorem State.Kept.dstCmdWrite (h : s.Kept t) {w : RegW} : s.Kept (t.dstCmdWrite w) :=
  (((h.onOne fun _ h => h.extClear).onOne fun _ h => h.histClear).onOne fun _ h => h.logClear).onOne fun _ h =>
    h.trigger

theorem State.Kept.writeFaults (h : s.Kept t) {r : RegAt} {fs : List Field} {i j k : Nat} {w : RegW} :
    s.KeptOpt (t.writeFaults r fs i j k w) :=
  .ite (.some h.writePlain.resync) <|
  .ite (.some h.routeWrite) <|
  .ite (.some (.ite h.writePlain.modBut h.writePlain)) <|
  .ite (.some (h.onOne fun _ h => h.whenTrue fun _ h => h.butAck)) <|
  .ite (.some h.srcWrite) <|
  .ite (.some h.plbCtrlWrite) <|
  .ite (.some h.cntWrite) <|
  .ite (.some h.cntWrite) <|
  .ite (.some h.cntCtlWrite) <|
  .ite (.some h.cntCtlWrite) <|
  .ite (.some h.tagCfgWrite) <|
  .ite (.some h.tagRdWrite) <|
  .ite (.some ((h.onCover fun _ _ h => h.dstModeWrite).onCover fun _ _ h => h.dstFreezeWrite)) <|
  .ite (.some h.dstCmdWrite) <|
  .ite (.some h.histCfgWrite) <|
  .ite (.some h.dstTrigWrite) .none

theorem State.Kept.freezeFn (h : s.Kept t) {fn : Nat} : s.Kept (t.freezeFn fn) :=
  h.setRegs id id fun hs =>
    Tbl.sorted_foldl hs fun _ _ hs => Tbl.sorted_foldl hs fun _ _ hs => Tbl.sorted_set _ _ _ _ hs

theorem State.Kept.thawFn (h : s.Kept t) {fn : Nat} : s.Kept (t.thawFn fn) :=
  h.setRegs id (Tbl.sorted_keep _ _) (Tbl.sorted_keep _ _)

theorem State.Kept.expertEffects (h : s.Kept t) {old : State} {fn : Nat} {on : Bool} :
    s.Kept (t.expertEffects old fn on) := by
  unfold State.expertEffects
  split
  · exact h.foldl fun _ _ h => .cutDeficits (.ite h h.timProfile)
  · exact .ite h (h.foldl fun _ _ h => h.modChan)
  · exact h.foldl fun _ _ h => h.raaCheck
  · exact h.foldl fun _ _ h => h.retrainFrom
  · exact h.masonsAnew
  · exact h.hodApplyAll
  · exact .ite h h.routesDue.resync
  · exact .ite h h.modBut
  · exact h.modPlb.modDst.dstModeFrom
  · exact h

theorem State.Kept.expertFlip (h : s.Kept t) {fn : Nat} : s.Kept (t.expertFlip fn) :=
  .expertEffects (.setF (.ite (.freezeFn (.ite h.lfsrPin h)) (.thawFn (.ite h.lfsrPin h))))

theorem State.Kept.expertWrite (h : s.Kept t) {w : RegW} : s.Kept (t.expertWrite w) :=
  h.foldl fun _ _ h => .ite h h.expertFlip

theorem State.Kept.execExpertEnWrite (h : s.Kept t) {w : RegW} : s.KeptIn (execExpertEnWrite w t) :=
  .next (h.host fun _ h => h.expertWrite)

theorem State.Kept.writeBlk (h : s.Kept t) {r : RegAt} {fs : List Field} {i j k : Nat} {w : RegW} :
    s.KeptOpt (t.writeBlk r fs i j k w) :=
  .ite (.some (h.writePlain.onOne fun _ h => h.drainStart)) <|
  .ite (.some (.ite h h.writePlain)) <|
  .ite (.some (h.onOne fun _ h => h.trainGo)) <|
  .ite (.some h.chanResets) <|
  .ite (.some h.expertWrite) .none

theorem State.Kept.msixWrite (h : s.Kept t) {o : Nat} {w : RegW} : s.Kept (t.msixWrite o w) :=
  .ite (.modQuo (.ite h.modQuo h)) (.ite h.modQuo h)

theorem State.Kept.writeReg (h : s.Kept t) {r : RegAt} {fs : List Field} {i j k : Nat} {w : RegW} :
    s.Kept (t.writeReg r fs i j k w) :=
  h.writePlain.getD
    ((((h.writePorts.orElse h.writeChan).orElse h.writeEngines).orElse h.writeFaults).orElse h.writeBlk)

theorem State.Kept.writeOffset (h : s.Kept t) {o : Nat} {w : RegW} : s.Kept (t.writeOffset o w) := by
  refine .ite h.masStoreWrite (.ite (.ite h.urSent h) (.ite h.msixWrite ?_))
  split
  · exact .ite h.writeReg h
  · exact h

theorem State.Kept.regWrite (h : s.Kept t) {off : Nat} {w : RegW} : s.Kept (t.regWrite off w) :=
  .ite h.quoRelease (h.hostWrite fun _ h => h.writeOffset)

theorem State.Kept.debugAccess (h : s.Kept t) {m : Nat} {a : DbgAccess} : s.Kept (t.debugAccess m a) := by
  unfold State.debugAccess
  split
  · exact h.frame
  · exact .elim h.modMason fun _ => h.writeOffset
  · exact h.frame
  · exact h.modMason
  · exact h.frame
  · exact h.modMason
  · exact h.frame
  · exact h.frame

theorem State.Kept.execDebugAccess (h : s.Kept t) {m : Nat} {a : DbgAccess} :
    s.KeptIn (execDebugAccess m a t) :=
  .next (h.live fun _ h => h.whenTrue fun _ h => h.debugAccess)

theorem State.Kept.execRegisterWrite (h : s.Kept t) {off : Nat} {w : RegW} :
    s.KeptIn (execRegisterWrite off w t) :=
  .next (h.live fun _ h => h.regWrite)

/-- No command but COLD_RESET_ASSERT takes back what must last. -/
theorem exec_keptIn (h : s.Kept t) {c : Instr} (hc : c ≠ .coldResetAssert) : s.KeptIn (exec c t) := by
  cases c with
  | coldResetAssert => exact absurd rfl hc
  | coldResetRelease => exact h.execColdResetRelease
  | warmResetRequest => exact h.execWarmResetRequest
  | warmResetDrainDone => exact h.execWarmResetDrainDone
  | warmResetApplied => exact h.execWarmResetApplied
  | warmResetRelease => exact h.execWarmResetRelease
  | rclkLoss => exact h.execRclkLoss
  | clockFault => exact h.execClockFault
  | pllLossOfLock => exact h.execPllLossOfLock
  | alertNPulse => exact h.execAlertNPulse
  | replay => exact h.execReplay
  | rdLine => exact h.execRdLine
  | rdPart => exact h.execRdPart
  | wrLine => exact h.execWrLine
  | wrPart => exact h.execWrPart
  | wrZero => exact h.execWrZero
  | atAdd => exact h.execAtAdd
  | atOr => exact h.execAtOr
  | atAnd => exact h.execAtAnd
  | atXor => exact h.execAtXor
  | atSwap => exact h.execAtSwap
  | atCas => exact h.execAtCas
  | atMin => exact h.execAtMin
  | atMax => exact h.execAtMax
  | atUmin => exact h.execAtUmin
  | atUmax => exact h.execAtUmax
  | setad => exact h.execSetad
  | flush => exact h.execFlush
  | reservedOpcode => exact h.execReservedOpcode
  | writeDataSlot => exact h.execWriteDataSlot
  | wdTimeout => exact h.execWdTimeout
  | completionAccepted => exact h.execCompletionAccepted
  | cplStall => exact h.execCplStall
  | portOpen => exact h.execPortOpen
  | portDrain => exact h.execPortDrain
  | portFence => exact h.execPortFence
  | portUnfence => exact h.execPortUnfence
  | mortarAdmit => exact h.execMortarAdmit
  | setterEnqueue => exact h.execSetterEnqueue
  | flushComplete => exact h.execFlushComplete
  | handshakeStall => exact h.execHandshakeStall
  | derateSet => exact h.execDerateSet
  | derateClear => exact h.execDerateClear
  | peakClr => exact h.execPeakClr
  | mapRgnCtlWrite => exact h.execMapRgnCtlWrite
  | mapGeomWrite => exact h.execMapGeomWrite
  | refillTick => exact h.execRefillTick
  | gauRefill => exact h.execGauRefill
  | gauRefillAll => exact h.execGauRefillAll
  | gauRateWrite => exact h.execGauRateWrite
  | gauBurstWrite => exact h.execGauBurstWrite
  | queueSample => exact h.execQueueSample
  | phaseChange => exact h.execPhaseChange
  | act => exact h.execAct
  | rd => exact h.execRd
  | rda => exact h.execRda
  | wr => exact h.execWr
  | wra => exact h.execWra
  | pre => exact h.execPre
  | presb => exact h.execPresb
  | preab => exact h.execPreab
  | refab => exact h.execRefab
  | refsb => exact h.execRefsb
  | rfmab => exact h.execRfmab
  | rfmsb => exact h.execRfmsb
  | mrr _ addr data => exact h.execMrr addr data
  | mrw => exact h.execMrw
  | mpc _ addr _ => exact h.execMpc addr
  | sre => exact h.execSre
  | srx => exact h.execSrx
  | pde => exact h.execPde
  | pdx => exact h.execPdx
  | idleCloseExpiry => exact h.execIdleCloseExpiry
  | tableCompare => exact h.execTableCompare
  | timApply => exact h.execTimApply
  | refreshTick => exact h.execRefreshTick
  | mr4Poll => exact h.execMr4Poll
  | zqPeriodExpiry => exact h.execZqPeriodExpiry
  | zqcalLatchDue => exact h.execZqcalLatchDue
  | refreshModeWrite => exact h.execRefreshModeWrite
  | refreshModeSwitch => exact h.execRefreshModeSwitch
  | trackerHalving => exact h.execTrackerHalving
  | coldStartEnd => exact h.execColdStartEnd
  | srRequest => exact h.execSrRequest
  | srIdleExpiry => exact h.execSrIdleExpiry
  | srExitRequest => exact h.execSrExitRequest
  | srExitDone => exact h.execSrExitDone
  | burstDecode => exact h.execBurstDecode
  | sparingDone => exact h.execSparingDone
  | patrolLineDue => exact h.execPatrolLineDue
  | patrolLate => exact h.execPatrolLate
  | counterLeak => exact h.execCounterLeak
  | ashInitStart => exact h.execAshInitStart
  | ashInitDone => exact h.execAshInitDone
  | ashMarkWrite => exact h.execAshMarkWrite
  | ashThreshWrite => exact h.execAshThreshWrite
  | train => exact h.execTrain
  | retrain => exact h.execRetrain
  | store => exact h.execStore
  | trainGo => exact h.execTrainGo
  | trainingStepEnd => exact h.execTrainingStepEnd
  | stepTimeout => exact h.execStepTimeout
  | retrainTick => exact h.execRetrainTick
  | seamPoint => exact h.execSeamPoint
  | plinthStore => exact h.execPlinthStore
  | plinthRowWriteDone => exact h.execPlinthRowWriteDone
  | rawRead => exact h.execRawRead
  | rawWrite => exact h.execRawWrite
  | readRec => exact h.execReadRec
  | add => exact h.execAdd
  | sub => exact h.execSub
  | and => exact h.execAnd
  | or => exact h.execOr
  | xor => exact h.execXor
  | sll => exact h.execSll
  | srl => exact h.execSrl
  | sra => exact h.execSra
  | slt => exact h.execSlt
  | sltu => exact h.execSltu
  | min => exact h.execMin
  | max => exact h.execMax
  | minu => exact h.execMinu
  | maxu => exact h.execMaxu
  | mul => exact h.execMul
  | mulhu => exact h.execMulhu
  | clz => exact h.execClz
  | popc => exact h.execPopc
  | bswap => exact h.execBswap
  | addi => exact h.execAddi
  | andi => exact h.execAndi
  | ori => exact h.execOri
  | xori => exact h.execXori
  | slti => exact h.execSlti
  | sltiu => exact h.execSltiu
  | slli => exact h.execSlli
  | srli => exact h.execSrli
  | srai => exact h.execSrai
  | shi16 => exact h.execShi16
  | beq => exact h.execBeq
  | bne => exact h.execBne
  | blt => exact h.execBlt
  | bge => exact h.execBge
  | bltu => exact h.execBltu
  | bgeu => exact h.execBgeu
  | jal => exact h.execJal
  | jalr => exact h.execJalr
  | lds8 => exact h.execLds8
  | lds4 => exact h.execLds4
  | lds2 => exact h.execLds2
  | lds1 => exact h.execLds1
  | sts8 => exact h.execSts8
  | sts4 => exact h.execSts4
  | sts2 => exact h.execSts2
  | sts1 => exact h.execSts1
  | lls => exact h.execLls
  | sls => exact h.execSls
  | lget => exact h.execLget
  | lput => exact h.execLput
  | lmov => exact h.execLmov
  | lclr => exact h.execLclr
  | lcrc => exact h.execLcrc
  | lsum32 => exact h.execLsum32
  | lpsn => exact h.execLpsn
  | ld => exact h.execLd
  | st => exact h.execSt
  | ll => exact h.execLl
  | sl => exact h.execSl
  | slm => exact h.execSlm
  | amoAdd => exact h.execAmoAdd
  | amoOr => exact h.execAmoOr
  | amoAnd => exact h.execAmoAnd
  | amoXor => exact h.execAmoXor
  | amoSwap => exact h.execAmoSwap
  | amoCas => exact h.execAmoCas
  | amoMin => exact h.execAmoMin
  | amoMax => exact h.execAmoMax
  | amoUmin => exact h.execAmoUmin
  | amoUmax => exact h.execAmoUmax
  | amoSetad => exact h.execAmoSetad
  | wld => exact h.execWld
  | runZero => exact h.execRunZero
  | runFill => exact h.execRunFill
  | runCopy => exact h.execRunCopy
  | hpushLo => exact h.execHpushLo
  | hpushHi => exact h.execHpushHi
  | hpopLo => exact h.execHpopLo
  | hpopHi => exact h.execHpopHi
  | hcount => exact h.execHcount
  | lock => exact h.execLock
  | unlock => exact h.execUnlock
  | fence => exact h.execFence
  | eret => exact h.execEret
  | tend => exact h.execTend
  | trap => exact h.execTrap
  | wait => exact h.execWait
  | waitExpiry => exact h.execWaitExpiry
  | halt => exact h.execHalt
  | csrr => exact h.execCsrr
  | csrw => exact h.execCsrw
  | tplWrite => exact h.execTplWrite
  | tplInv => exact h.execTplInv
  | tplInvall => exact h.execTplInvall
  | tplSync => exact h.execTplSync
  | illegalInstruction => exact h.execIllegalInstruction
  | masonResultArrival => exact h.execMasonResultArrival
  | masRunWrite => exact h.execMasRunWrite
  | masGlobalProfileWrite => exact h.execMasGlobalProfileWrite
  | masonReset => exact h.execMasonReset
  | imgCheck => exact h.execImgCheck
  | imgLoad => exact h.execImgLoad
  | imgLoadStore => exact h.execImgLoadStore
  | masonStoreWrite => exact h.execMasonStoreWrite
  | debugHalt => exact h.execDebugHalt
  | debugStep => exact h.execDebugStep
  | debugResume => exact h.execDebugResume
  | debugAccess => exact h.execDebugAccess
  | hodItemPush => exact h.execHodItemPush
  | hodItemPop => exact h.execHodItemPop
  | spillComplete => exact h.execSpillComplete
  | hodCfgWrite => exact h.execHodCfgWrite
  | keyHostLock => exact h.execKeyHostLock
  | keyHostUnlock => exact h.execKeyHostUnlock
  | clearTorn => exact h.execClearTorn
  | lockWatchdog => exact h.execLockWatchdog
  | mntWatchdog => exact h.execMntWatchdog
  | mntReq => exact h.execMntReq
  | mntRelease => exact h.execMntRelease
  | keyMntMrr _ _ _ addr => exact h.execKeyMntMrr addr
  | keyMntMrw _ _ _ addr data => exact h.execKeyMntMrw addr data
  | keyMntMpc _ _ _ _ data => exact h.execKeyMntMpc data
  | linkUp => exact h.execLinkUp
  | linkDown => exact h.execLinkDown
  | txCreditReturn => exact h.execTxCreditReturn
  | bondRdLine => exact h.execBondRdLine
  | bondRdPart => exact h.execBondRdPart
  | bondWrZero => exact h.execBondWrZero
  | bondWrLine => exact h.execBondWrLine
  | bondWrPart => exact h.execBondWrPart
  | bondAtAdd => exact h.execBondAtAdd
  | bondAtOr => exact h.execBondAtOr
  | bondAtAnd => exact h.execBondAtAnd
  | bondAtXor => exact h.execBondAtXor
  | bondAtSwap => exact h.execBondAtSwap
  | bondAtCas => exact h.execBondAtCas
  | bondAtMin => exact h.execBondAtMin
  | bondAtMax => exact h.execBondAtMax
  | bondAtUmin => exact h.execBondAtUmin
  | bondAtUmax => exact h.execBondAtUmax
  | bondSetad => exact h.execBondSetad
  | sync => exact h.execSync
  | cpl => exact h.execCpl
  | cplData => exact h.execCplData
  | hello => exact h.execHello
  | lsa => exact h.execLsa
  | malformedMessage => exact h.execMalformedMessage
  | helloTimer => exact h.execHelloTimer
  | neighbourTimeout => exact h.execNeighbourTimeout
  | lsaOriginate => exact h.execLsaOriginate
  | lsaExpiry => exact h.execLsaExpiry
  | routeCompute => exact h.execRouteCompute
  | remoteRequestSend => exact h.execRemoteRequestSend
  | syncSend => exact h.execSyncSend
  | bondTimeout => exact h.execBondTimeout
  | tagQuarantineExpiry => exact h.execTagQuarantineExpiry
  | reportRead => exact h.execReportRead
  | wireFault => exact h.execWireFault
  | graceExpiry => exact h.execGraceExpiry
  | butAck => exact h.execButAck
  | force => exact h.execForce
  | captureRelease => exact h.execCaptureRelease
  | sweepStart => exact h.execSweepStart
  | sweepPassEnd => exact h.execSweepPassEnd
  | plbFreeze => exact h.execPlbFreeze
  | plbUnfreeze => exact h.execPlbUnfreeze
  | plbClear => exact h.execPlbClear
  | plbTagCfgWrite => exact h.execPlbTagCfgWrite
  | plbTagRdWrite => exact h.execPlbTagRdWrite
  | tagRecordWrite => exact h.execTagRecordWrite
  | extClear => exact h.execExtClear
  | histClear => exact h.execHistClear
  | logClear => exact h.execLogClear
  | snap => exact h.execSnap
  | snapshotPeriod => exact h.execSnapshotPeriod
  | snapshotTaken => exact h.execSnapshotTaken
  | dstModeWrite => exact h.execDstModeWrite
  | dstFreezeWrite => exact h.execDstFreezeWrite
  | dstHistCfgWrite => exact h.execDstHistCfgWrite
  | dstWindowRead => exact h.execDstWindowRead
  | configWrite => exact h.execConfigWrite
  | powerStateChange => exact h.execPowerStateChange
  | busMasterDisable => exact h.execBusMasterDisable
  | unsupportedRequest => exact h.execUnsupportedRequest
  | quoCompletionRx _ good => exact h.execQuoCompletionRx good
  | quoCplTimeout => exact h.execQuoCplTimeout
  | poisonedWriteRx => exact h.execPoisonedWriteRx
  | quoRelease => exact h.execQuoRelease
  | flrInitiate => exact h.execFlrInitiate
  | flrComplete => exact h.execFlrComplete
  | drainStart => exact h.execDrainStart
  | drainComplete => exact h.execDrainComplete
  | exportRecord => exact h.execExportRecord
  | msixSend => exact h.execMsixSend
  | channelReset => exact h.execChannelReset
  | channelResetDone => exact h.execChannelResetDone
  | expertEnWrite => exact h.execExpertEnWrite
  | registerWrite => exact h.execRegisterWrite
  | rclkCycle => exact h.execRclkCycle
  | slot => exact h.execSlot
  | masonResetComplete => exact h.execMasonResetComplete
  | imageCheckOrLoadComplete => exact h.execImageCheckOrLoadComplete
  | debugTakeover => exact h.execDebugTakeover
  | debugRelease => exact h.execDebugRelease
  | routesStable => exact h.execRoutesStable

/-- Settles O13: every command but COLD_RESET_ASSERT keeps each table's form through the operations it is made of,
and cold reset empties the tables but for Plinth's rows. -/
theorem tablesKept : Obligations.TablesKept := by
  intro s t hs ht
  unfold step at ht
  split at ht
  · cases ht
    exact hs
  · next c rest hpending =>
    by_cases hc : c = .coldResetAssert
    · subst hc
      cases ht
      exact State.coldAssert_tablesWf (s := { s with pending := rest }) hs
    · have hexec : s.KeptIn (exec c { s with pending := rest }) := exec_keptIn State.Kept.refl.frame hc
      rw [ht] at hexec
      obtain ⟨hkept⟩ := hexec
      exact hkept.tables hs

/-- Settles O14: every table but Plinth's is empty at reset, and so are Plinth's rows. -/
theorem resetTables : Obligations.ResetTables := rfl

end Sys2Proof.Machine
end

section
/-! Host writes of BAR0 by the type of the field. A register without effects of its own is written field by field
(`exec_registerWrite_plain`); its fields have distinct keys, so each sees its own old value. -/

namespace Sys2Proof.Machine

/-! The path from the host to a register. -/

/-- Registers whose writes have effects beyond the types of their fields. -/
def regsWithEffects : List RegAt :=
  [HDR_CTRL, HDR_CREDIT_CFG, MOR_CTRL, MOR_RSV_CFG, MAP_RGN_BASE, MAP_RGN_LIMIT, MAP_RGN_CTL, MAP_GEOM, SET_CTRL,
   SET_QID_CLASS, SET_CLASS_TABLE, SET_ERR, GAU_RATE, GAU_BURST, GAU_CMD, TIM_ERR, TIM_CTRL, PNT_CTRL, PNT_PROT,
   ASH_INIT, ASH_SPARE, ASH_THRESH, ASH_MARK, SCR_CTRL, SCR_RETRAIN, SCR_CMD, PLN_CMD, MAS_CTRL, MAS_CMD, MAS_GLOBAL,
   MAS_IMG_CMD, HOD_CFG, HOD_CARVE, HOD_CTRL, KEY_CMD, KEY_HOST_REQ, KEY_MNT_CTRL, BND_CTRL, BND_ROUTE, BUT_CFG,
   BUT_ACK, BUT_SRC, PLB_CTRL, PLB_CNT, PLB_BCNT, PLB_CNT_CTL, PLB_BCNT_CTL, PLB_TAG_CFG, PLB_TAG_RD, DST_CTRL,
   DST_CMD, DST_HIST_CFG, DST_TRIG, QUO_DRAIN_CTL, QUO_IDENT, QUO_DSN, BLK_BOOT, BLK_CHAN_RST, BLK_EXPERT_EN]

theorem State.writeReg_eq_writePlain {r : RegAt} (hr : r ∉ regsWithEffects) (s : State) (fs : List Field)
    (i j k : Nat) (w : RegW) : s.writeReg r fs i j k w = s.writePlain fs i j k w := by
  simp only [regsWithEffects, List.mem_cons, List.not_mem_nil, or_false, not_or] at hr
  simp [State.writeReg, State.writePorts, State.writeChan, State.writeEngines, State.writeFaults, State.writeBlk, hr]

/-! The register at an offset. -/

/-- The offset lies between the register's first slot and its last. -/
def RegAt.reaches (r : RegAt) (off : Nat) : Bool :=
  Nat.ble r.base off && Nat.ble off (r.base + r.n0 * r.s0 + r.n1 * r.s1 + r.n2 * r.s2)

theorem RegAt.at_of_not_reaches {r : RegAt} {off : Nat} (h : r.reaches off = false) : r.at off = none := by
  unfold RegAt.at
  split
  · rfl
  · next hbase =>
    have habove : r.base + r.n0 * r.s0 + r.n1 * r.s1 + r.n2 * r.s2 < off := by
      simp only [RegAt.reaches, Nat.not_lt.mp hbase, Nat.ble_eq_true_of_le, Bool.true_and] at h
      exact Nat.lt_of_not_le fun hle => by simp [Nat.ble_eq_true_of_le hle] at h
    refine List.findSome?_eq_none_iff.mpr fun x hx => ?_
    simp only [List.mem_flatMap, List.mem_map, List.mem_range] at hx
    obtain ⟨j, hj, k, hk, rfl⟩ := hx
    have hj' : j * r.s1 ≤ r.n1 * r.s1 := Nat.mul_le_mul_right _ hj.le
    have hk' : k * r.s2 ≤ r.n2 * r.s2 := Nat.mul_le_mul_right _ hk.le
    dsimp only
    rw [if_neg (by omega)]
    split
    · exact if_neg (by omega)
    · refine if_neg fun ⟨hmod, hlt⟩ => ?_
      have hdiv := Nat.div_add_mod (off - r.base - (j * r.s1 + k * r.s2)) r.s0
      have hlt' := Nat.mul_le_mul_right r.s0 hlt.le
      rw [hmod, Nat.mul_comm] at hdiv
      omega

/-- The lookup of `regAt` among the registers that reach the offset: what a table lemma evaluates. -/
def regReach (off : Nat) : Option (RegAt × List Field × Nat × Nat × Nat) :=
  (allRegs.filter fun e => e.1.reaches off).findSome? fun e =>
    (e.1.at off).map fun x => (e.1, e.2, x.1, x.2.1, x.2.2)

theorem regAt_eq_regReach : regAt = regReach := by
  funext off
  unfold regAt regReach
  induction allRegs with
  | nil => rfl
  | cons e es ih =>
    rw [List.findSome?_cons, List.filter_cons, ih]
    cases h : e.1.reaches off with
    | false => simp [RegAt.at_of_not_reaches h]
    | true => rw [if_pos rfl, List.findSome?_cons]
/-- The slot at `o` lies outside the windows of the Masons' stores, the item ports and the MSI-X table. -/
abbrev OutsideWindows (o : Nat) : Prop :=
  ¬ (0x2000000 ≤ o ∧ o < 0x2C00000 ∧ o % 0x10000 < 0xC000) ∧
  ¬ (0x3000000 ≤ o ∧ o < 0x31C0000 ∧ o % 0x1000 < 0x20) ∧ ¬ (0x3E00000 ≤ o ∧ o < 0x3E00800)

/-- At `o` lies the register `r` of unit `i`, with the fields `fs`. -/
abbrev RegSlot (o : Nat) (r : RegAt) (fs : List Field) (i : Nat) : Prop :=
  o / 8 * 8 = o ∧ o ≠ QUO_RELEASE.base ∧ OutsideWindows o ∧ regAt o = some (r, fs, i, 0, 0)

theorem State.serves.host {s : State} (hs : s.serves) (f : State → State) : s.host f = f s := by
  obtain ⟨hcold, hoff, hst⟩ := hs
  simp [State.host, State.live, State.hostWrite, hcold, hoff, hst]

theorem exec_registerWrite {s : State} (hs : s.serves) {off : Nat} (ho : off / 8 * 8 ≠ QUO_RELEASE.base)
    (w : RegW) : exec (.registerWrite off w) s = .next (s.writeOffset (off / 8 * 8) w) := by
  have hreg (u : State) : u.regWrite off w = u.hostWrite fun u => u.writeOffset (off / 8 * 8) w :=
    if_neg fun h => ho h.1
  calc exec (.registerWrite off w) s = .next (s.live fun u => u.regWrite off w) := rfl
    _ = .next (s.host fun u => u.writeOffset (off / 8 * 8) w) := by simp only [hreg, State.host]
    _ = .next (s.writeOffset (off / 8 * 8) w) := by rw [hs.host]

theorem State.writeOffset_of_none (s : State) {o : Nat} (ho : OutsideWindows o) (hr : regAt o = none) (w : RegW) :
    s.writeOffset o w = s := by
  obtain ⟨hstore, hitem, hmsix⟩ := ho
  simp only [State.writeOffset, if_neg hstore, if_neg hitem, if_neg hmsix, hr]

theorem State.writeOffset_of_some (s : State) {o : Nat} (ho : OutsideWindows o) {r : RegAt} {fs : List Field}
    {i j k : Nat} (hr : regAt o = some (r, fs, i, j, k)) (w : RegW) :
    s.writeOffset o w = if s.hasUnit r.base i then s.writeReg r fs i j k w else s := by
  obtain ⟨hstore, hitem, hmsix⟩ := ho
  simp only [State.writeOffset, if_neg hstore, if_neg hitem, if_neg hmsix, hr]

section
variable {s : State} {o : Nat} {r : RegAt} {fs : List Field} {i : Nat}

theorem RegSlot.exec_absent (hs : s.serves) (hslot : RegSlot o r fs i) (hu : s.hasUnit r.base i = false) (w : RegW) :
    exec (.registerWrite o w) s = .next s := by
  obtain ⟨haligned, hrel, hout, hreg⟩ := hslot
  rw [exec_registerWrite hs (by rwa [haligned]), haligned, s.writeOffset_of_some hout hreg, hu]
  rfl

theorem RegSlot.exec_plain (hs : s.serves) (hslot : RegSlot o r fs i) (hr : r ∉ regsWithEffects)
    (hu : s.hasUnit r.base i = true) (w : RegW) :
    exec (.registerWrite o w) s = .next (s.writePlain fs i 0 0 w) := by
  obtain ⟨haligned, hrel, hout, hreg⟩ := hslot
  rw [exec_registerWrite hs (by rwa [haligned]), haligned, s.writeOffset_of_some hout hreg, if_pos hu,
    State.writeReg_eq_writePlain hr]

end

/-! Fields that hold their value in the register file. -/

section
variable {s t u : State} {f : Field} {i j k : Nat}

theorem State.onlyRegs.refl (s : State) (ks : List Nat) : s.onlyRegs s ks := ⟨rfl, fun _ _ => rfl⟩

theorem State.onlyRegs.setF (s : State) (f : Field) (i j k v : Nat) :
    s.onlyRegs (s.setF f i j k v) [f.key i j k] :=
  ⟨rfl, fun key hkey => s.setF_regs_find f i j k v key (by simpa using hkey)⟩

theorem State.onlyRegs.trans {ks ls : List Nat} (ht : s.onlyRegs t ks) (hu : t.onlyRegs u ls) :
    s.onlyRegs u (ks ++ ls) := by
  obtain ⟨hst, hfindt⟩ := ht
  obtain ⟨htu, hfindu⟩ := hu
  refine ⟨?_, fun key hkey => ?_⟩
  · rw [htu, hst]
  · rw [List.mem_append, not_or] at hkey
    rw [hfindu key hkey.2, hfindt key hkey.1]

theorem State.onlyRegs.rawF {ks : List Nat} (h : s.onlyRegs t ks) (hf : f.key i j k ∉ ks) :
    t.rawF f i j k = s.rawF f i j k := by
  unfold State.rawF Tbl.get
  rw [h.2 _ hf]

end

/-- What a write makes of a field: `new` of its old value, cut to its width, where the write covers it. -/
def Field.written (f : Field) (w : RegW) (new : Nat → Nat) (old : Nat) : Nat :=
  if w.covers f then new old % 2 ^ f.width else old

/-- Distinct fields of a register written one after another: each becomes what `new` makes of its own old value, and
nothing else changes. -/
theorem State.writePlain_regs {w : RegW} {i : Nat} (new : Field → Nat → Nat) {fs : List Field}
    (hfs : (fs.map fun f => f.key i 0 0).Nodup)
    (hnew : ∀ f ∈ fs, ∀ t : State, t.writeField f i 0 0 w =
      if w.covers f then t.setF f i 0 0 (new f (t.rawF f i 0 0)) else t) (s : State) :
    s.onlyRegs (s.writePlain fs i 0 0 w) (fs.map fun f => f.key i 0 0) ∧
    ∀ f ∈ fs, (s.writePlain fs i 0 0 w).rawF f i 0 0 = f.written w (new f) (s.rawF f i 0 0) := by
  induction fs generalizing s with
  | nil => exact ⟨.refl s _, by simp⟩
  | cons f fs ih =>
    obtain ⟨hf, hfs⟩ := List.nodup_cons.mp hfs
    have hu : s.onlyRegs (s.writeField f i 0 0 w) [f.key i 0 0] ∧
        (s.writeField f i 0 0 w).rawF f i 0 0 = f.written w (new f) (s.rawF f i 0 0) := by
      rw [hnew f List.mem_cons_self s, Field.written]
      split
      · exact ⟨.setF .., s.setF_rawF_self ..⟩
      · exact ⟨.refl s _, rfl⟩
    obtain ⟨hframe, hval⟩ := hu
    obtain ⟨hrest, hvals⟩ := ih hfs (fun g hg => hnew g (List.mem_cons_of_mem _ hg)) (s.writeField f i 0 0 w)
    refine ⟨hframe.trans hrest, List.forall_mem_cons.mpr ⟨?_, fun g hg => ?_⟩⟩
    · exact (hrest.rawF hf).trans hval
    · have hne : g.key i 0 0 ∉ [f.key i 0 0] := fun h =>
        hf (List.mem_map.mpr ⟨g, hg, List.mem_singleton.mp h⟩)
      rw [← hframe.rawF hne]
      exact hvals g hg

theorem State.writeField_rw (s : State) {f : Field} (hf : f.ty = .rw) (i : Nat) (w : RegW) :
    s.writeField f i 0 0 w = if w.covers f then s.setF f i 0 0 (w.merge f (s.rawF f i 0 0)) else s := by
  simp only [State.writeField, hf]
  split <;> simp_all

theorem State.writeField_rw1c (s : State) {f : Field} (hf : f.ty = .rw1c) (i : Nat) (w : RegW) :
    s.writeField f i 0 0 w =
      if w.covers f then s.setF f i 0 0 (clearOnes (s.rawF f i 0 0) (w.bits f)) else s := by
  simp only [State.writeField, hf]
  split <;> simp_all

/-! Plain read-write registers. -/

theorem plainRegs_slot : ∀ e ∈ plainRegs, RegSlot e.1.base e.1 e.2 0 := by
  simp only [RegSlot, regAt_eq_regReach]
  decide +kernel

theorem plainRegs_fields : ∀ e ∈ plainRegs, e.1 ∉ regsWithEffects ∧ (e.2.map fun f => f.key 0 0 0).Nodup ∧
    ∀ f ∈ e.2, f.ty = .rw := by
  decide

theorem plainRegs_hasUnit (s : State) : ∀ e ∈ plainRegs, s.hasUnit e.1.base 0 = true := by
  intro e he
  fin_cases he <;> rfl

theorem registerWrite_plainRegs {e : RegAt × List Field} (he : e ∈ plainRegs) (w : RegW) {s : State}
    (hs : s.serves) :
    ∃ t, exec (.registerWrite e.1.base w) s = .next t ∧ s.onlyRegs t (e.2.map fun f => f.key 0 0 0) ∧
    ∀ f ∈ e.2, t.rawF f 0 0 0 =
      if w.covers f then w.merge f (s.rawF f 0 0 0) % 2 ^ f.width else s.rawF f 0 0 0 := by
  obtain ⟨hplain, hkeys, hrw⟩ := plainRegs_fields e he
  exact ⟨_, (plainRegs_slot e he).exec_plain hs hplain (plainRegs_hasUnit s e he) w,
    s.writePlain_regs w.merge hkeys fun f hf t => t.writeField_rw (hrw f hf) 0 w⟩

/-! The error bits of the Quoin. -/

/-- The fields of `QUO_ERR`. -/
def quoErrFields : List Field :=
  [QUO_ERR_DRAIN_BUSY, QUO_ERR_UR_SENT, QUO_ERR_UNEXP_CPL, QUO_ERR_MALFORMED, QUO_ERR_CPL_TIMEOUT, QUO_ERR_POISON_RX]

theorem quoErr_slot : RegSlot QUO_ERR.base QUO_ERR quoErrFields 0 := by
  decide +kernel

theorem quoErrFields_spec : QUO_ERR ∉ regsWithEffects ∧ (quoErrFields.map fun f => f.key 0 0 0).Nodup ∧
    ∀ f ∈ quoErrFields, f.ty = .rw1c ∧ f.width = 1 ∧ f.lo < 32 := by
  decide

theorem nfield_one (n lo : Nat) : nfield n lo 1 = b2n (n.testBit lo) := by
  rw [nfield, b2n, Nat.testBit, Nat.one_and_eq_mod_two, pow_one]
  rcases Nat.mod_two_eq_zero_or_one (n >>> lo) with h | h <;> simp [h]

theorem nfield_mask_low (w : RegW) {lo : Nat} (hlo : lo < 32) : nfield w.mask lo 1 = b2n w.lo := by
  have h : ∀ low high : Bool, ∀ n < 32,
      nfield ((if low then 0xFFFFFFFF else 0) + if high then 0xFFFFFFFF00000000 else 0) n 1 = b2n low := by
    decide +kernel
  exact h w.lo w.hi lo hlo

/-- A one-bit field of the low half that a write of 1 clears. -/
theorem Field.written_clearOnes (w : RegW) {f : Field} (hwidth : f.width = 1) (hlo : f.lo < 32) {old : Nat}
    (hold : old ≤ 1) : f.written w (fun old => clearOnes old (w.bits f)) old =
      if w.lo = true ∧ w.val.getLsbD f.lo = true then 0 else old := by
  have hcov : w.covers f = w.lo := by
    cases hw : w.lo <;> simp [RegW.covers, hwidth, nfield_mask_low w hlo, b2n, hw]
  have hbits : w.bits f = Nat.land (b2n (w.val.getLsbD f.lo)) (b2n w.lo) := by
    rw [RegW.bits, hwidth, nfield_mask_low w hlo, nfield_one, BitVec.testBit_toNat]
  have hclear : ∀ bit low : Bool, ∀ n ≤ 1, (if low = true then
      clearOnes n (Nat.land (b2n bit) (b2n low)) % 2 ^ 1 else n) =
      if low = true ∧ bit = true then 0 else n := by
    decide
  rw [Field.written, hcov, hbits, hwidth]
  exact hclear _ _ old hold

theorem registerWrite_quoErr (w : RegW) {s : State} (hs : s.serves) :
    ∃ t, exec (.registerWrite QUO_ERR.base w) s = .next t ∧
    s.onlyRegs t (quoErrFields.map fun f => f.key 0 0 0) ∧
    ∀ f ∈ quoErrFields, s.rawF f 0 0 0 ≤ 1 →
      t.rawF f 0 0 0 = if w.lo = true ∧ w.val.getLsbD f.lo = true then 0 else s.rawF f 0 0 0 := by
  obtain ⟨hplain, hkeys, hfields⟩ := quoErrFields_spec
  obtain ⟨honly, hvals⟩ := s.writePlain_regs (fun f old => clearOnes old (w.bits f)) hkeys
    fun f hf t => t.writeField_rw1c (hfields f hf).1 0 w
  refine ⟨_, quoErr_slot.exec_plain hs hplain rfl w, honly, fun f hf hold => ?_⟩
  obtain ⟨-, hwidth, hlo⟩ := hfields f hf
  rw [hvals f hf, Field.written_clearOnes w hwidth hlo hold]

/-! Expert fields. -/

/-- An RWX field that R18 gives the expert value or the profile's; the three that Mapper freezes apart. -/
abbrev Field.IsExpert (f : Field) : Prop :=
  f.ty = .rwx ∧ f ≠ MAP_RGN_CTL_GRAN ∧ f ≠ MAP_RGN_CTL_HASH ∧ f ≠ MAP_GEOM_BANK_HASH

theorem State.fld_expert (s : State) {f : Field} (hf : f.IsExpert) (hx : s.expert f.fn = true) (i j k : Nat) :
    s.fld f i j k = (Tbl.find s.xregs (f.key i j k)).getD (s.profileVal f i j) := by
  rw [State.fld, if_pos hf, if_pos hx]

theorem State.setX_fld (s : State) {f : Field} (hf : f.IsExpert) (hx : s.expert f.fn = true) (i j k v : Nat) :
    (s.setX f i j k v).fld f i j k = v % 2 ^ f.width := by
  rw [(s.setX f i j k v).fld_expert hf hx]
  simp [State.setX]

theorem State.writeField_expert (s : State) {f : Field} (hf : f.IsExpert) (hx : s.expert f.fn = true) (i : Nat)
    (w : RegW) : s.writeField f i 0 0 w =
      if w.covers f then s.setX f i 0 0 (w.merge f (s.fld f i 0 0)) else s := by
  simp only [State.writeField, hf.1, hx]
  split <;> simp_all

theorem State.writeField_notExpert (s : State) {f : Field} (hf : f.ty = .rwx) (hx : s.expert f.fn = false) (i : Nat)
    (w : RegW) : s.writeField f i 0 0 w = s := by
  simp [State.writeField, hf, hx]

theorem State.writePlain_notExpert (s : State) {fs : List Field} (hfs : ∀ f ∈ fs, f.ty = .rwx)
    (hx : ∀ f ∈ fs, s.expert f.fn = false) (i : Nat) (w : RegW) : s.writePlain fs i 0 0 w = s :=
  List.foldlRecOn (motive := fun t => t = s) fs _ rfl fun _ ht f hf =>
    ht ▸ s.writeField_notExpert (hfs f hf) (hx f hf) i w

/-- `t` is `s` but for expert values under the listed keys. -/
abbrev State.onlyXregs (s t : State) (ks : List Nat) : Prop :=
  t = { s with xregs := t.xregs } ∧ ∀ k, k ∉ ks → Tbl.find t.xregs k = Tbl.find s.xregs k

section
variable {s t u : State} {ks ls : List Nat}

theorem State.onlyXregs.refl (s : State) (ks : List Nat) : s.onlyXregs s ks := ⟨rfl, fun _ _ => rfl⟩

theorem State.onlyXregs.setX (s : State) (f : Field) (i j k v : Nat) :
    s.onlyXregs (s.setX f i j k v) [f.key i j k] :=
  ⟨rfl, fun key hkey => by simp_all [State.setX]⟩

theorem State.onlyXregs.trans (ht : s.onlyXregs t ks) (hu : t.onlyXregs u ls) : s.onlyXregs u (ks ++ ls) := by
  obtain ⟨hst, hfindt⟩ := ht
  obtain ⟨htu, hfindu⟩ := hu
  refine ⟨?_, fun key hkey => ?_⟩
  · rw [htu, hst]
  · rw [List.mem_append, not_or] at hkey
    rw [hfindu key hkey.2, hfindt key hkey.1]

theorem State.onlyXregs.expert (h : s.onlyXregs t ks) (fn : Nat) : t.expert fn = s.expert fn := by
  rw [h.1]
  rfl

theorem State.onlyXregs.fld (h : s.onlyXregs t ks) {f : Field} (hf : f.IsExpert) (hx : s.expert f.fn = true)
    {i : Nat} (hkey : f.key i 0 0 ∉ ks) : t.fld f i 0 0 = s.fld f i 0 0 := by
  have hprofile : t.profileVal f i 0 = s.profileVal f i 0 := by
    rw [h.1]
    rfl
  rw [t.fld_expert hf ((h.expert _).trans hx), s.fld_expert hf hx, h.2 _ hkey, hprofile]

end

/-- Distinct expert fields of a register written one after another while their functions' bits are 1. -/
theorem State.writePlain_xregs {w : RegW} {i : Nat} {fs : List Field} (hkeys : (fs.map fun f => f.key i 0 0).Nodup)
    (hfs : ∀ f ∈ fs, f.IsExpert) (s : State) (hx : ∀ f ∈ fs, s.expert f.fn = true) :
    s.onlyXregs (s.writePlain fs i 0 0 w) (fs.map fun f => f.key i 0 0) ∧
    ∀ f ∈ fs, (s.writePlain fs i 0 0 w).fld f i 0 0 = f.written w (w.merge f) (s.fld f i 0 0) := by
  induction fs generalizing s with
  | nil => exact ⟨.refl s _, by simp⟩
  | cons f fs ih =>
    obtain ⟨hf, hkeys⟩ := List.nodup_cons.mp hkeys
    obtain ⟨hfx, hfsx⟩ := List.forall_mem_cons.mp hfs
    obtain ⟨hxf, hxfs⟩ := List.forall_mem_cons.mp hx
    have hu : s.onlyXregs (s.writeField f i 0 0 w) [f.key i 0 0] ∧
        (s.writeField f i 0 0 w).fld f i 0 0 = f.written w (w.merge f) (s.fld f i 0 0) := by
      rw [s.writeField_expert hfx hxf, Field.written]
      split
      · exact ⟨.setX .., s.setX_fld hfx hxf ..⟩
      · exact ⟨.refl s _, rfl⟩
    obtain ⟨hframe, hval⟩ := hu
    obtain ⟨hrest, hvals⟩ := ih hkeys hfsx (s.writeField f i 0 0 w) fun g hg => (hframe.expert _).trans (hxfs g hg)
    refine ⟨hframe.trans hrest, List.forall_mem_cons.mpr ⟨?_, fun g hg => ?_⟩⟩
    · exact (hrest.fld hfx ((hframe.expert _).trans hxf) hf).trans hval
    · have hne : g.key i 0 0 ∉ [f.key i 0 0] := fun h =>
        hf (List.mem_map.mpr ⟨g, hg, List.mem_singleton.mp h⟩)
      rw [← hframe.fld (hfsx g hg) (hxfs g hg) hne]
      exact hvals g hg

theorem expertRegs_fields : ∀ e ∈ expertRegs, e.1 ∉ regsWithEffects ∧ (e.2.map fun f => f.lo).Nodup ∧
    ∀ f ∈ e.2, f.reg = e.1 ∧ f.IsExpert := by
  decide

theorem expertRegs_slot : ∀ e ∈ expertRegs, ∀ i < e.1.n0, RegSlot (e.1.off i 0 0) e.1 e.2 i := by
  simp only [RegSlot, regAt_eq_regReach]
  decide +kernel

/-- The keys of a unit's fields differ as their lowest bits do. -/
theorem nodup_keys {r : RegAt} {fs : List Field} (hreg : ∀ f ∈ fs, f.reg = r) (hlo : (fs.map fun f => f.lo).Nodup)
    (i : Nat) : (fs.map fun f => f.key i 0 0).Nodup := by
  have hkey : (fs.map fun f => f.key i 0 0) = (fs.map fun f => f.lo).map (r.off i 0 0 * 64 + ·) := by
    rw [List.map_map]
    exact List.map_congr_left fun f hf => by simp [Field.key, hreg f hf]
  rw [hkey]
  exact hlo.map fun _ _ => Nat.add_left_cancel

section
variable {e : RegAt × List Field} {i : Nat} {s : State}

theorem registerWrite_notExpert (he : e ∈ expertRegs) (w : RegW) (hs : s.serves) (hi : i < e.1.n0)
    (hu : s.hasUnit e.1.base i = true) (hx : ∀ f ∈ e.2, s.expert f.fn = false) :
    exec (.registerWrite (e.1.off i 0 0) w) s = .next s := by
  obtain ⟨hplain, -, hfields⟩ := expertRegs_fields e he
  rw [(expertRegs_slot e he i hi).exec_plain hs hplain hu,
    s.writePlain_notExpert (fun f hf => (hfields f hf).2.1) hx]

theorem registerWrite_expert (he : e ∈ expertRegs) (w : RegW) (hs : s.serves) (hi : i < e.1.n0)
    (hu : s.hasUnit e.1.base i = true) (hx : ∀ f ∈ e.2, s.expert f.fn = true) :
    ∃ t, exec (.registerWrite (e.1.off i 0 0) w) s = .next t ∧ t = { s with xregs := t.xregs } ∧
      (∀ k, k ∉ e.2.map (fun f => f.key i 0 0) → Tbl.find t.xregs k = Tbl.find s.xregs k) ∧
      ∀ f ∈ e.2, t.fld f i 0 0 =
        if w.covers f then w.merge f (s.fld f i 0 0) % 2 ^ f.width else s.fld f i 0 0 := by
  obtain ⟨hplain, hlo, hfields⟩ := expertRegs_fields e he
  obtain ⟨⟨hframe, hfind⟩, hvals⟩ := s.writePlain_xregs (w := w)
    (nodup_keys (fun f hf => (hfields f hf).1) hlo i) (fun f hf => (hfields f hf).2) hx
  exact ⟨_, (expertRegs_slot e he i hi).exec_plain hs hplain hu w, hframe, hfind, hvals⟩

end

/-! Reserved offsets, and the requesters that a build lacks. -/

theorem registerWrite_reserved {s : State} (hs : s.serves) {off : Nat} (hout : OutsideWindows (off / 8 * 8))
    (hr : regAt (off / 8 * 8) = none) (w : RegW) : exec (.registerWrite off w) s = .next s := by
  have hrelease : (regAt QUO_RELEASE.base).isSome = true := by decide +kernel
  have ho : off / 8 * 8 ≠ QUO_RELEASE.base := by
    intro ho
    simp [← ho, hr] at hrelease
  rw [exec_registerWrite hs ho, s.writeOffset_of_none hout hr]

theorem keyClass_slot : ∀ i ∈ List.range 253,
    RegSlot (KEY_CLASS.off i 0 0) KEY_CLASS [KEY_CLASS_LOSSES, KEY_CLASS_CLASS] i := by
  simp only [RegSlot, regAt_eq_regReach]
  decide +kernel

theorem State.hasUnit_keyClass (s : State) (i : Nat) : s.hasUnit KEY_CLASS.base i = s.hasRequester i := by
  rw [State.hasUnit, if_neg (by decide), if_pos rfl]

theorem registerWrite_lackedRequester {i : Nat} {s : State} (hs : s.serves) (hi : i < 253)
    (hlacks : s.hasRequester i = false) (w : RegW) : exec (.registerWrite (KEY_CLASS.off i 0 0) w) s = .next s :=
  (keyClass_slot i (List.mem_range.mpr hi)).exec_absent hs ((s.hasUnit_keyClass i).trans hlacks) w

/-! The expert bits. -/

/-- The timing rows lie above `BLK_EXPERT_EN`. -/
theorem rowField_above (k : Nat) : BLK_EXPERT_EN.base < (rowField k).reg.base := by
  have hrows : ∀ k < 48, BLK_EXPERT_EN.base < (rowField k).reg.base := by decide
  rcases Nat.lt_or_ge k 48 with hk | hk
  · exact hrows k hk
  · rw [rowField, List.getD_eq_default _ _ (by simp; omega)]
    decide

/-- `t` has the expert bits and the expert values of `s`. -/
structure State.SameExpert (s t : State) : Prop where
  bits : t.rawF BLK_EXPERT_EN_EN 0 0 0 = s.rawF BLK_EXPERT_EN_EN 0 0 0
  values : t.xregs = s.xregs

namespace State.SameExpert

section
variable {s t u : State} {α : Type} {c : Prop} {_ : Decidable c}

theorem refl : s.SameExpert s := ⟨rfl, rfl⟩

theorem expert (h : s.SameExpert t) (fn : Nat) : t.expert fn = s.expert fn := by
  rw [State.expert, State.expert, h.bits]

theorem ite (ht : s.SameExpert t) (hu : s.SameExpert u) : s.SameExpert (if c then t else u) := by
  split <;> assumption

theorem foldl {f : State → α → State} {l : List α} (h : s.SameExpert t)
    (hf : ∀ u x, s.SameExpert u → s.SameExpert (f u x)) : s.SameExpert (l.foldl f t) :=
  List.foldlRecOn (motive := s.SameExpert) l f h fun u h x _ => hf u x h

/-- An update that leaves the registers and the expert values. -/
theorem frame (h : s.SameExpert t) (hr : u.regs = t.regs := by rfl) (hx : u.xregs = t.xregs := by rfl) :
    s.SameExpert u :=
  ⟨by rw [← h.bits, State.rawF, State.rawF, hr], hx.trans h.values⟩

/-- A field of a register above `BLK_EXPERT_EN`. -/
theorem setF (h : s.SameExpert t) {f : Field} (hf : BLK_EXPERT_EN.base < f.reg.base := by decide) {i j k v : Nat} :
    s.SameExpert (t.setF f i j k v) := by
  refine ⟨(t.setF_rawF_of_ne f BLK_EXPERT_EN_EN i j k 0 0 0 v fun hkey => ?_).trans h.bits, h.values⟩
  simp only [Field.key, RegAt.off, BLK_EXPERT_EN_EN, BLK_EXPERT_EN] at hf hkey
  omega

end

section
variable {s t : State} (h : s.SameExpert t)
include h

theorem modChan {c : Nat} {f : Chan → Chan} : s.SameExpert (t.modChan c f) := h.frame

theorem dstDrop : s.SameExpert t.dstDrop := h.setF

theorem trigDropAll : s.SameExpert t.trigDropAll := (h.foldl fun _ _ h => h.dstDrop).frame

theorem dstModeFrom {old : Nat} : s.SameExpert (t.dstModeFrom old) :=
  .ite h (.ite h.trigDropAll.frame (.ite h.trigDropAll.frame h.trigDropAll))

theorem hodApply {n : Nat} : s.SameExpert (t.hodApply n) := .ite (.ite h h.frame) h

theorem hodApplyAll : s.SameExpert t.hodApplyAll := h.foldl fun _ _ h => .ite h.hodApply h

theorem masonTake {m : Nat} {want : Bool} : s.SameExpert (t.masonTake m want) := .ite h h.frame

theorem masonsAnew : s.SameExpert t.masonsAnew := h.foldl fun _ _ h => h.masonTake

theorem retrainFrom {old : State} {c : Nat} : s.SameExpert (t.retrainFrom old c) := .ite h h.modChan

theorem report {src : Nat} {r : Report} : s.SameExpert (t.report src r) :=
  .ite h (.ite h.frame (.setF h.frame))

theorem raaCheck {old : State} {c : Nat} : s.SameExpert (t.raaCheck old c) := .ite (.report h.setF) h

theorem cutDeficits {c : Nat} {hit : Nat → Bool} : s.SameExpert (t.cutDeficits c hit) := h.modChan

theorem setRow (h3 : s.expert 3 = false) {c k v : Nat} : s.SameExpert (t.setRow c k v) := by
  rw [State.setRow, h.expert, h3, if_neg Bool.false_ne_true]
  exact .ite h (h.setF (rowField_above k))

theorem loadPend (h3 : s.expert 3 = false) {c row14 row15 : Nat} : s.SameExpert (t.loadPend c row14 row15) :=
  .setRow (.setRow (.ite h (h.foldl fun _ _ h => h.setRow h3)) h3) h3

theorem tabRefused {c bit row : Nat} : s.SameExpert (t.tabRefused c bit row) := by
  unfold State.tabRefused
  extract_lets f
  have hf : BLK_EXPERT_EN.base < f.reg.base := by
    unfold f
    split <;> decide
  exact (h.setF hf).setF

theorem timApply {c : Nat} : s.SameExpert (t.timApply c) := by
  unfold State.timApply
  extract_lets
  split
  · exact h.tabRefused
  · exact h.modChan.setF

/-- With function 3's bit 0 the timing rows are loaded into the register file. -/
theorem timProfile (h3 : s.expert 3 = false) {c : Nat} : s.SameExpert (t.timProfile c) := by
  have h1 : s.SameExpert ((t.modTim c fun x => { x with pendTab := none }).setF TIM_STATUS_PEND c 0 0 0) :=
    h.modChan.setF
  exact .timApply (.ite (h1.loadPend h3) (h1.loadPend h3))

theorem expertEffects {old : State} {fn : Nat} {on : Bool} (hon : s.expert fn = on) :
    s.SameExpert (t.expertEffects old fn on) := by
  unfold State.expertEffects
  split
  · refine h.foldl fun _ _ h => .cutDeficits ?_
    split
    · exact h
    · next hoff => exact h.timProfile (by simpa [hon] using hoff)
  · exact .ite h (h.foldl fun _ _ h => h.modChan)
  · exact h.foldl fun _ _ h => h.raaCheck
  · exact h.foldl fun _ _ h => h.retrainFrom
  · exact h.masonsAnew
  · exact h.hodApplyAll
  · exact .ite h h.frame
  · exact .ite h h.frame
  · exact .dstModeFrom h.frame
  · exact h

end

end State.SameExpert

theorem State.setF_expertEn (s : State) (v : Nat) {fn : Nat} (hfn : fn < 16) :
    (s.setF BLK_EXPERT_EN_EN 0 0 0 v).expert fn = v.testBit fn := by
  rw [State.expert, State.setF_rawF_self, Nat.testBit_mod_two_pow]
  simp [BLK_EXPERT_EN_EN, hfn]

/-- Every field lies within the 64 bits of its register. -/
theorem allRegs_lo : ∀ e ∈ allRegs, ∀ f ∈ e.2, f.lo < 64 := by
  decide +kernel

theorem keyOf_gatedBy {fn : Nat} {f : Field} (hf : f ∈ gatedBy fn) {i j k : Nat}
    (hat : (f.reg.at (f.reg.off i j k)).isSome = true) : keyOf (gatedBy fn) (f.key i j k) = true := by
  obtain ⟨e, he, hfe⟩ := List.mem_flatMap.mp (List.mem_of_mem_filter hf)
  have hlo : f.lo < 64 := allRegs_lo e he f hfe
  have hmod : f.key i j k % 64 = f.lo := by unfold Field.key; omega
  have hdiv : f.key i j k / 64 = f.reg.off i j k := by unfold Field.key; omega
  exact List.any_eq_true.mpr ⟨f, hf, by simp [hmod, hdiv, hat]⟩

/-- No expert value of function `fn` stands. -/
def State.valuesGone (s : State) (fn : Nat) : Prop := ∀ k, keyOf (gatedBy fn) k = true → Tbl.find s.xregs k = none

/-- No expert value appears from `s` to `t`. -/
def State.NoNewValue (s t : State) : Prop := ∀ k, Tbl.find s.xregs k = none → Tbl.find t.xregs k = none

theorem State.NoNewValue.valuesGone {s t : State} (h : s.NoNewValue t) {fn : Nat} (hs : s.valuesGone fn) :
    t.valuesGone fn := fun k hk => h k (hs k hk)

/-- A flip of function `fn`'s bit before its effects on the units. -/
def State.flipBit (s : State) (fn : Nat) : State :=
  let s1 := if fn = 15 then s.lfsrPin else s
  (if !s.expert fn then s1.freezeFn fn else s1.thawFn fn).setF BLK_EXPERT_EN_EN 0 0 0
    (Nat.xor (s.rawF BLK_EXPERT_EN_EN 0 0 0) (2 ^ fn))

section
variable (s : State) {fn : Nat}

theorem State.flipBit_expert (fn : Nat) {j : Nat} (hj : j < 16) :
    (s.flipBit fn).expert j = if j = fn then !s.expert fn else s.expert j := by
  have hbit : (Nat.xor (s.rawF BLK_EXPERT_EN_EN 0 0 0) (2 ^ fn)).testBit j = (s.expert j ^^ decide (fn = j)) :=
    (Nat.testBit_xor ..).trans (congrArg _ Nat.testBit_two_pow)
  rw [State.flipBit, State.setF_expertEn _ _ hj, hbit]
  split
  · next h => simp [h]
  · next h => simp [Ne.symm h]

theorem State.flipBit_xregs (fn : Nat) : (s.flipBit fn).xregs =
    if s.expert fn then Tbl.keep (fun k => !keyOf (gatedBy fn) k) s.xregs else s.xregs := by
  have hpin : (if fn = 15 then s.lfsrPin else s).xregs = s.xregs := by split <;> rfl
  rw [← hpin]
  cases h : s.expert fn <;> simp [State.flipBit, h, State.freezeFn, State.thawFn, State.setF]

theorem State.flipBit_sameExpert (hfn : fn < 16) : (s.flipBit fn).SameExpert (s.expertFlip fn) :=
  State.SameExpert.refl.expertEffects ((s.flipBit_expert fn hfn).trans (if_pos rfl))

theorem State.expertFlip_expert (hfn : fn < 16) {j : Nat} (hj : j < 16) :
    (s.expertFlip fn).expert j = if j = fn then !s.expert fn else s.expert j := by
  rw [(s.flipBit_sameExpert hfn).expert, s.flipBit_expert fn hj]

theorem State.expertFlip_noNewValue (hfn : fn < 16) : s.NoNewValue (s.expertFlip fn) := fun k hk => by
  rw [(s.flipBit_sameExpert hfn).values, s.flipBit_xregs]
  split <;> simp [hk]

theorem State.expertFlip_valuesGone (hfn : fn < 16) (hx : s.expert fn = true) :
    (s.expertFlip fn).valuesGone fn := fun k hk => by
  rw [(s.flipBit_sameExpert hfn).values, s.flipBit_xregs, if_pos hx]
  simp [hk]

end

/-- The expert bits below `n` are set to those of `new`, from `s`: the others stand, and a function whose bit fell has
lost its values. -/
structure State.ExpertUpTo (s : State) (new n : Nat) (t : State) : Prop where
  set : ∀ fn, fn < n → t.expert fn = new.testBit fn
  stand : ∀ fn, n ≤ fn → fn < 16 → t.expert fn = s.expert fn
  gone : ∀ fn, fn < n → s.expert fn = true → new.testBit fn = false → t.valuesGone fn

theorem State.ExpertUpTo.succ {s t : State} {new n : Nat} (h : s.ExpertUpTo new n t) (hn : n < 16) :
    s.ExpertUpTo new (n + 1) (if new.testBit n = t.expert n then t else t.expertFlip n) := by
  have hstand : t.expert n = s.expert n := h.stand n (Nat.le_refl n) hn
  split
  · next heq =>
    refine ⟨fun fn hfn => ?_, fun fn hfn => h.stand fn (Nat.le_of_succ_le hfn), fun fn hfn hx hnew => ?_⟩
    · rcases Nat.lt_succ_iff_lt_or_eq.mp hfn with hlt | rfl
      · exact h.set fn hlt
      · exact heq.symm
    · rcases Nat.lt_succ_iff_lt_or_eq.mp hfn with hlt | rfl
      · exact h.gone fn hlt hx hnew
      · simp_all
  · next hne =>
    refine ⟨fun fn hfn => ?_, fun fn hfn hfn' => ?_, fun fn hfn hx hnew => ?_⟩
    · rw [t.expertFlip_expert hn (by omega)]
      rcases Nat.lt_succ_iff_lt_or_eq.mp hfn with hlt | rfl
      · rw [if_neg hlt.ne, h.set fn hlt]
      · rw [if_pos rfl, Bool.not_eq.mpr (Ne.symm hne)]
    · rw [t.expertFlip_expert hn hfn', if_neg (by omega), h.stand fn (by omega) hfn']
    · rcases Nat.lt_succ_iff_lt_or_eq.mp hfn with hlt | rfl
      · exact (t.expertFlip_noNewValue hn).valuesGone (h.gone fn hlt hx hnew)
      · exact t.expertFlip_valuesGone hn (hstand.trans hx)

theorem State.expertUpTo_foldl (s : State) (new : Nat) {n : Nat} (hn : n ≤ 16) :
    s.ExpertUpTo new n ((List.range n).foldl
      (fun t fn => if new.testBit fn = t.expert fn then t else t.expertFlip fn) s) := by
  induction n with
  | zero => exact ⟨by simp, fun _ _ _ => rfl, by simp⟩
  | succ n ih =>
    rw [List.range_succ, List.foldl_append]
    exact (ih (by omega)).succ (by omega)

theorem expertEnWrite_bits (w : RegW) {s : State} (hs : s.serves) :
    ∃ t, exec (.expertEnWrite w) s = .next t ∧ ∀ fn, fn < 16 →
      t.expert fn = (w.merge BLK_EXPERT_EN_EN (s.rawF BLK_EXPERT_EN_EN 0 0 0)).testBit fn ∧
      (s.expert fn = true → t.expert fn = false → ∀ f ∈ gatedBy fn, ∀ i j k,
        (f.reg.at (f.reg.off i j k)).isSome = true → Tbl.find t.xregs (f.key i j k) = none) := by
  have h : s.ExpertUpTo (w.merge BLK_EXPERT_EN_EN (s.rawF BLK_EXPERT_EN_EN 0 0 0)) 16 (s.expertWrite w) :=
    s.expertUpTo_foldl _ (Nat.le_refl 16)
  refine ⟨s.expertWrite w, congrArg _ (hs.host fun u => u.expertWrite w), fun fn hfn => ⟨h.set fn hfn, ?_⟩⟩
  intro hx hoff f hf i j k hat
  exact h.gone fn hfn hx ((h.set fn hfn).symm.trans hoff) _ (keyOf_gatedBy hf hat)

/-- Settles O59: a register without effects of its own is written field by field, and BLK_EXPERT_EN bit by bit. -/
theorem registerWrites : Obligations.RegisterWrites :=
  ⟨fun _ he w _ hs => registerWrite_plainRegs he w hs, fun w _ hs => registerWrite_quoErr w hs,
    fun _ he _ w _ hs hi hu => ⟨registerWrite_notExpert he w hs hi hu, registerWrite_expert he w hs hi hu⟩,
    fun _ w _ hs hr hstore hitem hmsix => registerWrite_reserved hs ⟨hstore, hitem, hmsix⟩ hr w,
    fun _ w _ hs hi hlacks => registerWrite_lackedRequester hs hi hlacks w, fun w _ hs => expertEnWrite_bits w hs⟩

end Sys2Proof.Machine
end

section
/-! Every command answers. -/

namespace Sys2Proof.Machine

theorem State.KeptIn.answers {s : State} {o : Host.Outcome State Fault Refusal} (h : s.KeptIn o) :
    ∃ t, o = .next t := by
  obtain ⟨-⟩ := h
  exact ⟨_, rfl⟩

theorem exec_answers (c : Instr) (s : State) : ∃ t, exec c s = .next t := by
  by_cases hc : c = .coldResetAssert
  · subst hc
    exact ⟨s.coldAssert, rfl⟩
  · exact (exec_keptIn State.Kept.refl hc).answers

theorem step_of_pending_cons {s : State} {c : Instr} {rest : List Instr} (h : s.pending = c :: rest) :
    step s = exec c { s with pending := rest } := by
  unfold step
  rw [h]

theorem step_of_pending_nil {s : State} (h : s.pending = []) : step s = .next s := by
  unfold step
  rw [h]

/-- Settles O11: a step is the front command's meaning on the rest of the queue, and every meaning answers. -/
theorem stepRunsFront : Obligations.StepRunsFront :=
  ⟨fun _ _ _ h => step_of_pending_cons h, fun _ h => step_of_pending_nil h, exec_answers⟩

end Sys2Proof.Machine
end

section
/-! A result arrives at a Mason (R88, R93, R240, R246, R251, R281, R283, R291).

`State.MasonsStand s t` says of an operation beside the Masons that it changes none of them; it is read off the
operation's definition as a chain. `State.MasonBecomes s m x t` says what Mason `m` comes to, and that no other Mason
changes; `x` is a plain function of the Mason before (`Mason.trapped`, `Mason.ended`, `Mason.updated`), so that what a
result does to PC, registers, system registers and fence record is said of Masons alone. Neither lets a request appear:
a number that was freed stays free. The functions defined here name what the model's operations come to; they serve the
proofs alone, so no code is made of them. -/

namespace Sys2Proof.Machine

/-! Operations beside the Masons. -/

/-- From `s` to `t` no Mason changes and no request appears. -/
structure State.MasonsStand (s t : State) : Prop where
  masons : t.masons = s.masons
  rids : t.reqs.map Req.rid ⊆ s.reqs.map Req.rid

theorem State.req_eq_none_iff (s : State) (rid : Nat) : s.req rid = none ↔ rid ∉ s.reqs.map Req.rid := by
  unfold State.req
  simp

theorem State.rid_of_req {s : State} {rid : Nat} {r : Req} (h : s.req rid = some r) : r.rid = rid := by
  simpa using List.find?_some h

namespace State.MasonsStand

variable {s t u : State} {c : Prop} [Decidable c] {α : Type}

theorem refl : s.MasonsStand s := ⟨rfl, fun _ => id⟩

theorem mason (h : s.MasonsStand t) (k : Nat) : t.mason k = s.mason k := by
  unfold State.mason
  rw [h.masons]

theorem ite (ht : s.MasonsStand t) (hu : s.MasonsStand u) : s.MasonsStand (if c then t else u) := by
  split <;> assumption

theorem foldl {f : State → α → State} {l : List α} (h : s.MasonsStand t)
    (hf : ∀ u x, s.MasonsStand u → s.MasonsStand (f u x)) : s.MasonsStand (l.foldl f t) :=
  List.foldlRecOn l f h fun u hu x _ => hf u x hu

theorem frame (h : s.MasonsStand t) (hm : u.masons = t.masons := by rfl) (hr : u.reqs = t.reqs := by rfl) :
    s.MasonsStand u :=
  ⟨hm.trans h.masons, hr ▸ h.rids⟩

theorem mapReqs (h : s.MasonsStand t) {f : Req → Req} (hf : ∀ r ∈ t.reqs, (f r).rid = r.rid) :
    s.MasonsStand { t with reqs := t.reqs.map f } :=
  ⟨h.masons, by rw [List.map_map, List.map_congr_left (f := Req.rid ∘ f) (g := Req.rid) hf]; exact h.rids⟩

theorem modReq (h : s.MasonsStand t) {rid : Nat} {f : Req → Req} (hf : ∀ r, r.rid = rid → (f r).rid = rid) :
    s.MasonsStand (t.modReq rid f) :=
  h.mapReqs fun r _ => by
    split
    · next hr => rw [hf r hr, hr]
    · rfl

theorem dropReq (h : s.MasonsStand t) {rid : Nat} : s.MasonsStand (t.dropReq rid) :=
  ⟨h.masons, fun _ hx => h.rids ((List.filter_sublist.map _).subset hx)⟩

theorem modChan (h : s.MasonsStand t) {n : Nat} {f : Chan → Chan} : s.MasonsStand (t.modChan n f) := h.frame

theorem raiseVec (h : s.MasonsStand t) {v : Nat} : s.MasonsStand (t.raiseVec v) := .ite h h.frame

theorem trigger (h : s.MasonsStand t) {code detail : Nat} : s.MasonsStand (t.trigger code detail) :=
  .ite h (.ite h.frame h.frame)

theorem addCnt (h : s.MasonsStand t) {k n : Nat} : s.MasonsStand (t.addCnt k n) :=
  .ite h.frame (.raiseVec (.ite h.frame (.ite h.frame.frame.trigger h.frame.frame)))

theorem count (h : s.MasonsStand t) {code n : Nat} {e : Ev} : s.MasonsStand (t.count code n e) :=
  .ite h (.foldl (.ite (h.foldl fun _ _ h => .ite h.addCnt h) h) fun _ _ h => .ite h.addCnt h)

theorem report (h : s.MasonsStand t) {src : Nat} {r : Report} : s.MasonsStand (t.report src r) :=
  .ite h (.ite h.frame h.frame)

theorem storageUpset (h : s.MasonsStand t) {k upset : Nat} {r : Req} : s.MasonsStand (t.storageUpset k upset r) :=
  .ite (.report h.frame) (.ite (.report h.frame) h)

theorem masErr (h : s.MasonsStand t) {m bit sev : Nat} : s.MasonsStand (t.masErr m bit sev) :=
  .ite h (.report h.frame)

theorem keepRecord (h : s.MasonsStand t) {ws : List Nat} : s.MasonsStand (t.keepRecord ws) := h.frame

theorem tagDone (h : s.MasonsStand t) {r : Req} {aborted : Bool} : s.MasonsStand (t.tagDone r aborted) := by
  unfold State.tagDone
  split
  · exact h
  · exact h.keepRecord

theorem xbarPass (h : s.MasonsStand t) {out i : Nat} : s.MasonsStand (t.xbarPass out i) := h.frame

theorem resultCross (h : s.MasonsStand t) {m : Nat} {r : Req} : s.MasonsStand (t.resultCross m r) :=
  .ite h h.xbarPass

/-! A status fixed. -/

theorem rrDropAll (h : s.MasonsStand t) {rid : Nat} : s.MasonsStand (t.rrDropAll rid) :=
  h.foldl fun _ _ h => .ite h.modChan h

theorem xbarGrants (h : s.MasonsStand t) {out : Nat} {from' : Req → Nat} {ready : State → Req → Bool}
    {move : State → Req → State} {k : Nat} (hmove : ∀ u r, s.MasonsStand u → s.MasonsStand (move u r)) :
    s.MasonsStand (State.xbarGrants out from' ready move k t) := by
  induction k generalizing t with
  | zero => exact h
  | succ k ih =>
    unfold State.xbarGrants
    split
    · exact h
    · exact ih (hmove _ _ h).xbarPass

theorem stageMove (h : s.MasonsStand t) {n : Nat} : s.MasonsStand (t.stageMove n) :=
  h.xbarGrants fun _ _ h => (h.modReq (by exact fun _ hq => hq)).rrDropAll

theorem txLeave (h : s.MasonsStand t) {sent : Bool} {e : TxEnt} : s.MasonsStand (t.txLeave sent e) := by
  unfold State.txLeave
  dsimp only
  split <;> split <;> exact h.frame

theorem bondPut (h : s.MasonsStand t) {p : Nat} {e : TxEnt} : s.MasonsStand (t.bondPut p e) :=
  .ite h.txLeave (h.frame.foldl fun _ _ h => h.txLeave)

theorem releaseStore (h : s.MasonsStand t) {r : Req} : s.MasonsStand (t.releaseStore r) := by
  unfold State.releaseStore
  split
  · exact .ite (.ite h.modChan (.modChan (.report h.modChan))) h
  · exact h

theorem leaveBanks (h : s.MasonsStand t) {r : Req} : s.MasonsStand (t.leaveBanks r) := by
  unfold State.leaveBanks
  split
  · exact .ite h.modChan h
  · exact h

theorem patrolLost (h : s.MasonsStand t) {r : Req} : s.MasonsStand (t.patrolLost r) := by
  unfold State.patrolLost
  split
  · exact .ite h.modChan h
  · exact h

theorem untag (h : s.MasonsStand t) {rid : Nat} : s.MasonsStand (t.untag rid) := h.frame

theorem fix (h : s.MasonsStand t) {rid : Nat} {st : Status} {data : BitVec 512} :
    s.MasonsStand (t.fix rid st data) := by
  unfold State.fix
  split
  · exact h
  · next r hr =>
    extract_lets _ r' s1
    have h1 : s.MasonsStand s1 := h.leaveBanks.releaseStore.untag.modReq fun _ _ => (rid_of_req hr : r.rid = rid)
    refine .ite h ?_
    split
    · exact h1.rrDropAll.dropReq.xbarPass.bondPut
    · exact h1.rrDropAll.dropReq
    · exact h1.patrolLost.rrDropAll.dropReq
    · exact h1.stageMove
    · exact h1.rrDropAll

/-! Copies. -/

theorem feedCopy (h : s.MasonsStand t) {run src : Nat} {line : BitVec 512} {poison : Bool} :
    s.MasonsStand (t.feedCopy run src line poison) :=
  h.mapReqs fun _ _ => by split <;> rfl

theorem starve (h : s.MasonsStand t) {run : Nat} {srcs : List Nat} {st : Status} :
    s.MasonsStand (t.starve run srcs st) :=
  .foldl (h.mapReqs fun _ _ => by split <;> rfl) fun _ _ h => h.fix

theorem copyFed (h : s.MasonsStand t) {run : Nat} {r : Req} {st : Status} :
    s.MasonsStand (t.copyFed run r st) := by
  refine .ite h ?_
  split
  · exact .ite (h.foldl fun _ _ h => h.feedCopy) (.ite (h.foldl fun _ _ h => h.feedCopy) h.starve)
  · exact .ite h h.starve

end State.MasonsStand

/-! What the end of an instruction leaves of a Mason. -/

/-- `y` is `x` but for its run state and what is due at the end of an instruction. -/
abbrev Mason.SameButRun (x y : Mason) : Prop :=
  y = { x with st := y.st, dbgFrom := y.dbgFrom, dbgStep := y.dbgStep, haltDue := y.haltDue, dbgDue := y.dbgDue,
               stalled := y.stalled }

/-- `y` is `x` but for its registers and the fence record. -/
abbrev Mason.SameButRegs (x y : Mason) : Prop := y = { x with regs := y.regs, lregs := y.lregs, fence := y.fence }

/-- `y` is `x` but for its templates. -/
abbrev Mason.SameButTpl (x y : Mason) : Prop := y = { x with tpl := y.tpl }

/-- `y` has the outstanding requests and the line registers of `x`. -/
abbrev Mason.SameLines (x y : Mason) : Prop := y.outs = x.outs ∧ y.lregs = x.lregs

section
variable {x y z : Mason} {c : Prop} [Decidable c]

theorem Mason.SameButRun.ite (hy : x.SameButRun y) (hz : x.SameButRun z) : x.SameButRun (if c then y else z) := by
  split <;> assumption

theorem Mason.SameButRegs.ite (hy : x.SameButRegs y) (hz : x.SameButRegs z) :
    x.SameButRegs (if c then y else z) := by
  split <;> assumption

theorem Mason.SameLines.ite (hy : x.SameLines y) (hz : x.SameLines z) : x.SameLines (if c then y else z) := by
  split <;> assumption

end

section
variable (x : Mason)

theorem Mason.goto_same (pc : Nat) : ({ x with pc := pc } : Mason).SameButRun (x.goto pc) :=
  .ite (.ite rfl rfl) (.ite rfl rfl)

theorem Mason.goto_pc (pc : Nat) : (x.goto pc).pc = pc := (congrArg Mason.pc (x.goto_same pc) :)

theorem Mason.goto_lines (pc : Nat) : x.SameLines (x.goto pc) :=
  ⟨(congrArg Mason.outs (x.goto_same pc) :), (congrArg Mason.lregs (x.goto_same pc) :)⟩

/-! Registers of a Mason. -/

theorem Mason.setReg_same (r : Nat) (v : BitVec 64) : x.SameButRegs (x.setReg r v) := .ite rfl rfl

theorem Mason.setReg_lines (r : Nat) (v : BitVec 64) : x.SameLines (x.setReg r v) := .ite ⟨rfl, rfl⟩ ⟨rfl, rfl⟩

theorem Mason.setReg_fence (r : Nat) (v : BitVec 64) : (x.setReg r v).fence = x.fence := by
  unfold Mason.setReg
  split <;> rfl

theorem Mason.reg_setReg_same {r : Nat} (hr : r ≠ 0) (v : BitVec 64) : (x.setReg r v).reg r = v := by
  unfold Mason.setReg
  rw [if_neg hr]
  exact (if_neg hr).trans ((Tbl.get_set ..).trans (if_pos rfl))

theorem Mason.reg_setReg_of_ne {r k : Nat} (hk : k ≠ r) (v : BitVec 64) : (x.setReg r v).reg k = x.reg k := by
  unfold Mason.setReg
  split
  · rfl
  · exact if_congr Iff.rfl rfl ((Tbl.get_set ..).trans (if_neg hk))

theorem Mason.reg_congr {x y : Mason} (h : x.regs = y.regs) (k : Nat) : x.reg k = y.reg k := by
  unfold Mason.reg
  rw [h]

/-! Traps (R242, R251, R291). -/

theorem walkSub_eq (st : Status) : walkSub st = if st = .poisonWalk then 1 else if st = .nonmem then 2 else 3 := by
  cases st <;> rfl

/-- What a trap saves: PC, cause and trap value, from system register `base` on. -/
noncomputable def Mason.trapCsr (base cause sub tval epc : Nat) : Tbl (BitVec 64) :=
  Tbl.set (Tbl.set (Tbl.set x.csr 0 base (BitVec.ofNat 64 (epc % 4096))) 0 (base + 1)
    (BitVec.ofNat 64 (cause + 256 * sub))) 0 (base + 2) (BitVec.ofNat 64 tval)

/-- The Mason after a trap: in its handler, nested in it, or in FAULT. -/
noncomputable def Mason.trapped (cause sub tval epc : Nat) : Mason :=
  if ¬ x.handler then ({ x with csr := x.trapCsr 0 cause sub tval epc, handler := true }).goto (8 * cause)
  else if ¬ x.nested then ({ x with csr := x.trapCsr 3 cause sub tval epc, nested := true }).goto (8 * cause)
  else { x with st := 2, dbgStep := false, haltDue := false, dbgDue := false, stalled := false }

theorem Mason.trapCsr_cause (base cause sub tval epc : Nat) :
    Tbl.get (x.trapCsr base cause sub tval epc) 0 (base + 1) = BitVec.ofNat 64 (cause + 256 * sub) :=
  (Tbl.get_set ..).trans ((if_neg (Nat.ne_of_lt (Nat.lt_succ_self _))).trans ((Tbl.get_set ..).trans (if_pos rfl)))

theorem Mason.trapCsr_tval (base cause sub tval epc : Nat) :
    Tbl.get (x.trapCsr base cause sub tval epc) 0 (base + 2) = BitVec.ofNat 64 tval :=
  (Tbl.get_set ..).trans (if_pos rfl)

theorem Mason.trapped_lines (cause sub tval epc : Nat) : x.SameLines (x.trapped cause sub tval epc) :=
  .ite (Mason.goto_lines ..) (.ite (Mason.goto_lines ..) ⟨rfl, rfl⟩)

theorem Mason.trapped_task (h : x.handler = false) (cause sub tval epc : Nat) :
    (x.trapped cause sub tval epc).pc = 8 * cause ∧ (x.trapped cause sub tval epc).handler = true ∧
    Tbl.get (x.trapped cause sub tval epc).csr 0 1 = BitVec.ofNat 64 (cause + 256 * sub) := by
  unfold Mason.trapped
  rw [if_pos (Bool.eq_false_iff.mp h)]
  exact ⟨Mason.goto_pc .., (congrArg Mason.handler (Mason.goto_same ..) :),
    (congrArg (Tbl.get ·.csr 0 1) (Mason.goto_same ..)).trans (x.trapCsr_cause 0 ..)⟩

theorem Mason.trapped_handler (h : x.handler = true) (hn : x.nested = false) (cause sub tval epc : Nat) :
    (x.trapped cause sub tval epc).pc = 8 * cause ∧ (x.trapped cause sub tval epc).nested = true ∧
    Tbl.get (x.trapped cause sub tval epc).csr 0 4 = BitVec.ofNat 64 (cause + 256 * sub) ∧
    Tbl.get (x.trapped cause sub tval epc).csr 0 5 = BitVec.ofNat 64 tval := by
  unfold Mason.trapped
  rw [if_neg (not_not.mpr h), if_pos (Bool.eq_false_iff.mp hn)]
  exact ⟨Mason.goto_pc .., (congrArg Mason.nested (Mason.goto_same ..) :),
    (congrArg (Tbl.get ·.csr 0 4) (Mason.goto_same ..)).trans (x.trapCsr_cause 3 ..),
    (congrArg (Tbl.get ·.csr 0 5) (Mason.goto_same ..)).trans (x.trapCsr_tval 3 ..)⟩

/-! The end of a request at its Mason (R281, R283). -/

section
variable (o : MasOut) (st : Status) (d : BitVec 512)

theorem Mason.posted_same : x.SameButRegs (x.posted o st) :=
  .ite (x.setReg_same ..) <|
    congrArg (fun y : Mason => { y with fence := some (x.fence.getD (st, o.gaddr)) }) (x.setReg_same ..)

theorem Mason.posted_pc : (x.posted o st).pc = x.pc := (congrArg Mason.pc (x.posted_same o st) :)

theorem Mason.posted_lines : x.SameLines (x.posted o st) := .ite (x.setReg_lines ..) (x.setReg_lines ..)

theorem Mason.posted_regs : (x.posted o st).regs = (x.setReg o.rt (BitVec.ofNat 64 st.code)).regs := by
  unfold Mason.posted
  dsimp only
  split <;> rfl

theorem Mason.posted_fence :
    (x.posted o st).fence = if st.good then x.fence else some (x.fence.getD (st, o.gaddr)) := by
  unfold Mason.posted
  dsimp only
  split
  · exact x.setReg_fence ..
  · rfl

theorem Mason.deliver_same : x.SameButRegs (x.deliver o st d) := by
  unfold Mason.deliver
  cases o.dst with
  | none => rfl
  | scalar r => exact x.setReg_same ..
  | line l => rfl

theorem Mason.deliver_fence : (x.deliver o st d).fence = x.fence := by
  unfold Mason.deliver
  cases o.dst with
  | none => rfl
  | scalar r => exact x.setReg_fence ..
  | line l => rfl

/-- The Mason with a result delivered and its request no longer outstanding. -/
noncomputable abbrev Mason.received : Mason := (x.dropOut o.id).deliver o st d

theorem Mason.received_pc : (x.received o st d).pc = x.pc :=
  (congrArg Mason.pc (Mason.deliver_same ..) :)

theorem Mason.received_handler : (x.received o st d).handler = x.handler :=
  (congrArg Mason.handler (Mason.deliver_same ..) :)

theorem Mason.received_nested : (x.received o st d).nested = x.nested :=
  (congrArg Mason.nested (Mason.deliver_same ..) :)

/-- The Mason once a request or run has ended with its status. -/
noncomputable def Mason.ended : Mason :=
  if ¬ o.waiting then (x.received o st d).posted o st
  else if st.good then (x.received o st d).goto ((x.received o st d).pc + 1)
  else if o.kind = .walkLoad then (x.received o st d).trapped 8 (walkSub st) o.addr (x.received o st d).pc
  else (x.received o st d).trapped 0xA st.code o.addr (x.received o st d).pc

theorem Mason.ended_lines : (x.received o st d).SameLines (x.ended o st d) :=
  .ite (Mason.posted_lines ..) (.ite (Mason.goto_lines ..) (.ite (Mason.trapped_lines ..) (Mason.trapped_lines ..)))

section
variable {x o st d} {y : Mason} (hy : y = x.ended o st d)
include hy

theorem Mason.ended_outs : y.outs = x.outs.filter (fun z => decide (z.id ≠ o.id)) :=
  hy ▸ (x.ended_lines o st d).1.trans (congrArg Mason.outs (Mason.deliver_same ..) :)

theorem Mason.ended_line (l : Nat) (h : o.dst = .line l) :
    y.line l = if st.good then ⟨d, false, o.addr⟩ else ⟨0, decide (st = .poison), o.addr⟩ := by
  unfold Mason.line
  rw [hy, (x.ended_lines o st d).2]
  unfold Mason.received Mason.deliver
  rw [h]
  exact (Tbl.get_set ..).trans (if_pos rfl)

theorem Mason.ended_posted (hw : o.waiting = false) : y = (x.received o st d).posted o st :=
  hy.trans (if_pos (Bool.eq_false_iff.mp hw))

theorem Mason.ended_next (hw : o.waiting = true) (hst : st.good = true) :
    y = (x.received o st d).goto ((x.received o st d).pc + 1) :=
  hy.trans ((if_neg (not_not.mpr hw)).trans (if_pos hst))

theorem Mason.ended_walkTrap (hw : o.waiting = true) (hst : st.good = false) (hk : o.kind = .walkLoad) :
    y = (x.received o st d).trapped 8 (walkSub st) o.addr (x.received o st d).pc :=
  hy.trans ((if_neg (not_not.mpr hw)).trans ((if_neg (Bool.eq_false_iff.mp hst)).trans (if_pos hk)))

theorem Mason.ended_trap (hw : o.waiting = true) (hst : st.good = false) (hk : o.kind ≠ .walkLoad) :
    y = (x.received o st d).trapped 0xA st.code o.addr (x.received o st d).pc :=
  hy.trans ((if_neg (not_not.mpr hw)).trans ((if_neg (Bool.eq_false_iff.mp hst)).trans (if_neg hk)))

theorem Mason.ended_value (k : Nat) (h : o.dst = .scalar k) (hk : k ≠ 0) (hst : st.good = true)
    (hrt : o.waiting = true ∨ o.rt ≠ k) : y.reg k = o.value d := by
  have hreceived : (x.received o st d).reg k = o.value d := by
    unfold Mason.received Mason.deliver
    rw [h]
    exact (Mason.reg_setReg_same _ hk _).trans (if_pos hst)
  cases hw : o.waiting with
  | true =>
    rw [Mason.ended_next hy hw hst, ← hreceived]
    exact Mason.reg_congr (congrArg Mason.regs (Mason.goto_same ..) :) k
  | false =>
    have hne : o.rt ≠ k := hrt.resolve_left (Bool.eq_false_iff.mp hw)
    rw [Mason.ended_posted hy hw, Mason.reg_congr (Mason.posted_regs ..), Mason.reg_setReg_of_ne _ hne.symm,
      hreceived]

theorem Mason.ended_posted_pc (hw : o.waiting = false) : y.pc = x.pc := by
  rw [Mason.ended_posted hy hw, Mason.posted_pc, Mason.received_pc]

theorem Mason.ended_posted_rt (hw : o.waiting = false) (hrt : o.rt ≠ 0) : y.reg o.rt = BitVec.ofNat 64 st.code := by
  rw [Mason.ended_posted hy hw, Mason.reg_congr (Mason.posted_regs ..), Mason.reg_setReg_same _ hrt]

theorem Mason.ended_posted_fence (hw : o.waiting = false) :
    y.fence = if st.good then x.fence else some (x.fence.getD (st, o.gaddr)) := by
  rw [Mason.ended_posted hy hw, Mason.posted_fence, Mason.deliver_fence]
  rfl

theorem Mason.ended_next_pc (hw : o.waiting = true) (hst : st.good = true) : y.pc = x.pc + 1 := by
  rw [Mason.ended_next hy hw hst, Mason.goto_pc, Mason.received_pc]

theorem Mason.ended_trap_task (hw : o.waiting = true) (hst : st.good = false) (hk : o.kind ≠ .walkLoad)
    (hx : x.handler = false) : y.pc = 80 ∧ y.handler = true ∧
    Tbl.get y.csr 0 1 = BitVec.ofNat 64 (10 + 256 * st.code) := by
  rw [Mason.ended_trap hy hw hst hk]
  exact (x.received o st d).trapped_task ((Mason.received_handler ..).trans hx) ..

theorem Mason.ended_trap_handler (hw : o.waiting = true) (hst : st.good = false) (hk : o.kind ≠ .walkLoad)
    (hx : x.handler = true) (hn : x.nested = false) : y.pc = 80 ∧ y.nested = true ∧
    Tbl.get y.csr 0 4 = BitVec.ofNat 64 (10 + 256 * st.code) := by
  obtain ⟨hpc, hnested, hcause, -⟩ := (x.received o st d).trapped_handler ((Mason.received_handler ..).trans hx)
    ((Mason.received_nested ..).trans hn) 0xA st.code o.addr (x.received o st d).pc
  rw [Mason.ended_trap hy hw hst hk]
  exact ⟨hpc, hnested, hcause⟩

theorem Mason.ended_walkTrap_handler (hw : o.waiting = true) (hst : st.good = false) (hk : o.kind = .walkLoad)
    (hx : x.handler = true) (hn : x.nested = false) : y.pc = 64 ∧ y.nested = true ∧
    Tbl.get y.csr 0 4 =
      BitVec.ofNat 64 (8 + 256 * (if st = .poisonWalk then 1 else if st = .nonmem then 2 else 3)) ∧
    Tbl.get y.csr 0 5 = BitVec.ofNat 64 o.addr := by
  rw [Mason.ended_walkTrap hy hw hst hk, ← walkSub_eq]
  exact (x.received o st d).trapped_handler ((Mason.received_handler ..).trans hx)
    ((Mason.received_nested ..).trans hn) ..

end
end
end

/-! What becomes of the Mason that a result arrives at. -/

/-- From `s` to `t` Mason `m` becomes `x`, no other Mason changes, and no request appears. -/
structure State.MasonBecomes (s : State) (m : Nat) (x : Mason) (t : State) : Prop where
  self : t.mason m = x
  others : ∀ k, k ≠ m → t.mason k = s.mason k
  rids : t.reqs.map Req.rid ⊆ s.reqs.map Req.rid

section
variable {s t u : State} {m : Nat} {x y : Mason} {c : Prop} [Decidable c]

theorem State.MasonBecomes.trans (h : s.MasonBecomes m x t) (hu : t.MasonBecomes m y u) : s.MasonBecomes m y u :=
  ⟨hu.self, fun k hk => (hu.others k hk).trans (h.others k hk), fun _ hr => h.rids (hu.rids hr)⟩

theorem State.MasonBecomes.ite (ht : s.MasonBecomes m x t) (hu : s.MasonBecomes m y u) :
    s.MasonBecomes m (if c then x else y) (if c then t else u) := by
  by_cases hc : c
  · rwa [if_pos hc, if_pos hc]
  · rwa [if_neg hc, if_neg hc]

theorem State.MasonsStand.modMason (h : s.MasonsStand t) {f : Mason → Mason} (hf : f (s.mason m) = x := by rfl) :
    s.MasonBecomes m x (t.modMason m f) :=
  ⟨((t.modMason_mason m m f).trans (if_pos rfl)).trans (h.mason m ▸ hf),
    fun k hk => ((t.modMason_mason m k f).trans (if_neg hk)).trans (h.mason k), h.rids⟩

theorem State.MasonBecomes.modMason (h : s.MasonBecomes m x t) {f : Mason → Mason} (hf : f x = y := by rfl) :
    s.MasonBecomes m y (t.modMason m f) :=
  h.trans (State.MasonsStand.refl.modMason (by rw [h.self, hf]))

theorem State.MasonBecomes.req_none (h : s.MasonBecomes m x t) {rid : Nat} (hs : s.req rid = none) :
    t.req rid = none :=
  (t.req_eq_none_iff rid).mpr fun hmem => (s.req_eq_none_iff rid).mp hs (h.rids hmem)

/-- A trap is counted (R362). -/
noncomputable def State.trapCounted (s : State) (m cause : Nat) : State :=
  let s1 := if m < 192 then s.count 0x4D 0 (Ev.ofMason m) else s
  if cause = 4 ∧ m < 192 then s1.count 0x4E 0 (Ev.ofMason m) else s1

theorem State.trapCounted_stand (s : State) (m cause : Nat) : s.MasonsStand (s.trapCounted m cause) :=
  .ite (.count (.ite (.count .refl) .refl)) (.ite (.count .refl) .refl)

theorem State.akTrap_becomes (s : State) (m cause sub tval epc : Nat) :
    s.MasonBecomes m ((s.mason m).trapped cause sub tval epc) (s.akTrap m cause sub tval epc) :=
  have h := s.trapCounted_stand m cause
  .ite h.modMason (.ite h.modMason h.masErr.modMason)

theorem State.MasonBecomes.akTrapHere (h : s.MasonBecomes m x t) {cause sub tval : Nat} :
    s.MasonBecomes m (x.trapped cause sub tval x.pc) (t.akTrapHere m cause sub tval) := by
  have htrap := t.akTrap_becomes m cause sub tval (t.mason m).pc
  exact h.trans (h.self ▸ htrap)

theorem State.MasonsStand.masEnd (h : s.MasonsStand t) (o : MasOut) (st : Status) (d : BitVec 512) :
    s.MasonBecomes m ((s.mason m).ended o st d) (t.masEnd m o st d) :=
  have hreceived := h.modMason (m := m) (f := fun x => x.received o st d)
  .ite hreceived.modMason (.ite hreceived.modMason (.ite hreceived.akTrapHere hreceived.akTrapHere))

theorem State.masEnd_req {rid : Nat} (h : t.req rid = none) (o : MasOut) (st : Status) (d : BitVec 512) :
    (t.masEnd m o st d).req rid = none :=
  (State.MasonsStand.refl.masEnd o st d).req_none h

/-- The Mason with its A/D update no longer outstanding: the instruction is still in progress (R294). -/
noncomputable def Mason.updated (x : Mason) (o : MasOut) : Mason := { x.dropOut o.id with stalled := true }

theorem Mason.foldl_modTpl_same (f : TplEnt → TplEnt) (slots : List Nat) (x : Mason) :
    x.SameButTpl (slots.foldl (fun y k => y.modTpl k f) x) := by
  induction slots generalizing x with
  | nil => rfl
  | cons k slots ih => exact ih (x.modTpl k f)

/-- An A/D update that ended well leaves the instruction to be presented again (R251). -/
theorem State.MasonsStand.adEnd_good (h : s.MasonsStand t) (o : MasOut) {st : Status} (hst : st.good = true) :
    ∃ y, s.MasonBecomes m y (t.adEnd m o st) ∧ ((s.mason m).updated o).SameButTpl y := by
  have hupdated := h.modMason (m := m) (f := fun x => x.updated o)
  have hend : t.adEnd m o st = _ := if_neg (not_not.mpr hst)
  rw [hend]
  split
  · exact ⟨_, hupdated, rfl⟩
  · exact ⟨_, hupdated.modMason, Mason.foldl_modTpl_same ..⟩

theorem State.MasonsStand.adEnd_bad (h : s.MasonsStand t) (o : MasOut) {st : Status} (hst : st.good = false) :
    s.MasonBecomes m (((s.mason m).updated o).trapped 8 (walkSub st) o.addr (s.mason m).pc) (t.adEnd m o st) := by
  have hend : t.adEnd m o st = _ := if_pos (Bool.eq_false_iff.mp hst)
  rw [hend]
  exact (h.modMason (x := (s.mason m).updated o)).akTrapHere

theorem State.MasonsStand.adEnd_outs (h : s.MasonsStand t) (o : MasOut) (st : Status) :
    ((t.adEnd m o st).mason m).outs = (s.mason m).outs.filter (fun z => decide (z.id ≠ o.id)) := by
  cases hst : st.good with
  | true =>
    obtain ⟨y, hu, hy⟩ := h.adEnd_good (m := m) o hst
    exact (congrArg Mason.outs (hu.self.trans hy) :)
  | false => exact (congrArg Mason.outs (h.adEnd_bad o hst).self).trans (Mason.trapped_lines ..).1

theorem State.adEnd_req {rid : Nat} (h : t.req rid = none) (o : MasOut) (st : Status) :
    (t.adEnd m o st).req rid = none := by
  cases hst : st.good with
  | true =>
    obtain ⟨_, hu, -⟩ := State.MasonsStand.refl.adEnd_good o hst
    exact hu.req_none h
  | false => exact (State.MasonsStand.refl.adEnd_bad o hst).req_none h

theorem State.MasonsStand.runPart_more (h : s.MasonsStand t) {o : MasOut} {r : Req} {rid : Nat} (st : Status)
    (hrid : r.rid = rid) (hrids : o.rids.erase rid ≠ []) :
    ∃ record, s.MasonBecomes m ((s.mason m).modOut o.id fun _ =>
      { o with rids := o.rids.erase rid, got := o.got ++ [st], record := record }) (t.runPart m o r st) := by
  subst hrid
  have hend : t.runPart m o r st = _ := if_neg hrids
  rw [hend]
  exact ⟨_, h.copyFed.modMason⟩

theorem State.MasonsStand.runPart_last (h : s.MasonsStand t) {o : MasOut} {r : Req} (st : Status)
    (hrids : o.rids = [r.rid]) :
    s.MasonBecomes m ((s.mason m).ended o (runStatus (o.got ++ [st])) 0) (t.runPart m o r st) := by
  have hend : t.runPart m o r st = _ := if_pos (List.erase_eq_nil_iff.mpr (.inr hrids))
  rw [hend]
  refine State.MasonsStand.masEnd ?_ _ _ _
  split
  · exact h.copyFed.keepRecord
  · exact h.copyFed

end

/-! MASON_RESULT_ARRIVAL (R88, R93, R240). -/

/-- The state as result `q` has left the core. -/
noncomputable def State.resultLeaves (s : State) (rid m upset : Nat) (q : Req) : State :=
  let s0 := (s.storageUpset 2 upset q).resultCross m q
  (if q.run.isSome then s0 else s0.tagDone q false).dropReq rid

/-- The end of what result `q` was awaited by. -/
noncomputable def State.resultEnds (t : State) (m : Nat) (o : MasOut) (q : Req) (st : Status) : OutKind → State
  | .run => t.runPart m o q st
  | .adUpdate => t.adEnd m o st
  | _ => t.masEnd m o st q.rdata

section
variable {s : State} {rid m upset : Nat} {q r : Req} {st : Status} {o : MasOut}

theorem State.resultLeaves_stand : s.MasonsStand (s.resultLeaves rid m upset q) :=
  have h := State.MasonsStand.refl.storageUpset.resultCross
  .dropReq (.ite h h.tagDone)

theorem State.resultLeaves_req : (s.resultLeaves rid m upset q).req rid = none :=
  List.find?_eq_none.mpr fun _ hr hrid => of_decide_eq_true (List.mem_filter.mp hr).2 (of_decide_eq_true hrid)

theorem State.resultEnds_request {t : State} {k : OutKind} (hrun : k ≠ .run) (had : k ≠ .adUpdate) :
    t.resultEnds m o q st k = t.masEnd m o st q.rdata := by
  cases k with
  | run => exact absurd rfl hrun
  | adUpdate => exact absurd rfl had
  | _ => rfl

theorem State.masResult_eq
    (hq : (s.req rid).map (fun r => if upset = 2 ∧ r.status.isSome then r.spoil else r) = some q)
    (hsrc : q.src = .mason m) (hst : q.status = some st) :
    s.masResult rid upset = (((s.mason m).outs.find? fun (o : MasOut) => o.rids.contains rid).elim
      (q.run.elim (s.resultLeaves rid m upset q) fun run => (s.resultLeaves rid m upset q).copyFed run q st)
      fun o => (s.resultLeaves rid m upset q).resultEnds m o q st o.kind).settle := by
  unfold State.masResult
  rw [hq]
  dsimp only
  rw [hsrc, hst]
  dsimp only
  cases (s.mason m).outs.find? fun (o : MasOut) => o.rids.contains rid <;> rfl

theorem exec_of_arrival (hreq : s.req rid = some r) (hsrc : r.src = .mason m) :
    exec (.masonResultArrival rid upset) s =
      .next (if s.cold then s else if s.resultTurn m r then s.masResult rid upset else s) := by
  change execMasonResultArrival rid s upset = _
  rw [execMasonResultArrival, State.live, hreq]
  dsimp only
  rw [hsrc]
  rfl

theorem exec_result (hcold : s.cold = false) (hreq : s.req rid = some r) (hsrc : r.src = .mason m)
    (hturn : s.resultTurn m r = true) (hq : (if upset = 2 ∧ r.status.isSome then r.spoil else r) = q)
    (hst : q.status = some st) :
    exec (.masonResultArrival rid upset) s =
      .next (((s.mason m).outs.find? fun (o : MasOut) => o.rids.contains rid).elim
        (q.run.elim (s.resultLeaves rid m upset q) fun run => (s.resultLeaves rid m upset q).copyFed run q st)
        fun o => (s.resultLeaves rid m upset q).resultEnds m o q st o.kind).settle := by
  have hqsrc : q.src = .mason m := by
    rw [← hq]
    split <;> exact hsrc
  exact (exec_of_arrival hreq hsrc).trans (congrArg Host.Outcome.next ((if_neg (Bool.eq_false_iff.mp hcold)).trans
    ((if_pos hturn).trans (State.masResult_eq (hreq ▸ congrArg some hq) hqsrc hst))))

theorem masonResultArrival_waits (hreq : s.req rid = some r) (hsrc : r.src = .mason m)
    (hturn : s.resultTurn m r = false) : exec (.masonResultArrival rid upset) s = .next s := by
  rw [exec_of_arrival hreq hsrc, if_neg (Bool.eq_false_iff.mp hturn), ite_self]

theorem masonResultArrival_of_none (hreq : s.req rid = none) :
    exec (.masonResultArrival rid upset) s = .next s := by
  change execMasonResultArrival rid s upset = _
  rw [execMasonResultArrival, State.live, hreq, ite_self]
  rfl

end

/-! A result slot met by an uncorrectable error (R93). -/

/-- An uncorrectable error of a result slot is recorded. -/
abbrev State.ResultUncorr (s : State) : Prop := (s.rawF MOR_ERR_UNCORR 0 0 0).testBit 2 = true

theorem State.ResultUncorr.ite {s t : State} {c : Prop} [Decidable c] (hs : s.ResultUncorr) (ht : t.ResultUncorr) :
    (if c then s else t).ResultUncorr := by
  split <;> assumption

theorem State.ResultUncorr.bumpF {s : State} (h : s.ResultUncorr) {f : Field} {i j k : Nat}
    (hkey : MOR_ERR_UNCORR.key 0 0 0 ≠ f.key i j k) : (s.bumpF f i j k).ResultUncorr :=
  (congrArg (Nat.testBit · 2) (State.setF_rawF_of_ne _ _ _ _ _ _ _ _ _ _ hkey)).trans h

theorem State.ResultUncorr.report {s : State} (h : s.ResultUncorr) (r : Report) : (s.report 88 r).ResultUncorr :=
  .ite h (.ite h (.bumpF h (by decide)))

theorem State.storageUpset_resultUncorr (s : State) (r : Req) : (s.storageUpset 2 2 r).ResultUncorr := by
  have hbit : (s.rawF MOR_ERR_UNCORR 0 0 0 ||| 2 ^ 2).testBit 2 = true := by
    rw [Nat.testBit_or, Nat.testBit_two_pow_self, Bool.or_true]
  have hor : (s.orF MOR_ERR_UNCORR 0 0 0 (2 ^ 2)).ResultUncorr :=
    (congrArg (Nat.testBit · 2) (State.setF_rawF_self ..)).trans ((Nat.testBit_mod_two_pow ..).trans hbit)
  exact State.ResultUncorr.report hor _

theorem State.resultLeaves_resultUncorr (s : State) (rid m : Nat) (r : Req) :
    (s.resultLeaves rid m 2 r).ResultUncorr := by
  have hcross : ((s.storageUpset 2 2 r).resultCross m r).ResultUncorr :=
    .ite (s.storageUpset_resultUncorr r) (s.storageUpset_resultUncorr r)
  refine State.ResultUncorr.ite hcross ?_
  unfold State.tagDone
  split <;> exact hcross

theorem State.ResultUncorr.masEnd {s : State} (h : s.ResultUncorr) {m : Nat} {o : MasOut} (hw : o.waiting = false)
    (st : Status) (d : BitVec 512) : (s.masEnd m o st d).ResultUncorr := by
  have hend : s.masEnd m o st d = _ := if_pos (Bool.eq_false_iff.mp hw)
  rw [hend]
  exact h

theorem Req.poisonStatus_bad (r : Req) : r.poisonStatus.good = false := by
  unfold Req.poisonStatus
  split <;> rfl

section
variable {s : State} {rid m upset : Nat} {q r : Req} {st : Status} {o : MasOut} (hcold : s.cold = false)
  (hreq : s.req rid = some r) (hsrc : r.src = .mason m) (hturn : s.resultTurn m r = true)
  (hq : (if upset = 2 ∧ r.status.isSome then r.spoil else r) = q) (hst : q.status = some st)
  (ho : (s.mason m).outs.find? (fun (o : MasOut) => o.rids.contains rid) = some o)
include hcold hreq hsrc hturn hq hst ho

theorem exec_awaited_result {k : OutKind} (hk : o.kind = k) : exec (.masonResultArrival rid upset) s =
    .next ((s.resultLeaves rid m upset q).resultEnds m o q st k).settle := by
  rw [exec_result hcold hreq hsrc hturn hq hst, ho, Option.elim_some, hk]

theorem exec_request_result (hrun : o.kind ≠ .run) (had : o.kind ≠ .adUpdate) :
    exec (.masonResultArrival rid upset) s =
      .next ((s.resultLeaves rid m upset q).masEnd m o st q.rdata).settle := by
  rw [exec_awaited_result hcold hreq hsrc hturn hq hst ho rfl, State.resultEnds_request hrun had]

end

/-- Settles O41: the entry is freed first, and what follows is the end of a request, of an A/D update or of a run as its
Mason sees it. -/
theorem masonResults : Obligations.MasonResults := by
  have hintact (r : Req) : (if 0 = 2 ∧ r.status.isSome then r.spoil else r) = r :=
    if_neg fun h => absurd h.1 (by decide)
  refine ⟨?_, ?_, ?_, ?_, ?_⟩
  · intro rid m r st o s hcold hreq hsrc hst hturn ho hrun had
    refine ⟨fun hw _ => ?_, ?_⟩
    · have hspoiled : (if 2 = 2 ∧ r.status.isSome then r.spoil else r) = r.spoil := if_pos ⟨rfl, hst ▸ rfl⟩
      have hleft : s.MasonsStand (s.resultLeaves rid m 2 r.spoil) := State.resultLeaves_stand
      have hself := (hleft.masEnd (m := m) o r.poisonStatus r.spoil.rdata).self
      exact ⟨_, exec_request_result hcold hreq hsrc hturn hspoiled rfl ho hrun had,
        State.masEnd_req State.resultLeaves_req ..,
        (s.resultLeaves_resultUncorr rid m r.spoil).masEnd hw .., Mason.ended_posted_rt hself hw,
        (Mason.ended_posted_fence hself hw).trans (if_neg (Bool.eq_false_iff.mp r.poisonStatus_bad))⟩
    · have hleft : s.MasonsStand (s.resultLeaves rid m 0 r) := State.resultLeaves_stand
      have hu := hleft.masEnd (m := m) o st r.rdata
      exact ⟨_, exec_request_result hcold hreq hsrc hturn (hintact r) hst ho hrun had,
        State.masEnd_req State.resultLeaves_req .., Mason.ended_outs hu.self, hu.others, Mason.ended_line hu.self,
        Mason.ended_value hu.self, Mason.ended_next_pc hu.self, Mason.ended_trap_task hu.self,
        Mason.ended_trap_handler hu.self, Mason.ended_walkTrap_handler hu.self,
        fun hw => ⟨Mason.ended_posted_pc hu.self hw, Mason.ended_posted_rt hu.self hw,
          fun hgood => (Mason.ended_posted_fence hu.self hw).trans (if_pos hgood),
          fun hbad => (Mason.ended_posted_fence hu.self hw).trans (if_neg (Bool.eq_false_iff.mp hbad))⟩⟩
  · intro rid m r st o s hcold hreq hsrc hst hturn ho
    have hexec {k : OutKind} := exec_awaited_result (k := k) hcold hreq hsrc hturn (hintact r) hst ho
    have hleft : s.MasonsStand (s.resultLeaves rid m 0 r) := State.resultLeaves_stand
    have hrid := State.rid_of_req hreq
    refine ⟨fun had => ⟨(s.resultLeaves rid m 0 r).adEnd m o st, (hexec had :),
        State.adEnd_req State.resultLeaves_req .., hleft.adEnd_outs .., fun hgood => ?_, fun hbad hx => ?_⟩,
      fun hrun => ⟨(s.resultLeaves rid m 0 r).runPart m o r st, (hexec hrun :),
        fun hrids => ?_, fun hrids _ hw => ?_, fun hrids _ hw => ?_⟩⟩
    · obtain ⟨y, hu, hy⟩ := hleft.adEnd_good (m := m) o hgood
      have hself := hu.self.trans hy
      exact ⟨(congrArg Mason.pc hself :), (congrArg Mason.stalled hself :), (congrArg Mason.regs hself :)⟩
    · rw [(hleft.adEnd_bad (m := m) o hbad).self, ← walkSub_eq]
      exact ((s.mason m).updated o).trapped_task hx ..
    · have hmem : rid ∈ o.rids := by simpa using List.find?_some ho
      obtain ⟨record, hu⟩ := hleft.runPart_more (m := m) st hrid fun hnil =>
        (List.erase_eq_nil_iff.mp hnil).elim (List.ne_nil_of_mem hmem) hrids
      refine ⟨?_, (congrArg Mason.regs hu.self :), (congrArg Mason.fence hu.self :)⟩
      rw [congrArg Mason.outs hu.self]
      exact ⟨_, List.mem_map.mpr ⟨o, List.mem_of_find?_eq_some ho, if_pos rfl⟩, rfl, rfl, rfl⟩
    · have hu := hleft.runPart_last (m := m) st (hrids.trans (congrArg ([·]) hrid.symm))
      exact ⟨Mason.ended_outs hu.self, Mason.ended_posted_pc hu.self hw, Mason.ended_posted_rt hu.self hw,
        Mason.ended_posted_fence hu.self hw⟩
    · have hu := hleft.runPart_last (m := m) st (hrids.trans (congrArg ([·]) hrid.symm))
      exact ⟨Mason.ended_next_pc hu.self hw,
        fun hbad => Mason.ended_trap_task hu.self hw hbad (hrun ▸ by decide)⟩
  · intro rid m r st s hcold hreq hsrc hst hturn hnone hrun
    refine ⟨s.resultLeaves rid m 0 r, ?_, State.resultLeaves_req, State.resultLeaves_stand.masons⟩
    rw [exec_result hcold hreq hsrc hturn (hintact r) hst, hnone, hrun]
    rfl
  · exact fun rid m r s => masonResultArrival_waits
  · exact fun rid s _ => masonResultArrival_of_none

end Sys2Proof.Machine
end

section
/-! The gauge meters of the Setter (R115 to R121).

The first lemmas are about one meter, the others say which meters of which channel a command reaches. A meter that no
table lists is a full one at reset parameters, which ticks and fills leave as it is (`Meter.init_tick`,
`Meter.init_fill`), so that what a command does to every listed meter it does to every meter. -/

-- Elaborated in turn: proofs elaborated side by side each hold a thread, and its stack, while they wait for one another.
set_option Elab.async false

namespace Sys2Proof.Machine

/-! One meter. -/

theorem Meter.cbsB_pos (m : Meter) : 0 < m.cbsB := by
  unfold Meter.cbsB
  omega

theorem Meter.cbsB_le_pbsB (m : Meter) : m.cbsB ≤ m.pbsB := le_max_left ..

theorem Meter.init_tick (n : Nat) : Meter.init.tick n = Meter.init := by
  simp [Meter.tick, Meter.init, Meter.cbsB, Meter.pbsB, Meter.peak]

theorem Meter.init_fill : Meter.init.fill = Meter.init := by decide

/-- A cut leaves every balance at most its bucket, and every debt at most one PBS (R121). -/
theorem Meter.cut_bounds (m : Meter) :
    -m.pbsB ≤ m.cut.tc ∧ m.cut.tc ≤ m.cbsB ∧ -m.pbsB ≤ m.cut.tp ∧ m.cut.tp ≤ m.pbsB := by
  have hpos := m.cbsB_pos
  have hle := m.cbsB_le_pbsB
  simp only [Meter.cut]
  omega

/-- A pre-colour is honoured in mode AWARE alone (R117). -/
theorem honoured_iff {mode : Nat} {pre col : Colour} (hcol : col ≠ .uncoloured) :
    (if mode = 2 then pre else .uncoloured) = col ↔ mode = 2 ∧ pre = col := by
  split
  · next hmode => simp [hmode]
  · next hmode => simp [hmode, hcol.symm]

/-- The colour of a request of `b` bytes where metering is on (R116, R118). -/
theorem Meter.colour_on (m : Meter) {mode : Nat} (hmode : mode ≠ 0) (b : Nat) (pre : Colour) :
    m.colour mode b pre =
      let charged (x : Int) : Int := max (x - b * 256) (-m.pbsB)
      if mode = 2 ∧ pre = .red ∨ m.tp ≤ 0 then (m, .red)
      else if mode = 2 ∧ pre = .yellow ∨ m.tc ≤ 0 then ({ m with tp := charged m.tp }, .yellow)
      else ({ m with tp := charged m.tp, tc := charged m.tc }, .green) := by
  have hred := honoured_iff (mode := mode) (pre := pre) (col := .red) (by decide)
  have hyellow := honoured_iff (mode := mode) (pre := pre) (col := .yellow) (by decide)
  simp only [Meter.colour, if_neg hmode, hred, hyellow]

/-! The meters of a channel. -/

@[simp] theorem State.meter_setMeter (s : State) (c q : Nat) (m : Meter) (k : Nat) :
    (s.setMeter c q m).meter c k = if k = q then m else s.meter c k := by
  simp [State.setMeter, State.meter]

@[simp] theorem State.setF_meter (s : State) (f : Field) (i j k v c q : Nat) :
    (s.setF f i j k v).meter c q = s.meter c q := rfl

@[simp] theorem State.gauErr_meter (s : State) (c q : Nat) (m : Meter) (k : Nat) :
    (s.gauErr c q m).meter c k = s.meter c k := by
  unfold State.gauErr State.setBit
  extract_lets _ _ _ s1 s2
  have h1 : s1.meter c k = s.meter c k := by unfold s1; split <;> rfl
  have h2 : s2.meter c k = s.meter c k := by unfold s2; split <;> exact h1
  split <;> exact h2

/-- A change of every listed meter that leaves the unlisted one as it is changes every meter. -/
theorem Tbl.get_mapSet_of_fixed {α : Type} [DecidableEq α] {d : α} {f : α → α} (hd : f d = d) {t : Tbl α}
    (ht : Tbl.sorted t = true) (k : Nat) :
    Tbl.get (Tbl.mapSet (fun _ => d) (fun _ => f) t) d k = f (Tbl.get t d k) := by
  rw [Tbl.get_mapSet (fun _ => d) _ t k ht, Tbl.get]
  cases Tbl.find t k with
  | none => exact hd.symm
  | some v => rfl

/-! The refill tick (R115, R116). -/

/-- Channel `x` as a refill tick at uptime `up` leaves it. -/
def Chan.refilled (x : Chan) (up : Nat) : Chan :=
  if up / 100 ≤ x.set.lastTick then x
  else { x with set := { x.set with
    lastTick := up / 100,
    meters := Tbl.mapSet (fun _ => Meter.init) (fun _ m => m.tick (up / 100 - x.set.lastTick)) x.set.meters } }

/-- A refill tick of channel `c` alone: what `execRefillTick` does for each channel of the build. -/
def State.refillChan (s : State) (c : Nat) : State :=
  if s.uptime / 100 ≤ (s.chan c).set.lastTick then s
  else s.modChan c (fun x => { x with set := { x.set with
    lastTick := s.uptime / 100,
    meters := Tbl.mapSet (fun _ => Meter.init) (fun _ m => m.tick (s.uptime / 100 - x.set.lastTick)) x.set.meters } })

theorem State.refillChan_uptime (s : State) (c : Nat) : (s.refillChan c).uptime = s.uptime := by
  unfold State.refillChan
  split <;> rfl

theorem State.refillChan_chan (s : State) (c k : Nat) :
    (s.refillChan c).chan k = if k = c then (s.chan c).refilled s.uptime else s.chan k := by
  unfold State.refillChan Chan.refilled
  split
  · split
    · next hk => rw [hk]
    · rfl
  · exact s.modChan_chan c k _

theorem State.foldl_refillChan (s : State) (n : Nat) :
    ((List.range n).foldl State.refillChan s).uptime = s.uptime ∧
    ∀ c, ((List.range n).foldl State.refillChan s).chan c =
      if c < n then (s.chan c).refilled s.uptime else s.chan c := by
  induction n with
  | zero => simp
  | succ n ih =>
    obtain ⟨hup, hchan⟩ := ih
    simp only [List.range_succ, List.foldl_append, List.foldl_cons, List.foldl_nil, State.refillChan_uptime,
      State.refillChan_chan, hup, hchan, true_and]
    intro c
    split
    · next hc => subst hc; simp
    · next hc => exact if_congr (by omega) rfl rfl

theorem exec_refillTick {s : State} (hs : s.cold = false) :
    exec .refillTick s = .next ((List.range s.build).foldl State.refillChan s) :=
  congrArg Host.Outcome.next (if_neg (Bool.eq_false_iff.mp hs))

theorem Chan.refilled_lastTick (x : Chan) (up : Nat) :
    (x.refilled up).set.lastTick = max x.set.lastTick (up / 100) := by
  unfold Chan.refilled
  split
  · next hlate => exact (max_eq_left hlate).symm
  · next hdue => exact (max_eq_right (Nat.le_of_not_le hdue)).symm

theorem Chan.refilled_meter (x : Chan) (up q : Nat) (hx : Tbl.sorted x.set.meters = true) :
    Tbl.get (x.refilled up).set.meters Meter.init q =
      if x.set.lastTick < up / 100 then (Tbl.get x.set.meters Meter.init q).tick (up / 100 - x.set.lastTick)
      else Tbl.get x.set.meters Meter.init q := by
  unfold Chan.refilled
  split
  · next hlate => rw [if_neg (Nat.not_lt.mpr hlate)]
  · next hdue =>
    rw [if_pos (Nat.lt_of_not_le hdue)]
    exact Tbl.get_mapSet_of_fixed (Meter.init_tick _) hx q

/-! Fills (R120). -/

theorem State.gauRefillAll_meter {s : State} {c : Nat} (hs : Tbl.sorted (s.chan c).set.meters = true) (q : Nat) :
    (s.gauRefillAll c).meter c q = (s.meter c q).fill := by
  simp only [State.gauRefillAll, State.meter, State.modChan_chan, if_pos]
  exact Tbl.get_mapSet_of_fixed Meter.init_fill hs q

/-! Rate and burst writes (R115, R121). -/

/-- A command of the host about a channel of the build takes effect. -/
theorem State.serves.onChan {s : State} (hs : s.serves) {c : Nat} (hc : s.hasChan c = true) (f : State → State) :
    s.host (fun u => u.whenTrue (u.hasChan c) f) = f s := by
  rw [hs.host]
  exact if_pos hc

theorem State.gauErr_rateClamp (s : State) (c q : Nat) {m : Meter} (hm : m.pir < m.cir) :
    (s.gauErr c q m).rawF GAU_ERR_RATE_CLAMP c 0 0 = 1 := by
  have hkey : GAU_ERR_RATE_CLAMP.key c 0 0 ≠ GAU_ERR_BURST_CLAMP.key c 0 0 := by
    simp only [Field.key, GAU_ERR_RATE_CLAMP, GAU_ERR_BURST_CLAMP]
    omega
  unfold State.gauErr
  extract_lets rate burst clear s1 s2
  have h2 : s2.rawF GAU_ERR_RATE_CLAMP c 0 0 = 1 := by
    rw [show s2 = s1.setBit GAU_ERR_RATE_CLAMP c 0 0 from if_pos (decide_eq_true hm)]
    exact State.setF_rawF_self ..
  split
  · exact (s2.setF_rawF_of_ne _ _ _ _ _ _ _ _ _ hkey).trans h2
  · exact h2

theorem State.gauErr_burstClamp (s : State) (c q : Nat) {m : Meter} (hm : m.pbs < m.cbs ∨ m.cbs = 0 ∨ m.pbs = 0) :
    (s.gauErr c q m).rawF GAU_ERR_BURST_CLAMP c 0 0 = 1 := by
  unfold State.gauErr
  extract_lets rate burst clear s1 s2
  have hburst : burst = true := by simpa [burst, or_assoc] using hm
  rw [if_pos hburst]
  exact State.setF_rawF_self ..

/-- Settles O31: one meter's arithmetic (`Meter.tick`, `Meter.fill`, `Meter.cut`, `Meter.colour`), and which meters each
command reaches. -/
theorem gaugeMeters : Obligations.GaugeMeters := by
  refine ⟨⟨?_, ?_, ?_⟩, ?_⟩
  · intro c q s hcold hc hsorted
    obtain ⟨-, hchan⟩ := s.foldl_refillChan s.build
    have hx := (hchan c).trans (if_pos (by simp [State.hasChan] at hc; exact hc.1))
    refine ⟨_, exec_refillTick hcold, ?_, ?_⟩
    · rw [State.meter, hx]
      exact (s.chan c).refilled_meter s.uptime q hsorted
    · rw [hx]
      exact (s.chan c).refilled_lastTick s.uptime
  · intro c s hs hc
    refine ⟨⟨s.gauRefill c, congrArg Host.Outcome.next (hs.onChan hc _), fun q => ?_⟩,
      fun hsorted => ⟨s.gauRefillAll c, congrArg Host.Outcome.next (hs.onChan hc _), fun q => ?_⟩⟩
    · rw [State.gauRefill, State.meter_setMeter]
      split
      · next hq => rw [hq]; rfl
      · rfl
    · exact State.gauRefillAll_meter hsorted q
  · intro c w s hs hc q m
    refine ⟨⟨s.gauRate c w, congrArg Host.Outcome.next (hs.onChan hc _), fun k => ?_, fun hclamp => ?_⟩,
      ⟨s.gauBurst c w, congrArg Host.Outcome.next (hs.onChan hc _), fun k hk => ?_, ?_⟩⟩
    · exact (State.gauErr_meter ..).trans (State.meter_setMeter ..)
    · exact State.gauErr_rateClamp _ _ _ hclamp
    · exact (State.gauErr_meter ..).trans ((State.meter_setMeter ..).trans (if_neg hk))
    · have hq : (s.gauBurst c w).meter c q =
          ({ m with cbs := w.merge GAU_BURST_CBS m.cbs, pbs := w.merge GAU_BURST_PBS m.pbs } : Meter).cut :=
        (State.gauErr_meter ..).trans ((State.meter_setMeter ..).trans (if_pos rfl))
      rw [hq]
      obtain ⟨htc, htc', htp, htp'⟩ := Meter.cut_bounds
        { m with cbs := w.merge GAU_BURST_CBS m.cbs, pbs := w.merge GAU_BURST_PBS m.pbs }
      exact ⟨rfl, rfl, rfl, rfl, htc, htc', htp, htp', fun hclamp => State.gauErr_burstClamp _ _ _ hclamp⟩
  · intro m mode b pre charged red yellow
    refine ⟨fun hoff => if_pos hoff, fun hon hred => ?_, fun hon hred hyellow => ?_, fun hon hred hyellow => ?_⟩
    · exact (m.colour_on hon b pre).trans (if_pos hred)
    · exact (m.colour_on hon b pre).trans ((if_neg hred).trans (if_pos hyellow))
    · exact (m.colour_on hon b pre).trans ((if_neg hred).trans (if_neg hyellow))

end Sys2Proof.Machine
end

section
/-! The steps of the issuer's commands, and what stands between them (R124, R131, R145, R146, R183, R186).

`State.IssuerStands s t` says of an operation beside the issuer that it changes neither DRAM nor a channel's issuer and
checker, but for the instants at which requests left the Setter; it is read off the operation's definition as a chain.
`State.RowsStand s t` allows a change of the issuer's own bank models besides, and still leaves DRAM, the commands
passed, the bursts and the checker's open rows. -/

-- Elaborated in turn: proofs elaborated side by side each hold a thread, and its stack, while they wait for one another.
set_option Elab.async false

namespace Sys2Proof.Machine

/-! Operations beside the issuer. -/

/-- From `s` to `t` DRAM stands, and so do each channel's population and its issuer and checker, but for the instants at
which requests left the Setter. -/
structure State.IssuerStands (s t : State) : Prop where
  dram : t.dram = s.dram
  x8 : ∀ c, t.x8 c = s.x8 c
  tim : ∀ c, ∃ left, (t.chan c).tim = { (s.chan c).tim with left := left }

section
variable {α : Type} {P : α → Prop}

theorem forall_mem_none : ∀ x ∈ (none : Option α), P x := by rintro _ ⟨⟩

theorem forall_mem_some {a : α} (ha : P a) : ∀ x ∈ some a, P x := by
  rintro _ ⟨⟩
  exact ha

theorem forall_mem_ite {c : Prop} [Decidable c] {o p : Option α} (ho : ∀ x ∈ o, P x) (hp : ∀ x ∈ p, P x) :
    ∀ x ∈ (if c then o else p), P x := by
  split <;> assumption

end

namespace State.IssuerStands

section
variable {s t u : State} {α β : Type} {c : Prop} {_ : Decidable c}

theorem refl : s.IssuerStands s := ⟨rfl, fun _ => rfl, fun c => ⟨(s.chan c).tim.left, rfl⟩⟩

theorem ite (ht : s.IssuerStands t) (hu : s.IssuerStands u) : s.IssuerStands (if c then t else u) := by
  split <;> assumption

theorem fst_ite {p q : State × α} (hp : s.IssuerStands p.1) (hq : s.IssuerStands q.1) :
    s.IssuerStands (if c then p else q).1 := by
  split <;> assumption

theorem foldl {f : State → α → State} {l : List α} (h : s.IssuerStands t)
    (hf : ∀ u x, s.IssuerStands u → s.IssuerStands (f u x)) : s.IssuerStands (l.foldl f t) :=
  List.foldlRecOn (motive := s.IssuerStands) l f h fun u h x _ => hf u x h

theorem foldl_fst {f : State × β → α → State × β} {l : List α} {a : State × β} (h : s.IssuerStands a.1)
    (hf : ∀ b x, s.IssuerStands b.1 → s.IssuerStands (f b x).1) : s.IssuerStands (l.foldl f a).1 :=
  List.foldlRecOn (motive := fun b => s.IssuerStands b.1) l f h fun b h x _ => hf b x h

theorem some_fst {a : α} (h : s.IssuerStands t) : ∀ x ∈ some (t, a), s.IssuerStands x.1 := forall_mem_some h

/-- An update that leaves DRAM, the registers and the channels. -/
theorem frame (h : s.IssuerStands t) (hd : u.dram = t.dram := by rfl) (hr : u.regs = t.regs := by rfl)
    (hc : u.chans = t.chans := by rfl) : s.IssuerStands u where
  dram := hd.trans h.dram
  x8 c := by rw [← h.x8, State.x8, State.x8, State.rawF, State.rawF, hr]
  tim c := by
    obtain ⟨left, htim⟩ := h.tim c
    exact ⟨left, by rw [← htim, State.chan, State.chan, hc]⟩

theorem modChan (h : s.IssuerStands t) {n : Nat} {f : Chan → Chan}
    (hf : ∀ x, ∃ left, (f x).tim = { x.tim with left := left } := by exact fun x => ⟨x.tim.left, rfl⟩) :
    s.IssuerStands (t.modChan n f) := by
  refine ⟨h.dram, h.x8, fun c => ?_⟩
  obtain ⟨left, htim⟩ := h.tim c
  rw [State.modChan_chan]
  split
  · next hc =>
    obtain ⟨left', hf'⟩ := hf (t.chan n)
    exact ⟨left', by rw [hf', ← hc, htim]⟩
  · exact ⟨left, htim⟩

/-- A field that starts elsewhere in its register than `MAP_GEOM.WIDTH`. -/
theorem setF (h : s.IssuerStands t) {f : Field} (hf : f.lo % 64 ≠ MAP_GEOM_WIDTH.lo := by decide) {i j k v : Nat} :
    s.IssuerStands (t.setF f i j k v) := by
  refine ⟨h.dram, fun c => ?_, h.tim⟩
  rw [← h.x8, State.x8, State.x8, State.setF_rawF_of_ne]
  intro hkey
  simp only [Field.key, MAP_GEOM_WIDTH] at hf hkey
  omega

end

section
variable {s t : State} (h : s.IssuerStands t)
include h

theorem addReq {r : Req} : s.IssuerStands (t.addReq r) := h.frame

theorem modReq {rid : Nat} {f : Req → Req} : s.IssuerStands (t.modReq rid f) := h.frame

theorem dropReq {rid : Nat} : s.IssuerStands (t.dropReq rid) := h.frame

/-! What units raise beside their own effect. -/

theorem raiseVec {v : Nat} : s.IssuerStands (t.raiseVec v) := .ite h h.frame

theorem trigger {code detail : Nat} : s.IssuerStands (t.trigger code detail) := .ite h (.ite h.setF h.frame)

theorem dstUpdate {f : DstSt → DstSt} : s.IssuerStands (t.dstUpdate f) := .ite h.setF h.frame

theorem histAdd {c bin : Nat} : s.IssuerStands (t.histAdd c bin) := .ite h h.dstUpdate

theorem extreme {key : Nat} {least : Bool} {v : Nat} : s.IssuerStands (t.extreme key least v) := .ite h h.dstUpdate

theorem writeLatency {c v : Nat} : s.IssuerStands (t.writeLatency c v) := h.histAdd.extreme.extreme

theorem queueDelay {c q v : Nat} : s.IssuerStands (t.queueDelay c q v) := h.histAdd

theorem addCnt {k n : Nat} : s.IssuerStands (t.addCnt k n) :=
  .ite h.frame (.raiseVec (.ite h.frame (.ite h.frame.frame.trigger h.frame.frame)))

theorem count {code c : Nat} {e : Ev} : s.IssuerStands (t.count code c e) :=
  .ite h (.foldl (.ite (h.foldl fun _ _ h => .ite h.addCnt h) h) fun _ _ h => .ite h.addCnt h)

theorem report {src : Nat} {r : Report} : s.IssuerStands (t.report src r) := .ite h (.ite h.frame h.frame.setF)

theorem sampleTag {p : Nat} {e : Ev} : s.IssuerStands (t.sampleTag p e).1 :=
  .fst_ite (.fst_ite h.frame.frame.count h.frame.count) h.frame

/-! A status fixed (R69, R82, R87). -/

theorem rrDropAll {rid : Nat} : s.IssuerStands (t.rrDropAll rid) := h.foldl fun _ _ h => .ite h.modChan h

theorem xbarPass {out i : Nat} : s.IssuerStands (t.xbarPass out i) := h.frame

theorem xbarGrants {out : Nat} {from' : Req → Nat} {ready : State → Req → Bool}
    {move : State → Req → State} {k : Nat} (hmove : ∀ u r, s.IssuerStands u → s.IssuerStands (move u r)) :
    s.IssuerStands (State.xbarGrants out from' ready move k t) := by
  induction k generalizing t with
  | zero => exact h
  | succ k ih =>
    unfold State.xbarGrants
    split
    · exact h
    · exact ih (hmove _ _ h).xbarPass

theorem stageMove {n : Nat} : s.IssuerStands (t.stageMove n) := h.xbarGrants fun _ _ h => h.modReq.rrDropAll

theorem txLeave {sent : Bool} {e : TxEnt} : s.IssuerStands (t.txLeave sent e) := by
  unfold State.txLeave
  dsimp only
  split <;> split <;> exact h.frame

theorem bondPut {p : Nat} {e : TxEnt} : s.IssuerStands (t.bondPut p e) :=
  .ite h.txLeave (h.frame.foldl fun _ _ h => h.txLeave)

theorem releaseStore {r : Req} : s.IssuerStands (t.releaseStore r) := by
  unfold State.releaseStore
  split
  · exact .ite (.ite h.modChan (.modChan (.report h.modChan))) h
  · exact h

theorem leaveBanks {r : Req} : s.IssuerStands (t.leaveBanks r) := by
  unfold State.leaveBanks
  split
  · exact .ite (h.modChan fun _ => ⟨_, rfl⟩) h
  · exact h

theorem patrolLost {r : Req} : s.IssuerStands (t.patrolLost r) := by
  unfold State.patrolLost
  split
  · exact .ite h.modChan h
  · exact h

theorem untag {rid : Nat} : s.IssuerStands (t.untag rid) := h.frame

theorem fix {rid : Nat} {st : Status} {data : BitVec 512} : s.IssuerStands (t.fix rid st data) := by
  unfold State.fix
  split
  · exact h
  · extract_lets _ r' s1
    have h1 : s.IssuerStands s1 := h.leaveBanks.releaseStore.untag.modReq
    refine .ite h ?_
    split
    · exact h1.rrDropAll.dropReq.xbarPass.bondPut
    · exact h1.rrDropAll.dropReq
    · exact h1.patrolLost.rrDropAll.dropReq
    · exact h1.stageMove
    · exact h1.rrDropAll

theorem fixAll {p : Req → Bool} {st : Status} : s.IssuerStands (t.fixAll p st) := h.foldl fun _ _ h => h.fix

/-! The Mortar at rest (R78, R85 to R87, R304). -/

theorem reserveReturn {r : Req} : ∀ u ∈ t.reserveReturn r, s.IssuerStands u := by
  unfold State.reserveReturn
  split
  · refine forall_mem_ite (forall_mem_some h) (forall_mem_ite ?_ forall_mem_none)
    exact forall_mem_some h.modChan
  · exact forall_mem_none

theorem takeTag {rid n : Nat} : s.IssuerStands (t.takeTag rid n) := by
  unfold State.takeTag
  split
  · exact h
  · extract_lets _ s1
    have h1 : s.IssuerStands s1 := h.frame
    cases hu : (s1.req rid).bind s1.reserveReturn with
    | none => exact h1
    | some u =>
      obtain ⟨r, -, hr⟩ := Option.bind_eq_some_iff.mp hu
      exact h1.reserveReturn u hr

theorem alloc {rid c : Nat} : s.IssuerStands (t.alloc rid c) := by
  unfold State.alloc
  dsimp only
  split
  · exact h.modReq.setF.takeTag
  · exact h.modReq.setF

theorem toEnd {rid : Nat} : s.IssuerStands (t.toEnd rid) := h.frame

theorem admitSpills : s.IssuerStands t.admitSpills := by
  refine h.foldl fun _ _ h => ?_
  split
  · refine .ite ?_ h
    split
    · exact h.fix
    · split
      · exact h
      · exact h.modReq.toEnd.alloc
  · exact h

theorem admitBondOne {p : Nat} {r : Req} : ∀ u ∈ t.admitBondOne p r, s.IssuerStands u := by
  unfold State.admitBondOne
  dsimp only
  intro u hu
  split at hu
  · cases hu
  · obtain ⟨c, -, rfl⟩ := Option.map_eq_some_iff.mp hu
    split
    · exact h.modReq.toEnd.alloc.count
    · exact .fix (.ite h.modReq.toEnd.alloc.count.count h.modReq.toEnd.alloc.count)

theorem admitBond : s.IssuerStands t.admitBond := by
  refine .foldl_fst h fun a r h => ?_
  split
  · refine .fst_ite h ?_
    split
    · exact h
    · next hu => exact h.admitBondOne _ hu
  · exact h

theorem bndErr {p bit node : Nat} {addr : Option Nat} {access mkind master : Nat} :
    s.IssuerStands (t.bndErr p bit node addr access mkind master) :=
  .report (.ite h.setF h.setF.setF.setF.setF.setF)

theorem storageUpset {k upset : Nat} {r : Req} : s.IssuerStands (t.storageUpset k upset r) :=
  .ite (.report h.setF) (.ite (.report h.setF) h)

theorem acceptIn {op : Op} {p : Nat} {m : Msg} {since : Nat} : s.IssuerStands (t.acceptIn op p m since) :=
  .addReq (.sampleTag (.ite h.frame.storageUpset h.frame))

theorem seqRefuse {op : Op} {p : Nat} {m : Msg} : s.IssuerStands (t.seqRefuse op p m) := by
  unfold State.seqRefuse
  split
  · exact h.bondPut
  · exact .ite h.bondPut h.bndErr

theorem admitRx {p : Nat} : s.IssuerStands (t.admitRx p) :=
  h.foldl fun _ _ h => .ite (.ite (acceptIn h.frame) (seqRefuse h.frame)) h

theorem dataMove {c : Nat} {r : Req} : s.IssuerStands (t.dataMove c r) := h.modReq.modChan

theorem moveData : s.IssuerStands t.moveData :=
  h.foldl fun _ _ h => (h.foldl fun _ _ h => .ite h.dataMove h).xbarGrants fun _ _ h => h.dataMove

/-! The hod path and its mailboxes. -/

theorem setHod {n : Nat} {x : Hod} : s.IssuerStands (t.setHod n x) := h.frame

theorem hodApply {n : Nat} : s.IssuerStands (t.hodApply n) := .ite (.ite h h.setHod) h

theorem hodSpill {n : Nat} : s.IssuerStands (t.hodSpill n) := by
  unfold State.hodSpill
  dsimp only
  split
  · exact .ite h h.frame
  · exact h

theorem hodRefill {n : Nat} : s.IssuerStands (t.hodRefill n) := by
  refine .ite h ?_
  split
  · exact h
  · exact h.frame

theorem hodMove {n : Nat} : s.IssuerStands (t.hodMove n) := h.setHod.hodSpill.hodRefill.hodRefill

theorem hodPtrFault {n : Nat} : s.IssuerStands (t.hodPtrFault n) := h.setHod.setF.report.hodApply

theorem hodPush {n : Nat} {item : BitVec 256} {bad : Bool} : s.IssuerStands (t.hodPush n item bad).1 :=
  .fst_ite h.hodPtrFault (.fst_ite (.ite h.setF.count.trigger h.setF.count)
    (.extreme (.count (.ite h.setHod h.setHod.hodMove))))

theorem hodWait {n who : Nat} : s.IssuerStands (t.hodWait n who) := .ite h h.setHod

theorem popGrant {who : Nat} : s.IssuerStands (t.popGrant who) := h.frame

theorem hodPop {n who : Nat} {bad : Bool} : ∀ x ∈ t.hodPop n who bad, s.IssuerStands x.1 := by
  have h1 : s.IssuerStands (t.popGrant who) := h.popGrant
  refine forall_mem_ite (some_fst h1.hodPtrFault) <|
    forall_mem_ite (forall_mem_ite forall_mem_none (some_fst h1.count)) <|
    forall_mem_ite (some_fst h1.setHod.hodApply.count) ?_
  split
  · exact forall_mem_none
  · exact forall_mem_ite (some_fst h1.setHod.hodMove.hodApply.count) forall_mem_none

theorem servePops : s.IssuerStands t.servePops := by
  refine h.foldl fun u e h => .ite ?_ h
  split
  · next hp => exact (h.hodPop _ hp).frame
  · exact h

theorem keyLock {q : KeyReq} : s.IssuerStands (t.keyLock q).1 := by
  unfold State.keyLock
  dsimp only
  refine .fst_ite h (.fst_ite (count h.frame) ?_)
  split
  · exact h.frame
  · exact count h.frame

theorem keyCycle {qs : List KeyReq} : s.IssuerStands (t.keyCycle qs).1 := .foldl_fst h fun _ _ h => h.keyLock

theorem keyAmong {qs : List KeyReq} {rivals : List KeyAsk} : s.IssuerStands (t.keyAmong qs rivals).1 :=
  ⟨h.keyCycle.dram, h.keyCycle.x8, h.keyCycle.tim⟩

theorem keyUnlock {kind owner slot : Nat} : s.IssuerStands (t.keyUnlock kind owner slot).1 := by
  unfold State.keyUnlock
  split
  · exact .fst_ite h.frame h
  · exact h

theorem mailOp {k port sid : Nat} {rivals : List KeyAsk} : s.IssuerStands (t.mailOp k port sid rivals).1 :=
  .fst_ite (.fst_ite h h.keyAmong) (.fst_ite h.keyUnlock h)

theorem control {r : Req} {off : Nat} : s.IssuerStands (t.control r off) := by
  unfold State.control
  refine .ite (.ite (.ite h.fix (.ite ?_ (h.fix.ite h.fix))) (.ite h.mailOp.fix h.fix)) ?_
  · split
    · exact h.hodWait
    · next hp => exact (h.hodPop _ hp).fix
  · split
    · exact h.fix
    · exact .ite (h.fix.ite (h.fix.ite h.hodPush.fix)) (.ite (h.fix.ite (fix h.frame)) h.fix)

theorem hodGrants : s.IssuerStands t.hodGrants := by
  refine h.xbarGrants fun _ _ h => ?_
  unfold State.crossOver
  split
  · exact h.modReq.control
  · exact h

theorem serve {r e : Req} {c : Nat} : s.IssuerStands (t.serve r e c) := h.modReq.modReq.count.fix

theorem settleOne {rid : Nat} : s.IssuerStands (t.settleOne rid) := by
  unfold State.settleOne
  split
  · exact h
  · refine .ite h (.ite h.modReq (.ite h.modReq ?_))
    split
    · exact h.modReq
    · exact h.modReq
    · exact .ite h.control (.ite h.modReq h.hodGrants)
    · split
      · exact h.serve
      · exact .ite h.modReq h.modReq

theorem checkStores : s.IssuerStands t.checkStores := h.foldl fun _ _ h => .ite h.fixAll h

theorem drainCheck {n : Nat} : s.IssuerStands (t.drainCheck n) := .ite (.ite h.frame h.frame) h

theorem trimWaits : s.IssuerStands t.trimWaits := h.frame

theorem settle : s.IssuerStands t.settle :=
  ((h.trimWaits.admitSpills.admitBond.admitRx.admitRx.admitBond.moveData.servePops.foldl fun _ _ h =>
    h.settleOne).servePops.checkStores).foldl fun _ _ h => h.drainCheck

/-! What the issuer does beside a command's effect on a bank (R124, R131, R166, R188). -/

theorem modPnt {c : Nat} {f : PntSt → PntSt} : s.IssuerStands (t.modPnt c f) := h.modChan

theorem modAsh {c : Nat} {f : AshSt → AshSt} : s.IssuerStands (t.modAsh c f) := h.modChan

theorem setDrr {c : Nat} {d : Drr} : s.IssuerStands (t.setDrr c d) := h.modChan

theorem choice {c sub cyc : Nat} : s.IssuerStands (t.choice c sub cyc).1 := by
  have hqueue : s.IssuerStands (t.queueFor c sub cyc).1 := by
    unfold State.queueFor State.chooseQueue
    split
    · exact h
    · exact .fst_ite h.setDrr (.fst_ite h h)
  refine .fst_ite h ?_
  split
  · exact h
  · split
    · exact hqueue
    · exact h

theorem judge {c cyc : Nat} {r : Req} : s.IssuerStands (t.judge c cyc r) := by
  have hrefuse : s.IssuerStands (t.refuseRun c r) := .fixAll (.count (.setF (.setF (.ite h h.setF))))
  exact .ite hrefuse (.ite h.modReq h.modReq.modReq.count)

theorem judgeNext {c sub cyc n : Nat} : s.IssuerStands (State.judgeNext c sub cyc n t) := by
  induction n generalizing t with
  | zero => exact h
  | succ n ih =>
    unfold State.judgeNext
    split
    · exact h
    · exact .ite h (.ite h.judge (ih h.judge))

theorem judgedFor {cmd : Cmd} : s.IssuerStands (t.judgedFor cmd) := h.judgeNext

theorem modLine {rid : Nat} {l : LineJob} {f : LineJob → LineJob} : s.IssuerStands (t.modLine rid l f) := h.modReq

theorem firstCmd {c sub : Nat} {k : Cand} : s.IssuerStands (t.firstCmd c sub k) := by
  have h0 : s.IssuerStands (if k.req.isScrub then t else t.passOver c sub k.req) := .ite h h.frame
  exact .ite h0 h0.modReq.count.queueDelay

theorem protectAct {c b u row : Nat} : s.IssuerStands (t.protectAct c b u row) := by
  unfold State.protectAct
  extract_lets m _ s1
  have h1 : s.IssuerStands s1 := .ite h.modPnt h
  exact .ite h (.ite h1.modPnt h1.modPnt)

theorem raaCheck {old : State} {c : Nat} : s.IssuerStands (t.raaCheck old c) := .ite (.report h.setF) h

theorem tagData {c rid n : Nat} : s.IssuerStands (t.tagData c rid n) := h.modReq

theorem rrHold {c rid : Nat} : s.IssuerStands (t.rrHold c rid) := h.modChan

theorem scrubUsed {c sub cyc : Nat} {r : Req} : s.IssuerStands (t.scrubUsed c sub cyc r) := h.modAsh.count

theorem patrolRead {c L : Nat} : s.IssuerStands (t.patrolRead c L) := by
  have hpass : s.IssuerStands (t.passEnd c) := by
    unfold State.passEnd
    exact .modAsh (.ite h.setF h.setF.setF)
  exact .ite hpass h

theorem offer {k c L : Nat} {op : Op} : s.IssuerStands (t.offer k c L op) := h.frame

theorem initNext {c : Nat} : s.IssuerStands (t.initNext c) := by
  unfold State.initNext
  split
  · exact h
  · refine .ite h ?_
    split
    · exact h.modAsh
    · exact .ite h.modAsh h.modAsh.offer

theorem spareNext {c : Nat} : s.IssuerStands (t.spareNext c) := by
  refine .ite h ?_
  split
  · exact h.modAsh
  · exact h.modAsh.offer

theorem scrubEnd {c : Nat} {r : Req} : s.IssuerStands (t.scrubEnd c r) := by
  unfold State.scrubEnd
  split
  · exact h.rrDropAll.dropReq.modAsh.spareNext
  · exact h.rrDropAll.dropReq.modAsh.initNext
  · exact h.rrDropAll.dropReq

/-! What stands in the state after it. -/

theorem hist (c : Nat) : (t.chan c).tim.hist = (s.chan c).tim.hist := by
  obtain ⟨_, htim⟩ := h.tim c
  rw [htim]

theorem bursts (c : Nat) : (t.chan c).tim.bursts = (s.chan c).tim.bursts := by
  obtain ⟨_, htim⟩ := h.tim c
  rw [htim]

theorem openRow (c b : Nat) : t.openRow c b = s.openRow c b := by
  obtain ⟨_, htim⟩ := h.tim c
  rw [State.openRow, htim]
  rfl

theorem bank (c b : Nat) : t.bank c b = s.bank c b := by
  obtain ⟨_, htim⟩ := h.tim c
  rw [State.bank, htim]
  rfl

end

end State.IssuerStands

/-! Steps that move the issuer's own bank models. -/

/-- From `s` to `t` DRAM stands, and so do each channel's issuer and checker, but for the issuer's own bank models and
the instants at which requests left the Setter. -/
structure State.RowsStand (s t : State) : Prop where
  dram : t.dram = s.dram
  tim : ∀ c, ∃ left banks, (t.chan c).tim = { (s.chan c).tim with left := left, banks := banks }

namespace State.RowsStand

section
variable {s t u : State}

theorem refl : s.RowsStand s := ⟨rfl, fun c => ⟨(s.chan c).tim.left, (s.chan c).tim.banks, rfl⟩⟩

theorem beside (h : s.RowsStand t) (hu : t.IssuerStands u) : s.RowsStand u := by
  refine ⟨hu.dram.trans h.dram, fun c => ?_⟩
  obtain ⟨left, htim⟩ := hu.tim c
  obtain ⟨_, banks, htim'⟩ := h.tim c
  exact ⟨left, banks, by rw [htim, htim']⟩

theorem setBank (h : s.RowsStand t) {c b : Nat} {x : Bank} : s.RowsStand (t.setBank c b x) := by
  refine ⟨h.dram, fun k => ?_⟩
  obtain ⟨left, banks, htim⟩ := h.tim k
  rw [State.setBank, State.modTim, State.modChan_chan]
  split
  · next hk => exact ⟨left, _, by rw [← hk, htim]⟩
  · exact ⟨left, banks, htim⟩

theorem hitUp (h : s.RowsStand t) {c : Nat} {k : Cand} : s.RowsStand (t.hitUp c k) := by
  unfold State.hitUp
  split
  · exact h.setBank
  · exact h

theorem colUsed (h : s.RowsStand t) {c : Nat} {p : Pos} {cyc : Nat} : s.RowsStand (t.colUsed c p cyc) := by
  unfold State.colUsed
  exact h.setBank.beside (.modPnt .refl)

theorem hist (h : s.RowsStand t) (c : Nat) : (t.chan c).tim.hist = (s.chan c).tim.hist := by
  obtain ⟨_, _, htim⟩ := h.tim c
  rw [htim]

theorem bursts (h : s.RowsStand t) (c : Nat) : (t.chan c).tim.bursts = (s.chan c).tim.bursts := by
  obtain ⟨_, _, htim⟩ := h.tim c
  rw [htim]

theorem openRow (h : s.RowsStand t) (c b : Nat) : t.openRow c b = s.openRow c b := by
  obtain ⟨_, _, htim⟩ := h.tim c
  rw [State.openRow, htim]
  rfl

end

end State.RowsStand

/-! Banks opened and closed (R145, R146). -/

theorem State.modTim_tim (s : State) (c : Nat) (f : TimSt → TimSt) :
    ((s.modTim c f).chan c).tim = f (s.chan c).tim := by
  simp [State.modTim]

theorem State.closeBanks_tim (s : State) (c : Nat) (p : Nat → Bool) :
    ((s.closeBanks c p).chan c).tim = { (s.chan c).tim with
      banks := Tbl.mapSet (fun _ => Bank.init) (fun b x => if p b then { x with openRow := none } else x)
        (s.chan c).tim.banks,
      chkOpen := Tbl.keep (fun b => !p b) (s.chan c).tim.chkOpen } :=
  s.modTim_tim c _

theorem State.closeBanks_openRow (s : State) (c : Nat) (p : Nat → Bool) (b : Nat) :
    (s.closeBanks c p).openRow c b = if p b then none else s.openRow c b := by
  rw [State.openRow, State.closeBanks_tim]
  cases hp : p b <;> simp [hp, State.openRow]

/-- `s` with bank `b` closed where the command has auto-precharge. -/
def State.autoClosed (s : State) (auto : Bool) (c b : Nat) : State :=
  if auto then s.closeBanks c (fun x => decide (x = b)) else s

section
variable (s : State) (auto : Bool) (c b : Nat)

theorem State.autoClosed_openRow (x : Nat) :
    (s.autoClosed auto c b).openRow c x = if auto = true ∧ x = b then none else s.openRow c x := by
  cases auto with
  | false => simp [State.autoClosed]
  | true => simp [State.autoClosed, State.closeBanks_openRow]

theorem State.autoClosed_hist : ((s.autoClosed auto c b).chan c).tim.hist = (s.chan c).tim.hist := by
  cases auto with
  | false => rfl
  | true => exact (congrArg TimSt.hist (s.closeBanks_tim c fun x => decide (x = b)) :)

theorem State.autoClosed_bursts : ((s.autoClosed auto c b).chan c).tim.bursts = (s.chan c).tim.bursts := by
  cases auto with
  | false => rfl
  | true => exact (congrArg TimSt.bursts (s.closeBanks_tim c fun x => decide (x = b)) :)

theorem State.autoClosed_dram : (s.autoClosed auto c b).dram = s.dram := by
  unfold State.autoClosed
  split <;> rfl

end

/-- The predictor of bank `b` after an ACT to `row` (R146). -/
def Bank.predAt (b : Bank) (row : Nat) : Nat :=
  match b.lastRow with
  | none => b.pred
  | some r => if r = row then min 3 (b.pred + 1) else b.pred - 1

theorem Bank.predAt_eq (b : Bank) (row : Nat) :
    b.predAt row =
      if b.lastRow = none then b.pred else if b.lastRow = some row then min 3 (b.pred + 1) else b.pred - 1 := by
  unfold Bank.predAt
  cases b.lastRow with
  | none => rfl
  | some r => simp

/-- `s` with the row of place `p` open in the issuer's and the checker's bank. -/
def State.opened (s : State) (c : Nat) (p : Pos) (cyc : Nat) : State :=
  (s.setBank c p.bank ⟨some p.row, some p.row, (s.bank c p.bank).predAt p.row, cyc⟩).modTim c
    (fun t => { t with chkOpen := Tbl.put t.chkOpen p.bank p.row })

section
variable (s : State) (c : Nat) (p : Pos) (cyc : Nat)

theorem State.opened_openRow : (s.opened c p cyc).openRow c p.bank = some p.row := by
  rw [State.openRow, State.opened, State.modTim_tim]
  exact (Tbl.find_put ..).trans (if_pos rfl)

theorem State.opened_bank :
    (s.opened c p cyc).bank c p.bank = ⟨some p.row, some p.row, (s.bank c p.bank).predAt p.row, cyc⟩ := by
  simp [State.bank, State.opened, State.setBank, State.modTim_tim]

theorem State.opened_hist : ((s.opened c p cyc).chan c).tim.hist = (s.chan c).tim.hist := by
  rw [State.opened, State.modTim_tim, State.setBank, State.modTim_tim]

end

/-! What each command of the issuer comes to. -/

section
variable (s : State) (c cyc : Nat) (k : Cand) (auto : Bool)

theorem State.doAct_steps : ∃ u, s.IssuerStands u ∧ (u.opened c k.pos cyc).IssuerStands (s.doAct c cyc k) :=
  ⟨_, .modLine (.firstCmd .refl), .ite (.raaCheck (.protectAct .refl)) (.count (.raaCheck (.protectAct .refl)))⟩

theorem State.doPre_steps : ∃ u, s.IssuerStands u ∧
    (u.closeBanks c (fun b => decide (b = k.pos.bank))).IssuerStands (s.doPre c k) :=
  ⟨_, .modLine (.firstCmd .refl), .count .refl⟩

theorem State.doRead_steps : ∃ u v : State, s.RowsStand u ∧
    (u.modTim c fun t => { t with bursts := t.bursts ++ [⟨k.req.rid, k.line.addr, k.pos, cyc⟩] }).IssuerStands v ∧
    s.doRead c cyc k auto = v.autoClosed auto c k.pos.bank := by
  unfold State.doRead
  extract_lets r s1 s2 s2' s3 s4 s5
  have h1 : s.RowsStand s1 := RowsStand.refl.hitUp.beside (.modLine (.firstCmd .refl))
  have h2 : s.RowsStand s2' := h1.colUsed.beside (.rrHold (.tagData .refl))
  have h3 : s.RowsStand s3 := h2.beside (.ite (.scrubUsed .refl) (.count .refl))
  exact ⟨s3, s5, h3, .ite (.patrolRead .refl) .refl, rfl⟩

/-- The codeword that a write stores: a spared line's raw copy, else the line encoded (R182, R186, R193). -/
def State.codeword : List Nat :=
  match (if k.req.isSpare then (s.chan c).ash.rawCopy else none) with
  | some w => w
  | none => rsEncode (s.x8 c) ((k.req.lineData k.line).getD 0) k.line.addr
    (if k.line.stage = .writeHalf ∨ k.line.wdata.isSome then k.line.wpoison else k.req.dataPoison)

theorem State.doWrite_steps : ∃ u v : State, s.RowsStand u ∧ v.dram = (u.dramPut c k.pos (s.codeword c k)).dram ∧
    (v.chan c).tim.hist = (u.chan c).tim.hist ∧ (∀ b, v.openRow c b = u.openRow c b) ∧
    (v.autoClosed auto c k.pos.bank).IssuerStands (s.doWrite c cyc k auto) := by
  unfold State.doWrite
  extract_lets r poison s1 s2 s3 s4 s5
  have h1 : s.RowsStand s1 := RowsStand.refl.hitUp.beside (.modLine (.firstCmd .refl))
  have h2 : s.RowsStand ((s1.colUsed c k.pos cyc).tagData c r.rid (s.row c 15)) :=
    h1.colUsed.beside (.tagData .refl)
  obtain ⟨drained, h3⟩ : ∃ drained, (s3.chan c).tim = { (s2.chan c).tim with drained := drained } :=
    ⟨_, s2.modTim_tim c _⟩
  refine ⟨_, s3, h2, rfl, (congrArg TimSt.hist h3 :), fun b => ?_, .ite (.scrubEnd (.scrubUsed .refl)) ?_⟩
  · rw [State.openRow, h3]
    rfl
  · have h5 : s4.IssuerStands s5 := .count .refl
    split
    · exact h5
    · exact .ite h5.writeLatency.fix.settle h5

end

/-! The codeword that a write stores (R182, R186). -/

theorem rsShift_length {rem : List Nat} (hrem : rem.length = 16) (c : Nat) : (rsShift rem c).length = 16 := by
  simp [rsShift, rsGen, hrem]

theorem rsRem_length (ms : List Nat) : (rsRem ms).length = 16 :=
  List.foldlRecOn (motive := fun rem => rem.length = 16) _ rsShift List.length_replicate
    fun _ hrem c _ => rsShift_length hrem c

theorem lineSyms_length (x8 : Bool) (d : BitVec 512) : (lineSyms x8 d).length = 64 := by simp [lineSyms]

/-- 64 data symbols, all 0 when poisoned, and 16 check symbols. -/
theorem rsEncode_symbols (x8 : Bool) (d : BitVec 512) (a : Nat) (poison : Bool) :
    (rsEncode x8 d a poison).take 64 = (if poison then List.replicate 64 0 else lineSyms x8 d) ∧
    (rsEncode x8 d a poison).length = 80 := by
  have hdata : (if poison then List.replicate 64 0 else lineSyms x8 d).length = 64 := by
    split
    · exact List.length_replicate
    · exact lineSyms_length x8 d
  unfold rsEncode
  extract_lets ds chk
  have hcheck : (if poison then symXor chk poisonMask else chk).length = 16 := by
    have hchk : chk.length = 16 := rsRem_length _
    split
    · simp [symXor, hchk, poisonMask]
    · exact hchk
  refine ⟨?_, ?_⟩
  · exact List.take_left' hdata
  · rw [List.length_append, hdata, hcheck]

end Sys2Proof.Machine
end

section
/-! ACT, PRE, RD, RDA, WR and WRA (R124, R136, R145, R146, R151, R182, R183, R186).

A command that is the issuer's choice acts on `State.chosen` and takes its slot (`State.taken`); `State.takes.setterCmd`
and `State.takes.exec_pre` say so once for all of them. What its effect leaves follows from the steps of the section
before. -/

-- Elaborated in turn: proofs elaborated side by side each hold a thread, and its stack, while they wait for one another.
set_option Elab.async false

namespace Sys2Proof.Machine

/-! A command that is the issuer's choice (R124, R136, R145, R151). -/

/-- What the issuer makes of a command of its own, by kind, for its choice `k`. -/
def State.made (s : State) (cmd : Cmd) (k : Cand) : CmdKind → Option State
  | .act => some (s.doAct cmd.chan cmd.cyc k)
  | .pre => some (s.doPre cmd.chan k)
  | .rd => some (s.doRead cmd.chan cmd.cyc k false)
  | .rda => some (s.doRead cmd.chan cmd.cyc k true)
  | .wr => some (s.doWrite cmd.chan cmd.cyc k false)
  | .wra => some (s.doWrite cmd.chan cmd.cyc k true)
  | _ => none

/-- `s` with the slot of command `n` taken. -/
def State.taken (s : State) (c : Nat) (n : Passed) : State :=
  s.modChan c (fun x => { x with tim := x.tim.record n, now := n.cyc })

section
variable (s : State) (c : Nat) (n : Passed)

theorem State.taken_tim : ((s.taken c n).chan c).tim = (s.chan c).tim.record n := by
  rw [State.taken, State.modChan_chan, if_pos rfl]

theorem State.taken_openRow (b : Nat) : (s.taken c n).openRow c b = s.openRow c b := by
  rw [State.openRow, State.taken_tim]
  rfl

theorem State.taken_bank (b : Nat) : (s.taken c n).bank c b = s.bank c b := by
  rw [State.bank, State.taken_tim]
  rfl

/-- A command whose effect leaves the record of commands takes its slot. -/
theorem State.taken_tookSlot {j : State} (hhist : (s.chan c).tim.hist = (j.chan c).tim.hist) :
    j.tookSlot (s.taken c n) c n := by
  refine ⟨?_, ?_⟩
  · rw [State.taken, State.modChan_chan, if_pos rfl]
  · rw [State.taken_tim, ← hhist]
    rfl

end

theorem State.mayPass.issue {s t : State} {c : Nat} {n : Passed} (h : s.mayPass c n)
    {f : State → Option (State × Bool)} (hf : f s = some (t, true)) (who : Option Req) :
    s.issue c n f who = t.taken c n := by
  obtain ⟨-, hchan, hlive, hscreed, hfree, hpass⟩ := h
  simp only [State.issue, hchan, hlive, hscreed, hfree, hpass, hf]
  rfl

theorem namesChoice.pos_eq {cmd : Cmd} {kind : CmdKind} {k : Cand} (h : namesChoice cmd kind k)
    (hwr : kind.isWr = true) : k.pos = cmdPos cmd := by
  obtain ⟨hsub, hrank, hbg, hba, hrow, hcol, -⟩ := h
  have hpre : kind ≠ .pre := by rintro rfl; cases hwr
  have hkind : kind.isCol = true := by simp [CmdKind.isCol, hwr]
  unfold cmdPos
  rw [← hsub, ← hrank, ← hbg, ← hba, ← hrow hpre, ← hcol hkind]

/-- A command of the issuer names its choice and has the choice's effect. -/
theorem State.setterEffect_of_names {s : State} {cmd : Cmd} {kind : CmdKind} {k : Cand}
    (hk : (s.choice cmd.chan cmd.sub cmd.cyc).2 = some k) (hkind : s.cmdOf cmd.chan k = kind)
    (hn : namesChoice cmd kind k) :
    State.setterEffect cmd kind s =
      ((s.choice cmd.chan cmd.sub cmd.cyc).1.made cmd k kind).map (·, true) := by
  obtain ⟨hsub, hrank, hbg, hba, hrow, hcol, hrid⟩ := hn
  have hrid' : cmd.rid = k.rid? := hrid
  unfold State.setterEffect
  simp only [hk]
  rw [if_neg]
  · cases kind <;> rfl
  · simp only [hkind, hsub, hrank, hbg, hba, hrid', ne_eq, not_true_eq_false, false_or, or_false, not_or, not_and,
      not_not]
    exact ⟨hrow, hcol⟩

/-- The state that a command of the issuer acts on: runs judged, and the deficits as the choice leaves them. -/
def State.chosen (s : State) (cmd : Cmd) : State := ((s.judgedFor cmd).choice cmd.chan cmd.sub cmd.cyc).1

theorem State.chosen_stands (s : State) (cmd : Cmd) : (s.judgedFor cmd).IssuerStands (s.chosen cmd) :=
  IssuerStands.refl.choice

namespace State.takes

variable {s : State} {cmd : Cmd} {kind : CmdKind} {k : Cand}

theorem hasChan (h : s.takes cmd kind k) : s.hasChan cmd.chan = true := by
  obtain ⟨-, -, ⟨-, hchan, -⟩, -⟩ := h
  have hcore : (s.judgedFor cmd).core = s.core := s.judgeHeads_core cmd.chan cmd.sub cmd.cyc
  have hbuild : (s.judgedFor cmd).build = s.build := congrArg Prod.fst hcore
  rwa [State.hasChan, hbuild] at hchan

theorem judged (h : s.takes cmd kind k) :
    (if s.hasChan cmd.chan = true ∧ s.issuerOn cmd.chan cmd.sub = true then s.judgeHeads cmd.chan cmd.sub cmd.cyc
      else s) = s.judgedFor cmd := by
  obtain ⟨-, hon, -⟩ := id h
  exact if_pos ⟨h.hasChan, hon⟩

theorem effect (h : s.takes cmd kind k) {t : State}
    (ht : (s.chosen cmd).made cmd k kind = some t) :
    State.setterEffect cmd kind (s.judgedFor cmd) = some (t, true) := by
  obtain ⟨-, -, -, hk, hkind, hn⟩ := h
  exact (State.setterEffect_of_names hk hkind hn).trans (congrArg (Option.map (·, true)) ht)

theorem posFault (h : s.takes cmd kind k) : (s.judgedFor cmd).posFault cmd kind = none := by
  obtain ⟨-, -, -, hk, -, hn⟩ := h
  unfold State.posFault
  rw [hk]
  cases hwr : kind.isWr with
  | false => rfl
  | true => simp [hn.pos_eq hwr]

theorem setterCmd (h : s.takes cmd kind k) {t : State}
    (ht : (s.chosen cmd).made cmd k kind = some t) :
    s.setterCmd cmd kind = t.taken cmd.chan (Cmd.passed cmd kind) := by
  obtain ⟨-, -, hpass, -⟩ := id h
  unfold State.setterCmd
  simp only [h.judged, h.posFault, ite_self]
  exact hpass.issue (h.effect ht) _

theorem done_live (h : s.takes cmd kind k) {f : State → State} {t : State} (hf : f s = t) :
    done (s.live f) = .next t := by
  obtain ⟨hcold, -⟩ := h
  rw [State.live, hcold, if_neg Bool.false_ne_true, hf]
  rfl

theorem exec_pre (h : s.takes cmd .pre k) :
    exec (.pre cmd) s = .next (((s.chosen cmd).doPre cmd.chan k).taken cmd.chan (Cmd.passed cmd .pre)) := by
  obtain ⟨-, hon, hpass, -⟩ := id h
  refine h.done_live ?_
  dsimp only
  rw [if_pos ⟨h.hasChan, hon⟩]
  have heffect : State.setterEffect cmd .pre (s.judgedFor cmd) = some ((s.chosen cmd).doPre cmd.chan k, true) :=
    h.effect rfl
  exact hpass.issue (by simp only [heffect]) _

theorem act (h : s.takes cmd .act k) :
    ∃ t, exec (.act cmd) s = .next t ∧ (s.judgedFor cmd).tookSlot t cmd.chan (Cmd.passed cmd .act) ∧
      t.openRow cmd.chan k.pos.bank = some k.pos.row ∧
      t.bank cmd.chan k.pos.bank = ⟨some k.pos.row, some k.pos.row,
        ((s.judgedFor cmd).bank cmd.chan k.pos.bank).predAt k.pos.row, cmd.cyc⟩ := by
  have hj := s.chosen_stands cmd
  obtain ⟨u, hu, hv⟩ := (s.chosen cmd).doAct_steps cmd.chan cmd.cyc k
  refine ⟨_, h.done_live (h.setterCmd rfl), ?_, ?_, ?_⟩
  · exact State.taken_tookSlot _ _ _
      ((hv.hist _).trans <| (State.opened_hist ..).trans <| (hu.hist _).trans (hj.hist _))
  · rw [State.taken_openRow]
    exact (hv.openRow ..).trans (State.opened_openRow ..)
  · rw [State.taken_bank, ← hj.bank, ← hu.bank]
    exact (hv.bank ..).trans (State.opened_bank ..)

theorem pre (h : s.takes cmd .pre k) :
    ∃ t, exec (.pre cmd) s = .next t ∧ (s.judgedFor cmd).tookSlot t cmd.chan (Cmd.passed cmd .pre) ∧
      ∀ b, t.openRow cmd.chan b = if b = k.pos.bank then none else (s.judgedFor cmd).openRow cmd.chan b := by
  have hj := s.chosen_stands cmd
  obtain ⟨u, hu, hv⟩ := (s.chosen cmd).doPre_steps cmd.chan k
  refine ⟨_, h.exec_pre, ?_, fun b => ?_⟩
  · exact State.taken_tookSlot _ _ _
      ((hv.hist _).trans <| (congrArg TimSt.hist (u.closeBanks_tim ..)).trans <| (hu.hist _).trans (hj.hist _))
  · rw [State.taken_openRow, hv.openRow, State.closeBanks_openRow, hu.openRow, hj.openRow]
    simp

theorem exec_read {auto : Bool} (h : s.takes cmd (if auto then .rda else .rd) k) :
    exec (if auto then .rda cmd else .rd cmd) s = .next (((s.chosen cmd).doRead cmd.chan cmd.cyc k auto).taken cmd.chan
      (Cmd.passed cmd (if auto then .rda else .rd))) := by
  cases auto with
  | false => exact h.done_live (h.setterCmd rfl)
  | true => exact h.done_live (h.setterCmd rfl)

theorem exec_write {auto : Bool} (h : s.takes cmd (if auto then .wra else .wr) k) :
    exec (if auto then .wra cmd else .wr cmd) s = .next (((s.chosen cmd).doWrite cmd.chan cmd.cyc k auto).taken cmd.chan
      (Cmd.passed cmd (if auto then .wra else .wr))) := by
  cases auto with
  | false => exact h.done_live (h.setterCmd rfl)
  | true => exact h.done_live (h.setterCmd rfl)

theorem read {auto : Bool} (h : s.takes cmd (if auto then .rda else .rd) k) :
    ∃ t, exec (if auto then .rda cmd else .rd cmd) s = .next t ∧
      (s.judgedFor cmd).tookSlot t cmd.chan (Cmd.passed cmd (if auto then .rda else .rd)) ∧
      (∀ b, t.openRow cmd.chan b =
        if auto = true ∧ b = k.pos.bank then none else (s.judgedFor cmd).openRow cmd.chan b) ∧
      (t.chan cmd.chan).tim.bursts =
        ((s.judgedFor cmd).chan cmd.chan).tim.bursts ++ [⟨k.req.rid, k.line.addr, k.pos, cmd.cyc⟩] := by
  have hj := s.chosen_stands cmd
  obtain ⟨u, v, hu, hv, hread⟩ := (s.chosen cmd).doRead_steps cmd.chan cmd.cyc k auto
  refine ⟨_, h.exec_read, ?_, fun b => ?_, ?_⟩
  · refine State.taken_tookSlot _ _ _ ?_
    rw [hread, State.autoClosed_hist, hv.hist, State.modTim_tim]
    exact (hu.hist _).trans (hj.hist _)
  · rw [State.taken_openRow, hread, State.autoClosed_openRow, hv.openRow, ← hj.openRow, ← hu.openRow, State.openRow,
      State.modTim_tim]
    rfl
  · rw [State.taken_tim, hread, ← hj.bursts, ← hu.bursts]
    refine (State.autoClosed_bursts ..).trans ?_
    rw [hv.bursts, State.modTim_tim]

end State.takes

/-- What a write leaves in DRAM (R182, R186). -/
theorem State.chosen_doWrite_dram (s : State) (cmd : Cmd) (k : Cand) (auto : Bool) :
    ((s.chosen cmd).doWrite cmd.chan cmd.cyc k auto).dram =
      Tbl.put s.dram (dramKey cmd.chan k.pos) ((s.chosen cmd).codeword cmd.chan k) := by
  have hj : s.IssuerStands (s.chosen cmd) := .choice (.judgedFor .refl)
  obtain ⟨u, v, hu, hdram, -, -, hv⟩ := (s.chosen cmd).doWrite_steps cmd.chan cmd.cyc k auto
  rw [hv.dram, State.autoClosed_dram, hdram, State.dramPut, hu.dram, hj.dram]

theorem State.chosen_codeword (s : State) (cmd : Cmd) {k : Cand} (hk : k.req.isSpare = false) :
    (s.chosen cmd).codeword cmd.chan k =
      rsEncode (s.x8 cmd.chan) ((k.req.lineData k.line).getD 0) k.line.addr
        (if k.line.stage = .writeHalf ∨ k.line.wdata.isSome then k.line.wpoison else k.req.dataPoison) := by
  have hj : s.IssuerStands (s.chosen cmd) := .choice (.judgedFor .refl)
  simp only [State.codeword, hk, Bool.false_eq_true, if_false, hj.x8]

/-- Settles O19: each command's steps (`State.doAct_steps` and its like), between which the issuer stands. -/
theorem issuerCommands : Obligations.IssuerCommands := by
  refine ⟨fun cmd k s h => ?_, fun cmd k s h => h.pre, fun auto cmd k s h => h.read, fun auto cmd k s h => ?_⟩
  · obtain ⟨t, hexec, hslot, hopen, hbank⟩ := h.act
    refine ⟨t, hexec, hslot, hopen, ?_⟩
    rw [hbank]
    exact ⟨rfl, rfl, rfl, Bank.predAt_eq _ _⟩
  · extract_lets u t line bad key
    have hj := s.chosen_stands cmd
    obtain ⟨v, w, hv, -, hhist, hopen, hw⟩ := (s.chosen cmd).doWrite_steps cmd.chan cmd.cyc k auto
    have hdram : t.dram = Tbl.put s.dram key ((s.chosen cmd).codeword cmd.chan k) :=
      s.chosen_doWrite_dram cmd k auto
    refine ⟨h.exec_write, ?_, fun p hp => ?_, fun hspare => ?_, fun _ b => ?_⟩
    · refine State.taken_tookSlot _ _ _ ?_
      rw [show u = s.chosen cmd from rfl, hw.hist, State.autoClosed_hist, hhist]
      exact (hv.hist _).trans (hj.hist _)
    · rw [hdram, Tbl.find_put, if_neg hp]
    · obtain ⟨hdata, hlength⟩ := rsEncode_symbols (s.x8 cmd.chan) line k.line.addr bad
      refine ⟨_, ?_, rfl, hdata, hlength⟩
      rw [hdram, Tbl.find_put, if_pos rfl, s.chosen_codeword cmd hspare]
    · rw [← hj.openRow, ← hv.openRow, ← hopen, ← State.autoClosed_openRow, ← hw.openRow]
      exact State.taken_openRow ..

end Sys2Proof.Machine
end
